-- ==== Sys2Proof/Word.lean ====
section
/-! DEFINITION. The machine's data types (10:R70): words, halfwords, bytes, doublewords. -/

namespace Sys2Proof

/-- A 32-bit word: register contents and addresses (10:R31, R70, R71). -/
abbrev Word := BitVec 32

/-- A 16-bit halfword (10:R70). -/
abbrev Half := BitVec 16

/-- An 8-bit byte (10:R70). -/
abbrev Byte := BitVec 8

/-- A 64-bit doubleword (10:R70). -/
abbrev DWord := BitVec 64

end Sys2Proof
end

