-- ==== Sys2Proof/Syntax.lean ====
section
/-! DEFINITION. The instructions: one constructor per row of spec/opcode_table.json, in the table's order, its operands the
row's fields (30:R704). A register field keeps its number; a condition, a shift kind and a one-bit field are turned into
`Cond`, `Shift` and `Bool`. -/

namespace Sys2Proof

/-- The condition field (30:R683); 0b1111 is the unconditional space and no condition. -/
inductive Cond where
  | eq | ne | cs | cc | mi | pl | vs | vc | hi | ls | ge | lt | gt | le | al
  deriving DecidableEq, Repr

/-- The shift kind of a shifter operand or a scaled register offset (30:R688). -/
inductive Shift where
  | lsl | lsr | asr | ror
  deriving DecidableEq, Repr

/-- A register number field of four bits (30:R684). -/
abbrev Reg := BitVec 4

/-- A low-register number field of a Thumb instruction (10:R58). -/
abbrev LowReg := BitVec 3

/-- The instruction set: the rows of spec/opcode_table.json. The name of a Thumb row's constructor begins with `t`. -/
inductive Instr where
  /-- PLD: ARM unconditional, preload, immediate offset. R881. -/
  | pldImm (u : Bool) (rn : Reg) (off12 : BitVec 12)
  /-- PLD: ARM unconditional, preload, register offset. R881. -/
  | pldReg (u : Bool) (rn : Reg) (shiftImm : BitVec 5) (shift : Shift) (rm : Reg)
  /-- RFE: ARM unconditional. R919. -/
  | rfe (p u w : Bool) (rn : Reg)
  /-- SRS: ARM unconditional. R920. -/
  | srs (p u w : Bool) (mode : BitVec 5)
  /-- CLREX: ARM unconditional. R953. -/
  | clrex
  /-- CPS: ARM unconditional. R974. -/
  | cps (imod : BitVec 2) (mmod aBit iBit fBit : Bool) (mode : BitVec 5)
  /-- SETEND: ARM unconditional. R975. -/
  | setend (eBit : Bool)
  /-- BLX__1: ARM unconditional, branch with link and exchange, immediate. R1004. -/
  | blx1 (h : Bool) (simm24 : BitVec 24)
  /-- CDP2: ARM coprocessor, unconditional. R1047. -/
  | cdp2 (opc1 cRn cRd cpNum : BitVec 4) (opc2 : BitVec 3) (cRm : BitVec 4)
  /-- MCR2: ARM coprocessor, unconditional. R1048. -/
  | mcr2 (opc1 : BitVec 3) (cRn : BitVec 4) (rd : Reg) (cpNum : BitVec 4) (opc2 : BitVec 3) (cRm : BitVec 4)
  /-- MRC2: ARM coprocessor, unconditional. R1049. -/
  | mrc2 (opc1 : BitVec 3) (cRn : BitVec 4) (rd : Reg) (cpNum : BitVec 4) (opc2 : BitVec 3) (cRm : BitVec 4)
  /-- MCRR2: ARM coprocessor, unconditional. R1050. -/
  | mcrr2 (rn rd : Reg) (cpNum opc cRm : BitVec 4)
  /-- MRRC2: ARM coprocessor, unconditional. R1051. -/
  | mrrc2 (rn rd : Reg) (cpNum opc cRm : BitVec 4)
  /-- UNDEFINED: ARM coprocessor load/store space with bits [24:21] = 0000, unconditional. R702. -/
  | undefCop2 (l : Bool) (raw : BitVec 20)
  /-- LDC2: ARM coprocessor, unconditional. R1052. -/
  | ldc2 (p u nBit w : Bool) (rn : Reg) (cRd cpNum : BitVec 4) (off8 : BitVec 8)
  /-- STC2: ARM coprocessor, unconditional. R1052. -/
  | stc2 (p u nBit w : Bool) (rn : Reg) (cRd cpNum : BitVec 4) (off8 : BitVec 8)
  /-- UNDEFINED: ARM unconditional space (bits [31:28] = 1111), every word not matched by a row above. R700. -/
  | undefUncond (raw : BitVec 28)
  /-- AND: ARM data-processing, immediate. R751. -/
  | andImm (cond : Cond) (sBit : Bool) (rn rd : Reg) (rot : BitVec 4) (imm8 : BitVec 8)
  /-- AND: ARM data-processing, register with immediate shift. R751. -/
  | andReg (cond : Cond) (sBit : Bool) (rn rd : Reg) (shiftImm : BitVec 5) (shift : Shift) (rm : Reg)
  /-- AND: ARM data-processing, register with register shift. R751. -/
  | andRegShift (cond : Cond) (sBit : Bool) (rn rd rs : Reg) (shift : Shift) (rm : Reg)
  /-- EOR: ARM data-processing, immediate. R752. -/
  | eorImm (cond : Cond) (sBit : Bool) (rn rd : Reg) (rot : BitVec 4) (imm8 : BitVec 8)
  /-- EOR: ARM data-processing, register with immediate shift. R752. -/
  | eorReg (cond : Cond) (sBit : Bool) (rn rd : Reg) (shiftImm : BitVec 5) (shift : Shift) (rm : Reg)
  /-- EOR: ARM data-processing, register with register shift. R752. -/
  | eorRegShift (cond : Cond) (sBit : Bool) (rn rd rs : Reg) (shift : Shift) (rm : Reg)
  /-- SUB: ARM data-processing, immediate. R747. -/
  | subImm (cond : Cond) (sBit : Bool) (rn rd : Reg) (rot : BitVec 4) (imm8 : BitVec 8)
  /-- SUB: ARM data-processing, register with immediate shift. R747. -/
  | subReg (cond : Cond) (sBit : Bool) (rn rd : Reg) (shiftImm : BitVec 5) (shift : Shift) (rm : Reg)
  /-- SUB: ARM data-processing, register with register shift. R747. -/
  | subRegShift (cond : Cond) (sBit : Bool) (rn rd rs : Reg) (shift : Shift) (rm : Reg)
  /-- RSB: ARM data-processing, immediate. R749. -/
  | rsbImm (cond : Cond) (sBit : Bool) (rn rd : Reg) (rot : BitVec 4) (imm8 : BitVec 8)
  /-- RSB: ARM data-processing, register with immediate shift. R749. -/
  | rsbReg (cond : Cond) (sBit : Bool) (rn rd : Reg) (shiftImm : BitVec 5) (shift : Shift) (rm : Reg)
  /-- RSB: ARM data-processing, register with register shift. R749. -/
  | rsbRegShift (cond : Cond) (sBit : Bool) (rn rd rs : Reg) (shift : Shift) (rm : Reg)
  /-- ADD: ARM data-processing, immediate. R745. -/
  | addImm (cond : Cond) (sBit : Bool) (rn rd : Reg) (rot : BitVec 4) (imm8 : BitVec 8)
  /-- ADD: ARM data-processing, register with immediate shift. R745. -/
  | addReg (cond : Cond) (sBit : Bool) (rn rd : Reg) (shiftImm : BitVec 5) (shift : Shift) (rm : Reg)
  /-- ADD: ARM data-processing, register with register shift. R745. -/
  | addRegShift (cond : Cond) (sBit : Bool) (rn rd rs : Reg) (shift : Shift) (rm : Reg)
  /-- ADC: ARM data-processing, immediate. R746. -/
  | adcImm (cond : Cond) (sBit : Bool) (rn rd : Reg) (rot : BitVec 4) (imm8 : BitVec 8)
  /-- ADC: ARM data-processing, register with immediate shift. R746. -/
  | adcReg (cond : Cond) (sBit : Bool) (rn rd : Reg) (shiftImm : BitVec 5) (shift : Shift) (rm : Reg)
  /-- ADC: ARM data-processing, register with register shift. R746. -/
  | adcRegShift (cond : Cond) (sBit : Bool) (rn rd rs : Reg) (shift : Shift) (rm : Reg)
  /-- SBC: ARM data-processing, immediate. R748. -/
  | sbcImm (cond : Cond) (sBit : Bool) (rn rd : Reg) (rot : BitVec 4) (imm8 : BitVec 8)
  /-- SBC: ARM data-processing, register with immediate shift. R748. -/
  | sbcReg (cond : Cond) (sBit : Bool) (rn rd : Reg) (shiftImm : BitVec 5) (shift : Shift) (rm : Reg)
  /-- SBC: ARM data-processing, register with register shift. R748. -/
  | sbcRegShift (cond : Cond) (sBit : Bool) (rn rd rs : Reg) (shift : Shift) (rm : Reg)
  /-- RSC: ARM data-processing, immediate. R750. -/
  | rscImm (cond : Cond) (sBit : Bool) (rn rd : Reg) (rot : BitVec 4) (imm8 : BitVec 8)
  /-- RSC: ARM data-processing, register with immediate shift. R750. -/
  | rscReg (cond : Cond) (sBit : Bool) (rn rd : Reg) (shiftImm : BitVec 5) (shift : Shift) (rm : Reg)
  /-- RSC: ARM data-processing, register with register shift. R750. -/
  | rscRegShift (cond : Cond) (sBit : Bool) (rn rd rs : Reg) (shift : Shift) (rm : Reg)
  /-- ORR: ARM data-processing, immediate. R753. -/
  | orrImm (cond : Cond) (sBit : Bool) (rn rd : Reg) (rot : BitVec 4) (imm8 : BitVec 8)
  /-- ORR: ARM data-processing, register with immediate shift. R753. -/
  | orrReg (cond : Cond) (sBit : Bool) (rn rd : Reg) (shiftImm : BitVec 5) (shift : Shift) (rm : Reg)
  /-- ORR: ARM data-processing, register with register shift. R753. -/
  | orrRegShift (cond : Cond) (sBit : Bool) (rn rd rs : Reg) (shift : Shift) (rm : Reg)
  /-- BIC: ARM data-processing, immediate. R754. -/
  | bicImm (cond : Cond) (sBit : Bool) (rn rd : Reg) (rot : BitVec 4) (imm8 : BitVec 8)
  /-- BIC: ARM data-processing, register with immediate shift. R754. -/
  | bicReg (cond : Cond) (sBit : Bool) (rn rd : Reg) (shiftImm : BitVec 5) (shift : Shift) (rm : Reg)
  /-- BIC: ARM data-processing, register with register shift. R754. -/
  | bicRegShift (cond : Cond) (sBit : Bool) (rn rd rs : Reg) (shift : Shift) (rm : Reg)
  /-- CPY: ARM data-processing, MOV synonym. R757. -/
  | cpy (cond : Cond) (rd rm : Reg)
  /-- MOV: ARM data-processing, immediate. R755. -/
  | movImm (cond : Cond) (sBit : Bool) (rd : Reg) (rot : BitVec 4) (imm8 : BitVec 8)
  /-- MOV: ARM data-processing, register with immediate shift. R755. -/
  | movReg (cond : Cond) (sBit : Bool) (rd : Reg) (shiftImm : BitVec 5) (shift : Shift) (rm : Reg)
  /-- MOV: ARM data-processing, register with register shift. R755. -/
  | movRegShift (cond : Cond) (sBit : Bool) (rd rs : Reg) (shift : Shift) (rm : Reg)
  /-- MVN: ARM data-processing, immediate. R756. -/
  | mvnImm (cond : Cond) (sBit : Bool) (rd : Reg) (rot : BitVec 4) (imm8 : BitVec 8)
  /-- MVN: ARM data-processing, register with immediate shift. R756. -/
  | mvnReg (cond : Cond) (sBit : Bool) (rd : Reg) (shiftImm : BitVec 5) (shift : Shift) (rm : Reg)
  /-- MVN: ARM data-processing, register with register shift. R756. -/
  | mvnRegShift (cond : Cond) (sBit : Bool) (rd rs : Reg) (shift : Shift) (rm : Reg)
  /-- TST: ARM data-processing, immediate. R760. -/
  | tstImm (cond : Cond) (rn : Reg) (rot : BitVec 4) (imm8 : BitVec 8)
  /-- TST: ARM data-processing, register with immediate shift. R760. -/
  | tstReg (cond : Cond) (rn : Reg) (shiftImm : BitVec 5) (shift : Shift) (rm : Reg)
  /-- TST: ARM data-processing, register with register shift. R760. -/
  | tstRegShift (cond : Cond) (rn rs : Reg) (shift : Shift) (rm : Reg)
  /-- TEQ: ARM data-processing, immediate. R761. -/
  | teqImm (cond : Cond) (rn : Reg) (rot : BitVec 4) (imm8 : BitVec 8)
  /-- TEQ: ARM data-processing, register with immediate shift. R761. -/
  | teqReg (cond : Cond) (rn : Reg) (shiftImm : BitVec 5) (shift : Shift) (rm : Reg)
  /-- TEQ: ARM data-processing, register with register shift. R761. -/
  | teqRegShift (cond : Cond) (rn rs : Reg) (shift : Shift) (rm : Reg)
  /-- CMP: ARM data-processing, immediate. R758. -/
  | cmpImm (cond : Cond) (rn : Reg) (rot : BitVec 4) (imm8 : BitVec 8)
  /-- CMP: ARM data-processing, register with immediate shift. R758. -/
  | cmpReg (cond : Cond) (rn : Reg) (shiftImm : BitVec 5) (shift : Shift) (rm : Reg)
  /-- CMP: ARM data-processing, register with register shift. R758. -/
  | cmpRegShift (cond : Cond) (rn rs : Reg) (shift : Shift) (rm : Reg)
  /-- CMN: ARM data-processing, immediate. R759. -/
  | cmnImm (cond : Cond) (rn : Reg) (rot : BitVec 4) (imm8 : BitVec 8)
  /-- CMN: ARM data-processing, register with immediate shift. R759. -/
  | cmnReg (cond : Cond) (rn : Reg) (shiftImm : BitVec 5) (shift : Shift) (rm : Reg)
  /-- CMN: ARM data-processing, register with register shift. R759. -/
  | cmnRegShift (cond : Cond) (rn rs : Reg) (shift : Shift) (rm : Reg)
  /-- CLZ: ARM miscellaneous. R762. -/
  | clz (cond : Cond) (rd rm : Reg)
  /-- MUL: ARM multiply. R792. -/
  | mul (cond : Cond) (sBit : Bool) (rd rs rm : Reg)
  /-- MLA: ARM multiply. R793. -/
  | mla (cond : Cond) (sBit : Bool) (rd rn rs rm : Reg)
  /-- UMAAL: ARM multiply. R798. -/
  | umaal (cond : Cond) (rdHi rdLo rs rm : Reg)
  /-- UMULL: ARM multiply long. R794. -/
  | umull (cond : Cond) (sBit : Bool) (rdHi rdLo rs rm : Reg)
  /-- UMLAL: ARM multiply long. R795. -/
  | umlal (cond : Cond) (sBit : Bool) (rdHi rdLo rs rm : Reg)
  /-- SMULL: ARM multiply long. R796. -/
  | smull (cond : Cond) (sBit : Bool) (rdHi rdLo rs rm : Reg)
  /-- SMLAL: ARM multiply long. R797. -/
  | smlal (cond : Cond) (sBit : Bool) (rdHi rdLo rs rm : Reg)
  /-- QADD: ARM saturating arithmetic. R799. -/
  | qadd (cond : Cond) (rn rd rm : Reg)
  /-- QSUB: ARM saturating arithmetic. R801. -/
  | qsub (cond : Cond) (rn rd rm : Reg)
  /-- QDADD: ARM saturating arithmetic. R800. -/
  | qdadd (cond : Cond) (rn rd rm : Reg)
  /-- QDSUB: ARM saturating arithmetic. R802. -/
  | qdsub (cond : Cond) (rn rd rm : Reg)
  /-- SMLAxy: ARM halfword multiply. R804. -/
  | smlaXY (cond : Cond) (rd rn rs : Reg) (y x : Bool) (rm : Reg)
  /-- SMLAWy: ARM halfword multiply. R806. -/
  | smlaWY (cond : Cond) (rd rn rs : Reg) (y : Bool) (rm : Reg)
  /-- SMULWy: ARM halfword multiply. R805. -/
  | smulWY (cond : Cond) (rd rs : Reg) (y : Bool) (rm : Reg)
  /-- SMLALxy: ARM halfword multiply. R807. -/
  | smlalXY (cond : Cond) (rdHi rdLo rs : Reg) (y x : Bool) (rm : Reg)
  /-- SMULxy: ARM halfword multiply. R803. -/
  | smulXY (cond : Cond) (rd rs : Reg) (y x : Bool) (rm : Reg)
  /-- SADD16: ARM media, parallel add and subtract. R1700. -/
  | sadd16 (cond : Cond) (rn rd rm : Reg)
  /-- QADD16: ARM media, parallel add and subtract. R1701. -/
  | qadd16 (cond : Cond) (rn rd rm : Reg)
  /-- SHADD16: ARM media, parallel add and subtract. R1702. -/
  | shadd16 (cond : Cond) (rn rd rm : Reg)
  /-- UADD16: ARM media, parallel add and subtract. R1703. -/
  | uadd16 (cond : Cond) (rn rd rm : Reg)
  /-- UQADD16: ARM media, parallel add and subtract. R1704. -/
  | uqadd16 (cond : Cond) (rn rd rm : Reg)
  /-- UHADD16: ARM media, parallel add and subtract. R1705. -/
  | uhadd16 (cond : Cond) (rn rd rm : Reg)
  /-- SADDSUBX: ARM media, parallel add and subtract. R1706. -/
  | saddsubx (cond : Cond) (rn rd rm : Reg)
  /-- QADDSUBX: ARM media, parallel add and subtract. R1707. -/
  | qaddsubx (cond : Cond) (rn rd rm : Reg)
  /-- SHADDSUBX: ARM media, parallel add and subtract. R1708. -/
  | shaddsubx (cond : Cond) (rn rd rm : Reg)
  /-- UADDSUBX: ARM media, parallel add and subtract. R1709. -/
  | uaddsubx (cond : Cond) (rn rd rm : Reg)
  /-- UQADDSUBX: ARM media, parallel add and subtract. R1710. -/
  | uqaddsubx (cond : Cond) (rn rd rm : Reg)
  /-- UHADDSUBX: ARM media, parallel add and subtract. R1711. -/
  | uhaddsubx (cond : Cond) (rn rd rm : Reg)
  /-- SSUBADDX: ARM media, parallel add and subtract. R1712. -/
  | ssubaddx (cond : Cond) (rn rd rm : Reg)
  /-- QSUBADDX: ARM media, parallel add and subtract. R1713. -/
  | qsubaddx (cond : Cond) (rn rd rm : Reg)
  /-- SHSUBADDX: ARM media, parallel add and subtract. R1714. -/
  | shsubaddx (cond : Cond) (rn rd rm : Reg)
  /-- USUBADDX: ARM media, parallel add and subtract. R1715. -/
  | usubaddx (cond : Cond) (rn rd rm : Reg)
  /-- UQSUBADDX: ARM media, parallel add and subtract. R1716. -/
  | uqsubaddx (cond : Cond) (rn rd rm : Reg)
  /-- UHSUBADDX: ARM media, parallel add and subtract. R1717. -/
  | uhsubaddx (cond : Cond) (rn rd rm : Reg)
  /-- SSUB16: ARM media, parallel add and subtract. R1718. -/
  | ssub16 (cond : Cond) (rn rd rm : Reg)
  /-- QSUB16: ARM media, parallel add and subtract. R1719. -/
  | qsub16 (cond : Cond) (rn rd rm : Reg)
  /-- SHSUB16: ARM media, parallel add and subtract. R1720. -/
  | shsub16 (cond : Cond) (rn rd rm : Reg)
  /-- USUB16: ARM media, parallel add and subtract. R1721. -/
  | usub16 (cond : Cond) (rn rd rm : Reg)
  /-- UQSUB16: ARM media, parallel add and subtract. R1722. -/
  | uqsub16 (cond : Cond) (rn rd rm : Reg)
  /-- UHSUB16: ARM media, parallel add and subtract. R1723. -/
  | uhsub16 (cond : Cond) (rn rd rm : Reg)
  /-- SADD8: ARM media, parallel add and subtract. R1724. -/
  | sadd8 (cond : Cond) (rn rd rm : Reg)
  /-- QADD8: ARM media, parallel add and subtract. R1725. -/
  | qadd8 (cond : Cond) (rn rd rm : Reg)
  /-- SHADD8: ARM media, parallel add and subtract. R1726. -/
  | shadd8 (cond : Cond) (rn rd rm : Reg)
  /-- UADD8: ARM media, parallel add and subtract. R1727. -/
  | uadd8 (cond : Cond) (rn rd rm : Reg)
  /-- UQADD8: ARM media, parallel add and subtract. R1728. -/
  | uqadd8 (cond : Cond) (rn rd rm : Reg)
  /-- UHADD8: ARM media, parallel add and subtract. R1729. -/
  | uhadd8 (cond : Cond) (rn rd rm : Reg)
  /-- SSUB8: ARM media, parallel add and subtract. R1730. -/
  | ssub8 (cond : Cond) (rn rd rm : Reg)
  /-- QSUB8: ARM media, parallel add and subtract. R1731. -/
  | qsub8 (cond : Cond) (rn rd rm : Reg)
  /-- SHSUB8: ARM media, parallel add and subtract. R1732. -/
  | shsub8 (cond : Cond) (rn rd rm : Reg)
  /-- USUB8: ARM media, parallel add and subtract. R1733. -/
  | usub8 (cond : Cond) (rn rd rm : Reg)
  /-- UQSUB8: ARM media, parallel add and subtract. R1734. -/
  | uqsub8 (cond : Cond) (rn rd rm : Reg)
  /-- UHSUB8: ARM media, parallel add and subtract. R1735. -/
  | uhsub8 (cond : Cond) (rn rd rm : Reg)
  /-- USAD8: ARM media. R809. -/
  | usad8 (cond : Cond) (rd rs rm : Reg)
  /-- USADA8: ARM media. R810. -/
  | usada8 (cond : Cond) (rd rn rs rm : Reg)
  /-- SXTB16: ARM media, extend. R818. -/
  | sxtb16 (cond : Cond) (rd : Reg) (rotate : BitVec 2) (rm : Reg)
  /-- SXTAB16: ARM media, extend with add. R812. -/
  | sxtab16 (cond : Cond) (rn rd : Reg) (rotate : BitVec 2) (rm : Reg)
  /-- SXTB: ARM media, extend. R819. -/
  | sxtb (cond : Cond) (rd : Reg) (rotate : BitVec 2) (rm : Reg)
  /-- SXTAB: ARM media, extend with add. R813. -/
  | sxtab (cond : Cond) (rn rd : Reg) (rotate : BitVec 2) (rm : Reg)
  /-- SXTH: ARM media, extend. R820. -/
  | sxth (cond : Cond) (rd : Reg) (rotate : BitVec 2) (rm : Reg)
  /-- SXTAH: ARM media, extend with add. R814. -/
  | sxtah (cond : Cond) (rn rd : Reg) (rotate : BitVec 2) (rm : Reg)
  /-- UXTB16: ARM media, extend. R821. -/
  | uxtb16 (cond : Cond) (rd : Reg) (rotate : BitVec 2) (rm : Reg)
  /-- UXTAB16: ARM media, extend with add. R815. -/
  | uxtab16 (cond : Cond) (rn rd : Reg) (rotate : BitVec 2) (rm : Reg)
  /-- UXTB: ARM media, extend. R822. -/
  | uxtb (cond : Cond) (rd : Reg) (rotate : BitVec 2) (rm : Reg)
  /-- UXTAB: ARM media, extend with add. R816. -/
  | uxtab (cond : Cond) (rn rd : Reg) (rotate : BitVec 2) (rm : Reg)
  /-- UXTH: ARM media, extend. R823. -/
  | uxth (cond : Cond) (rd : Reg) (rotate : BitVec 2) (rm : Reg)
  /-- UXTAH: ARM media, extend with add. R817. -/
  | uxtah (cond : Cond) (rn rd : Reg) (rotate : BitVec 2) (rm : Reg)
  /-- SMUAD: ARM media, dual multiply. R833. -/
  | smuad (cond : Cond) (rd rs rm : Reg)
  /-- SMUADX: ARM media, dual multiply. R834. -/
  | smuadx (cond : Cond) (rd rs rm : Reg)
  /-- SMUSD: ARM media, dual multiply. R835. -/
  | smusd (cond : Cond) (rd rs rm : Reg)
  /-- SMUSDX: ARM media, dual multiply. R836. -/
  | smusdx (cond : Cond) (rd rs rm : Reg)
  /-- SMLAD: ARM media, dual multiply accumulate. R825. -/
  | smlad (cond : Cond) (rd rn rs rm : Reg)
  /-- SMLADX: ARM media, dual multiply accumulate. R826. -/
  | smladx (cond : Cond) (rd rn rs rm : Reg)
  /-- SMLSD: ARM media, dual multiply accumulate. R827. -/
  | smlsd (cond : Cond) (rd rn rs rm : Reg)
  /-- SMLSDX: ARM media, dual multiply accumulate. R828. -/
  | smlsdx (cond : Cond) (rd rn rs rm : Reg)
  /-- SMLALD: ARM media, dual multiply accumulate long. R829. -/
  | smlald (cond : Cond) (rdHi rdLo rs rm : Reg)
  /-- SMLALDX: ARM media, dual multiply accumulate long. R830. -/
  | smlaldx (cond : Cond) (rdHi rdLo rs rm : Reg)
  /-- SMLSLD: ARM media, dual multiply accumulate long. R831. -/
  | smlsld (cond : Cond) (rdHi rdLo rs rm : Reg)
  /-- SMLSLDX: ARM media, dual multiply accumulate long. R832. -/
  | smlsldx (cond : Cond) (rdHi rdLo rs rm : Reg)
  /-- SMMUL: ARM media, most significant word multiply. R837. -/
  | smmul (cond : Cond) (rd rs rm : Reg)
  /-- SMMULR: ARM media, most significant word multiply. R838. -/
  | smmulr (cond : Cond) (rd rs rm : Reg)
  /-- SMMLA: ARM media, most significant word multiply. R839. -/
  | smmla (cond : Cond) (rd rn rs rm : Reg)
  /-- SMMLAR: ARM media, most significant word multiply. R840. -/
  | smmlar (cond : Cond) (rd rn rs rm : Reg)
  /-- SMMLS: ARM media, most significant word multiply. R841. -/
  | smmls (cond : Cond) (rd rn rs rm : Reg)
  /-- SMMLSR: ARM media, most significant word multiply. R842. -/
  | smmlsr (cond : Cond) (rd rn rs rm : Reg)
  /-- SSAT: ARM media, saturate. R843. -/
  | ssat (cond : Cond) (satImm : BitVec 5) (rd : Reg) (shiftImm : BitVec 5) (sh : Bool) (rm : Reg)
  /-- USAT: ARM media, saturate. R844. -/
  | usat (cond : Cond) (satImm : BitVec 5) (rd : Reg) (shiftImm : BitVec 5) (sh : Bool) (rm : Reg)
  /-- SSAT16: ARM media, saturate. R845. -/
  | ssat16 (cond : Cond) (satImm : BitVec 4) (rd rm : Reg)
  /-- USAT16: ARM media, saturate. R846. -/
  | usat16 (cond : Cond) (satImm : BitVec 4) (rd rm : Reg)
  /-- SEL: ARM media. R847. -/
  | sel (cond : Cond) (rn rd rm : Reg)
  /-- PKHBT: ARM media, pack. R848. -/
  | pkhbt (cond : Cond) (rn rd : Reg) (shiftImm : BitVec 5) (rm : Reg)
  /-- PKHTB: ARM media, pack. R849. -/
  | pkhtb (cond : Cond) (rn rd : Reg) (shiftImm : BitVec 5) (rm : Reg)
  /-- REV: ARM media, reverse. R850. -/
  | rev (cond : Cond) (rd rm : Reg)
  /-- REV16: ARM media, reverse. R851. -/
  | rev16 (cond : Cond) (rd rm : Reg)
  /-- REVSH: ARM media, reverse. R852. -/
  | revsh (cond : Cond) (rd rm : Reg)
  /-- LDRT: ARM load/store, addressing mode 2 post-indexed, immediate offset. R868. -/
  | ldrtImm (cond : Cond) (u : Bool) (rn rd : Reg) (off12 : BitVec 12)
  /-- LDRT: ARM load/store, addressing mode 2 post-indexed, register offset. R868. -/
  | ldrtReg (cond : Cond) (u : Bool) (rn rd : Reg) (shiftImm : BitVec 5) (shift : Shift) (rm : Reg)
  /-- LDRBT: ARM load/store, addressing mode 2 post-indexed, immediate offset. R870. -/
  | ldrbtImm (cond : Cond) (u : Bool) (rn rd : Reg) (off12 : BitVec 12)
  /-- LDRBT: ARM load/store, addressing mode 2 post-indexed, register offset. R870. -/
  | ldrbtReg (cond : Cond) (u : Bool) (rn rd : Reg) (shiftImm : BitVec 5) (shift : Shift) (rm : Reg)
  /-- STRT: ARM load/store, addressing mode 2 post-indexed, immediate offset. R876. -/
  | strtImm (cond : Cond) (u : Bool) (rn rd : Reg) (off12 : BitVec 12)
  /-- STRT: ARM load/store, addressing mode 2 post-indexed, register offset. R876. -/
  | strtReg (cond : Cond) (u : Bool) (rn rd : Reg) (shiftImm : BitVec 5) (shift : Shift) (rm : Reg)
  /-- STRBT: ARM load/store, addressing mode 2 post-indexed, immediate offset. R878. -/
  | strbtImm (cond : Cond) (u : Bool) (rn rd : Reg) (off12 : BitVec 12)
  /-- STRBT: ARM load/store, addressing mode 2 post-indexed, register offset. R878. -/
  | strbtReg (cond : Cond) (u : Bool) (rn rd : Reg) (shiftImm : BitVec 5) (shift : Shift) (rm : Reg)
  /-- LDR: ARM load/store, addressing mode 2, immediate offset. R866. -/
  | ldrImm (cond : Cond) (p u w : Bool) (rn rd : Reg) (off12 : BitVec 12)
  /-- LDR: ARM load/store, addressing mode 2, register offset. R866. -/
  | ldrReg (cond : Cond) (p u w : Bool) (rn rd : Reg) (shiftImm : BitVec 5) (shift : Shift) (rm : Reg)
  /-- LDRB: ARM load/store, addressing mode 2, immediate offset. R869. -/
  | ldrbImm (cond : Cond) (p u w : Bool) (rn rd : Reg) (off12 : BitVec 12)
  /-- LDRB: ARM load/store, addressing mode 2, register offset. R869. -/
  | ldrbReg (cond : Cond) (p u w : Bool) (rn rd : Reg) (shiftImm : BitVec 5) (shift : Shift) (rm : Reg)
  /-- STR: ARM load/store, addressing mode 2, immediate offset. R875. -/
  | strImm (cond : Cond) (p u w : Bool) (rn rd : Reg) (off12 : BitVec 12)
  /-- STR: ARM load/store, addressing mode 2, register offset. R875. -/
  | strReg (cond : Cond) (p u w : Bool) (rn rd : Reg) (shiftImm : BitVec 5) (shift : Shift) (rm : Reg)
  /-- STRB: ARM load/store, addressing mode 2, immediate offset. R877. -/
  | strbImm (cond : Cond) (p u w : Bool) (rn rd : Reg) (off12 : BitVec 12)
  /-- STRB: ARM load/store, addressing mode 2, register offset. R877. -/
  | strbReg (cond : Cond) (p u w : Bool) (rn rd : Reg) (shiftImm : BitVec 5) (shift : Shift) (rm : Reg)
  /-- STRH: ARM load/store, addressing mode 3, immediate offset. R879. -/
  | strhImm (cond : Cond) (p u w : Bool) (rn rd : Reg) (immH immL : BitVec 4)
  /-- STRH: ARM load/store, addressing mode 3, register offset. R879. -/
  | strhReg (cond : Cond) (p u w : Bool) (rn rd rm : Reg)
  /-- LDRD: ARM load/store, addressing mode 3, immediate offset. R874. -/
  | ldrdImm (cond : Cond) (p u w : Bool) (rn rd : Reg) (immH immL : BitVec 4)
  /-- LDRD: ARM load/store, addressing mode 3, register offset. R874. -/
  | ldrdReg (cond : Cond) (p u w : Bool) (rn rd rm : Reg)
  /-- STRD: ARM load/store, addressing mode 3, immediate offset. R880. -/
  | strdImm (cond : Cond) (p u w : Bool) (rn rd : Reg) (immH immL : BitVec 4)
  /-- STRD: ARM load/store, addressing mode 3, register offset. R880. -/
  | strdReg (cond : Cond) (p u w : Bool) (rn rd rm : Reg)
  /-- LDRH: ARM load/store, addressing mode 3, immediate offset. R872. -/
  | ldrhImm (cond : Cond) (p u w : Bool) (rn rd : Reg) (immH immL : BitVec 4)
  /-- LDRH: ARM load/store, addressing mode 3, register offset. R872. -/
  | ldrhReg (cond : Cond) (p u w : Bool) (rn rd rm : Reg)
  /-- LDRSB: ARM load/store, addressing mode 3, immediate offset. R871. -/
  | ldrsbImm (cond : Cond) (p u w : Bool) (rn rd : Reg) (immH immL : BitVec 4)
  /-- LDRSB: ARM load/store, addressing mode 3, register offset. R871. -/
  | ldrsbReg (cond : Cond) (p u w : Bool) (rn rd rm : Reg)
  /-- LDRSH: ARM load/store, addressing mode 3, immediate offset. R873. -/
  | ldrshImm (cond : Cond) (p u w : Bool) (rn rd : Reg) (immH immL : BitVec 4)
  /-- LDRSH: ARM load/store, addressing mode 3, register offset. R873. -/
  | ldrshReg (cond : Cond) (p u w : Bool) (rn rd rm : Reg)
  /-- LDM__1: ARM load multiple. R914. -/
  | ldm1 (cond : Cond) (p u w : Bool) (rn : Reg) (regs : BitVec 16)
  /-- LDM__2: ARM load multiple, User registers. R915. -/
  | ldm2 (cond : Cond) (p u : Bool) (rn : Reg) (regs : BitVec 15)
  /-- LDM__3: ARM load multiple, exception return. R916. -/
  | ldm3 (cond : Cond) (p u w : Bool) (rn : Reg) (regs : BitVec 15)
  /-- STM__1: ARM store multiple. R917. -/
  | stm1 (cond : Cond) (p u w : Bool) (rn : Reg) (regs : BitVec 16)
  /-- STM__2: ARM store multiple, User registers. R918. -/
  | stm2 (cond : Cond) (p u : Bool) (rn : Reg) (regs : BitVec 16)
  /-- SWP: ARM swap. R954. -/
  | swp (cond : Cond) (rn rd rm : Reg)
  /-- SWPB: ARM swap. R955. -/
  | swpb (cond : Cond) (rn rd rm : Reg)
  /-- STREX: ARM exclusive. R944. -/
  | strex (cond : Cond) (rn rd rm : Reg)
  /-- LDREX: ARM exclusive. R945. -/
  | ldrex (cond : Cond) (rn rd : Reg)
  /-- STREXD: ARM exclusive. R951. -/
  | strexd (cond : Cond) (rn rd rm : Reg)
  /-- LDREXD: ARM exclusive. R950. -/
  | ldrexd (cond : Cond) (rn rd : Reg)
  /-- STREXB: ARM exclusive. R947. -/
  | strexb (cond : Cond) (rn rd rm : Reg)
  /-- LDREXB: ARM exclusive. R946. -/
  | ldrexb (cond : Cond) (rn rd : Reg)
  /-- STREXH: ARM exclusive. R949. -/
  | strexh (cond : Cond) (rn rd rm : Reg)
  /-- LDREXH: ARM exclusive. R948. -/
  | ldrexh (cond : Cond) (rn rd : Reg)
  /-- MRS: ARM status register. R970. -/
  | mrs (cond : Cond) (rBit : Bool) (rd : Reg)
  /-- MSR: ARM status register, register operand. R971. -/
  | msrReg (cond : Cond) (rBit : Bool) (fieldMask : BitVec 4) (rm : Reg)
  /-- NOP: ARM hint (NOP, YIELD and reserved hints). R985. -/
  | nop (cond : Cond) (hint : BitVec 8)
  /-- MSR: ARM status register, immediate operand. R972. -/
  | msrImm (cond : Cond) (rBit : Bool) (fieldMask rot : BitVec 4) (imm8 : BitVec 8)
  /-- B: ARM branch. R1001. -/
  | b (cond : Cond) (simm24 : BitVec 24)
  /-- BL: ARM branch. R1002. -/
  | bl (cond : Cond) (simm24 : BitVec 24)
  /-- BX: ARM miscellaneous. R1003. -/
  | bx (cond : Cond) (rm : Reg)
  /-- BXJ: ARM miscellaneous. R1006. -/
  | bxj (cond : Cond) (rm : Reg)
  /-- BLX__2: ARM miscellaneous, branch with link and exchange, register. R1005. -/
  | blx2 (cond : Cond) (rm : Reg)
  /-- BKPT: ARM miscellaneous. R1013. -/
  | bkpt (immHi : BitVec 12) (immLo : BitVec 4)
  /-- SMC: ARM miscellaneous. R1012. -/
  | smc (cond : Cond) (immHi : BitVec 12) (immLo : BitVec 4)
  /-- SVC: ARM supervisor call. R1010. -/
  | svc (cond : Cond) (imm24 : BitVec 24)
  /-- UNDEFINED: ARM architecturally Undefined instruction. R702. -/
  | undefArch (cond : Cond) (anyHi : BitVec 12) (anyLo : BitVec 4)
  /-- FMACS: VFP data-processing, single precision. R1144. -/
  | fmacs (cond : Cond) (dBit : Bool) (fn fd : BitVec 4) (nBit mBit : Bool) (fm : BitVec 4)
  /-- FMACD: VFP data-processing, double precision. R1144. -/
  | fmacd (cond : Cond) (fn fd fm : BitVec 4)
  /-- FNMACS: VFP data-processing, single precision. R1145. -/
  | fnmacs (cond : Cond) (dBit : Bool) (fn fd : BitVec 4) (nBit mBit : Bool) (fm : BitVec 4)
  /-- FNMACD: VFP data-processing, double precision. R1145. -/
  | fnmacd (cond : Cond) (fn fd fm : BitVec 4)
  /-- FMSCS: VFP data-processing, single precision. R1146. -/
  | fmscs (cond : Cond) (dBit : Bool) (fn fd : BitVec 4) (nBit mBit : Bool) (fm : BitVec 4)
  /-- FMSCD: VFP data-processing, double precision. R1146. -/
  | fmscd (cond : Cond) (fn fd fm : BitVec 4)
  /-- FNMSCS: VFP data-processing, single precision. R1147. -/
  | fnmscs (cond : Cond) (dBit : Bool) (fn fd : BitVec 4) (nBit mBit : Bool) (fm : BitVec 4)
  /-- FNMSCD: VFP data-processing, double precision. R1147. -/
  | fnmscd (cond : Cond) (fn fd fm : BitVec 4)
  /-- FMULS: VFP data-processing, single precision. R1142. -/
  | fmuls (cond : Cond) (dBit : Bool) (fn fd : BitVec 4) (nBit mBit : Bool) (fm : BitVec 4)
  /-- FMULD: VFP data-processing, double precision. R1142. -/
  | fmuld (cond : Cond) (fn fd fm : BitVec 4)
  /-- FNMULS: VFP data-processing, single precision. R1143. -/
  | fnmuls (cond : Cond) (dBit : Bool) (fn fd : BitVec 4) (nBit mBit : Bool) (fm : BitVec 4)
  /-- FNMULD: VFP data-processing, double precision. R1143. -/
  | fnmuld (cond : Cond) (fn fd fm : BitVec 4)
  /-- FADDS: VFP data-processing, single precision. R1140. -/
  | fadds (cond : Cond) (dBit : Bool) (fn fd : BitVec 4) (nBit mBit : Bool) (fm : BitVec 4)
  /-- FADDD: VFP data-processing, double precision. R1140. -/
  | faddd (cond : Cond) (fn fd fm : BitVec 4)
  /-- FSUBS: VFP data-processing, single precision. R1141. -/
  | fsubs (cond : Cond) (dBit : Bool) (fn fd : BitVec 4) (nBit mBit : Bool) (fm : BitVec 4)
  /-- FSUBD: VFP data-processing, double precision. R1141. -/
  | fsubd (cond : Cond) (fn fd fm : BitVec 4)
  /-- FDIVS: VFP data-processing, single precision. R1148. -/
  | fdivs (cond : Cond) (dBit : Bool) (fn fd : BitVec 4) (nBit mBit : Bool) (fm : BitVec 4)
  /-- FDIVD: VFP data-processing, double precision. R1148. -/
  | fdivd (cond : Cond) (fn fd fm : BitVec 4)
  /-- FCPYS: VFP extension, single precision. R1152. -/
  | fcpys (cond : Cond) (dBit : Bool) (fd : BitVec 4) (mBit : Bool) (fm : BitVec 4)
  /-- FCPYD: VFP extension, double precision. R1152. -/
  | fcpyd (cond : Cond) (fd fm : BitVec 4)
  /-- FABSS: VFP extension, single precision. R1150. -/
  | fabss (cond : Cond) (dBit : Bool) (fd : BitVec 4) (mBit : Bool) (fm : BitVec 4)
  /-- FABSD: VFP extension, double precision. R1150. -/
  | fabsd (cond : Cond) (fd fm : BitVec 4)
  /-- FNEGS: VFP extension, single precision. R1151. -/
  | fnegs (cond : Cond) (dBit : Bool) (fd : BitVec 4) (mBit : Bool) (fm : BitVec 4)
  /-- FNEGD: VFP extension, double precision. R1151. -/
  | fnegd (cond : Cond) (fd fm : BitVec 4)
  /-- FSQRTS: VFP extension, single precision. R1149. -/
  | fsqrts (cond : Cond) (dBit : Bool) (fd : BitVec 4) (mBit : Bool) (fm : BitVec 4)
  /-- FSQRTD: VFP extension, double precision. R1149. -/
  | fsqrtd (cond : Cond) (fd fm : BitVec 4)
  /-- FCMPS: VFP extension, single precision. R1153. -/
  | fcmps (cond : Cond) (dBit : Bool) (fd : BitVec 4) (mBit : Bool) (fm : BitVec 4)
  /-- FCMPD: VFP extension, double precision. R1153. -/
  | fcmpd (cond : Cond) (fd fm : BitVec 4)
  /-- FCMPES: VFP extension, single precision. R1154. -/
  | fcmpes (cond : Cond) (dBit : Bool) (fd : BitVec 4) (mBit : Bool) (fm : BitVec 4)
  /-- FCMPED: VFP extension, double precision. R1154. -/
  | fcmped (cond : Cond) (fd fm : BitVec 4)
  /-- FCMPZS: VFP extension, single precision. R1155. -/
  | fcmpzs (cond : Cond) (dBit : Bool) (fd : BitVec 4)
  /-- FCMPZD: VFP extension, double precision. R1155. -/
  | fcmpzd (cond : Cond) (fd : BitVec 4)
  /-- FCMPEZS: VFP extension, single precision. R1156. -/
  | fcmpezs (cond : Cond) (dBit : Bool) (fd : BitVec 4)
  /-- FCMPEZD: VFP extension, double precision. R1156. -/
  | fcmpezd (cond : Cond) (fd : BitVec 4)
  /-- FCVTDS: VFP extension, single to double. R1157. -/
  | fcvtds (cond : Cond) (fd : BitVec 4) (mBit : Bool) (fm : BitVec 4)
  /-- FCVTSD: VFP extension, double to single. R1158. -/
  | fcvtsd (cond : Cond) (dBit : Bool) (fd fm : BitVec 4)
  /-- FUITOS: VFP extension, integer to single. R1159. -/
  | fuitos (cond : Cond) (dBit : Bool) (fd : BitVec 4) (mBit : Bool) (fm : BitVec 4)
  /-- FUITOD: VFP extension, integer to double. R1159. -/
  | fuitod (cond : Cond) (fd : BitVec 4) (mBit : Bool) (fm : BitVec 4)
  /-- FSITOS: VFP extension, integer to single. R1160. -/
  | fsitos (cond : Cond) (dBit : Bool) (fd : BitVec 4) (mBit : Bool) (fm : BitVec 4)
  /-- FSITOD: VFP extension, integer to double. R1160. -/
  | fsitod (cond : Cond) (fd : BitVec 4) (mBit : Bool) (fm : BitVec 4)
  /-- FTOUIS: VFP extension, single to integer. R1161. -/
  | ftouis (cond : Cond) (dBit : Bool) (fd : BitVec 4) (mBit : Bool) (fm : BitVec 4)
  /-- FTOUID: VFP extension, double to integer. R1161. -/
  | ftouid (cond : Cond) (dBit : Bool) (fd fm : BitVec 4)
  /-- FTOUIZS: VFP extension, single to integer. R1162. -/
  | ftouizs (cond : Cond) (dBit : Bool) (fd : BitVec 4) (mBit : Bool) (fm : BitVec 4)
  /-- FTOUIZD: VFP extension, double to integer. R1162. -/
  | ftouizd (cond : Cond) (dBit : Bool) (fd fm : BitVec 4)
  /-- FTOSIS: VFP extension, single to integer. R1163. -/
  | ftosis (cond : Cond) (dBit : Bool) (fd : BitVec 4) (mBit : Bool) (fm : BitVec 4)
  /-- FTOSID: VFP extension, double to integer. R1163. -/
  | ftosid (cond : Cond) (dBit : Bool) (fd fm : BitVec 4)
  /-- FTOSIZS: VFP extension, single to integer. R1164. -/
  | ftosizs (cond : Cond) (dBit : Bool) (fd : BitVec 4) (mBit : Bool) (fm : BitVec 4)
  /-- FTOSIZD: VFP extension, double to integer. R1164. -/
  | ftosizd (cond : Cond) (dBit : Bool) (fd fm : BitVec 4)
  /-- FLDS: VFP load, single. R1170. -/
  | flds (cond : Cond) (u dBit : Bool) (rn : Reg) (fd : BitVec 4) (off8 : BitVec 8)
  /-- FLDD: VFP load, double. R1170. -/
  | fldd (cond : Cond) (u : Bool) (rn : Reg) (fd : BitVec 4) (off8 : BitVec 8)
  /-- FSTS: VFP store, single. R1171. -/
  | fsts (cond : Cond) (u dBit : Bool) (rn : Reg) (fd : BitVec 4) (off8 : BitVec 8)
  /-- FSTD: VFP store, double. R1171. -/
  | fstd (cond : Cond) (u : Bool) (rn : Reg) (fd : BitVec 4) (off8 : BitVec 8)
  /-- FLDMS: VFP load multiple, single, IA. R1172. -/
  | fldmsIa (cond : Cond) (dBit : Bool) (rn : Reg) (fd : BitVec 4) (off8 : BitVec 8)
  /-- FLDMD_FLDMX: VFP load multiple, double (offset_8 even) or X form (offset_8 odd), IA. R1172. -/
  | fldmdxIa (cond : Cond) (rn : Reg) (fd : BitVec 4) (off8 : BitVec 8)
  /-- FLDMS: VFP load multiple, single, IA with writeback. R1172. -/
  | fldmsIaW (cond : Cond) (dBit : Bool) (rn : Reg) (fd : BitVec 4) (off8 : BitVec 8)
  /-- FLDMD_FLDMX: VFP load multiple, double (offset_8 even) or X form (offset_8 odd), IA with writeback. R1172. -/
  | fldmdxIaW (cond : Cond) (rn : Reg) (fd : BitVec 4) (off8 : BitVec 8)
  /-- FLDMS: VFP load multiple, single, DB with writeback. R1172. -/
  | fldmsDbW (cond : Cond) (dBit : Bool) (rn : Reg) (fd : BitVec 4) (off8 : BitVec 8)
  /-- FLDMD_FLDMX: VFP load multiple, double (offset_8 even) or X form (offset_8 odd), DB with writeback. R1172. -/
  | fldmdxDbW (cond : Cond) (rn : Reg) (fd : BitVec 4) (off8 : BitVec 8)
  /-- FSTMS: VFP store multiple, single, IA. R1173. -/
  | fstmsIa (cond : Cond) (dBit : Bool) (rn : Reg) (fd : BitVec 4) (off8 : BitVec 8)
  /-- FSTMD_FSTMX: VFP store multiple, double (offset_8 even) or X form (offset_8 odd), IA. R1173. -/
  | fstmdxIa (cond : Cond) (rn : Reg) (fd : BitVec 4) (off8 : BitVec 8)
  /-- FSTMS: VFP store multiple, single, IA with writeback. R1173. -/
  | fstmsIaW (cond : Cond) (dBit : Bool) (rn : Reg) (fd : BitVec 4) (off8 : BitVec 8)
  /-- FSTMD_FSTMX: VFP store multiple, double (offset_8 even) or X form (offset_8 odd), IA with writeback. R1173. -/
  | fstmdxIaW (cond : Cond) (rn : Reg) (fd : BitVec 4) (off8 : BitVec 8)
  /-- FSTMS: VFP store multiple, single, DB with writeback. R1173. -/
  | fstmsDbW (cond : Cond) (dBit : Bool) (rn : Reg) (fd : BitVec 4) (off8 : BitVec 8)
  /-- FSTMD_FSTMX: VFP store multiple, double (offset_8 even) or X form (offset_8 odd), DB with writeback. R1173. -/
  | fstmdxDbW (cond : Cond) (rn : Reg) (fd : BitVec 4) (off8 : BitVec 8)
  /-- FMSR: VFP register transfer. R1174. -/
  | fmsr (cond : Cond) (fn : BitVec 4) (rd : Reg) (nBit : Bool)
  /-- FMRS: VFP register transfer. R1175. -/
  | fmrs (cond : Cond) (fn : BitVec 4) (rd : Reg) (nBit : Bool)
  /-- FMDLR: VFP register transfer. R1176. -/
  | fmdlr (cond : Cond) (fn : BitVec 4) (rd : Reg)
  /-- FMRDL: VFP register transfer. R1178. -/
  | fmrdl (cond : Cond) (fn : BitVec 4) (rd : Reg)
  /-- FMDHR: VFP register transfer. R1177. -/
  | fmdhr (cond : Cond) (fn : BitVec 4) (rd : Reg)
  /-- FMRDH: VFP register transfer. R1179. -/
  | fmrdh (cond : Cond) (fn : BitVec 4) (rd : Reg)
  /-- FMXR: VFP system register transfer. R1184. -/
  | fmxr (cond : Cond) (reg : BitVec 4) (rd : Reg)
  /-- FMSTAT: VFP system register transfer. R1186. -/
  | fmstat (cond : Cond)
  /-- FMRX: VFP system register transfer. R1185. -/
  | fmrx (cond : Cond) (reg : BitVec 4) (rd : Reg)
  /-- FMDRR: VFP two-register transfer. R1180. -/
  | fmdrr (cond : Cond) (rn rd : Reg) (dm : BitVec 4)
  /-- FMRRD: VFP two-register transfer. R1181. -/
  | fmrrd (cond : Cond) (rn rd : Reg) (dm : BitVec 4)
  /-- FMSRR: VFP two-register transfer. R1182. -/
  | fmsrr (cond : Cond) (rn rd : Reg) (mBit : Bool) (sm : BitVec 4)
  /-- FMRRS: VFP two-register transfer. R1183. -/
  | fmrrs (cond : Cond) (rn rd : Reg) (mBit : Bool) (sm : BitVec 4)
  /-- CDP: ARM coprocessor. R1047. -/
  | cdp (cond : Cond) (opc1 cRn cRd cpNum : BitVec 4) (opc2 : BitVec 3) (cRm : BitVec 4)
  /-- MCR: ARM coprocessor. R1048. -/
  | mcr (cond : Cond) (opc1 : BitVec 3) (cRn : BitVec 4) (rd : Reg) (cpNum : BitVec 4) (opc2 : BitVec 3) (cRm : BitVec 4)
  /-- MRC: ARM coprocessor. R1049. -/
  | mrc (cond : Cond) (opc1 : BitVec 3) (cRn : BitVec 4) (rd : Reg) (cpNum : BitVec 4) (opc2 : BitVec 3) (cRm : BitVec 4)
  /-- MCRR: ARM coprocessor. R1050. -/
  | mcrr (cond : Cond) (rn rd : Reg) (cpNum opc cRm : BitVec 4)
  /-- MRRC: ARM coprocessor. R1051. -/
  | mrrc (cond : Cond) (rn rd : Reg) (cpNum opc cRm : BitVec 4)
  /-- UNDEFINED: ARM coprocessor load/store space with bits [24:21] = 0000. R702. -/
  | undefCop (cond : Cond) (l : Bool) (raw : BitVec 20)
  /-- LDC: ARM coprocessor. R1052. -/
  | ldc (cond : Cond) (p u nBit w : Bool) (rn : Reg) (cRd cpNum : BitVec 4) (off8 : BitVec 8)
  /-- STC: ARM coprocessor. R1052. -/
  | stc (cond : Cond) (p u nBit w : Bool) (rn : Reg) (cRd cpNum : BitVec 4) (off8 : BitVec 8)
  /-- LSL: Thumb shift by immediate. R1106. -/
  | tLslImm (imm5 : BitVec 5) (rm rd : LowReg)
  /-- LSR: Thumb shift by immediate. R1108. -/
  | tLsrImm (imm5 : BitVec 5) (rm rd : LowReg)
  /-- ASR: Thumb shift by immediate. R1110. -/
  | tAsrImm (imm5 : BitVec 5) (rm rd : LowReg)
  /-- ADD: Thumb add register. R1078. -/
  | tAddReg3 (rm rn rd : LowReg)
  /-- SUB: Thumb subtract register. R1086. -/
  | tSubReg3 (rm rn rd : LowReg)
  /-- MOV: Thumb move low register (ADD Rd, Rm, #0). R1073. -/
  | tMovLow (rm rd : LowReg)
  /-- ADD: Thumb add 3-bit immediate. R1076. -/
  | tAddImm3 (imm3 : BitVec 3) (rn rd : LowReg)
  /-- SUB: Thumb subtract 3-bit immediate. R1084. -/
  | tSubImm3 (imm3 : BitVec 3) (rn rd : LowReg)
  /-- MOV: Thumb move immediate. R1072. -/
  | tMovImm8 (rd : LowReg) (imm8 : BitVec 8)
  /-- CMP: Thumb compare immediate. R1091. -/
  | tCmpImm8 (rn : LowReg) (imm8 : BitVec 8)
  /-- ADD: Thumb add 8-bit immediate. R1077. -/
  | tAddImm8 (rd : LowReg) (imm8 : BitVec 8)
  /-- SUB: Thumb subtract 8-bit immediate. R1085. -/
  | tSubImm8 (rd : LowReg) (imm8 : BitVec 8)
  /-- AND: Thumb data-processing register. R1095. -/
  | tAndReg (rm rd : LowReg)
  /-- EOR: Thumb data-processing register. R1096. -/
  | tEorReg (rm rd : LowReg)
  /-- LSL: Thumb data-processing register. R1107. -/
  | tLslReg (rm rd : LowReg)
  /-- LSR: Thumb data-processing register. R1109. -/
  | tLsrReg (rm rd : LowReg)
  /-- ASR: Thumb data-processing register. R1111. -/
  | tAsrReg (rm rd : LowReg)
  /-- ADC: Thumb data-processing register. R1083. -/
  | tAdcReg (rm rd : LowReg)
  /-- SBC: Thumb data-processing register. R1088. -/
  | tSbcReg (rm rd : LowReg)
  /-- ROR: Thumb data-processing register. R1112. -/
  | tRorReg (rm rd : LowReg)
  /-- TST: Thumb data-processing register. R1100. -/
  | tTstReg (rm rd : LowReg)
  /-- NEG: Thumb data-processing register. R1089. -/
  | tNegReg (rm rd : LowReg)
  /-- CMP: Thumb data-processing register. R1092. -/
  | tCmpReg (rm rd : LowReg)
  /-- CMN: Thumb data-processing register. R1094. -/
  | tCmnReg (rm rd : LowReg)
  /-- ORR: Thumb data-processing register. R1097. -/
  | tOrrReg (rm rd : LowReg)
  /-- MUL: Thumb data-processing register. R1090. -/
  | tMulReg (rm rd : LowReg)
  /-- BIC: Thumb data-processing register. R1098. -/
  | tBicReg (rm rd : LowReg)
  /-- MVN: Thumb data-processing register. R1099. -/
  | tMvnReg (rm rd : LowReg)
  /-- ADD: Thumb high registers. R1079. -/
  | tAddHigh (h1 h2 : Bool) (rm rd : LowReg)
  /-- CMP: Thumb high registers. R1093. -/
  | tCmpHigh (h1 h2 : Bool) (rm rn : LowReg)
  /-- MOV: Thumb high registers (CPY is the same encoding, rule R1075). R1074. -/
  | tMovHigh (h1 h2 : Bool) (rm rd : LowReg)
  /-- BX: Thumb branch and exchange. R1105. -/
  | tBx (h2 : Bool) (rm : LowReg)
  /-- BLX__2: Thumb branch with link and exchange, register. R1104. -/
  | tBlx2 (h2 : Bool) (rm : LowReg)
  /-- LDR: Thumb PC-relative. R1748. -/
  | tLdrPc (rd : LowReg) (imm8 : BitVec 8)
  /-- STR: Thumb register offset. R1753. -/
  | tStrReg (rm rn rd : LowReg)
  /-- STRH: Thumb register offset. R1754. -/
  | tStrhReg (rm rn rd : LowReg)
  /-- STRB: Thumb register offset. R1755. -/
  | tStrbReg (rm rn rd : LowReg)
  /-- LDRSB: Thumb register offset. R1747. -/
  | tLdrsbReg (rm rn rd : LowReg)
  /-- LDR: Thumb register offset. R1743. -/
  | tLdrReg (rm rn rd : LowReg)
  /-- LDRH: Thumb register offset. R1744. -/
  | tLdrhReg (rm rn rd : LowReg)
  /-- LDRB: Thumb register offset. R1746. -/
  | tLdrbReg (rm rn rd : LowReg)
  /-- LDRSH: Thumb register offset. R1745. -/
  | tLdrshReg (rm rn rd : LowReg)
  /-- STR: Thumb immediate offset. R1750. -/
  | tStrImm (imm5 : BitVec 5) (rn rd : LowReg)
  /-- LDR: Thumb immediate offset. R1740. -/
  | tLdrImm (imm5 : BitVec 5) (rn rd : LowReg)
  /-- STRB: Thumb immediate offset. R1752. -/
  | tStrbImm (imm5 : BitVec 5) (rn rd : LowReg)
  /-- LDRB: Thumb immediate offset. R1742. -/
  | tLdrbImm (imm5 : BitVec 5) (rn rd : LowReg)
  /-- STRH: Thumb immediate offset. R1751. -/
  | tStrhImm (imm5 : BitVec 5) (rn rd : LowReg)
  /-- LDRH: Thumb immediate offset. R1741. -/
  | tLdrhImm (imm5 : BitVec 5) (rn rd : LowReg)
  /-- STR: Thumb SP-relative. R1756. -/
  | tStrSp (rd : LowReg) (imm8 : BitVec 8)
  /-- LDR: Thumb SP-relative. R1749. -/
  | tLdrSp (rd : LowReg) (imm8 : BitVec 8)
  /-- ADD: Thumb PC plus immediate. R1080. -/
  | tAddPc (rd : LowReg) (imm8 : BitVec 8)
  /-- ADD: Thumb SP plus immediate. R1081. -/
  | tAddSpImm (rd : LowReg) (imm8 : BitVec 8)
  /-- ADD: Thumb to SP. R1082. -/
  | tAddToSp (imm7 : BitVec 7)
  /-- SUB: Thumb from SP. R1087. -/
  | tSubFromSp (imm7 : BitVec 7)
  /-- SXTH: Thumb extend. R1120. -/
  | tSxth (rm rd : LowReg)
  /-- SXTB: Thumb extend. R1121. -/
  | tSxtb (rm rd : LowReg)
  /-- UXTH: Thumb extend. R1122. -/
  | tUxth (rm rd : LowReg)
  /-- UXTB: Thumb extend. R1123. -/
  | tUxtb (rm rd : LowReg)
  /-- PUSH: Thumb push. R1124. -/
  | tPush (rBit : Bool) (regs : BitVec 8)
  /-- SETEND: Thumb set endianness. R1114. -/
  | tSetend (eBit : Bool)
  /-- CPS: Thumb change processor state. R1113. -/
  | tCps (imod aBit iBit fBit : Bool)
  /-- REV: Thumb reverse. R1115. -/
  | tRev (rm rd : LowReg)
  /-- REV16: Thumb reverse. R1116. -/
  | tRev16 (rm rd : LowReg)
  /-- REVSH: Thumb reverse. R1117. -/
  | tRevsh (rm rd : LowReg)
  /-- POP: Thumb pop. R1125. -/
  | tPop (rBit : Bool) (regs : BitVec 8)
  /-- BKPT: Thumb breakpoint. R1119. -/
  | tBkpt (imm8 : BitVec 8)
  /-- STMIA: Thumb store multiple. R1128. -/
  | tStmia (rn : LowReg) (regs : BitVec 8)
  /-- LDMIA: Thumb load multiple. R1126. -/
  | tLdmia (rn : LowReg) (regs : BitVec 8)
  /-- UNDEFINED: Thumb permanently Undefined space. R1127. -/
  | tUndef (raw : BitVec 8)
  /-- SVC: Thumb supervisor call. R1118. -/
  | tSvc (imm8 : BitVec 8)
  /-- B: Thumb conditional branch. R1101. -/
  | tBCond (cond : Cond) (simm8 : BitVec 8)
  /-- B: Thumb unconditional branch. R1102. -/
  | tB (simm11 : BitVec 11)
  /-- BLX__1__suffix: Thumb second halfword of BLX immediate. R1103. -/
  | tBlxSuffix (off11 : BitVec 10)
  /-- UNDEFINED: Thumb BLX suffix with bit 0 set. R1127. -/
  | tUndefBlx (raw : BitVec 10)
  /-- BL_BLX_prefix: Thumb first halfword of BL or BLX immediate. R1103. -/
  | tBlPrefix (off11 : BitVec 11)
  /-- BL_suffix: Thumb second halfword of BL. R1103. -/
  | tBlSuffix (off11 : BitVec 11)
  deriving DecidableEq, Repr

end Sys2Proof
end

