-- ==== Sys2Proof/WellFormed.lean ====
section
/-! DEFINITION. Which instructions the table names: an instruction is well formed when its row is the one that its word
selects (30:R704 step 2), that is, when the row's `unless` note does not hand its word to an earlier row. Restrictions on
operands (R15 and the like) are in the meanings. -/

namespace Sys2Proof

/-- The rows for words with bits [31:28] = 1111 before their catch-all row, as (mask, match) without their SBZ and SBO bits: a
word that has those wrong is no instruction (30:R685). -/
def uncondPatterns : List (Word × Word) :=
  [(0xFF70F000#32, 0xF550F000#32),
   (0xFF70F010#32, 0xF750F000#32),
   (0xFE500F00#32, 0xF8100A00#32),
   (0xFE5F0F00#32, 0xF84D0500#32),
   (0xFFF000F0#32, 0xF5700010#32),
   (0xFFF10020#32, 0xF1000000#32),
   (0xFFFF00F0#32, 0xF1010000#32),
   (0xFE000000#32, 0xFA000000#32),
   (0xFF000010#32, 0xFE000000#32),
   (0xFF100010#32, 0xFE000010#32),
   (0xFF100010#32, 0xFE100010#32),
   (0xFFF00000#32, 0xFC400000#32),
   (0xFFF00000#32, 0xFC500000#32),
   (0xFFE00000#32, 0xFC000000#32),
   (0xFE100000#32, 0xFC100000#32),
   (0xFE100000#32, 0xFC000000#32)]

/-- Does the word with these low 28 bits, in the unconditional space, belong to a row before the catch-all row? -/
def uncondNamed (raw : BitVec 28) : Bool :=
  uncondPatterns.any fun (m, v) => ((0xF#4 ++ raw).setWidth 32 &&& m) == v

/-- The well-formedness of an instruction (see the head of this file). -/
def Instr.wf : Instr → Bool
  | .undefUncond raw => !uncondNamed raw
  | .movReg _ sBit _ shiftImm shift _ => !(!sBit && shiftImm == 0#5 && shift == .lsl)
  | .usada8 _ _ rn _ _ => rn != 15#4
  | .smlad _ _ rn _ _ => rn != 15#4
  | .smladx _ _ rn _ _ => rn != 15#4
  | .smlsd _ _ rn _ _ => rn != 15#4
  | .smlsdx _ _ rn _ _ => rn != 15#4
  | .smmla _ _ rn _ _ => rn != 15#4
  | .smmlar _ _ rn _ _ => rn != 15#4
  | .sxtab16 _ rn _ _ _ => rn != 15#4
  | .sxtab _ rn _ _ _ => rn != 15#4
  | .sxtah _ rn _ _ _ => rn != 15#4
  | .uxtab16 _ rn _ _ _ => rn != 15#4
  | .uxtab _ rn _ _ _ => rn != 15#4
  | .uxtah _ rn _ _ _ => rn != 15#4
  | .ldrImm _ p _ w _ _ _ => !(!p && w)
  | .ldrReg _ p _ w _ _ _ _ _ => !(!p && w)
  | .ldrbImm _ p _ w _ _ _ => !(!p && w)
  | .ldrbReg _ p _ w _ _ _ _ _ => !(!p && w)
  | .strImm _ p _ w _ _ _ => !(!p && w)
  | .strReg _ p _ w _ _ _ _ _ => !(!p && w)
  | .strbImm _ p _ w _ _ _ => !(!p && w)
  | .strbReg _ p _ w _ _ _ _ _ => !(!p && w)
  | .msrImm _ rBit fieldMask rot _ => !(!rBit && fieldMask == 0#4 && rot == 0#4)
  | .fmrx _ reg rd => !(reg == 1#4 && rd == 15#4)
  | .cdp _ _ _ _ cpNum _ _ => cpNum != 10#4 && cpNum != 11#4
  | .mcr _ _ _ _ cpNum _ _ => cpNum != 10#4 && cpNum != 11#4
  | .mrc _ _ _ _ cpNum _ _ => cpNum != 10#4 && cpNum != 11#4
  | .mcrr _ _ _ cpNum _ _ => cpNum != 10#4 && cpNum != 11#4
  | .mrrc _ _ _ cpNum _ _ => cpNum != 10#4 && cpNum != 11#4
  | .ldc _ p u _ w _ _ cpNum _ => (p || u || w) && cpNum != 10#4 && cpNum != 11#4
  | .stc _ p u _ w _ _ cpNum _ => (p || u || w) && cpNum != 10#4 && cpNum != 11#4
  | .ldc2 p u _ w _ _ _ _ => p || u || w
  | .stc2 p u _ w _ _ _ _ => p || u || w
  | .tAddImm3 imm3 _ _ => imm3 != 0#3
  | .tBCond cond _ => cond != .al
  | _ => true

end Sys2Proof
end

