-- ==== Sys2Proof/Decode.lean ====
section
/-! DEFINITION. The decoder and the encoder: the rows of spec/opcode_table.json, searched in the table's order (30:R704).
The rows are marked noncomputable: Lean's code generator takes at most 245 constructors with operands, and the table has more
mnemonics than that. The kernel evaluates them all the same (log 11). -/

namespace Sys2Proof

/-- The condition that a four-bit code names (30:R683); 1111 is no condition and is never asked for. -/
def Cond.ofBits (b : BitVec 4) : Cond :=
  match b.toNat with
  | 0 => .eq | 1 => .ne | 2 => .cs | 3 => .cc | 4 => .mi | 5 => .pl | 6 => .vs | 7 => .vc
  | 8 => .hi | 9 => .ls | 10 => .ge | 11 => .lt | 12 => .gt | 13 => .le | _ => .al

/-- The four-bit code of a condition (30:R683). -/
def Cond.bits : Cond → BitVec 4
  | .eq => 0 | .ne => 1 | .cs => 2 | .cc => 3 | .mi => 4 | .pl => 5 | .vs => 6 | .vc => 7
  | .hi => 8 | .ls => 9 | .ge => 10 | .lt => 11 | .gt => 12 | .le => 13 | .al => 14

/-- The shift kind that a two-bit code names (30:R688). -/
def Shift.ofBits (b : BitVec 2) : Shift :=
  match b.toNat with
  | 0 => .lsl | 1 => .lsr | 2 => .asr | _ => .ror

/-- The two-bit code of a shift kind (30:R688). -/
def Shift.bits : Shift → BitVec 2
  | .lsl => 0 | .lsr => 1 | .asr => 2 | .ror => 3

/-- The field of `n` bits of a word whose lowest bit is bit `lo`. -/
def field {k : Nat} (lo n : Nat) (w : BitVec k) : BitVec n := w.extractLsb' lo n

/-- A one-bit field. -/
def flag {k : Nat} (lo : Nat) (w : BitVec k) : Bool := w.getLsbD lo

/-- A field's value in its place in a word. -/
def put {n : Nat} (lo : Nat) (v : BitVec n) : Word := v.setWidth 32 <<< lo

/-- A one-bit field's value in its place in a word. -/
def putB (lo : Nat) (b : Bool) : Word := put lo (BitVec.ofBool b)

/-- A field's value in its place in a halfword. -/
def puth {n : Nat} (lo : Nat) (v : BitVec n) : Half := v.setWidth 16 <<< lo

/-- A one-bit field's value in its place in a halfword. -/
def puthB (lo : Nat) (b : Bool) : Half := puth lo (BitVec.ofBool b)

/-- A row of the table: a word w is the row's when w AND mask = match; `sb` marks the bits of the mask that should be zero or
one (30:R685) and those whose other value the row's rule calls Unpredictable (the W bit of LDM (2) and STM (2): 43:R915,
R918). Where the table's `sbz` names more bits than the rule's own format does, the rule is followed (log 60). -/
structure Row (k : Nat) where
  name : String
  mask : BitVec k
  pat : BitVec k
  sb : BitVec k
  build : BitVec k → Instr

/-- Does the word match the row? -/
def Row.matches {k : Nat} (r : Row k) (w : BitVec k) : Bool := (w &&& r.mask) == r.pat

/-- Does the word match the row but for the bits of `sb` (30:R704 step 4)? -/
def Row.matchesLoosely {k : Nat} (r : Row k) (w : BitVec k) : Bool :=
  (w &&& (r.mask &&& ~~~r.sb)) == (r.pat &&& ~~~r.sb)

/-- What a fetched item decodes to. -/
inductive Decoded where
  /-- an instruction: the first row that matches -/
  | instr (i : Instr)
  /-- no row matches but one would with its `sb` bits right: Unpredictable (30:R685), named after that row -/
  | unpredictable (mnemonic : String)
  /-- no row matches: the Undefined Instruction exception where the condition passes (30:R702, 48:R1127) -/
  | undefined (cond : Cond)
  /-- fewer bytes than an instruction -/
  | tooFewBytes
  deriving DecidableEq, Repr

/-- Rows of the unconditional space, bits [31:28] = 1111 (30:R700), but for the catch-all row, which `decodeArm` holds. -/
noncomputable def rowsUncond : List (Row 32) :=
  [⟨"PLD", 0xFF70F000, 0xF550F000, 0x00000000, fun w => .pldImm (flag 23 w) (field 16 4 w) (field 0 12 w)⟩,
   ⟨"PLD", 0xFF70F010, 0xF750F000, 0x00000000, fun w => .pldReg (flag 23 w) (field 16 4 w) (field 7 5 w) (.ofBits (field 5 2 w)) (field 0 4 w)⟩,
   ⟨"RFE", 0xFE50FFFF, 0xF8100A00, 0x0000F0FF, fun w => .rfe (flag 24 w) (flag 23 w) (flag 21 w) (field 16 4 w)⟩,
   ⟨"SRS", 0xFE5FFFE0, 0xF84D0500, 0x0000F0E0, fun w => .srs (flag 24 w) (flag 23 w) (flag 21 w) (field 0 5 w)⟩,
   ⟨"CLREX", 0xFFFFFFFF, 0xF57FF01F, 0x000FFF0F, fun _ => .clrex⟩,
   ⟨"CPS", 0xFFF1FE20, 0xF1000000, 0x0000FE00, fun w => .cps (field 18 2 w) (flag 17 w) (flag 8 w) (flag 7 w) (flag 6 w) (field 0 5 w)⟩,
   ⟨"SETEND", 0xFFFFFDFF, 0xF1010000, 0x0000FD0F, fun w => .setend (flag 9 w)⟩,
   ⟨"BLX__1", 0xFE000000, 0xFA000000, 0x00000000, fun w => .blx1 (flag 24 w) (field 0 24 w)⟩,
   ⟨"CDP2", 0xFF000010, 0xFE000000, 0x00000000, fun w => .cdp2 (field 20 4 w) (field 16 4 w) (field 12 4 w) (field 8 4 w) (field 5 3 w) (field 0 4 w)⟩,
   ⟨"MCR2", 0xFF100010, 0xFE000010, 0x00000000, fun w => .mcr2 (field 21 3 w) (field 16 4 w) (field 12 4 w) (field 8 4 w) (field 5 3 w) (field 0 4 w)⟩,
   ⟨"MRC2", 0xFF100010, 0xFE100010, 0x00000000, fun w => .mrc2 (field 21 3 w) (field 16 4 w) (field 12 4 w) (field 8 4 w) (field 5 3 w) (field 0 4 w)⟩,
   ⟨"MCRR2", 0xFFF00000, 0xFC400000, 0x00000000, fun w => .mcrr2 (field 16 4 w) (field 12 4 w) (field 8 4 w) (field 4 4 w) (field 0 4 w)⟩,
   ⟨"MRRC2", 0xFFF00000, 0xFC500000, 0x00000000, fun w => .mrrc2 (field 16 4 w) (field 12 4 w) (field 8 4 w) (field 4 4 w) (field 0 4 w)⟩,
   ⟨"UNDEFINED", 0xFFE00000, 0xFC000000, 0x00000000, fun w => .undefCop2 (flag 20 w) (field 0 20 w)⟩,
   ⟨"LDC2", 0xFE100000, 0xFC100000, 0x00000000, fun w => .ldc2 (flag 24 w) (flag 23 w) (flag 22 w) (flag 21 w) (field 16 4 w) (field 12 4 w) (field 8 4 w) (field 0 8 w)⟩,
   ⟨"STC2", 0xFE100000, 0xFC000000, 0x00000000, fun w => .stc2 (flag 24 w) (flag 23 w) (flag 22 w) (flag 21 w) (field 16 4 w) (field 12 4 w) (field 8 4 w) (field 0 8 w)⟩]

/-- Data processing, AND to ADC (30:R689). -/
noncomputable def rowsDpA : List (Row 32) :=
  [⟨"AND", 0x0FE00000, 0x02000000, 0x00000000, fun w => .andImm (.ofBits (field 28 4 w)) (flag 20 w) (field 16 4 w) (field 12 4 w) (field 8 4 w) (field 0 8 w)⟩,
   ⟨"AND", 0x0FE00010, 0x00000000, 0x00000000, fun w => .andReg (.ofBits (field 28 4 w)) (flag 20 w) (field 16 4 w) (field 12 4 w) (field 7 5 w) (.ofBits (field 5 2 w)) (field 0 4 w)⟩,
   ⟨"AND", 0x0FE00090, 0x00000010, 0x00000000, fun w => .andRegShift (.ofBits (field 28 4 w)) (flag 20 w) (field 16 4 w) (field 12 4 w) (field 8 4 w) (.ofBits (field 5 2 w)) (field 0 4 w)⟩,
   ⟨"EOR", 0x0FE00000, 0x02200000, 0x00000000, fun w => .eorImm (.ofBits (field 28 4 w)) (flag 20 w) (field 16 4 w) (field 12 4 w) (field 8 4 w) (field 0 8 w)⟩,
   ⟨"EOR", 0x0FE00010, 0x00200000, 0x00000000, fun w => .eorReg (.ofBits (field 28 4 w)) (flag 20 w) (field 16 4 w) (field 12 4 w) (field 7 5 w) (.ofBits (field 5 2 w)) (field 0 4 w)⟩,
   ⟨"EOR", 0x0FE00090, 0x00200010, 0x00000000, fun w => .eorRegShift (.ofBits (field 28 4 w)) (flag 20 w) (field 16 4 w) (field 12 4 w) (field 8 4 w) (.ofBits (field 5 2 w)) (field 0 4 w)⟩,
   ⟨"SUB", 0x0FE00000, 0x02400000, 0x00000000, fun w => .subImm (.ofBits (field 28 4 w)) (flag 20 w) (field 16 4 w) (field 12 4 w) (field 8 4 w) (field 0 8 w)⟩,
   ⟨"SUB", 0x0FE00010, 0x00400000, 0x00000000, fun w => .subReg (.ofBits (field 28 4 w)) (flag 20 w) (field 16 4 w) (field 12 4 w) (field 7 5 w) (.ofBits (field 5 2 w)) (field 0 4 w)⟩,
   ⟨"SUB", 0x0FE00090, 0x00400010, 0x00000000, fun w => .subRegShift (.ofBits (field 28 4 w)) (flag 20 w) (field 16 4 w) (field 12 4 w) (field 8 4 w) (.ofBits (field 5 2 w)) (field 0 4 w)⟩,
   ⟨"RSB", 0x0FE00000, 0x02600000, 0x00000000, fun w => .rsbImm (.ofBits (field 28 4 w)) (flag 20 w) (field 16 4 w) (field 12 4 w) (field 8 4 w) (field 0 8 w)⟩,
   ⟨"RSB", 0x0FE00010, 0x00600000, 0x00000000, fun w => .rsbReg (.ofBits (field 28 4 w)) (flag 20 w) (field 16 4 w) (field 12 4 w) (field 7 5 w) (.ofBits (field 5 2 w)) (field 0 4 w)⟩,
   ⟨"RSB", 0x0FE00090, 0x00600010, 0x00000000, fun w => .rsbRegShift (.ofBits (field 28 4 w)) (flag 20 w) (field 16 4 w) (field 12 4 w) (field 8 4 w) (.ofBits (field 5 2 w)) (field 0 4 w)⟩,
   ⟨"ADD", 0x0FE00000, 0x02800000, 0x00000000, fun w => .addImm (.ofBits (field 28 4 w)) (flag 20 w) (field 16 4 w) (field 12 4 w) (field 8 4 w) (field 0 8 w)⟩,
   ⟨"ADD", 0x0FE00010, 0x00800000, 0x00000000, fun w => .addReg (.ofBits (field 28 4 w)) (flag 20 w) (field 16 4 w) (field 12 4 w) (field 7 5 w) (.ofBits (field 5 2 w)) (field 0 4 w)⟩,
   ⟨"ADD", 0x0FE00090, 0x00800010, 0x00000000, fun w => .addRegShift (.ofBits (field 28 4 w)) (flag 20 w) (field 16 4 w) (field 12 4 w) (field 8 4 w) (.ofBits (field 5 2 w)) (field 0 4 w)⟩,
   ⟨"ADC", 0x0FE00000, 0x02A00000, 0x00000000, fun w => .adcImm (.ofBits (field 28 4 w)) (flag 20 w) (field 16 4 w) (field 12 4 w) (field 8 4 w) (field 0 8 w)⟩,
   ⟨"ADC", 0x0FE00010, 0x00A00000, 0x00000000, fun w => .adcReg (.ofBits (field 28 4 w)) (flag 20 w) (field 16 4 w) (field 12 4 w) (field 7 5 w) (.ofBits (field 5 2 w)) (field 0 4 w)⟩,
   ⟨"ADC", 0x0FE00090, 0x00A00010, 0x00000000, fun w => .adcRegShift (.ofBits (field 28 4 w)) (flag 20 w) (field 16 4 w) (field 12 4 w) (field 8 4 w) (.ofBits (field 5 2 w)) (field 0 4 w)⟩]

/-- Data processing, SBC to CLZ (30:R689, R691). -/
noncomputable def rowsDpB : List (Row 32) :=
  [⟨"SBC", 0x0FE00000, 0x02C00000, 0x00000000, fun w => .sbcImm (.ofBits (field 28 4 w)) (flag 20 w) (field 16 4 w) (field 12 4 w) (field 8 4 w) (field 0 8 w)⟩,
   ⟨"SBC", 0x0FE00010, 0x00C00000, 0x00000000, fun w => .sbcReg (.ofBits (field 28 4 w)) (flag 20 w) (field 16 4 w) (field 12 4 w) (field 7 5 w) (.ofBits (field 5 2 w)) (field 0 4 w)⟩,
   ⟨"SBC", 0x0FE00090, 0x00C00010, 0x00000000, fun w => .sbcRegShift (.ofBits (field 28 4 w)) (flag 20 w) (field 16 4 w) (field 12 4 w) (field 8 4 w) (.ofBits (field 5 2 w)) (field 0 4 w)⟩,
   ⟨"RSC", 0x0FE00000, 0x02E00000, 0x00000000, fun w => .rscImm (.ofBits (field 28 4 w)) (flag 20 w) (field 16 4 w) (field 12 4 w) (field 8 4 w) (field 0 8 w)⟩,
   ⟨"RSC", 0x0FE00010, 0x00E00000, 0x00000000, fun w => .rscReg (.ofBits (field 28 4 w)) (flag 20 w) (field 16 4 w) (field 12 4 w) (field 7 5 w) (.ofBits (field 5 2 w)) (field 0 4 w)⟩,
   ⟨"RSC", 0x0FE00090, 0x00E00010, 0x00000000, fun w => .rscRegShift (.ofBits (field 28 4 w)) (flag 20 w) (field 16 4 w) (field 12 4 w) (field 8 4 w) (.ofBits (field 5 2 w)) (field 0 4 w)⟩,
   ⟨"ORR", 0x0FE00000, 0x03800000, 0x00000000, fun w => .orrImm (.ofBits (field 28 4 w)) (flag 20 w) (field 16 4 w) (field 12 4 w) (field 8 4 w) (field 0 8 w)⟩,
   ⟨"ORR", 0x0FE00010, 0x01800000, 0x00000000, fun w => .orrReg (.ofBits (field 28 4 w)) (flag 20 w) (field 16 4 w) (field 12 4 w) (field 7 5 w) (.ofBits (field 5 2 w)) (field 0 4 w)⟩,
   ⟨"ORR", 0x0FE00090, 0x01800010, 0x00000000, fun w => .orrRegShift (.ofBits (field 28 4 w)) (flag 20 w) (field 16 4 w) (field 12 4 w) (field 8 4 w) (.ofBits (field 5 2 w)) (field 0 4 w)⟩,
   ⟨"BIC", 0x0FE00000, 0x03C00000, 0x00000000, fun w => .bicImm (.ofBits (field 28 4 w)) (flag 20 w) (field 16 4 w) (field 12 4 w) (field 8 4 w) (field 0 8 w)⟩,
   ⟨"BIC", 0x0FE00010, 0x01C00000, 0x00000000, fun w => .bicReg (.ofBits (field 28 4 w)) (flag 20 w) (field 16 4 w) (field 12 4 w) (field 7 5 w) (.ofBits (field 5 2 w)) (field 0 4 w)⟩,
   ⟨"BIC", 0x0FE00090, 0x01C00010, 0x00000000, fun w => .bicRegShift (.ofBits (field 28 4 w)) (flag 20 w) (field 16 4 w) (field 12 4 w) (field 8 4 w) (.ofBits (field 5 2 w)) (field 0 4 w)⟩,
   ⟨"CPY", 0x0FFF0FF0, 0x01A00000, 0x000F0000, fun w => .cpy (.ofBits (field 28 4 w)) (field 12 4 w) (field 0 4 w)⟩,
   ⟨"MOV", 0x0FEF0000, 0x03A00000, 0x000F0000, fun w => .movImm (.ofBits (field 28 4 w)) (flag 20 w) (field 12 4 w) (field 8 4 w) (field 0 8 w)⟩,
   ⟨"MOV", 0x0FEF0010, 0x01A00000, 0x000F0000, fun w => .movReg (.ofBits (field 28 4 w)) (flag 20 w) (field 12 4 w) (field 7 5 w) (.ofBits (field 5 2 w)) (field 0 4 w)⟩,
   ⟨"MOV", 0x0FEF0090, 0x01A00010, 0x000F0000, fun w => .movRegShift (.ofBits (field 28 4 w)) (flag 20 w) (field 12 4 w) (field 8 4 w) (.ofBits (field 5 2 w)) (field 0 4 w)⟩,
   ⟨"MVN", 0x0FEF0000, 0x03E00000, 0x000F0000, fun w => .mvnImm (.ofBits (field 28 4 w)) (flag 20 w) (field 12 4 w) (field 8 4 w) (field 0 8 w)⟩,
   ⟨"MVN", 0x0FEF0010, 0x01E00000, 0x000F0000, fun w => .mvnReg (.ofBits (field 28 4 w)) (flag 20 w) (field 12 4 w) (field 7 5 w) (.ofBits (field 5 2 w)) (field 0 4 w)⟩,
   ⟨"MVN", 0x0FEF0090, 0x01E00010, 0x000F0000, fun w => .mvnRegShift (.ofBits (field 28 4 w)) (flag 20 w) (field 12 4 w) (field 8 4 w) (.ofBits (field 5 2 w)) (field 0 4 w)⟩,
   ⟨"TST", 0x0FF0F000, 0x03100000, 0x0000F000, fun w => .tstImm (.ofBits (field 28 4 w)) (field 16 4 w) (field 8 4 w) (field 0 8 w)⟩,
   ⟨"TST", 0x0FF0F010, 0x01100000, 0x0000F000, fun w => .tstReg (.ofBits (field 28 4 w)) (field 16 4 w) (field 7 5 w) (.ofBits (field 5 2 w)) (field 0 4 w)⟩,
   ⟨"TST", 0x0FF0F090, 0x01100010, 0x0000F000, fun w => .tstRegShift (.ofBits (field 28 4 w)) (field 16 4 w) (field 8 4 w) (.ofBits (field 5 2 w)) (field 0 4 w)⟩,
   ⟨"TEQ", 0x0FF0F000, 0x03300000, 0x0000F000, fun w => .teqImm (.ofBits (field 28 4 w)) (field 16 4 w) (field 8 4 w) (field 0 8 w)⟩,
   ⟨"TEQ", 0x0FF0F010, 0x01300000, 0x0000F000, fun w => .teqReg (.ofBits (field 28 4 w)) (field 16 4 w) (field 7 5 w) (.ofBits (field 5 2 w)) (field 0 4 w)⟩,
   ⟨"TEQ", 0x0FF0F090, 0x01300010, 0x0000F000, fun w => .teqRegShift (.ofBits (field 28 4 w)) (field 16 4 w) (field 8 4 w) (.ofBits (field 5 2 w)) (field 0 4 w)⟩,
   ⟨"CMP", 0x0FF0F000, 0x03500000, 0x0000F000, fun w => .cmpImm (.ofBits (field 28 4 w)) (field 16 4 w) (field 8 4 w) (field 0 8 w)⟩,
   ⟨"CMP", 0x0FF0F010, 0x01500000, 0x0000F000, fun w => .cmpReg (.ofBits (field 28 4 w)) (field 16 4 w) (field 7 5 w) (.ofBits (field 5 2 w)) (field 0 4 w)⟩,
   ⟨"CMP", 0x0FF0F090, 0x01500010, 0x0000F000, fun w => .cmpRegShift (.ofBits (field 28 4 w)) (field 16 4 w) (field 8 4 w) (.ofBits (field 5 2 w)) (field 0 4 w)⟩,
   ⟨"CMN", 0x0FF0F000, 0x03700000, 0x0000F000, fun w => .cmnImm (.ofBits (field 28 4 w)) (field 16 4 w) (field 8 4 w) (field 0 8 w)⟩,
   ⟨"CMN", 0x0FF0F010, 0x01700000, 0x0000F000, fun w => .cmnReg (.ofBits (field 28 4 w)) (field 16 4 w) (field 7 5 w) (.ofBits (field 5 2 w)) (field 0 4 w)⟩,
   ⟨"CMN", 0x0FF0F090, 0x01700010, 0x0000F000, fun w => .cmnRegShift (.ofBits (field 28 4 w)) (field 16 4 w) (field 8 4 w) (.ofBits (field 5 2 w)) (field 0 4 w)⟩,
   ⟨"CLZ", 0x0FFF0FF0, 0x016F0F10, 0x000F0F00, fun w => .clz (.ofBits (field 28 4 w)) (field 12 4 w) (field 0 4 w)⟩]

/-- Multiplies and saturating arithmetic (30:R690, R691). -/
noncomputable def rowsMul : List (Row 32) :=
  [⟨"MUL", 0x0FE0F0F0, 0x00000090, 0x0000F000, fun w => .mul (.ofBits (field 28 4 w)) (flag 20 w) (field 16 4 w) (field 8 4 w) (field 0 4 w)⟩,
   ⟨"MLA", 0x0FE000F0, 0x00200090, 0x00000000, fun w => .mla (.ofBits (field 28 4 w)) (flag 20 w) (field 16 4 w) (field 12 4 w) (field 8 4 w) (field 0 4 w)⟩,
   ⟨"UMAAL", 0x0FF000F0, 0x00400090, 0x00000000, fun w => .umaal (.ofBits (field 28 4 w)) (field 16 4 w) (field 12 4 w) (field 8 4 w) (field 0 4 w)⟩,
   ⟨"UMULL", 0x0FE000F0, 0x00800090, 0x00000000, fun w => .umull (.ofBits (field 28 4 w)) (flag 20 w) (field 16 4 w) (field 12 4 w) (field 8 4 w) (field 0 4 w)⟩,
   ⟨"UMLAL", 0x0FE000F0, 0x00A00090, 0x00000000, fun w => .umlal (.ofBits (field 28 4 w)) (flag 20 w) (field 16 4 w) (field 12 4 w) (field 8 4 w) (field 0 4 w)⟩,
   ⟨"SMULL", 0x0FE000F0, 0x00C00090, 0x00000000, fun w => .smull (.ofBits (field 28 4 w)) (flag 20 w) (field 16 4 w) (field 12 4 w) (field 8 4 w) (field 0 4 w)⟩,
   ⟨"SMLAL", 0x0FE000F0, 0x00E00090, 0x00000000, fun w => .smlal (.ofBits (field 28 4 w)) (flag 20 w) (field 16 4 w) (field 12 4 w) (field 8 4 w) (field 0 4 w)⟩,
   ⟨"QADD", 0x0FF00FF0, 0x01000050, 0x00000F00, fun w => .qadd (.ofBits (field 28 4 w)) (field 16 4 w) (field 12 4 w) (field 0 4 w)⟩,
   ⟨"QSUB", 0x0FF00FF0, 0x01200050, 0x00000F00, fun w => .qsub (.ofBits (field 28 4 w)) (field 16 4 w) (field 12 4 w) (field 0 4 w)⟩,
   ⟨"QDADD", 0x0FF00FF0, 0x01400050, 0x00000F00, fun w => .qdadd (.ofBits (field 28 4 w)) (field 16 4 w) (field 12 4 w) (field 0 4 w)⟩,
   ⟨"QDSUB", 0x0FF00FF0, 0x01600050, 0x00000F00, fun w => .qdsub (.ofBits (field 28 4 w)) (field 16 4 w) (field 12 4 w) (field 0 4 w)⟩,
   ⟨"SMLAxy", 0x0FF00090, 0x01000080, 0x00000000, fun w => .smlaXY (.ofBits (field 28 4 w)) (field 16 4 w) (field 12 4 w) (field 8 4 w) (flag 6 w) (flag 5 w) (field 0 4 w)⟩,
   ⟨"SMLAWy", 0x0FF000B0, 0x01200080, 0x00000000, fun w => .smlaWY (.ofBits (field 28 4 w)) (field 16 4 w) (field 12 4 w) (field 8 4 w) (flag 6 w) (field 0 4 w)⟩,
   ⟨"SMULWy", 0x0FF0F0B0, 0x012000A0, 0x0000F000, fun w => .smulWY (.ofBits (field 28 4 w)) (field 16 4 w) (field 8 4 w) (flag 6 w) (field 0 4 w)⟩,
   ⟨"SMLALxy", 0x0FF00090, 0x01400080, 0x00000000, fun w => .smlalXY (.ofBits (field 28 4 w)) (field 16 4 w) (field 12 4 w) (field 8 4 w) (flag 6 w) (flag 5 w) (field 0 4 w)⟩,
   ⟨"SMULxy", 0x0FF0F090, 0x01600080, 0x0000F000, fun w => .smulXY (.ofBits (field 28 4 w)) (field 16 4 w) (field 8 4 w) (flag 6 w) (flag 5 w) (field 0 4 w)⟩]

/-- Media: parallel addition and subtraction of halfwords (30:R698). -/
noncomputable def rowsParA : List (Row 32) :=
  [⟨"SADD16", 0x0FF00FF0, 0x06100F10, 0x00000F00, fun w => .sadd16 (.ofBits (field 28 4 w)) (field 16 4 w) (field 12 4 w) (field 0 4 w)⟩,
   ⟨"QADD16", 0x0FF00FF0, 0x06200F10, 0x00000F00, fun w => .qadd16 (.ofBits (field 28 4 w)) (field 16 4 w) (field 12 4 w) (field 0 4 w)⟩,
   ⟨"SHADD16", 0x0FF00FF0, 0x06300F10, 0x00000F00, fun w => .shadd16 (.ofBits (field 28 4 w)) (field 16 4 w) (field 12 4 w) (field 0 4 w)⟩,
   ⟨"UADD16", 0x0FF00FF0, 0x06500F10, 0x00000F00, fun w => .uadd16 (.ofBits (field 28 4 w)) (field 16 4 w) (field 12 4 w) (field 0 4 w)⟩,
   ⟨"UQADD16", 0x0FF00FF0, 0x06600F10, 0x00000F00, fun w => .uqadd16 (.ofBits (field 28 4 w)) (field 16 4 w) (field 12 4 w) (field 0 4 w)⟩,
   ⟨"UHADD16", 0x0FF00FF0, 0x06700F10, 0x00000F00, fun w => .uhadd16 (.ofBits (field 28 4 w)) (field 16 4 w) (field 12 4 w) (field 0 4 w)⟩,
   ⟨"SADDSUBX", 0x0FF00FF0, 0x06100F30, 0x00000F00, fun w => .saddsubx (.ofBits (field 28 4 w)) (field 16 4 w) (field 12 4 w) (field 0 4 w)⟩,
   ⟨"QADDSUBX", 0x0FF00FF0, 0x06200F30, 0x00000F00, fun w => .qaddsubx (.ofBits (field 28 4 w)) (field 16 4 w) (field 12 4 w) (field 0 4 w)⟩,
   ⟨"SHADDSUBX", 0x0FF00FF0, 0x06300F30, 0x00000F00, fun w => .shaddsubx (.ofBits (field 28 4 w)) (field 16 4 w) (field 12 4 w) (field 0 4 w)⟩,
   ⟨"UADDSUBX", 0x0FF00FF0, 0x06500F30, 0x00000F00, fun w => .uaddsubx (.ofBits (field 28 4 w)) (field 16 4 w) (field 12 4 w) (field 0 4 w)⟩,
   ⟨"UQADDSUBX", 0x0FF00FF0, 0x06600F30, 0x00000F00, fun w => .uqaddsubx (.ofBits (field 28 4 w)) (field 16 4 w) (field 12 4 w) (field 0 4 w)⟩,
   ⟨"UHADDSUBX", 0x0FF00FF0, 0x06700F30, 0x00000F00, fun w => .uhaddsubx (.ofBits (field 28 4 w)) (field 16 4 w) (field 12 4 w) (field 0 4 w)⟩,
   ⟨"SSUBADDX", 0x0FF00FF0, 0x06100F50, 0x00000F00, fun w => .ssubaddx (.ofBits (field 28 4 w)) (field 16 4 w) (field 12 4 w) (field 0 4 w)⟩,
   ⟨"QSUBADDX", 0x0FF00FF0, 0x06200F50, 0x00000F00, fun w => .qsubaddx (.ofBits (field 28 4 w)) (field 16 4 w) (field 12 4 w) (field 0 4 w)⟩,
   ⟨"SHSUBADDX", 0x0FF00FF0, 0x06300F50, 0x00000F00, fun w => .shsubaddx (.ofBits (field 28 4 w)) (field 16 4 w) (field 12 4 w) (field 0 4 w)⟩,
   ⟨"USUBADDX", 0x0FF00FF0, 0x06500F50, 0x00000F00, fun w => .usubaddx (.ofBits (field 28 4 w)) (field 16 4 w) (field 12 4 w) (field 0 4 w)⟩,
   ⟨"UQSUBADDX", 0x0FF00FF0, 0x06600F50, 0x00000F00, fun w => .uqsubaddx (.ofBits (field 28 4 w)) (field 16 4 w) (field 12 4 w) (field 0 4 w)⟩,
   ⟨"UHSUBADDX", 0x0FF00FF0, 0x06700F50, 0x00000F00, fun w => .uhsubaddx (.ofBits (field 28 4 w)) (field 16 4 w) (field 12 4 w) (field 0 4 w)⟩,
   ⟨"SSUB16", 0x0FF00FF0, 0x06100F70, 0x00000F00, fun w => .ssub16 (.ofBits (field 28 4 w)) (field 16 4 w) (field 12 4 w) (field 0 4 w)⟩,
   ⟨"QSUB16", 0x0FF00FF0, 0x06200F70, 0x00000F00, fun w => .qsub16 (.ofBits (field 28 4 w)) (field 16 4 w) (field 12 4 w) (field 0 4 w)⟩,
   ⟨"SHSUB16", 0x0FF00FF0, 0x06300F70, 0x00000F00, fun w => .shsub16 (.ofBits (field 28 4 w)) (field 16 4 w) (field 12 4 w) (field 0 4 w)⟩,
   ⟨"USUB16", 0x0FF00FF0, 0x06500F70, 0x00000F00, fun w => .usub16 (.ofBits (field 28 4 w)) (field 16 4 w) (field 12 4 w) (field 0 4 w)⟩,
   ⟨"UQSUB16", 0x0FF00FF0, 0x06600F70, 0x00000F00, fun w => .uqsub16 (.ofBits (field 28 4 w)) (field 16 4 w) (field 12 4 w) (field 0 4 w)⟩,
   ⟨"UHSUB16", 0x0FF00FF0, 0x06700F70, 0x00000F00, fun w => .uhsub16 (.ofBits (field 28 4 w)) (field 16 4 w) (field 12 4 w) (field 0 4 w)⟩]

/-- Media: parallel addition and subtraction of bytes (30:R698). -/
noncomputable def rowsParB : List (Row 32) :=
  [⟨"SADD8", 0x0FF00FF0, 0x06100F90, 0x00000F00, fun w => .sadd8 (.ofBits (field 28 4 w)) (field 16 4 w) (field 12 4 w) (field 0 4 w)⟩,
   ⟨"QADD8", 0x0FF00FF0, 0x06200F90, 0x00000F00, fun w => .qadd8 (.ofBits (field 28 4 w)) (field 16 4 w) (field 12 4 w) (field 0 4 w)⟩,
   ⟨"SHADD8", 0x0FF00FF0, 0x06300F90, 0x00000F00, fun w => .shadd8 (.ofBits (field 28 4 w)) (field 16 4 w) (field 12 4 w) (field 0 4 w)⟩,
   ⟨"UADD8", 0x0FF00FF0, 0x06500F90, 0x00000F00, fun w => .uadd8 (.ofBits (field 28 4 w)) (field 16 4 w) (field 12 4 w) (field 0 4 w)⟩,
   ⟨"UQADD8", 0x0FF00FF0, 0x06600F90, 0x00000F00, fun w => .uqadd8 (.ofBits (field 28 4 w)) (field 16 4 w) (field 12 4 w) (field 0 4 w)⟩,
   ⟨"UHADD8", 0x0FF00FF0, 0x06700F90, 0x00000F00, fun w => .uhadd8 (.ofBits (field 28 4 w)) (field 16 4 w) (field 12 4 w) (field 0 4 w)⟩,
   ⟨"SSUB8", 0x0FF00FF0, 0x06100FF0, 0x00000F00, fun w => .ssub8 (.ofBits (field 28 4 w)) (field 16 4 w) (field 12 4 w) (field 0 4 w)⟩,
   ⟨"QSUB8", 0x0FF00FF0, 0x06200FF0, 0x00000F00, fun w => .qsub8 (.ofBits (field 28 4 w)) (field 16 4 w) (field 12 4 w) (field 0 4 w)⟩,
   ⟨"SHSUB8", 0x0FF00FF0, 0x06300FF0, 0x00000F00, fun w => .shsub8 (.ofBits (field 28 4 w)) (field 16 4 w) (field 12 4 w) (field 0 4 w)⟩,
   ⟨"USUB8", 0x0FF00FF0, 0x06500FF0, 0x00000F00, fun w => .usub8 (.ofBits (field 28 4 w)) (field 16 4 w) (field 12 4 w) (field 0 4 w)⟩,
   ⟨"UQSUB8", 0x0FF00FF0, 0x06600FF0, 0x00000F00, fun w => .uqsub8 (.ofBits (field 28 4 w)) (field 16 4 w) (field 12 4 w) (field 0 4 w)⟩,
   ⟨"UHSUB8", 0x0FF00FF0, 0x06700FF0, 0x00000F00, fun w => .uhsub8 (.ofBits (field 28 4 w)) (field 16 4 w) (field 12 4 w) (field 0 4 w)⟩]

/-- Media: sums of differences, extends, dual multiplies (30:R698). -/
noncomputable def rowsExt : List (Row 32) :=
  [⟨"USAD8", 0x0FF0F0F0, 0x0780F010, 0x00000000, fun w => .usad8 (.ofBits (field 28 4 w)) (field 16 4 w) (field 8 4 w) (field 0 4 w)⟩,
   ⟨"USADA8", 0x0FF000F0, 0x07800010, 0x00000000, fun w => .usada8 (.ofBits (field 28 4 w)) (field 16 4 w) (field 12 4 w) (field 8 4 w) (field 0 4 w)⟩,
   ⟨"SXTB16", 0x0FFF03F0, 0x068F0070, 0x00000300, fun w => .sxtb16 (.ofBits (field 28 4 w)) (field 12 4 w) (field 10 2 w) (field 0 4 w)⟩,
   ⟨"SXTAB16", 0x0FF003F0, 0x06800070, 0x00000300, fun w => .sxtab16 (.ofBits (field 28 4 w)) (field 16 4 w) (field 12 4 w) (field 10 2 w) (field 0 4 w)⟩,
   ⟨"SXTB", 0x0FFF03F0, 0x06AF0070, 0x00000300, fun w => .sxtb (.ofBits (field 28 4 w)) (field 12 4 w) (field 10 2 w) (field 0 4 w)⟩,
   ⟨"SXTAB", 0x0FF003F0, 0x06A00070, 0x00000300, fun w => .sxtab (.ofBits (field 28 4 w)) (field 16 4 w) (field 12 4 w) (field 10 2 w) (field 0 4 w)⟩,
   ⟨"SXTH", 0x0FFF03F0, 0x06BF0070, 0x00000300, fun w => .sxth (.ofBits (field 28 4 w)) (field 12 4 w) (field 10 2 w) (field 0 4 w)⟩,
   ⟨"SXTAH", 0x0FF003F0, 0x06B00070, 0x00000300, fun w => .sxtah (.ofBits (field 28 4 w)) (field 16 4 w) (field 12 4 w) (field 10 2 w) (field 0 4 w)⟩,
   ⟨"UXTB16", 0x0FFF03F0, 0x06CF0070, 0x00000300, fun w => .uxtb16 (.ofBits (field 28 4 w)) (field 12 4 w) (field 10 2 w) (field 0 4 w)⟩,
   ⟨"UXTAB16", 0x0FF003F0, 0x06C00070, 0x00000300, fun w => .uxtab16 (.ofBits (field 28 4 w)) (field 16 4 w) (field 12 4 w) (field 10 2 w) (field 0 4 w)⟩,
   ⟨"UXTB", 0x0FFF03F0, 0x06EF0070, 0x00000300, fun w => .uxtb (.ofBits (field 28 4 w)) (field 12 4 w) (field 10 2 w) (field 0 4 w)⟩,
   ⟨"UXTAB", 0x0FF003F0, 0x06E00070, 0x00000300, fun w => .uxtab (.ofBits (field 28 4 w)) (field 16 4 w) (field 12 4 w) (field 10 2 w) (field 0 4 w)⟩,
   ⟨"UXTH", 0x0FFF03F0, 0x06FF0070, 0x00000300, fun w => .uxth (.ofBits (field 28 4 w)) (field 12 4 w) (field 10 2 w) (field 0 4 w)⟩,
   ⟨"UXTAH", 0x0FF003F0, 0x06F00070, 0x00000300, fun w => .uxtah (.ofBits (field 28 4 w)) (field 16 4 w) (field 12 4 w) (field 10 2 w) (field 0 4 w)⟩,
   ⟨"SMUAD", 0x0FF0F0F0, 0x0700F010, 0x00000000, fun w => .smuad (.ofBits (field 28 4 w)) (field 16 4 w) (field 8 4 w) (field 0 4 w)⟩,
   ⟨"SMUADX", 0x0FF0F0F0, 0x0700F030, 0x00000000, fun w => .smuadx (.ofBits (field 28 4 w)) (field 16 4 w) (field 8 4 w) (field 0 4 w)⟩,
   ⟨"SMUSD", 0x0FF0F0F0, 0x0700F050, 0x00000000, fun w => .smusd (.ofBits (field 28 4 w)) (field 16 4 w) (field 8 4 w) (field 0 4 w)⟩,
   ⟨"SMUSDX", 0x0FF0F0F0, 0x0700F070, 0x00000000, fun w => .smusdx (.ofBits (field 28 4 w)) (field 16 4 w) (field 8 4 w) (field 0 4 w)⟩,
   ⟨"SMLAD", 0x0FF000F0, 0x07000010, 0x00000000, fun w => .smlad (.ofBits (field 28 4 w)) (field 16 4 w) (field 12 4 w) (field 8 4 w) (field 0 4 w)⟩,
   ⟨"SMLADX", 0x0FF000F0, 0x07000030, 0x00000000, fun w => .smladx (.ofBits (field 28 4 w)) (field 16 4 w) (field 12 4 w) (field 8 4 w) (field 0 4 w)⟩,
   ⟨"SMLSD", 0x0FF000F0, 0x07000050, 0x00000000, fun w => .smlsd (.ofBits (field 28 4 w)) (field 16 4 w) (field 12 4 w) (field 8 4 w) (field 0 4 w)⟩,
   ⟨"SMLSDX", 0x0FF000F0, 0x07000070, 0x00000000, fun w => .smlsdx (.ofBits (field 28 4 w)) (field 16 4 w) (field 12 4 w) (field 8 4 w) (field 0 4 w)⟩,
   ⟨"SMLALD", 0x0FF000F0, 0x07400010, 0x00000000, fun w => .smlald (.ofBits (field 28 4 w)) (field 16 4 w) (field 12 4 w) (field 8 4 w) (field 0 4 w)⟩,
   ⟨"SMLALDX", 0x0FF000F0, 0x07400030, 0x00000000, fun w => .smlaldx (.ofBits (field 28 4 w)) (field 16 4 w) (field 12 4 w) (field 8 4 w) (field 0 4 w)⟩,
   ⟨"SMLSLD", 0x0FF000F0, 0x07400050, 0x00000000, fun w => .smlsld (.ofBits (field 28 4 w)) (field 16 4 w) (field 12 4 w) (field 8 4 w) (field 0 4 w)⟩,
   ⟨"SMLSLDX", 0x0FF000F0, 0x07400070, 0x00000000, fun w => .smlsldx (.ofBits (field 28 4 w)) (field 16 4 w) (field 12 4 w) (field 8 4 w) (field 0 4 w)⟩,
   ⟨"SMMUL", 0x0FF0F0F0, 0x0750F010, 0x00000000, fun w => .smmul (.ofBits (field 28 4 w)) (field 16 4 w) (field 8 4 w) (field 0 4 w)⟩,
   ⟨"SMMULR", 0x0FF0F0F0, 0x0750F030, 0x00000000, fun w => .smmulr (.ofBits (field 28 4 w)) (field 16 4 w) (field 8 4 w) (field 0 4 w)⟩,
   ⟨"SMMLA", 0x0FF000F0, 0x07500010, 0x00000000, fun w => .smmla (.ofBits (field 28 4 w)) (field 16 4 w) (field 12 4 w) (field 8 4 w) (field 0 4 w)⟩,
   ⟨"SMMLAR", 0x0FF000F0, 0x07500030, 0x00000000, fun w => .smmlar (.ofBits (field 28 4 w)) (field 16 4 w) (field 12 4 w) (field 8 4 w) (field 0 4 w)⟩,
   ⟨"SMMLS", 0x0FF000F0, 0x075000D0, 0x00000000, fun w => .smmls (.ofBits (field 28 4 w)) (field 16 4 w) (field 12 4 w) (field 8 4 w) (field 0 4 w)⟩,
   ⟨"SMMLSR", 0x0FF000F0, 0x075000F0, 0x00000000, fun w => .smmlsr (.ofBits (field 28 4 w)) (field 16 4 w) (field 12 4 w) (field 8 4 w) (field 0 4 w)⟩]

/-- Media: saturation, packing, reversal (30:R698). -/
noncomputable def rowsSat : List (Row 32) :=
  [⟨"SSAT", 0x0FE00030, 0x06A00010, 0x00000000, fun w => .ssat (.ofBits (field 28 4 w)) (field 16 5 w) (field 12 4 w) (field 7 5 w) (flag 6 w) (field 0 4 w)⟩,
   ⟨"USAT", 0x0FE00030, 0x06E00010, 0x00000000, fun w => .usat (.ofBits (field 28 4 w)) (field 16 5 w) (field 12 4 w) (field 7 5 w) (flag 6 w) (field 0 4 w)⟩,
   ⟨"SSAT16", 0x0FF00FF0, 0x06A00F30, 0x00000F00, fun w => .ssat16 (.ofBits (field 28 4 w)) (field 16 4 w) (field 12 4 w) (field 0 4 w)⟩,
   ⟨"USAT16", 0x0FF00FF0, 0x06E00F30, 0x00000F00, fun w => .usat16 (.ofBits (field 28 4 w)) (field 16 4 w) (field 12 4 w) (field 0 4 w)⟩,
   ⟨"SEL", 0x0FF00FF0, 0x06800FB0, 0x00000F00, fun w => .sel (.ofBits (field 28 4 w)) (field 16 4 w) (field 12 4 w) (field 0 4 w)⟩,
   ⟨"PKHBT", 0x0FF00070, 0x06800010, 0x00000000, fun w => .pkhbt (.ofBits (field 28 4 w)) (field 16 4 w) (field 12 4 w) (field 7 5 w) (field 0 4 w)⟩,
   ⟨"PKHTB", 0x0FF00070, 0x06800050, 0x00000000, fun w => .pkhtb (.ofBits (field 28 4 w)) (field 16 4 w) (field 12 4 w) (field 7 5 w) (field 0 4 w)⟩,
   ⟨"REV", 0x0FFF0FF0, 0x06BF0F30, 0x000F0F00, fun w => .rev (.ofBits (field 28 4 w)) (field 12 4 w) (field 0 4 w)⟩,
   ⟨"REV16", 0x0FFF0FF0, 0x06BF0FB0, 0x000F0F00, fun w => .rev16 (.ofBits (field 28 4 w)) (field 12 4 w) (field 0 4 w)⟩,
   ⟨"REVSH", 0x0FFF0FF0, 0x06FF0FB0, 0x000F0F00, fun w => .revsh (.ofBits (field 28 4 w)) (field 12 4 w) (field 0 4 w)⟩]

/-- Load and store of words and bytes (30:R692, R693). -/
noncomputable def rowsLdrA : List (Row 32) :=
  [⟨"LDRT", 0x0F700000, 0x04300000, 0x00000000, fun w => .ldrtImm (.ofBits (field 28 4 w)) (flag 23 w) (field 16 4 w) (field 12 4 w) (field 0 12 w)⟩,
   ⟨"LDRT", 0x0F700010, 0x06300000, 0x00000000, fun w => .ldrtReg (.ofBits (field 28 4 w)) (flag 23 w) (field 16 4 w) (field 12 4 w) (field 7 5 w) (.ofBits (field 5 2 w)) (field 0 4 w)⟩,
   ⟨"LDRBT", 0x0F700000, 0x04700000, 0x00000000, fun w => .ldrbtImm (.ofBits (field 28 4 w)) (flag 23 w) (field 16 4 w) (field 12 4 w) (field 0 12 w)⟩,
   ⟨"LDRBT", 0x0F700010, 0x06700000, 0x00000000, fun w => .ldrbtReg (.ofBits (field 28 4 w)) (flag 23 w) (field 16 4 w) (field 12 4 w) (field 7 5 w) (.ofBits (field 5 2 w)) (field 0 4 w)⟩,
   ⟨"STRT", 0x0F700000, 0x04200000, 0x00000000, fun w => .strtImm (.ofBits (field 28 4 w)) (flag 23 w) (field 16 4 w) (field 12 4 w) (field 0 12 w)⟩,
   ⟨"STRT", 0x0F700010, 0x06200000, 0x00000000, fun w => .strtReg (.ofBits (field 28 4 w)) (flag 23 w) (field 16 4 w) (field 12 4 w) (field 7 5 w) (.ofBits (field 5 2 w)) (field 0 4 w)⟩,
   ⟨"STRBT", 0x0F700000, 0x04600000, 0x00000000, fun w => .strbtImm (.ofBits (field 28 4 w)) (flag 23 w) (field 16 4 w) (field 12 4 w) (field 0 12 w)⟩,
   ⟨"STRBT", 0x0F700010, 0x06600000, 0x00000000, fun w => .strbtReg (.ofBits (field 28 4 w)) (flag 23 w) (field 16 4 w) (field 12 4 w) (field 7 5 w) (.ofBits (field 5 2 w)) (field 0 4 w)⟩,
   ⟨"LDR", 0x0E500000, 0x04100000, 0x00000000, fun w => .ldrImm (.ofBits (field 28 4 w)) (flag 24 w) (flag 23 w) (flag 21 w) (field 16 4 w) (field 12 4 w) (field 0 12 w)⟩,
   ⟨"LDR", 0x0E500010, 0x06100000, 0x00000000, fun w => .ldrReg (.ofBits (field 28 4 w)) (flag 24 w) (flag 23 w) (flag 21 w) (field 16 4 w) (field 12 4 w) (field 7 5 w) (.ofBits (field 5 2 w)) (field 0 4 w)⟩,
   ⟨"LDRB", 0x0E500000, 0x04500000, 0x00000000, fun w => .ldrbImm (.ofBits (field 28 4 w)) (flag 24 w) (flag 23 w) (flag 21 w) (field 16 4 w) (field 12 4 w) (field 0 12 w)⟩,
   ⟨"LDRB", 0x0E500010, 0x06500000, 0x00000000, fun w => .ldrbReg (.ofBits (field 28 4 w)) (flag 24 w) (flag 23 w) (flag 21 w) (field 16 4 w) (field 12 4 w) (field 7 5 w) (.ofBits (field 5 2 w)) (field 0 4 w)⟩,
   ⟨"STR", 0x0E500000, 0x04000000, 0x00000000, fun w => .strImm (.ofBits (field 28 4 w)) (flag 24 w) (flag 23 w) (flag 21 w) (field 16 4 w) (field 12 4 w) (field 0 12 w)⟩,
   ⟨"STR", 0x0E500010, 0x06000000, 0x00000000, fun w => .strReg (.ofBits (field 28 4 w)) (flag 24 w) (flag 23 w) (flag 21 w) (field 16 4 w) (field 12 4 w) (field 7 5 w) (.ofBits (field 5 2 w)) (field 0 4 w)⟩,
   ⟨"STRB", 0x0E500000, 0x04400000, 0x00000000, fun w => .strbImm (.ofBits (field 28 4 w)) (flag 24 w) (flag 23 w) (flag 21 w) (field 16 4 w) (field 12 4 w) (field 0 12 w)⟩,
   ⟨"STRB", 0x0E500010, 0x06400000, 0x00000000, fun w => .strbReg (.ofBits (field 28 4 w)) (flag 24 w) (flag 23 w) (flag 21 w) (field 16 4 w) (field 12 4 w) (field 7 5 w) (.ofBits (field 5 2 w)) (field 0 4 w)⟩]

/-- Load and store of halfwords and doublewords (30:R694). -/
noncomputable def rowsLdrB : List (Row 32) :=
  [⟨"STRH", 0x0E5000F0, 0x004000B0, 0x00000000, fun w => .strhImm (.ofBits (field 28 4 w)) (flag 24 w) (flag 23 w) (flag 21 w) (field 16 4 w) (field 12 4 w) (field 8 4 w) (field 0 4 w)⟩,
   ⟨"STRH", 0x0E500FF0, 0x000000B0, 0x00000F00, fun w => .strhReg (.ofBits (field 28 4 w)) (flag 24 w) (flag 23 w) (flag 21 w) (field 16 4 w) (field 12 4 w) (field 0 4 w)⟩,
   ⟨"LDRD", 0x0E5000F0, 0x004000D0, 0x00000000, fun w => .ldrdImm (.ofBits (field 28 4 w)) (flag 24 w) (flag 23 w) (flag 21 w) (field 16 4 w) (field 12 4 w) (field 8 4 w) (field 0 4 w)⟩,
   ⟨"LDRD", 0x0E500FF0, 0x000000D0, 0x00000F00, fun w => .ldrdReg (.ofBits (field 28 4 w)) (flag 24 w) (flag 23 w) (flag 21 w) (field 16 4 w) (field 12 4 w) (field 0 4 w)⟩,
   ⟨"STRD", 0x0E5000F0, 0x004000F0, 0x00000000, fun w => .strdImm (.ofBits (field 28 4 w)) (flag 24 w) (flag 23 w) (flag 21 w) (field 16 4 w) (field 12 4 w) (field 8 4 w) (field 0 4 w)⟩,
   ⟨"STRD", 0x0E500FF0, 0x000000F0, 0x00000F00, fun w => .strdReg (.ofBits (field 28 4 w)) (flag 24 w) (flag 23 w) (flag 21 w) (field 16 4 w) (field 12 4 w) (field 0 4 w)⟩,
   ⟨"LDRH", 0x0E5000F0, 0x005000B0, 0x00000000, fun w => .ldrhImm (.ofBits (field 28 4 w)) (flag 24 w) (flag 23 w) (flag 21 w) (field 16 4 w) (field 12 4 w) (field 8 4 w) (field 0 4 w)⟩,
   ⟨"LDRH", 0x0E500FF0, 0x001000B0, 0x00000F00, fun w => .ldrhReg (.ofBits (field 28 4 w)) (flag 24 w) (flag 23 w) (flag 21 w) (field 16 4 w) (field 12 4 w) (field 0 4 w)⟩,
   ⟨"LDRSB", 0x0E5000F0, 0x005000D0, 0x00000000, fun w => .ldrsbImm (.ofBits (field 28 4 w)) (flag 24 w) (flag 23 w) (flag 21 w) (field 16 4 w) (field 12 4 w) (field 8 4 w) (field 0 4 w)⟩,
   ⟨"LDRSB", 0x0E500FF0, 0x001000D0, 0x00000F00, fun w => .ldrsbReg (.ofBits (field 28 4 w)) (flag 24 w) (flag 23 w) (flag 21 w) (field 16 4 w) (field 12 4 w) (field 0 4 w)⟩,
   ⟨"LDRSH", 0x0E5000F0, 0x005000F0, 0x00000000, fun w => .ldrshImm (.ofBits (field 28 4 w)) (flag 24 w) (flag 23 w) (flag 21 w) (field 16 4 w) (field 12 4 w) (field 8 4 w) (field 0 4 w)⟩,
   ⟨"LDRSH", 0x0E500FF0, 0x001000F0, 0x00000F00, fun w => .ldrshReg (.ofBits (field 28 4 w)) (flag 24 w) (flag 23 w) (flag 21 w) (field 16 4 w) (field 12 4 w) (field 0 4 w)⟩]

/-- Load and store multiple, swap and exclusives (30:R695, R690). -/
noncomputable def rowsLdm : List (Row 32) :=
  [⟨"LDM__1", 0x0E500000, 0x08100000, 0x00000000, fun w => .ldm1 (.ofBits (field 28 4 w)) (flag 24 w) (flag 23 w) (flag 21 w) (field 16 4 w) (field 0 16 w)⟩,
   ⟨"LDM__2", 0x0E708000, 0x08500000, 0x00200000, fun w => .ldm2 (.ofBits (field 28 4 w)) (flag 24 w) (flag 23 w) (field 16 4 w) (field 0 15 w)⟩,
   ⟨"LDM__3", 0x0E508000, 0x08508000, 0x00000000, fun w => .ldm3 (.ofBits (field 28 4 w)) (flag 24 w) (flag 23 w) (flag 21 w) (field 16 4 w) (field 0 15 w)⟩,
   ⟨"STM__1", 0x0E500000, 0x08000000, 0x00000000, fun w => .stm1 (.ofBits (field 28 4 w)) (flag 24 w) (flag 23 w) (flag 21 w) (field 16 4 w) (field 0 16 w)⟩,
   ⟨"STM__2", 0x0E700000, 0x08400000, 0x00200000, fun w => .stm2 (.ofBits (field 28 4 w)) (flag 24 w) (flag 23 w) (field 16 4 w) (field 0 16 w)⟩,
   ⟨"SWP", 0x0FF00FF0, 0x01000090, 0x00000F00, fun w => .swp (.ofBits (field 28 4 w)) (field 16 4 w) (field 12 4 w) (field 0 4 w)⟩,
   ⟨"SWPB", 0x0FF00FF0, 0x01400090, 0x00000F00, fun w => .swpb (.ofBits (field 28 4 w)) (field 16 4 w) (field 12 4 w) (field 0 4 w)⟩,
   ⟨"STREX", 0x0FF00FF0, 0x01800F90, 0x00000F00, fun w => .strex (.ofBits (field 28 4 w)) (field 16 4 w) (field 12 4 w) (field 0 4 w)⟩,
   ⟨"LDREX", 0x0FF00FFF, 0x01900F9F, 0x00000F0F, fun w => .ldrex (.ofBits (field 28 4 w)) (field 16 4 w) (field 12 4 w)⟩,
   ⟨"STREXD", 0x0FF00FF0, 0x01A00F90, 0x00000F00, fun w => .strexd (.ofBits (field 28 4 w)) (field 16 4 w) (field 12 4 w) (field 0 4 w)⟩,
   ⟨"LDREXD", 0x0FF00FFF, 0x01B00F9F, 0x00000F0F, fun w => .ldrexd (.ofBits (field 28 4 w)) (field 16 4 w) (field 12 4 w)⟩,
   ⟨"STREXB", 0x0FF00FF0, 0x01C00F90, 0x00000F00, fun w => .strexb (.ofBits (field 28 4 w)) (field 16 4 w) (field 12 4 w) (field 0 4 w)⟩,
   ⟨"LDREXB", 0x0FF00FFF, 0x01D00F9F, 0x00000F0F, fun w => .ldrexb (.ofBits (field 28 4 w)) (field 16 4 w) (field 12 4 w)⟩,
   ⟨"STREXH", 0x0FF00FF0, 0x01E00F90, 0x00000F00, fun w => .strexh (.ofBits (field 28 4 w)) (field 16 4 w) (field 12 4 w) (field 0 4 w)⟩,
   ⟨"LDREXH", 0x0FF00FFF, 0x01F00F9F, 0x00000F0F, fun w => .ldrexh (.ofBits (field 28 4 w)) (field 16 4 w) (field 12 4 w)⟩]

/-- Status register, branch and exception-generating rows (30:R691, R696). -/
noncomputable def rowsSys : List (Row 32) :=
  [⟨"MRS", 0x0FBF0FFF, 0x010F0000, 0x000F0F0F, fun w => .mrs (.ofBits (field 28 4 w)) (flag 22 w) (field 12 4 w)⟩,
   ⟨"MSR", 0x0FB0FFF0, 0x0120F000, 0x0000FF00, fun w => .msrReg (.ofBits (field 28 4 w)) (flag 22 w) (field 16 4 w) (field 0 4 w)⟩,
   ⟨"NOP", 0x0FFFFF00, 0x0320F000, 0x0000F000, fun w => .nop (.ofBits (field 28 4 w)) (field 0 8 w)⟩,
   ⟨"MSR", 0x0FB0F000, 0x0320F000, 0x0000F000, fun w => .msrImm (.ofBits (field 28 4 w)) (flag 22 w) (field 16 4 w) (field 8 4 w) (field 0 8 w)⟩,
   ⟨"B", 0x0F000000, 0x0A000000, 0x00000000, fun w => .b (.ofBits (field 28 4 w)) (field 0 24 w)⟩,
   ⟨"BL", 0x0F000000, 0x0B000000, 0x00000000, fun w => .bl (.ofBits (field 28 4 w)) (field 0 24 w)⟩,
   ⟨"BX", 0x0FFFFFF0, 0x012FFF10, 0x000FFF00, fun w => .bx (.ofBits (field 28 4 w)) (field 0 4 w)⟩,
   ⟨"BXJ", 0x0FFFFFF0, 0x012FFF20, 0x000FFF00, fun w => .bxj (.ofBits (field 28 4 w)) (field 0 4 w)⟩,
   ⟨"BLX__2", 0x0FFFFFF0, 0x012FFF30, 0x000FFF00, fun w => .blx2 (.ofBits (field 28 4 w)) (field 0 4 w)⟩,
   ⟨"BKPT", 0xFFF000F0, 0xE1200070, 0xF0000000, fun w => .bkpt (field 8 12 w) (field 0 4 w)⟩,
   ⟨"SMC", 0x0FF000F0, 0x01600070, 0x00000000, fun w => .smc (.ofBits (field 28 4 w)) (field 8 12 w) (field 0 4 w)⟩,
   ⟨"SVC", 0x0F000000, 0x0F000000, 0x00000000, fun w => .svc (.ofBits (field 28 4 w)) (field 0 24 w)⟩,
   ⟨"UNDEFINED", 0x0FF000F0, 0x07F000F0, 0x00000000, fun w => .undefArch (.ofBits (field 28 4 w)) (field 8 12 w) (field 0 4 w)⟩]

/-- VFP data processing (49). -/
noncomputable def rowsVfpA : List (Row 32) :=
  [⟨"FMACS", 0x0FB00F50, 0x0E000A00, 0x00000000, fun w => .fmacs (.ofBits (field 28 4 w)) (flag 22 w) (field 16 4 w) (field 12 4 w) (flag 7 w) (flag 5 w) (field 0 4 w)⟩,
   ⟨"FMACD", 0x0FF00FF0, 0x0E000B00, 0x00000000, fun w => .fmacd (.ofBits (field 28 4 w)) (field 16 4 w) (field 12 4 w) (field 0 4 w)⟩,
   ⟨"FNMACS", 0x0FB00F50, 0x0E000A40, 0x00000000, fun w => .fnmacs (.ofBits (field 28 4 w)) (flag 22 w) (field 16 4 w) (field 12 4 w) (flag 7 w) (flag 5 w) (field 0 4 w)⟩,
   ⟨"FNMACD", 0x0FF00FF0, 0x0E000B40, 0x00000000, fun w => .fnmacd (.ofBits (field 28 4 w)) (field 16 4 w) (field 12 4 w) (field 0 4 w)⟩,
   ⟨"FMSCS", 0x0FB00F50, 0x0E100A00, 0x00000000, fun w => .fmscs (.ofBits (field 28 4 w)) (flag 22 w) (field 16 4 w) (field 12 4 w) (flag 7 w) (flag 5 w) (field 0 4 w)⟩,
   ⟨"FMSCD", 0x0FF00FF0, 0x0E100B00, 0x00000000, fun w => .fmscd (.ofBits (field 28 4 w)) (field 16 4 w) (field 12 4 w) (field 0 4 w)⟩,
   ⟨"FNMSCS", 0x0FB00F50, 0x0E100A40, 0x00000000, fun w => .fnmscs (.ofBits (field 28 4 w)) (flag 22 w) (field 16 4 w) (field 12 4 w) (flag 7 w) (flag 5 w) (field 0 4 w)⟩,
   ⟨"FNMSCD", 0x0FF00FF0, 0x0E100B40, 0x00000000, fun w => .fnmscd (.ofBits (field 28 4 w)) (field 16 4 w) (field 12 4 w) (field 0 4 w)⟩,
   ⟨"FMULS", 0x0FB00F50, 0x0E200A00, 0x00000000, fun w => .fmuls (.ofBits (field 28 4 w)) (flag 22 w) (field 16 4 w) (field 12 4 w) (flag 7 w) (flag 5 w) (field 0 4 w)⟩,
   ⟨"FMULD", 0x0FF00FF0, 0x0E200B00, 0x00000000, fun w => .fmuld (.ofBits (field 28 4 w)) (field 16 4 w) (field 12 4 w) (field 0 4 w)⟩,
   ⟨"FNMULS", 0x0FB00F50, 0x0E200A40, 0x00000000, fun w => .fnmuls (.ofBits (field 28 4 w)) (flag 22 w) (field 16 4 w) (field 12 4 w) (flag 7 w) (flag 5 w) (field 0 4 w)⟩,
   ⟨"FNMULD", 0x0FF00FF0, 0x0E200B40, 0x00000000, fun w => .fnmuld (.ofBits (field 28 4 w)) (field 16 4 w) (field 12 4 w) (field 0 4 w)⟩,
   ⟨"FADDS", 0x0FB00F50, 0x0E300A00, 0x00000000, fun w => .fadds (.ofBits (field 28 4 w)) (flag 22 w) (field 16 4 w) (field 12 4 w) (flag 7 w) (flag 5 w) (field 0 4 w)⟩,
   ⟨"FADDD", 0x0FF00FF0, 0x0E300B00, 0x00000000, fun w => .faddd (.ofBits (field 28 4 w)) (field 16 4 w) (field 12 4 w) (field 0 4 w)⟩,
   ⟨"FSUBS", 0x0FB00F50, 0x0E300A40, 0x00000000, fun w => .fsubs (.ofBits (field 28 4 w)) (flag 22 w) (field 16 4 w) (field 12 4 w) (flag 7 w) (flag 5 w) (field 0 4 w)⟩,
   ⟨"FSUBD", 0x0FF00FF0, 0x0E300B40, 0x00000000, fun w => .fsubd (.ofBits (field 28 4 w)) (field 16 4 w) (field 12 4 w) (field 0 4 w)⟩,
   ⟨"FDIVS", 0x0FB00F50, 0x0E800A00, 0x00000000, fun w => .fdivs (.ofBits (field 28 4 w)) (flag 22 w) (field 16 4 w) (field 12 4 w) (flag 7 w) (flag 5 w) (field 0 4 w)⟩,
   ⟨"FDIVD", 0x0FF00FF0, 0x0E800B00, 0x00000000, fun w => .fdivd (.ofBits (field 28 4 w)) (field 16 4 w) (field 12 4 w) (field 0 4 w)⟩]

/-- VFP extension operations (49). -/
noncomputable def rowsVfpB : List (Row 32) :=
  [⟨"FCPYS", 0x0FBF0FD0, 0x0EB00A40, 0x00000000, fun w => .fcpys (.ofBits (field 28 4 w)) (flag 22 w) (field 12 4 w) (flag 5 w) (field 0 4 w)⟩,
   ⟨"FCPYD", 0x0FFF0FF0, 0x0EB00B40, 0x00000000, fun w => .fcpyd (.ofBits (field 28 4 w)) (field 12 4 w) (field 0 4 w)⟩,
   ⟨"FABSS", 0x0FBF0FD0, 0x0EB00AC0, 0x00000000, fun w => .fabss (.ofBits (field 28 4 w)) (flag 22 w) (field 12 4 w) (flag 5 w) (field 0 4 w)⟩,
   ⟨"FABSD", 0x0FFF0FF0, 0x0EB00BC0, 0x00000000, fun w => .fabsd (.ofBits (field 28 4 w)) (field 12 4 w) (field 0 4 w)⟩,
   ⟨"FNEGS", 0x0FBF0FD0, 0x0EB10A40, 0x00000000, fun w => .fnegs (.ofBits (field 28 4 w)) (flag 22 w) (field 12 4 w) (flag 5 w) (field 0 4 w)⟩,
   ⟨"FNEGD", 0x0FFF0FF0, 0x0EB10B40, 0x00000000, fun w => .fnegd (.ofBits (field 28 4 w)) (field 12 4 w) (field 0 4 w)⟩,
   ⟨"FSQRTS", 0x0FBF0FD0, 0x0EB10AC0, 0x00000000, fun w => .fsqrts (.ofBits (field 28 4 w)) (flag 22 w) (field 12 4 w) (flag 5 w) (field 0 4 w)⟩,
   ⟨"FSQRTD", 0x0FFF0FF0, 0x0EB10BC0, 0x00000000, fun w => .fsqrtd (.ofBits (field 28 4 w)) (field 12 4 w) (field 0 4 w)⟩,
   ⟨"FCMPS", 0x0FBF0FD0, 0x0EB40A40, 0x00000000, fun w => .fcmps (.ofBits (field 28 4 w)) (flag 22 w) (field 12 4 w) (flag 5 w) (field 0 4 w)⟩,
   ⟨"FCMPD", 0x0FFF0FF0, 0x0EB40B40, 0x00000000, fun w => .fcmpd (.ofBits (field 28 4 w)) (field 12 4 w) (field 0 4 w)⟩,
   ⟨"FCMPES", 0x0FBF0FD0, 0x0EB40AC0, 0x00000000, fun w => .fcmpes (.ofBits (field 28 4 w)) (flag 22 w) (field 12 4 w) (flag 5 w) (field 0 4 w)⟩,
   ⟨"FCMPED", 0x0FFF0FF0, 0x0EB40BC0, 0x00000000, fun w => .fcmped (.ofBits (field 28 4 w)) (field 12 4 w) (field 0 4 w)⟩,
   ⟨"FCMPZS", 0x0FBF0FFF, 0x0EB50A40, 0x0000002F, fun w => .fcmpzs (.ofBits (field 28 4 w)) (flag 22 w) (field 12 4 w)⟩,
   ⟨"FCMPZD", 0x0FFF0FFF, 0x0EB50B40, 0x0000002F, fun w => .fcmpzd (.ofBits (field 28 4 w)) (field 12 4 w)⟩,
   ⟨"FCMPEZS", 0x0FBF0FFF, 0x0EB50AC0, 0x0000002F, fun w => .fcmpezs (.ofBits (field 28 4 w)) (flag 22 w) (field 12 4 w)⟩,
   ⟨"FCMPEZD", 0x0FFF0FFF, 0x0EB50BC0, 0x0000000F, fun w => .fcmpezd (.ofBits (field 28 4 w)) (field 12 4 w)⟩,
   ⟨"FCVTDS", 0x0FFF0FD0, 0x0EB70AC0, 0x00000000, fun w => .fcvtds (.ofBits (field 28 4 w)) (field 12 4 w) (flag 5 w) (field 0 4 w)⟩,
   ⟨"FCVTSD", 0x0FBF0FF0, 0x0EB70BC0, 0x00000000, fun w => .fcvtsd (.ofBits (field 28 4 w)) (flag 22 w) (field 12 4 w) (field 0 4 w)⟩,
   ⟨"FUITOS", 0x0FBF0FD0, 0x0EB80A40, 0x00000000, fun w => .fuitos (.ofBits (field 28 4 w)) (flag 22 w) (field 12 4 w) (flag 5 w) (field 0 4 w)⟩,
   ⟨"FUITOD", 0x0FFF0FD0, 0x0EB80B40, 0x00000000, fun w => .fuitod (.ofBits (field 28 4 w)) (field 12 4 w) (flag 5 w) (field 0 4 w)⟩,
   ⟨"FSITOS", 0x0FBF0FD0, 0x0EB80AC0, 0x00000000, fun w => .fsitos (.ofBits (field 28 4 w)) (flag 22 w) (field 12 4 w) (flag 5 w) (field 0 4 w)⟩,
   ⟨"FSITOD", 0x0FFF0FD0, 0x0EB80BC0, 0x00000000, fun w => .fsitod (.ofBits (field 28 4 w)) (field 12 4 w) (flag 5 w) (field 0 4 w)⟩,
   ⟨"FTOUIS", 0x0FBF0FD0, 0x0EBC0A40, 0x00000000, fun w => .ftouis (.ofBits (field 28 4 w)) (flag 22 w) (field 12 4 w) (flag 5 w) (field 0 4 w)⟩,
   ⟨"FTOUID", 0x0FBF0FF0, 0x0EBC0B40, 0x00000000, fun w => .ftouid (.ofBits (field 28 4 w)) (flag 22 w) (field 12 4 w) (field 0 4 w)⟩,
   ⟨"FTOUIZS", 0x0FBF0FD0, 0x0EBC0AC0, 0x00000000, fun w => .ftouizs (.ofBits (field 28 4 w)) (flag 22 w) (field 12 4 w) (flag 5 w) (field 0 4 w)⟩,
   ⟨"FTOUIZD", 0x0FBF0FF0, 0x0EBC0BC0, 0x00000000, fun w => .ftouizd (.ofBits (field 28 4 w)) (flag 22 w) (field 12 4 w) (field 0 4 w)⟩,
   ⟨"FTOSIS", 0x0FBF0FD0, 0x0EBD0A40, 0x00000000, fun w => .ftosis (.ofBits (field 28 4 w)) (flag 22 w) (field 12 4 w) (flag 5 w) (field 0 4 w)⟩,
   ⟨"FTOSID", 0x0FBF0FF0, 0x0EBD0B40, 0x00000000, fun w => .ftosid (.ofBits (field 28 4 w)) (flag 22 w) (field 12 4 w) (field 0 4 w)⟩,
   ⟨"FTOSIZS", 0x0FBF0FD0, 0x0EBD0AC0, 0x00000000, fun w => .ftosizs (.ofBits (field 28 4 w)) (flag 22 w) (field 12 4 w) (flag 5 w) (field 0 4 w)⟩,
   ⟨"FTOSIZD", 0x0FBF0FF0, 0x0EBD0BC0, 0x00000000, fun w => .ftosizd (.ofBits (field 28 4 w)) (flag 22 w) (field 12 4 w) (field 0 4 w)⟩]

/-- VFP loads, stores and transfers (49). -/
noncomputable def rowsVfpC : List (Row 32) :=
  [⟨"FLDS", 0x0F300F00, 0x0D100A00, 0x00000000, fun w => .flds (.ofBits (field 28 4 w)) (flag 23 w) (flag 22 w) (field 16 4 w) (field 12 4 w) (field 0 8 w)⟩,
   ⟨"FLDD", 0x0F700F00, 0x0D100B00, 0x00000000, fun w => .fldd (.ofBits (field 28 4 w)) (flag 23 w) (field 16 4 w) (field 12 4 w) (field 0 8 w)⟩,
   ⟨"FSTS", 0x0F300F00, 0x0D000A00, 0x00000000, fun w => .fsts (.ofBits (field 28 4 w)) (flag 23 w) (flag 22 w) (field 16 4 w) (field 12 4 w) (field 0 8 w)⟩,
   ⟨"FSTD", 0x0F700F00, 0x0D000B00, 0x00000000, fun w => .fstd (.ofBits (field 28 4 w)) (flag 23 w) (field 16 4 w) (field 12 4 w) (field 0 8 w)⟩,
   ⟨"FLDMS", 0x0FB00F00, 0x0C900A00, 0x00000000, fun w => .fldmsIa (.ofBits (field 28 4 w)) (flag 22 w) (field 16 4 w) (field 12 4 w) (field 0 8 w)⟩,
   ⟨"FLDMD_FLDMX", 0x0FF00F00, 0x0C900B00, 0x00000000, fun w => .fldmdxIa (.ofBits (field 28 4 w)) (field 16 4 w) (field 12 4 w) (field 0 8 w)⟩,
   ⟨"FLDMS", 0x0FB00F00, 0x0CB00A00, 0x00000000, fun w => .fldmsIaW (.ofBits (field 28 4 w)) (flag 22 w) (field 16 4 w) (field 12 4 w) (field 0 8 w)⟩,
   ⟨"FLDMD_FLDMX", 0x0FF00F00, 0x0CB00B00, 0x00000000, fun w => .fldmdxIaW (.ofBits (field 28 4 w)) (field 16 4 w) (field 12 4 w) (field 0 8 w)⟩,
   ⟨"FLDMS", 0x0FB00F00, 0x0D300A00, 0x00000000, fun w => .fldmsDbW (.ofBits (field 28 4 w)) (flag 22 w) (field 16 4 w) (field 12 4 w) (field 0 8 w)⟩,
   ⟨"FLDMD_FLDMX", 0x0FF00F00, 0x0D300B00, 0x00000000, fun w => .fldmdxDbW (.ofBits (field 28 4 w)) (field 16 4 w) (field 12 4 w) (field 0 8 w)⟩,
   ⟨"FSTMS", 0x0FB00F00, 0x0C800A00, 0x00000000, fun w => .fstmsIa (.ofBits (field 28 4 w)) (flag 22 w) (field 16 4 w) (field 12 4 w) (field 0 8 w)⟩,
   ⟨"FSTMD_FSTMX", 0x0FF00F00, 0x0C800B00, 0x00000000, fun w => .fstmdxIa (.ofBits (field 28 4 w)) (field 16 4 w) (field 12 4 w) (field 0 8 w)⟩,
   ⟨"FSTMS", 0x0FB00F00, 0x0CA00A00, 0x00000000, fun w => .fstmsIaW (.ofBits (field 28 4 w)) (flag 22 w) (field 16 4 w) (field 12 4 w) (field 0 8 w)⟩,
   ⟨"FSTMD_FSTMX", 0x0FF00F00, 0x0CA00B00, 0x00000000, fun w => .fstmdxIaW (.ofBits (field 28 4 w)) (field 16 4 w) (field 12 4 w) (field 0 8 w)⟩,
   ⟨"FSTMS", 0x0FB00F00, 0x0D200A00, 0x00000000, fun w => .fstmsDbW (.ofBits (field 28 4 w)) (flag 22 w) (field 16 4 w) (field 12 4 w) (field 0 8 w)⟩,
   ⟨"FSTMD_FSTMX", 0x0FF00F00, 0x0D200B00, 0x00000000, fun w => .fstmdxDbW (.ofBits (field 28 4 w)) (field 16 4 w) (field 12 4 w) (field 0 8 w)⟩,
   ⟨"FMSR", 0x0FF00F7F, 0x0E000A10, 0x0000006F, fun w => .fmsr (.ofBits (field 28 4 w)) (field 16 4 w) (field 12 4 w) (flag 7 w)⟩,
   ⟨"FMRS", 0x0FF00F7F, 0x0E100A10, 0x0000006F, fun w => .fmrs (.ofBits (field 28 4 w)) (field 16 4 w) (field 12 4 w) (flag 7 w)⟩,
   ⟨"FMDLR", 0x0FF00FFF, 0x0E000B10, 0x0000006F, fun w => .fmdlr (.ofBits (field 28 4 w)) (field 16 4 w) (field 12 4 w)⟩,
   ⟨"FMRDL", 0x0FF00FFF, 0x0E100B10, 0x0000006F, fun w => .fmrdl (.ofBits (field 28 4 w)) (field 16 4 w) (field 12 4 w)⟩,
   ⟨"FMDHR", 0x0FF00FFF, 0x0E200B10, 0x0000006F, fun w => .fmdhr (.ofBits (field 28 4 w)) (field 16 4 w) (field 12 4 w)⟩,
   ⟨"FMRDH", 0x0FF00FFF, 0x0E300B10, 0x0000006F, fun w => .fmrdh (.ofBits (field 28 4 w)) (field 16 4 w) (field 12 4 w)⟩,
   ⟨"FMXR", 0x0FF00FFF, 0x0EE00A10, 0x0000006F, fun w => .fmxr (.ofBits (field 28 4 w)) (field 16 4 w) (field 12 4 w)⟩,
   ⟨"FMSTAT", 0x0FFFFFFF, 0x0EF1FA10, 0x0000006F, fun w => .fmstat (.ofBits (field 28 4 w))⟩,
   ⟨"FMRX", 0x0FF00FFF, 0x0EF00A10, 0x0000006F, fun w => .fmrx (.ofBits (field 28 4 w)) (field 16 4 w) (field 12 4 w)⟩,
   ⟨"FMDRR", 0x0FF00FF0, 0x0C400B10, 0x00000000, fun w => .fmdrr (.ofBits (field 28 4 w)) (field 16 4 w) (field 12 4 w) (field 0 4 w)⟩,
   ⟨"FMRRD", 0x0FF00FF0, 0x0C500B10, 0x00000000, fun w => .fmrrd (.ofBits (field 28 4 w)) (field 16 4 w) (field 12 4 w) (field 0 4 w)⟩,
   ⟨"FMSRR", 0x0FF00FD0, 0x0C400A10, 0x00000000, fun w => .fmsrr (.ofBits (field 28 4 w)) (field 16 4 w) (field 12 4 w) (flag 5 w) (field 0 4 w)⟩,
   ⟨"FMRRS", 0x0FF00FD0, 0x0C500A10, 0x00000000, fun w => .fmrrs (.ofBits (field 28 4 w)) (field 16 4 w) (field 12 4 w) (flag 5 w) (field 0 4 w)⟩]

/-- Coprocessor rows (30:R697). -/
noncomputable def rowsCop : List (Row 32) :=
  [⟨"CDP", 0x0F000010, 0x0E000000, 0x00000000, fun w => .cdp (.ofBits (field 28 4 w)) (field 20 4 w) (field 16 4 w) (field 12 4 w) (field 8 4 w) (field 5 3 w) (field 0 4 w)⟩,
   ⟨"MCR", 0x0F100010, 0x0E000010, 0x00000000, fun w => .mcr (.ofBits (field 28 4 w)) (field 21 3 w) (field 16 4 w) (field 12 4 w) (field 8 4 w) (field 5 3 w) (field 0 4 w)⟩,
   ⟨"MRC", 0x0F100010, 0x0E100010, 0x00000000, fun w => .mrc (.ofBits (field 28 4 w)) (field 21 3 w) (field 16 4 w) (field 12 4 w) (field 8 4 w) (field 5 3 w) (field 0 4 w)⟩,
   ⟨"MCRR", 0x0FF00000, 0x0C400000, 0x00000000, fun w => .mcrr (.ofBits (field 28 4 w)) (field 16 4 w) (field 12 4 w) (field 8 4 w) (field 4 4 w) (field 0 4 w)⟩,
   ⟨"MRRC", 0x0FF00000, 0x0C500000, 0x00000000, fun w => .mrrc (.ofBits (field 28 4 w)) (field 16 4 w) (field 12 4 w) (field 8 4 w) (field 4 4 w) (field 0 4 w)⟩,
   ⟨"UNDEFINED", 0x0FE00000, 0x0C000000, 0x00000000, fun w => .undefCop (.ofBits (field 28 4 w)) (flag 20 w) (field 0 20 w)⟩,
   ⟨"LDC", 0x0E100000, 0x0C100000, 0x00000000, fun w => .ldc (.ofBits (field 28 4 w)) (flag 24 w) (flag 23 w) (flag 22 w) (flag 21 w) (field 16 4 w) (field 12 4 w) (field 8 4 w) (field 0 8 w)⟩,
   ⟨"STC", 0x0E100000, 0x0C000000, 0x00000000, fun w => .stc (.ofBits (field 28 4 w)) (flag 24 w) (flag 23 w) (flag 22 w) (flag 21 w) (field 16 4 w) (field 12 4 w) (field 8 4 w) (field 0 8 w)⟩]

/-- The rows of the conditional ARM space but for the generic coprocessor rows, in the table's order. -/
noncomputable def rowsCond : List (Row 32) :=
  rowsDpA ++ rowsDpB ++ rowsMul ++ rowsParA ++ rowsParB ++ rowsExt ++ rowsSat ++ rowsLdrA ++ rowsLdrB ++ rowsLdm ++ rowsSys ++ rowsVfpA ++ rowsVfpB ++ rowsVfpC

/-- Thumb shifts, additions, moves and data processing (30:R710). -/
noncomputable def rowsThumbA : List (Row 16) :=
  [⟨"LSL", 0xF800, 0x0000, 0x0000, fun w => .tLslImm (field 6 5 w) (field 3 3 w) (field 0 3 w)⟩,
   ⟨"LSR", 0xF800, 0x0800, 0x0000, fun w => .tLsrImm (field 6 5 w) (field 3 3 w) (field 0 3 w)⟩,
   ⟨"ASR", 0xF800, 0x1000, 0x0000, fun w => .tAsrImm (field 6 5 w) (field 3 3 w) (field 0 3 w)⟩,
   ⟨"ADD", 0xFE00, 0x1800, 0x0000, fun w => .tAddReg3 (field 6 3 w) (field 3 3 w) (field 0 3 w)⟩,
   ⟨"SUB", 0xFE00, 0x1A00, 0x0000, fun w => .tSubReg3 (field 6 3 w) (field 3 3 w) (field 0 3 w)⟩,
   ⟨"MOV", 0xFFC0, 0x1C00, 0x0000, fun w => .tMovLow (field 3 3 w) (field 0 3 w)⟩,
   ⟨"ADD", 0xFE00, 0x1C00, 0x0000, fun w => .tAddImm3 (field 6 3 w) (field 3 3 w) (field 0 3 w)⟩,
   ⟨"SUB", 0xFE00, 0x1E00, 0x0000, fun w => .tSubImm3 (field 6 3 w) (field 3 3 w) (field 0 3 w)⟩,
   ⟨"MOV", 0xF800, 0x2000, 0x0000, fun w => .tMovImm8 (field 8 3 w) (field 0 8 w)⟩,
   ⟨"CMP", 0xF800, 0x2800, 0x0000, fun w => .tCmpImm8 (field 8 3 w) (field 0 8 w)⟩,
   ⟨"ADD", 0xF800, 0x3000, 0x0000, fun w => .tAddImm8 (field 8 3 w) (field 0 8 w)⟩,
   ⟨"SUB", 0xF800, 0x3800, 0x0000, fun w => .tSubImm8 (field 8 3 w) (field 0 8 w)⟩,
   ⟨"AND", 0xFFC0, 0x4000, 0x0000, fun w => .tAndReg (field 3 3 w) (field 0 3 w)⟩,
   ⟨"EOR", 0xFFC0, 0x4040, 0x0000, fun w => .tEorReg (field 3 3 w) (field 0 3 w)⟩,
   ⟨"LSL", 0xFFC0, 0x4080, 0x0000, fun w => .tLslReg (field 3 3 w) (field 0 3 w)⟩,
   ⟨"LSR", 0xFFC0, 0x40C0, 0x0000, fun w => .tLsrReg (field 3 3 w) (field 0 3 w)⟩,
   ⟨"ASR", 0xFFC0, 0x4100, 0x0000, fun w => .tAsrReg (field 3 3 w) (field 0 3 w)⟩,
   ⟨"ADC", 0xFFC0, 0x4140, 0x0000, fun w => .tAdcReg (field 3 3 w) (field 0 3 w)⟩,
   ⟨"SBC", 0xFFC0, 0x4180, 0x0000, fun w => .tSbcReg (field 3 3 w) (field 0 3 w)⟩,
   ⟨"ROR", 0xFFC0, 0x41C0, 0x0000, fun w => .tRorReg (field 3 3 w) (field 0 3 w)⟩,
   ⟨"TST", 0xFFC0, 0x4200, 0x0000, fun w => .tTstReg (field 3 3 w) (field 0 3 w)⟩,
   ⟨"NEG", 0xFFC0, 0x4240, 0x0000, fun w => .tNegReg (field 3 3 w) (field 0 3 w)⟩,
   ⟨"CMP", 0xFFC0, 0x4280, 0x0000, fun w => .tCmpReg (field 3 3 w) (field 0 3 w)⟩,
   ⟨"CMN", 0xFFC0, 0x42C0, 0x0000, fun w => .tCmnReg (field 3 3 w) (field 0 3 w)⟩,
   ⟨"ORR", 0xFFC0, 0x4300, 0x0000, fun w => .tOrrReg (field 3 3 w) (field 0 3 w)⟩,
   ⟨"MUL", 0xFFC0, 0x4340, 0x0000, fun w => .tMulReg (field 3 3 w) (field 0 3 w)⟩,
   ⟨"BIC", 0xFFC0, 0x4380, 0x0000, fun w => .tBicReg (field 3 3 w) (field 0 3 w)⟩,
   ⟨"MVN", 0xFFC0, 0x43C0, 0x0000, fun w => .tMvnReg (field 3 3 w) (field 0 3 w)⟩]

/-- Thumb high-register, branch-exchange, load and store rows (30:R710). -/
noncomputable def rowsThumbB : List (Row 16) :=
  [⟨"ADD", 0xFF00, 0x4400, 0x0000, fun w => .tAddHigh (flag 7 w) (flag 6 w) (field 3 3 w) (field 0 3 w)⟩,
   ⟨"CMP", 0xFF00, 0x4500, 0x0000, fun w => .tCmpHigh (flag 7 w) (flag 6 w) (field 3 3 w) (field 0 3 w)⟩,
   ⟨"MOV", 0xFF00, 0x4600, 0x0000, fun w => .tMovHigh (flag 7 w) (flag 6 w) (field 3 3 w) (field 0 3 w)⟩,
   ⟨"BX", 0xFF87, 0x4700, 0x0007, fun w => .tBx (flag 6 w) (field 3 3 w)⟩,
   ⟨"BLX__2", 0xFF87, 0x4780, 0x0007, fun w => .tBlx2 (flag 6 w) (field 3 3 w)⟩,
   ⟨"LDR", 0xF800, 0x4800, 0x0000, fun w => .tLdrPc (field 8 3 w) (field 0 8 w)⟩,
   ⟨"STR", 0xFE00, 0x5000, 0x0000, fun w => .tStrReg (field 6 3 w) (field 3 3 w) (field 0 3 w)⟩,
   ⟨"STRH", 0xFE00, 0x5200, 0x0000, fun w => .tStrhReg (field 6 3 w) (field 3 3 w) (field 0 3 w)⟩,
   ⟨"STRB", 0xFE00, 0x5400, 0x0000, fun w => .tStrbReg (field 6 3 w) (field 3 3 w) (field 0 3 w)⟩,
   ⟨"LDRSB", 0xFE00, 0x5600, 0x0000, fun w => .tLdrsbReg (field 6 3 w) (field 3 3 w) (field 0 3 w)⟩,
   ⟨"LDR", 0xFE00, 0x5800, 0x0000, fun w => .tLdrReg (field 6 3 w) (field 3 3 w) (field 0 3 w)⟩,
   ⟨"LDRH", 0xFE00, 0x5A00, 0x0000, fun w => .tLdrhReg (field 6 3 w) (field 3 3 w) (field 0 3 w)⟩,
   ⟨"LDRB", 0xFE00, 0x5C00, 0x0000, fun w => .tLdrbReg (field 6 3 w) (field 3 3 w) (field 0 3 w)⟩,
   ⟨"LDRSH", 0xFE00, 0x5E00, 0x0000, fun w => .tLdrshReg (field 6 3 w) (field 3 3 w) (field 0 3 w)⟩,
   ⟨"STR", 0xF800, 0x6000, 0x0000, fun w => .tStrImm (field 6 5 w) (field 3 3 w) (field 0 3 w)⟩,
   ⟨"LDR", 0xF800, 0x6800, 0x0000, fun w => .tLdrImm (field 6 5 w) (field 3 3 w) (field 0 3 w)⟩,
   ⟨"STRB", 0xF800, 0x7000, 0x0000, fun w => .tStrbImm (field 6 5 w) (field 3 3 w) (field 0 3 w)⟩,
   ⟨"LDRB", 0xF800, 0x7800, 0x0000, fun w => .tLdrbImm (field 6 5 w) (field 3 3 w) (field 0 3 w)⟩,
   ⟨"STRH", 0xF800, 0x8000, 0x0000, fun w => .tStrhImm (field 6 5 w) (field 3 3 w) (field 0 3 w)⟩,
   ⟨"LDRH", 0xF800, 0x8800, 0x0000, fun w => .tLdrhImm (field 6 5 w) (field 3 3 w) (field 0 3 w)⟩,
   ⟨"STR", 0xF800, 0x9000, 0x0000, fun w => .tStrSp (field 8 3 w) (field 0 8 w)⟩,
   ⟨"LDR", 0xF800, 0x9800, 0x0000, fun w => .tLdrSp (field 8 3 w) (field 0 8 w)⟩,
   ⟨"ADD", 0xF800, 0xA000, 0x0000, fun w => .tAddPc (field 8 3 w) (field 0 8 w)⟩,
   ⟨"ADD", 0xF800, 0xA800, 0x0000, fun w => .tAddSpImm (field 8 3 w) (field 0 8 w)⟩,
   ⟨"ADD", 0xFF80, 0xB000, 0x0000, fun w => .tAddToSp (field 0 7 w)⟩,
   ⟨"SUB", 0xFF80, 0xB080, 0x0000, fun w => .tSubFromSp (field 0 7 w)⟩]

/-- The other Thumb rows (30:R710). -/
noncomputable def rowsThumbC : List (Row 16) :=
  [⟨"SXTH", 0xFFC0, 0xB200, 0x0000, fun w => .tSxth (field 3 3 w) (field 0 3 w)⟩,
   ⟨"SXTB", 0xFFC0, 0xB240, 0x0000, fun w => .tSxtb (field 3 3 w) (field 0 3 w)⟩,
   ⟨"UXTH", 0xFFC0, 0xB280, 0x0000, fun w => .tUxth (field 3 3 w) (field 0 3 w)⟩,
   ⟨"UXTB", 0xFFC0, 0xB2C0, 0x0000, fun w => .tUxtb (field 3 3 w) (field 0 3 w)⟩,
   ⟨"PUSH", 0xFE00, 0xB400, 0x0000, fun w => .tPush (flag 8 w) (field 0 8 w)⟩,
   ⟨"SETEND", 0xFFF7, 0xB650, 0x0000, fun w => .tSetend (flag 3 w)⟩,
   ⟨"CPS", 0xFFE8, 0xB660, 0x0000, fun w => .tCps (flag 4 w) (flag 2 w) (flag 1 w) (flag 0 w)⟩,
   ⟨"REV", 0xFFC0, 0xBA00, 0x0000, fun w => .tRev (field 3 3 w) (field 0 3 w)⟩,
   ⟨"REV16", 0xFFC0, 0xBA40, 0x0000, fun w => .tRev16 (field 3 3 w) (field 0 3 w)⟩,
   ⟨"REVSH", 0xFFC0, 0xBAC0, 0x0000, fun w => .tRevsh (field 3 3 w) (field 0 3 w)⟩,
   ⟨"POP", 0xFE00, 0xBC00, 0x0000, fun w => .tPop (flag 8 w) (field 0 8 w)⟩,
   ⟨"BKPT", 0xFF00, 0xBE00, 0x0000, fun w => .tBkpt (field 0 8 w)⟩,
   ⟨"STMIA", 0xF800, 0xC000, 0x0000, fun w => .tStmia (field 8 3 w) (field 0 8 w)⟩,
   ⟨"LDMIA", 0xF800, 0xC800, 0x0000, fun w => .tLdmia (field 8 3 w) (field 0 8 w)⟩,
   ⟨"UNDEFINED", 0xFF00, 0xDE00, 0x0000, fun w => .tUndef (field 0 8 w)⟩,
   ⟨"SVC", 0xFF00, 0xDF00, 0x0000, fun w => .tSvc (field 0 8 w)⟩,
   ⟨"B", 0xF000, 0xD000, 0x0000, fun w => .tBCond (.ofBits (field 8 4 w)) (field 0 8 w)⟩,
   ⟨"B", 0xF800, 0xE000, 0x0000, fun w => .tB (field 0 11 w)⟩,
   ⟨"BLX__1__suffix", 0xF801, 0xE800, 0x0000, fun w => .tBlxSuffix (field 1 10 w)⟩,
   ⟨"UNDEFINED", 0xF801, 0xE801, 0x0000, fun w => .tUndefBlx (field 1 10 w)⟩,
   ⟨"BL_BLX_prefix", 0xF800, 0xF000, 0x0000, fun w => .tBlPrefix (field 0 11 w)⟩,
   ⟨"BL_suffix", 0xF800, 0xF800, 0x0000, fun w => .tBlSuffix (field 0 11 w)⟩]

/-- The Thumb rows, in the table's order. -/
noncomputable def rowsThumb : List (Row 16) := rowsThumbA ++ rowsThumbB ++ rowsThumbC

/-- The search of 30:R704: the first row that matches; else the first that matches but for its `sb` bits; else `other`. -/
def search {k : Nat} (other : Decoded) (rows : List (Row k)) (w : BitVec k) : Decoded :=
  match rows.find? (·.matches w) with
  | some r => .instr (r.build w)
  | none =>
    match rows.find? (·.matchesLoosely w) with
    | some r => .unpredictable r.name
    | none => other

/-- Decoding an ARM instruction word (30:R704). Bits [31:28] = 1111 select the unconditional rows, which the table ends with
the row UNDEFINED for every word that is no other row's; a word that is another row's but for its SBZ and SBO bits is
Unpredictable there too (30:R685, log 57). The generic coprocessor rows of 30:R697 come after the others' SBZ and SBO bits: a
VFP word whose SBZ bits are wrong (49:R1134, R1155) is that VFP row's, not CDP's, MCR's or MRC's. -/
noncomputable def decodeArm (w : Word) : Decoded :=
  let c : BitVec 4 := field 28 4 w
  if c = 15#4 then search (.instr (.undefUncond (field 0 28 w))) rowsUncond w
  else search (search (.undefined (.ofBits c)) rowsCop w) rowsCond w

/-- Decoding a Thumb halfword (30:R704). -/
noncomputable def decodeThumb (h : Half) : Decoded := search (.undefined .al) rowsThumb h

/-- The word of four bytes at ascending addresses, little-endian. -/
def wordOfBytes (b0 b1 b2 b3 : Byte) : Word := b3 ++ b2 ++ b1 ++ b0

/-- The halfword of two bytes at ascending addresses, little-endian. -/
def halfOfBytes (b0 b1 : Byte) : Half := b1 ++ b0

/-- Byte `i` of a word or halfword, byte 0 the least significant. -/
def byteOf {k : Nat} (w : BitVec k) (i : Nat) : Byte := w.extractLsb' (8 * i) 8

/-- Decoding from bytes at ascending addresses, in the state that CPSR.T selects (30:R680); total on any bytes. -/
noncomputable def decodeBytes (thumb : Bool) (bs : List Byte) : Decoded :=
  match thumb, bs with
  | false, b0 :: b1 :: b2 :: b3 :: _ => decodeArm (wordOfBytes b0 b1 b2 b3)
  | true, b0 :: b1 :: _ => decodeThumb (halfOfBytes b0 b1)
  | _, _ => .tooFewBytes

/-- The instruction that a decoding names, if it names one. -/
def Decoded.instr? : Decoded → Option Instr
  | .instr i => some i
  | .unpredictable _ | .undefined _ | .tooFewBytes => none

/-- The bytes of the low `n` bytes of a number, least significant first, as the hardware stores an instruction of a
little-endian system (30:R680). -/
def bytesOfNat : Nat → Nat → List Byte
  | 0, _ => []
  | n + 1, w => BitVec.ofNat 8 w :: bytesOfNat n (w / 256)

/-- The instruction that the decoder reads from an instruction of `nbits` bits whose bits are `w`: an ARM word for 32 bits,
a Thumb halfword for 16. -/
noncomputable def decodeTableWord (nbits w : Nat) : Option Instr :=
  if nbits = 32 then (decodeBytes false (bytesOfNat 4 w)).instr?
  else if nbits = 16 then (decodeBytes true (bytesOfNat 2 w)).instr?
  else none

/-- The code of an instruction: an ARM word or a Thumb halfword. -/
inductive Code where
  | arm (w : Word)
  | thumb (h : Half)
  deriving DecidableEq, Repr

/-- Decoding a code. -/
noncomputable def decode : Code → Decoded
  | .arm w => decodeArm w
  | .thumb h => decodeThumb h

set_option maxHeartbeats 2000000 in
/-- The code of an instruction: the row's fixed bits and its fields in their places (spec/opcode_table.json). -/
def encode : Instr → Code
  | .pldImm u rn off12 => .arm (0xF550F000#32 ||| putB 23 u ||| put 16 rn ||| put 0 off12)
  | .pldReg u rn shiftImm shift rm => .arm (0xF750F000#32 ||| putB 23 u ||| put 16 rn ||| put 7 shiftImm ||| put 5 shift.bits ||| put 0 rm)
  | .rfe p u w rn => .arm (0xF8100A00#32 ||| putB 24 p ||| putB 23 u ||| putB 21 w ||| put 16 rn)
  | .srs p u w mode => .arm (0xF84D0500#32 ||| putB 24 p ||| putB 23 u ||| putB 21 w ||| put 0 mode)
  | .clrex => .arm (0xF57FF01F#32)
  | .cps imod mmod aBit iBit fBit mode => .arm (0xF1000000#32 ||| put 18 imod ||| putB 17 mmod ||| putB 8 aBit ||| putB 7 iBit ||| putB 6 fBit ||| put 0 mode)
  | .setend eBit => .arm (0xF1010000#32 ||| putB 9 eBit)
  | .blx1 h simm24 => .arm (0xFA000000#32 ||| putB 24 h ||| put 0 simm24)
  | .cdp2 opc1 cRn cRd cpNum opc2 cRm => .arm (0xFE000000#32 ||| put 20 opc1 ||| put 16 cRn ||| put 12 cRd ||| put 8 cpNum ||| put 5 opc2 ||| put 0 cRm)
  | .mcr2 opc1 cRn rd cpNum opc2 cRm => .arm (0xFE000010#32 ||| put 21 opc1 ||| put 16 cRn ||| put 12 rd ||| put 8 cpNum ||| put 5 opc2 ||| put 0 cRm)
  | .mrc2 opc1 cRn rd cpNum opc2 cRm => .arm (0xFE100010#32 ||| put 21 opc1 ||| put 16 cRn ||| put 12 rd ||| put 8 cpNum ||| put 5 opc2 ||| put 0 cRm)
  | .mcrr2 rn rd cpNum opc cRm => .arm (0xFC400000#32 ||| put 16 rn ||| put 12 rd ||| put 8 cpNum ||| put 4 opc ||| put 0 cRm)
  | .mrrc2 rn rd cpNum opc cRm => .arm (0xFC500000#32 ||| put 16 rn ||| put 12 rd ||| put 8 cpNum ||| put 4 opc ||| put 0 cRm)
  | .undefCop2 l raw => .arm (0xFC000000#32 ||| putB 20 l ||| put 0 raw)
  | .ldc2 p u nBit w rn cRd cpNum off8 => .arm (0xFC100000#32 ||| putB 24 p ||| putB 23 u ||| putB 22 nBit ||| putB 21 w ||| put 16 rn ||| put 12 cRd ||| put 8 cpNum ||| put 0 off8)
  | .stc2 p u nBit w rn cRd cpNum off8 => .arm (0xFC000000#32 ||| putB 24 p ||| putB 23 u ||| putB 22 nBit ||| putB 21 w ||| put 16 rn ||| put 12 cRd ||| put 8 cpNum ||| put 0 off8)
  | .undefUncond raw => .arm (0xF0000000#32 ||| put 0 raw)
  | .andImm cond sBit rn rd rot imm8 => .arm (0x02000000#32 ||| put 28 cond.bits ||| putB 20 sBit ||| put 16 rn ||| put 12 rd ||| put 8 rot ||| put 0 imm8)
  | .andReg cond sBit rn rd shiftImm shift rm => .arm (0x00000000#32 ||| put 28 cond.bits ||| putB 20 sBit ||| put 16 rn ||| put 12 rd ||| put 7 shiftImm ||| put 5 shift.bits ||| put 0 rm)
  | .andRegShift cond sBit rn rd rs shift rm => .arm (0x00000010#32 ||| put 28 cond.bits ||| putB 20 sBit ||| put 16 rn ||| put 12 rd ||| put 8 rs ||| put 5 shift.bits ||| put 0 rm)
  | .eorImm cond sBit rn rd rot imm8 => .arm (0x02200000#32 ||| put 28 cond.bits ||| putB 20 sBit ||| put 16 rn ||| put 12 rd ||| put 8 rot ||| put 0 imm8)
  | .eorReg cond sBit rn rd shiftImm shift rm => .arm (0x00200000#32 ||| put 28 cond.bits ||| putB 20 sBit ||| put 16 rn ||| put 12 rd ||| put 7 shiftImm ||| put 5 shift.bits ||| put 0 rm)
  | .eorRegShift cond sBit rn rd rs shift rm => .arm (0x00200010#32 ||| put 28 cond.bits ||| putB 20 sBit ||| put 16 rn ||| put 12 rd ||| put 8 rs ||| put 5 shift.bits ||| put 0 rm)
  | .subImm cond sBit rn rd rot imm8 => .arm (0x02400000#32 ||| put 28 cond.bits ||| putB 20 sBit ||| put 16 rn ||| put 12 rd ||| put 8 rot ||| put 0 imm8)
  | .subReg cond sBit rn rd shiftImm shift rm => .arm (0x00400000#32 ||| put 28 cond.bits ||| putB 20 sBit ||| put 16 rn ||| put 12 rd ||| put 7 shiftImm ||| put 5 shift.bits ||| put 0 rm)
  | .subRegShift cond sBit rn rd rs shift rm => .arm (0x00400010#32 ||| put 28 cond.bits ||| putB 20 sBit ||| put 16 rn ||| put 12 rd ||| put 8 rs ||| put 5 shift.bits ||| put 0 rm)
  | .rsbImm cond sBit rn rd rot imm8 => .arm (0x02600000#32 ||| put 28 cond.bits ||| putB 20 sBit ||| put 16 rn ||| put 12 rd ||| put 8 rot ||| put 0 imm8)
  | .rsbReg cond sBit rn rd shiftImm shift rm => .arm (0x00600000#32 ||| put 28 cond.bits ||| putB 20 sBit ||| put 16 rn ||| put 12 rd ||| put 7 shiftImm ||| put 5 shift.bits ||| put 0 rm)
  | .rsbRegShift cond sBit rn rd rs shift rm => .arm (0x00600010#32 ||| put 28 cond.bits ||| putB 20 sBit ||| put 16 rn ||| put 12 rd ||| put 8 rs ||| put 5 shift.bits ||| put 0 rm)
  | .addImm cond sBit rn rd rot imm8 => .arm (0x02800000#32 ||| put 28 cond.bits ||| putB 20 sBit ||| put 16 rn ||| put 12 rd ||| put 8 rot ||| put 0 imm8)
  | .addReg cond sBit rn rd shiftImm shift rm => .arm (0x00800000#32 ||| put 28 cond.bits ||| putB 20 sBit ||| put 16 rn ||| put 12 rd ||| put 7 shiftImm ||| put 5 shift.bits ||| put 0 rm)
  | .addRegShift cond sBit rn rd rs shift rm => .arm (0x00800010#32 ||| put 28 cond.bits ||| putB 20 sBit ||| put 16 rn ||| put 12 rd ||| put 8 rs ||| put 5 shift.bits ||| put 0 rm)
  | .adcImm cond sBit rn rd rot imm8 => .arm (0x02A00000#32 ||| put 28 cond.bits ||| putB 20 sBit ||| put 16 rn ||| put 12 rd ||| put 8 rot ||| put 0 imm8)
  | .adcReg cond sBit rn rd shiftImm shift rm => .arm (0x00A00000#32 ||| put 28 cond.bits ||| putB 20 sBit ||| put 16 rn ||| put 12 rd ||| put 7 shiftImm ||| put 5 shift.bits ||| put 0 rm)
  | .adcRegShift cond sBit rn rd rs shift rm => .arm (0x00A00010#32 ||| put 28 cond.bits ||| putB 20 sBit ||| put 16 rn ||| put 12 rd ||| put 8 rs ||| put 5 shift.bits ||| put 0 rm)
  | .sbcImm cond sBit rn rd rot imm8 => .arm (0x02C00000#32 ||| put 28 cond.bits ||| putB 20 sBit ||| put 16 rn ||| put 12 rd ||| put 8 rot ||| put 0 imm8)
  | .sbcReg cond sBit rn rd shiftImm shift rm => .arm (0x00C00000#32 ||| put 28 cond.bits ||| putB 20 sBit ||| put 16 rn ||| put 12 rd ||| put 7 shiftImm ||| put 5 shift.bits ||| put 0 rm)
  | .sbcRegShift cond sBit rn rd rs shift rm => .arm (0x00C00010#32 ||| put 28 cond.bits ||| putB 20 sBit ||| put 16 rn ||| put 12 rd ||| put 8 rs ||| put 5 shift.bits ||| put 0 rm)
  | .rscImm cond sBit rn rd rot imm8 => .arm (0x02E00000#32 ||| put 28 cond.bits ||| putB 20 sBit ||| put 16 rn ||| put 12 rd ||| put 8 rot ||| put 0 imm8)
  | .rscReg cond sBit rn rd shiftImm shift rm => .arm (0x00E00000#32 ||| put 28 cond.bits ||| putB 20 sBit ||| put 16 rn ||| put 12 rd ||| put 7 shiftImm ||| put 5 shift.bits ||| put 0 rm)
  | .rscRegShift cond sBit rn rd rs shift rm => .arm (0x00E00010#32 ||| put 28 cond.bits ||| putB 20 sBit ||| put 16 rn ||| put 12 rd ||| put 8 rs ||| put 5 shift.bits ||| put 0 rm)
  | .orrImm cond sBit rn rd rot imm8 => .arm (0x03800000#32 ||| put 28 cond.bits ||| putB 20 sBit ||| put 16 rn ||| put 12 rd ||| put 8 rot ||| put 0 imm8)
  | .orrReg cond sBit rn rd shiftImm shift rm => .arm (0x01800000#32 ||| put 28 cond.bits ||| putB 20 sBit ||| put 16 rn ||| put 12 rd ||| put 7 shiftImm ||| put 5 shift.bits ||| put 0 rm)
  | .orrRegShift cond sBit rn rd rs shift rm => .arm (0x01800010#32 ||| put 28 cond.bits ||| putB 20 sBit ||| put 16 rn ||| put 12 rd ||| put 8 rs ||| put 5 shift.bits ||| put 0 rm)
  | .bicImm cond sBit rn rd rot imm8 => .arm (0x03C00000#32 ||| put 28 cond.bits ||| putB 20 sBit ||| put 16 rn ||| put 12 rd ||| put 8 rot ||| put 0 imm8)
  | .bicReg cond sBit rn rd shiftImm shift rm => .arm (0x01C00000#32 ||| put 28 cond.bits ||| putB 20 sBit ||| put 16 rn ||| put 12 rd ||| put 7 shiftImm ||| put 5 shift.bits ||| put 0 rm)
  | .bicRegShift cond sBit rn rd rs shift rm => .arm (0x01C00010#32 ||| put 28 cond.bits ||| putB 20 sBit ||| put 16 rn ||| put 12 rd ||| put 8 rs ||| put 5 shift.bits ||| put 0 rm)
  | .cpy cond rd rm => .arm (0x01A00000#32 ||| put 28 cond.bits ||| put 12 rd ||| put 0 rm)
  | .movImm cond sBit rd rot imm8 => .arm (0x03A00000#32 ||| put 28 cond.bits ||| putB 20 sBit ||| put 12 rd ||| put 8 rot ||| put 0 imm8)
  | .movReg cond sBit rd shiftImm shift rm => .arm (0x01A00000#32 ||| put 28 cond.bits ||| putB 20 sBit ||| put 12 rd ||| put 7 shiftImm ||| put 5 shift.bits ||| put 0 rm)
  | .movRegShift cond sBit rd rs shift rm => .arm (0x01A00010#32 ||| put 28 cond.bits ||| putB 20 sBit ||| put 12 rd ||| put 8 rs ||| put 5 shift.bits ||| put 0 rm)
  | .mvnImm cond sBit rd rot imm8 => .arm (0x03E00000#32 ||| put 28 cond.bits ||| putB 20 sBit ||| put 12 rd ||| put 8 rot ||| put 0 imm8)
  | .mvnReg cond sBit rd shiftImm shift rm => .arm (0x01E00000#32 ||| put 28 cond.bits ||| putB 20 sBit ||| put 12 rd ||| put 7 shiftImm ||| put 5 shift.bits ||| put 0 rm)
  | .mvnRegShift cond sBit rd rs shift rm => .arm (0x01E00010#32 ||| put 28 cond.bits ||| putB 20 sBit ||| put 12 rd ||| put 8 rs ||| put 5 shift.bits ||| put 0 rm)
  | .tstImm cond rn rot imm8 => .arm (0x03100000#32 ||| put 28 cond.bits ||| put 16 rn ||| put 8 rot ||| put 0 imm8)
  | .tstReg cond rn shiftImm shift rm => .arm (0x01100000#32 ||| put 28 cond.bits ||| put 16 rn ||| put 7 shiftImm ||| put 5 shift.bits ||| put 0 rm)
  | .tstRegShift cond rn rs shift rm => .arm (0x01100010#32 ||| put 28 cond.bits ||| put 16 rn ||| put 8 rs ||| put 5 shift.bits ||| put 0 rm)
  | .teqImm cond rn rot imm8 => .arm (0x03300000#32 ||| put 28 cond.bits ||| put 16 rn ||| put 8 rot ||| put 0 imm8)
  | .teqReg cond rn shiftImm shift rm => .arm (0x01300000#32 ||| put 28 cond.bits ||| put 16 rn ||| put 7 shiftImm ||| put 5 shift.bits ||| put 0 rm)
  | .teqRegShift cond rn rs shift rm => .arm (0x01300010#32 ||| put 28 cond.bits ||| put 16 rn ||| put 8 rs ||| put 5 shift.bits ||| put 0 rm)
  | .cmpImm cond rn rot imm8 => .arm (0x03500000#32 ||| put 28 cond.bits ||| put 16 rn ||| put 8 rot ||| put 0 imm8)
  | .cmpReg cond rn shiftImm shift rm => .arm (0x01500000#32 ||| put 28 cond.bits ||| put 16 rn ||| put 7 shiftImm ||| put 5 shift.bits ||| put 0 rm)
  | .cmpRegShift cond rn rs shift rm => .arm (0x01500010#32 ||| put 28 cond.bits ||| put 16 rn ||| put 8 rs ||| put 5 shift.bits ||| put 0 rm)
  | .cmnImm cond rn rot imm8 => .arm (0x03700000#32 ||| put 28 cond.bits ||| put 16 rn ||| put 8 rot ||| put 0 imm8)
  | .cmnReg cond rn shiftImm shift rm => .arm (0x01700000#32 ||| put 28 cond.bits ||| put 16 rn ||| put 7 shiftImm ||| put 5 shift.bits ||| put 0 rm)
  | .cmnRegShift cond rn rs shift rm => .arm (0x01700010#32 ||| put 28 cond.bits ||| put 16 rn ||| put 8 rs ||| put 5 shift.bits ||| put 0 rm)
  | .clz cond rd rm => .arm (0x016F0F10#32 ||| put 28 cond.bits ||| put 12 rd ||| put 0 rm)
  | .mul cond sBit rd rs rm => .arm (0x00000090#32 ||| put 28 cond.bits ||| putB 20 sBit ||| put 16 rd ||| put 8 rs ||| put 0 rm)
  | .mla cond sBit rd rn rs rm => .arm (0x00200090#32 ||| put 28 cond.bits ||| putB 20 sBit ||| put 16 rd ||| put 12 rn ||| put 8 rs ||| put 0 rm)
  | .umaal cond rdHi rdLo rs rm => .arm (0x00400090#32 ||| put 28 cond.bits ||| put 16 rdHi ||| put 12 rdLo ||| put 8 rs ||| put 0 rm)
  | .umull cond sBit rdHi rdLo rs rm => .arm (0x00800090#32 ||| put 28 cond.bits ||| putB 20 sBit ||| put 16 rdHi ||| put 12 rdLo ||| put 8 rs ||| put 0 rm)
  | .umlal cond sBit rdHi rdLo rs rm => .arm (0x00A00090#32 ||| put 28 cond.bits ||| putB 20 sBit ||| put 16 rdHi ||| put 12 rdLo ||| put 8 rs ||| put 0 rm)
  | .smull cond sBit rdHi rdLo rs rm => .arm (0x00C00090#32 ||| put 28 cond.bits ||| putB 20 sBit ||| put 16 rdHi ||| put 12 rdLo ||| put 8 rs ||| put 0 rm)
  | .smlal cond sBit rdHi rdLo rs rm => .arm (0x00E00090#32 ||| put 28 cond.bits ||| putB 20 sBit ||| put 16 rdHi ||| put 12 rdLo ||| put 8 rs ||| put 0 rm)
  | .qadd cond rn rd rm => .arm (0x01000050#32 ||| put 28 cond.bits ||| put 16 rn ||| put 12 rd ||| put 0 rm)
  | .qsub cond rn rd rm => .arm (0x01200050#32 ||| put 28 cond.bits ||| put 16 rn ||| put 12 rd ||| put 0 rm)
  | .qdadd cond rn rd rm => .arm (0x01400050#32 ||| put 28 cond.bits ||| put 16 rn ||| put 12 rd ||| put 0 rm)
  | .qdsub cond rn rd rm => .arm (0x01600050#32 ||| put 28 cond.bits ||| put 16 rn ||| put 12 rd ||| put 0 rm)
  | .smlaXY cond rd rn rs y x rm => .arm (0x01000080#32 ||| put 28 cond.bits ||| put 16 rd ||| put 12 rn ||| put 8 rs ||| putB 6 y ||| putB 5 x ||| put 0 rm)
  | .smlaWY cond rd rn rs y rm => .arm (0x01200080#32 ||| put 28 cond.bits ||| put 16 rd ||| put 12 rn ||| put 8 rs ||| putB 6 y ||| put 0 rm)
  | .smulWY cond rd rs y rm => .arm (0x012000A0#32 ||| put 28 cond.bits ||| put 16 rd ||| put 8 rs ||| putB 6 y ||| put 0 rm)
  | .smlalXY cond rdHi rdLo rs y x rm => .arm (0x01400080#32 ||| put 28 cond.bits ||| put 16 rdHi ||| put 12 rdLo ||| put 8 rs ||| putB 6 y ||| putB 5 x ||| put 0 rm)
  | .smulXY cond rd rs y x rm => .arm (0x01600080#32 ||| put 28 cond.bits ||| put 16 rd ||| put 8 rs ||| putB 6 y ||| putB 5 x ||| put 0 rm)
  | .sadd16 cond rn rd rm => .arm (0x06100F10#32 ||| put 28 cond.bits ||| put 16 rn ||| put 12 rd ||| put 0 rm)
  | .qadd16 cond rn rd rm => .arm (0x06200F10#32 ||| put 28 cond.bits ||| put 16 rn ||| put 12 rd ||| put 0 rm)
  | .shadd16 cond rn rd rm => .arm (0x06300F10#32 ||| put 28 cond.bits ||| put 16 rn ||| put 12 rd ||| put 0 rm)
  | .uadd16 cond rn rd rm => .arm (0x06500F10#32 ||| put 28 cond.bits ||| put 16 rn ||| put 12 rd ||| put 0 rm)
  | .uqadd16 cond rn rd rm => .arm (0x06600F10#32 ||| put 28 cond.bits ||| put 16 rn ||| put 12 rd ||| put 0 rm)
  | .uhadd16 cond rn rd rm => .arm (0x06700F10#32 ||| put 28 cond.bits ||| put 16 rn ||| put 12 rd ||| put 0 rm)
  | .saddsubx cond rn rd rm => .arm (0x06100F30#32 ||| put 28 cond.bits ||| put 16 rn ||| put 12 rd ||| put 0 rm)
  | .qaddsubx cond rn rd rm => .arm (0x06200F30#32 ||| put 28 cond.bits ||| put 16 rn ||| put 12 rd ||| put 0 rm)
  | .shaddsubx cond rn rd rm => .arm (0x06300F30#32 ||| put 28 cond.bits ||| put 16 rn ||| put 12 rd ||| put 0 rm)
  | .uaddsubx cond rn rd rm => .arm (0x06500F30#32 ||| put 28 cond.bits ||| put 16 rn ||| put 12 rd ||| put 0 rm)
  | .uqaddsubx cond rn rd rm => .arm (0x06600F30#32 ||| put 28 cond.bits ||| put 16 rn ||| put 12 rd ||| put 0 rm)
  | .uhaddsubx cond rn rd rm => .arm (0x06700F30#32 ||| put 28 cond.bits ||| put 16 rn ||| put 12 rd ||| put 0 rm)
  | .ssubaddx cond rn rd rm => .arm (0x06100F50#32 ||| put 28 cond.bits ||| put 16 rn ||| put 12 rd ||| put 0 rm)
  | .qsubaddx cond rn rd rm => .arm (0x06200F50#32 ||| put 28 cond.bits ||| put 16 rn ||| put 12 rd ||| put 0 rm)
  | .shsubaddx cond rn rd rm => .arm (0x06300F50#32 ||| put 28 cond.bits ||| put 16 rn ||| put 12 rd ||| put 0 rm)
  | .usubaddx cond rn rd rm => .arm (0x06500F50#32 ||| put 28 cond.bits ||| put 16 rn ||| put 12 rd ||| put 0 rm)
  | .uqsubaddx cond rn rd rm => .arm (0x06600F50#32 ||| put 28 cond.bits ||| put 16 rn ||| put 12 rd ||| put 0 rm)
  | .uhsubaddx cond rn rd rm => .arm (0x06700F50#32 ||| put 28 cond.bits ||| put 16 rn ||| put 12 rd ||| put 0 rm)
  | .ssub16 cond rn rd rm => .arm (0x06100F70#32 ||| put 28 cond.bits ||| put 16 rn ||| put 12 rd ||| put 0 rm)
  | .qsub16 cond rn rd rm => .arm (0x06200F70#32 ||| put 28 cond.bits ||| put 16 rn ||| put 12 rd ||| put 0 rm)
  | .shsub16 cond rn rd rm => .arm (0x06300F70#32 ||| put 28 cond.bits ||| put 16 rn ||| put 12 rd ||| put 0 rm)
  | .usub16 cond rn rd rm => .arm (0x06500F70#32 ||| put 28 cond.bits ||| put 16 rn ||| put 12 rd ||| put 0 rm)
  | .uqsub16 cond rn rd rm => .arm (0x06600F70#32 ||| put 28 cond.bits ||| put 16 rn ||| put 12 rd ||| put 0 rm)
  | .uhsub16 cond rn rd rm => .arm (0x06700F70#32 ||| put 28 cond.bits ||| put 16 rn ||| put 12 rd ||| put 0 rm)
  | .sadd8 cond rn rd rm => .arm (0x06100F90#32 ||| put 28 cond.bits ||| put 16 rn ||| put 12 rd ||| put 0 rm)
  | .qadd8 cond rn rd rm => .arm (0x06200F90#32 ||| put 28 cond.bits ||| put 16 rn ||| put 12 rd ||| put 0 rm)
  | .shadd8 cond rn rd rm => .arm (0x06300F90#32 ||| put 28 cond.bits ||| put 16 rn ||| put 12 rd ||| put 0 rm)
  | .uadd8 cond rn rd rm => .arm (0x06500F90#32 ||| put 28 cond.bits ||| put 16 rn ||| put 12 rd ||| put 0 rm)
  | .uqadd8 cond rn rd rm => .arm (0x06600F90#32 ||| put 28 cond.bits ||| put 16 rn ||| put 12 rd ||| put 0 rm)
  | .uhadd8 cond rn rd rm => .arm (0x06700F90#32 ||| put 28 cond.bits ||| put 16 rn ||| put 12 rd ||| put 0 rm)
  | .ssub8 cond rn rd rm => .arm (0x06100FF0#32 ||| put 28 cond.bits ||| put 16 rn ||| put 12 rd ||| put 0 rm)
  | .qsub8 cond rn rd rm => .arm (0x06200FF0#32 ||| put 28 cond.bits ||| put 16 rn ||| put 12 rd ||| put 0 rm)
  | .shsub8 cond rn rd rm => .arm (0x06300FF0#32 ||| put 28 cond.bits ||| put 16 rn ||| put 12 rd ||| put 0 rm)
  | .usub8 cond rn rd rm => .arm (0x06500FF0#32 ||| put 28 cond.bits ||| put 16 rn ||| put 12 rd ||| put 0 rm)
  | .uqsub8 cond rn rd rm => .arm (0x06600FF0#32 ||| put 28 cond.bits ||| put 16 rn ||| put 12 rd ||| put 0 rm)
  | .uhsub8 cond rn rd rm => .arm (0x06700FF0#32 ||| put 28 cond.bits ||| put 16 rn ||| put 12 rd ||| put 0 rm)
  | .usad8 cond rd rs rm => .arm (0x0780F010#32 ||| put 28 cond.bits ||| put 16 rd ||| put 8 rs ||| put 0 rm)
  | .usada8 cond rd rn rs rm => .arm (0x07800010#32 ||| put 28 cond.bits ||| put 16 rd ||| put 12 rn ||| put 8 rs ||| put 0 rm)
  | .sxtb16 cond rd rotate rm => .arm (0x068F0070#32 ||| put 28 cond.bits ||| put 12 rd ||| put 10 rotate ||| put 0 rm)
  | .sxtab16 cond rn rd rotate rm => .arm (0x06800070#32 ||| put 28 cond.bits ||| put 16 rn ||| put 12 rd ||| put 10 rotate ||| put 0 rm)
  | .sxtb cond rd rotate rm => .arm (0x06AF0070#32 ||| put 28 cond.bits ||| put 12 rd ||| put 10 rotate ||| put 0 rm)
  | .sxtab cond rn rd rotate rm => .arm (0x06A00070#32 ||| put 28 cond.bits ||| put 16 rn ||| put 12 rd ||| put 10 rotate ||| put 0 rm)
  | .sxth cond rd rotate rm => .arm (0x06BF0070#32 ||| put 28 cond.bits ||| put 12 rd ||| put 10 rotate ||| put 0 rm)
  | .sxtah cond rn rd rotate rm => .arm (0x06B00070#32 ||| put 28 cond.bits ||| put 16 rn ||| put 12 rd ||| put 10 rotate ||| put 0 rm)
  | .uxtb16 cond rd rotate rm => .arm (0x06CF0070#32 ||| put 28 cond.bits ||| put 12 rd ||| put 10 rotate ||| put 0 rm)
  | .uxtab16 cond rn rd rotate rm => .arm (0x06C00070#32 ||| put 28 cond.bits ||| put 16 rn ||| put 12 rd ||| put 10 rotate ||| put 0 rm)
  | .uxtb cond rd rotate rm => .arm (0x06EF0070#32 ||| put 28 cond.bits ||| put 12 rd ||| put 10 rotate ||| put 0 rm)
  | .uxtab cond rn rd rotate rm => .arm (0x06E00070#32 ||| put 28 cond.bits ||| put 16 rn ||| put 12 rd ||| put 10 rotate ||| put 0 rm)
  | .uxth cond rd rotate rm => .arm (0x06FF0070#32 ||| put 28 cond.bits ||| put 12 rd ||| put 10 rotate ||| put 0 rm)
  | .uxtah cond rn rd rotate rm => .arm (0x06F00070#32 ||| put 28 cond.bits ||| put 16 rn ||| put 12 rd ||| put 10 rotate ||| put 0 rm)
  | .smuad cond rd rs rm => .arm (0x0700F010#32 ||| put 28 cond.bits ||| put 16 rd ||| put 8 rs ||| put 0 rm)
  | .smuadx cond rd rs rm => .arm (0x0700F030#32 ||| put 28 cond.bits ||| put 16 rd ||| put 8 rs ||| put 0 rm)
  | .smusd cond rd rs rm => .arm (0x0700F050#32 ||| put 28 cond.bits ||| put 16 rd ||| put 8 rs ||| put 0 rm)
  | .smusdx cond rd rs rm => .arm (0x0700F070#32 ||| put 28 cond.bits ||| put 16 rd ||| put 8 rs ||| put 0 rm)
  | .smlad cond rd rn rs rm => .arm (0x07000010#32 ||| put 28 cond.bits ||| put 16 rd ||| put 12 rn ||| put 8 rs ||| put 0 rm)
  | .smladx cond rd rn rs rm => .arm (0x07000030#32 ||| put 28 cond.bits ||| put 16 rd ||| put 12 rn ||| put 8 rs ||| put 0 rm)
  | .smlsd cond rd rn rs rm => .arm (0x07000050#32 ||| put 28 cond.bits ||| put 16 rd ||| put 12 rn ||| put 8 rs ||| put 0 rm)
  | .smlsdx cond rd rn rs rm => .arm (0x07000070#32 ||| put 28 cond.bits ||| put 16 rd ||| put 12 rn ||| put 8 rs ||| put 0 rm)
  | .smlald cond rdHi rdLo rs rm => .arm (0x07400010#32 ||| put 28 cond.bits ||| put 16 rdHi ||| put 12 rdLo ||| put 8 rs ||| put 0 rm)
  | .smlaldx cond rdHi rdLo rs rm => .arm (0x07400030#32 ||| put 28 cond.bits ||| put 16 rdHi ||| put 12 rdLo ||| put 8 rs ||| put 0 rm)
  | .smlsld cond rdHi rdLo rs rm => .arm (0x07400050#32 ||| put 28 cond.bits ||| put 16 rdHi ||| put 12 rdLo ||| put 8 rs ||| put 0 rm)
  | .smlsldx cond rdHi rdLo rs rm => .arm (0x07400070#32 ||| put 28 cond.bits ||| put 16 rdHi ||| put 12 rdLo ||| put 8 rs ||| put 0 rm)
  | .smmul cond rd rs rm => .arm (0x0750F010#32 ||| put 28 cond.bits ||| put 16 rd ||| put 8 rs ||| put 0 rm)
  | .smmulr cond rd rs rm => .arm (0x0750F030#32 ||| put 28 cond.bits ||| put 16 rd ||| put 8 rs ||| put 0 rm)
  | .smmla cond rd rn rs rm => .arm (0x07500010#32 ||| put 28 cond.bits ||| put 16 rd ||| put 12 rn ||| put 8 rs ||| put 0 rm)
  | .smmlar cond rd rn rs rm => .arm (0x07500030#32 ||| put 28 cond.bits ||| put 16 rd ||| put 12 rn ||| put 8 rs ||| put 0 rm)
  | .smmls cond rd rn rs rm => .arm (0x075000D0#32 ||| put 28 cond.bits ||| put 16 rd ||| put 12 rn ||| put 8 rs ||| put 0 rm)
  | .smmlsr cond rd rn rs rm => .arm (0x075000F0#32 ||| put 28 cond.bits ||| put 16 rd ||| put 12 rn ||| put 8 rs ||| put 0 rm)
  | .ssat cond satImm rd shiftImm sh rm => .arm (0x06A00010#32 ||| put 28 cond.bits ||| put 16 satImm ||| put 12 rd ||| put 7 shiftImm ||| putB 6 sh ||| put 0 rm)
  | .usat cond satImm rd shiftImm sh rm => .arm (0x06E00010#32 ||| put 28 cond.bits ||| put 16 satImm ||| put 12 rd ||| put 7 shiftImm ||| putB 6 sh ||| put 0 rm)
  | .ssat16 cond satImm rd rm => .arm (0x06A00F30#32 ||| put 28 cond.bits ||| put 16 satImm ||| put 12 rd ||| put 0 rm)
  | .usat16 cond satImm rd rm => .arm (0x06E00F30#32 ||| put 28 cond.bits ||| put 16 satImm ||| put 12 rd ||| put 0 rm)
  | .sel cond rn rd rm => .arm (0x06800FB0#32 ||| put 28 cond.bits ||| put 16 rn ||| put 12 rd ||| put 0 rm)
  | .pkhbt cond rn rd shiftImm rm => .arm (0x06800010#32 ||| put 28 cond.bits ||| put 16 rn ||| put 12 rd ||| put 7 shiftImm ||| put 0 rm)
  | .pkhtb cond rn rd shiftImm rm => .arm (0x06800050#32 ||| put 28 cond.bits ||| put 16 rn ||| put 12 rd ||| put 7 shiftImm ||| put 0 rm)
  | .rev cond rd rm => .arm (0x06BF0F30#32 ||| put 28 cond.bits ||| put 12 rd ||| put 0 rm)
  | .rev16 cond rd rm => .arm (0x06BF0FB0#32 ||| put 28 cond.bits ||| put 12 rd ||| put 0 rm)
  | .revsh cond rd rm => .arm (0x06FF0FB0#32 ||| put 28 cond.bits ||| put 12 rd ||| put 0 rm)
  | .ldrtImm cond u rn rd off12 => .arm (0x04300000#32 ||| put 28 cond.bits ||| putB 23 u ||| put 16 rn ||| put 12 rd ||| put 0 off12)
  | .ldrtReg cond u rn rd shiftImm shift rm => .arm (0x06300000#32 ||| put 28 cond.bits ||| putB 23 u ||| put 16 rn ||| put 12 rd ||| put 7 shiftImm ||| put 5 shift.bits ||| put 0 rm)
  | .ldrbtImm cond u rn rd off12 => .arm (0x04700000#32 ||| put 28 cond.bits ||| putB 23 u ||| put 16 rn ||| put 12 rd ||| put 0 off12)
  | .ldrbtReg cond u rn rd shiftImm shift rm => .arm (0x06700000#32 ||| put 28 cond.bits ||| putB 23 u ||| put 16 rn ||| put 12 rd ||| put 7 shiftImm ||| put 5 shift.bits ||| put 0 rm)
  | .strtImm cond u rn rd off12 => .arm (0x04200000#32 ||| put 28 cond.bits ||| putB 23 u ||| put 16 rn ||| put 12 rd ||| put 0 off12)
  | .strtReg cond u rn rd shiftImm shift rm => .arm (0x06200000#32 ||| put 28 cond.bits ||| putB 23 u ||| put 16 rn ||| put 12 rd ||| put 7 shiftImm ||| put 5 shift.bits ||| put 0 rm)
  | .strbtImm cond u rn rd off12 => .arm (0x04600000#32 ||| put 28 cond.bits ||| putB 23 u ||| put 16 rn ||| put 12 rd ||| put 0 off12)
  | .strbtReg cond u rn rd shiftImm shift rm => .arm (0x06600000#32 ||| put 28 cond.bits ||| putB 23 u ||| put 16 rn ||| put 12 rd ||| put 7 shiftImm ||| put 5 shift.bits ||| put 0 rm)
  | .ldrImm cond p u w rn rd off12 => .arm (0x04100000#32 ||| put 28 cond.bits ||| putB 24 p ||| putB 23 u ||| putB 21 w ||| put 16 rn ||| put 12 rd ||| put 0 off12)
  | .ldrReg cond p u w rn rd shiftImm shift rm => .arm (0x06100000#32 ||| put 28 cond.bits ||| putB 24 p ||| putB 23 u ||| putB 21 w ||| put 16 rn ||| put 12 rd ||| put 7 shiftImm ||| put 5 shift.bits ||| put 0 rm)
  | .ldrbImm cond p u w rn rd off12 => .arm (0x04500000#32 ||| put 28 cond.bits ||| putB 24 p ||| putB 23 u ||| putB 21 w ||| put 16 rn ||| put 12 rd ||| put 0 off12)
  | .ldrbReg cond p u w rn rd shiftImm shift rm => .arm (0x06500000#32 ||| put 28 cond.bits ||| putB 24 p ||| putB 23 u ||| putB 21 w ||| put 16 rn ||| put 12 rd ||| put 7 shiftImm ||| put 5 shift.bits ||| put 0 rm)
  | .strImm cond p u w rn rd off12 => .arm (0x04000000#32 ||| put 28 cond.bits ||| putB 24 p ||| putB 23 u ||| putB 21 w ||| put 16 rn ||| put 12 rd ||| put 0 off12)
  | .strReg cond p u w rn rd shiftImm shift rm => .arm (0x06000000#32 ||| put 28 cond.bits ||| putB 24 p ||| putB 23 u ||| putB 21 w ||| put 16 rn ||| put 12 rd ||| put 7 shiftImm ||| put 5 shift.bits ||| put 0 rm)
  | .strbImm cond p u w rn rd off12 => .arm (0x04400000#32 ||| put 28 cond.bits ||| putB 24 p ||| putB 23 u ||| putB 21 w ||| put 16 rn ||| put 12 rd ||| put 0 off12)
  | .strbReg cond p u w rn rd shiftImm shift rm => .arm (0x06400000#32 ||| put 28 cond.bits ||| putB 24 p ||| putB 23 u ||| putB 21 w ||| put 16 rn ||| put 12 rd ||| put 7 shiftImm ||| put 5 shift.bits ||| put 0 rm)
  | .strhImm cond p u w rn rd immH immL => .arm (0x004000B0#32 ||| put 28 cond.bits ||| putB 24 p ||| putB 23 u ||| putB 21 w ||| put 16 rn ||| put 12 rd ||| put 8 immH ||| put 0 immL)
  | .strhReg cond p u w rn rd rm => .arm (0x000000B0#32 ||| put 28 cond.bits ||| putB 24 p ||| putB 23 u ||| putB 21 w ||| put 16 rn ||| put 12 rd ||| put 0 rm)
  | .ldrdImm cond p u w rn rd immH immL => .arm (0x004000D0#32 ||| put 28 cond.bits ||| putB 24 p ||| putB 23 u ||| putB 21 w ||| put 16 rn ||| put 12 rd ||| put 8 immH ||| put 0 immL)
  | .ldrdReg cond p u w rn rd rm => .arm (0x000000D0#32 ||| put 28 cond.bits ||| putB 24 p ||| putB 23 u ||| putB 21 w ||| put 16 rn ||| put 12 rd ||| put 0 rm)
  | .strdImm cond p u w rn rd immH immL => .arm (0x004000F0#32 ||| put 28 cond.bits ||| putB 24 p ||| putB 23 u ||| putB 21 w ||| put 16 rn ||| put 12 rd ||| put 8 immH ||| put 0 immL)
  | .strdReg cond p u w rn rd rm => .arm (0x000000F0#32 ||| put 28 cond.bits ||| putB 24 p ||| putB 23 u ||| putB 21 w ||| put 16 rn ||| put 12 rd ||| put 0 rm)
  | .ldrhImm cond p u w rn rd immH immL => .arm (0x005000B0#32 ||| put 28 cond.bits ||| putB 24 p ||| putB 23 u ||| putB 21 w ||| put 16 rn ||| put 12 rd ||| put 8 immH ||| put 0 immL)
  | .ldrhReg cond p u w rn rd rm => .arm (0x001000B0#32 ||| put 28 cond.bits ||| putB 24 p ||| putB 23 u ||| putB 21 w ||| put 16 rn ||| put 12 rd ||| put 0 rm)
  | .ldrsbImm cond p u w rn rd immH immL => .arm (0x005000D0#32 ||| put 28 cond.bits ||| putB 24 p ||| putB 23 u ||| putB 21 w ||| put 16 rn ||| put 12 rd ||| put 8 immH ||| put 0 immL)
  | .ldrsbReg cond p u w rn rd rm => .arm (0x001000D0#32 ||| put 28 cond.bits ||| putB 24 p ||| putB 23 u ||| putB 21 w ||| put 16 rn ||| put 12 rd ||| put 0 rm)
  | .ldrshImm cond p u w rn rd immH immL => .arm (0x005000F0#32 ||| put 28 cond.bits ||| putB 24 p ||| putB 23 u ||| putB 21 w ||| put 16 rn ||| put 12 rd ||| put 8 immH ||| put 0 immL)
  | .ldrshReg cond p u w rn rd rm => .arm (0x001000F0#32 ||| put 28 cond.bits ||| putB 24 p ||| putB 23 u ||| putB 21 w ||| put 16 rn ||| put 12 rd ||| put 0 rm)
  | .ldm1 cond p u w rn regs => .arm (0x08100000#32 ||| put 28 cond.bits ||| putB 24 p ||| putB 23 u ||| putB 21 w ||| put 16 rn ||| put 0 regs)
  | .ldm2 cond p u rn regs => .arm (0x08500000#32 ||| put 28 cond.bits ||| putB 24 p ||| putB 23 u ||| put 16 rn ||| put 0 regs)
  | .ldm3 cond p u w rn regs => .arm (0x08508000#32 ||| put 28 cond.bits ||| putB 24 p ||| putB 23 u ||| putB 21 w ||| put 16 rn ||| put 0 regs)
  | .stm1 cond p u w rn regs => .arm (0x08000000#32 ||| put 28 cond.bits ||| putB 24 p ||| putB 23 u ||| putB 21 w ||| put 16 rn ||| put 0 regs)
  | .stm2 cond p u rn regs => .arm (0x08400000#32 ||| put 28 cond.bits ||| putB 24 p ||| putB 23 u ||| put 16 rn ||| put 0 regs)
  | .swp cond rn rd rm => .arm (0x01000090#32 ||| put 28 cond.bits ||| put 16 rn ||| put 12 rd ||| put 0 rm)
  | .swpb cond rn rd rm => .arm (0x01400090#32 ||| put 28 cond.bits ||| put 16 rn ||| put 12 rd ||| put 0 rm)
  | .strex cond rn rd rm => .arm (0x01800F90#32 ||| put 28 cond.bits ||| put 16 rn ||| put 12 rd ||| put 0 rm)
  | .ldrex cond rn rd => .arm (0x01900F9F#32 ||| put 28 cond.bits ||| put 16 rn ||| put 12 rd)
  | .strexd cond rn rd rm => .arm (0x01A00F90#32 ||| put 28 cond.bits ||| put 16 rn ||| put 12 rd ||| put 0 rm)
  | .ldrexd cond rn rd => .arm (0x01B00F9F#32 ||| put 28 cond.bits ||| put 16 rn ||| put 12 rd)
  | .strexb cond rn rd rm => .arm (0x01C00F90#32 ||| put 28 cond.bits ||| put 16 rn ||| put 12 rd ||| put 0 rm)
  | .ldrexb cond rn rd => .arm (0x01D00F9F#32 ||| put 28 cond.bits ||| put 16 rn ||| put 12 rd)
  | .strexh cond rn rd rm => .arm (0x01E00F90#32 ||| put 28 cond.bits ||| put 16 rn ||| put 12 rd ||| put 0 rm)
  | .ldrexh cond rn rd => .arm (0x01F00F9F#32 ||| put 28 cond.bits ||| put 16 rn ||| put 12 rd)
  | .mrs cond rBit rd => .arm (0x010F0000#32 ||| put 28 cond.bits ||| putB 22 rBit ||| put 12 rd)
  | .msrReg cond rBit fieldMask rm => .arm (0x0120F000#32 ||| put 28 cond.bits ||| putB 22 rBit ||| put 16 fieldMask ||| put 0 rm)
  | .nop cond hint => .arm (0x0320F000#32 ||| put 28 cond.bits ||| put 0 hint)
  | .msrImm cond rBit fieldMask rot imm8 => .arm (0x0320F000#32 ||| put 28 cond.bits ||| putB 22 rBit ||| put 16 fieldMask ||| put 8 rot ||| put 0 imm8)
  | .b cond simm24 => .arm (0x0A000000#32 ||| put 28 cond.bits ||| put 0 simm24)
  | .bl cond simm24 => .arm (0x0B000000#32 ||| put 28 cond.bits ||| put 0 simm24)
  | .bx cond rm => .arm (0x012FFF10#32 ||| put 28 cond.bits ||| put 0 rm)
  | .bxj cond rm => .arm (0x012FFF20#32 ||| put 28 cond.bits ||| put 0 rm)
  | .blx2 cond rm => .arm (0x012FFF30#32 ||| put 28 cond.bits ||| put 0 rm)
  | .bkpt immHi immLo => .arm (0xE1200070#32 ||| put 8 immHi ||| put 0 immLo)
  | .smc cond immHi immLo => .arm (0x01600070#32 ||| put 28 cond.bits ||| put 8 immHi ||| put 0 immLo)
  | .svc cond imm24 => .arm (0x0F000000#32 ||| put 28 cond.bits ||| put 0 imm24)
  | .undefArch cond anyHi anyLo => .arm (0x07F000F0#32 ||| put 28 cond.bits ||| put 8 anyHi ||| put 0 anyLo)
  | .fmacs cond dBit fn fd nBit mBit fm => .arm (0x0E000A00#32 ||| put 28 cond.bits ||| putB 22 dBit ||| put 16 fn ||| put 12 fd ||| putB 7 nBit ||| putB 5 mBit ||| put 0 fm)
  | .fmacd cond fn fd fm => .arm (0x0E000B00#32 ||| put 28 cond.bits ||| put 16 fn ||| put 12 fd ||| put 0 fm)
  | .fnmacs cond dBit fn fd nBit mBit fm => .arm (0x0E000A40#32 ||| put 28 cond.bits ||| putB 22 dBit ||| put 16 fn ||| put 12 fd ||| putB 7 nBit ||| putB 5 mBit ||| put 0 fm)
  | .fnmacd cond fn fd fm => .arm (0x0E000B40#32 ||| put 28 cond.bits ||| put 16 fn ||| put 12 fd ||| put 0 fm)
  | .fmscs cond dBit fn fd nBit mBit fm => .arm (0x0E100A00#32 ||| put 28 cond.bits ||| putB 22 dBit ||| put 16 fn ||| put 12 fd ||| putB 7 nBit ||| putB 5 mBit ||| put 0 fm)
  | .fmscd cond fn fd fm => .arm (0x0E100B00#32 ||| put 28 cond.bits ||| put 16 fn ||| put 12 fd ||| put 0 fm)
  | .fnmscs cond dBit fn fd nBit mBit fm => .arm (0x0E100A40#32 ||| put 28 cond.bits ||| putB 22 dBit ||| put 16 fn ||| put 12 fd ||| putB 7 nBit ||| putB 5 mBit ||| put 0 fm)
  | .fnmscd cond fn fd fm => .arm (0x0E100B40#32 ||| put 28 cond.bits ||| put 16 fn ||| put 12 fd ||| put 0 fm)
  | .fmuls cond dBit fn fd nBit mBit fm => .arm (0x0E200A00#32 ||| put 28 cond.bits ||| putB 22 dBit ||| put 16 fn ||| put 12 fd ||| putB 7 nBit ||| putB 5 mBit ||| put 0 fm)
  | .fmuld cond fn fd fm => .arm (0x0E200B00#32 ||| put 28 cond.bits ||| put 16 fn ||| put 12 fd ||| put 0 fm)
  | .fnmuls cond dBit fn fd nBit mBit fm => .arm (0x0E200A40#32 ||| put 28 cond.bits ||| putB 22 dBit ||| put 16 fn ||| put 12 fd ||| putB 7 nBit ||| putB 5 mBit ||| put 0 fm)
  | .fnmuld cond fn fd fm => .arm (0x0E200B40#32 ||| put 28 cond.bits ||| put 16 fn ||| put 12 fd ||| put 0 fm)
  | .fadds cond dBit fn fd nBit mBit fm => .arm (0x0E300A00#32 ||| put 28 cond.bits ||| putB 22 dBit ||| put 16 fn ||| put 12 fd ||| putB 7 nBit ||| putB 5 mBit ||| put 0 fm)
  | .faddd cond fn fd fm => .arm (0x0E300B00#32 ||| put 28 cond.bits ||| put 16 fn ||| put 12 fd ||| put 0 fm)
  | .fsubs cond dBit fn fd nBit mBit fm => .arm (0x0E300A40#32 ||| put 28 cond.bits ||| putB 22 dBit ||| put 16 fn ||| put 12 fd ||| putB 7 nBit ||| putB 5 mBit ||| put 0 fm)
  | .fsubd cond fn fd fm => .arm (0x0E300B40#32 ||| put 28 cond.bits ||| put 16 fn ||| put 12 fd ||| put 0 fm)
  | .fdivs cond dBit fn fd nBit mBit fm => .arm (0x0E800A00#32 ||| put 28 cond.bits ||| putB 22 dBit ||| put 16 fn ||| put 12 fd ||| putB 7 nBit ||| putB 5 mBit ||| put 0 fm)
  | .fdivd cond fn fd fm => .arm (0x0E800B00#32 ||| put 28 cond.bits ||| put 16 fn ||| put 12 fd ||| put 0 fm)
  | .fcpys cond dBit fd mBit fm => .arm (0x0EB00A40#32 ||| put 28 cond.bits ||| putB 22 dBit ||| put 12 fd ||| putB 5 mBit ||| put 0 fm)
  | .fcpyd cond fd fm => .arm (0x0EB00B40#32 ||| put 28 cond.bits ||| put 12 fd ||| put 0 fm)
  | .fabss cond dBit fd mBit fm => .arm (0x0EB00AC0#32 ||| put 28 cond.bits ||| putB 22 dBit ||| put 12 fd ||| putB 5 mBit ||| put 0 fm)
  | .fabsd cond fd fm => .arm (0x0EB00BC0#32 ||| put 28 cond.bits ||| put 12 fd ||| put 0 fm)
  | .fnegs cond dBit fd mBit fm => .arm (0x0EB10A40#32 ||| put 28 cond.bits ||| putB 22 dBit ||| put 12 fd ||| putB 5 mBit ||| put 0 fm)
  | .fnegd cond fd fm => .arm (0x0EB10B40#32 ||| put 28 cond.bits ||| put 12 fd ||| put 0 fm)
  | .fsqrts cond dBit fd mBit fm => .arm (0x0EB10AC0#32 ||| put 28 cond.bits ||| putB 22 dBit ||| put 12 fd ||| putB 5 mBit ||| put 0 fm)
  | .fsqrtd cond fd fm => .arm (0x0EB10BC0#32 ||| put 28 cond.bits ||| put 12 fd ||| put 0 fm)
  | .fcmps cond dBit fd mBit fm => .arm (0x0EB40A40#32 ||| put 28 cond.bits ||| putB 22 dBit ||| put 12 fd ||| putB 5 mBit ||| put 0 fm)
  | .fcmpd cond fd fm => .arm (0x0EB40B40#32 ||| put 28 cond.bits ||| put 12 fd ||| put 0 fm)
  | .fcmpes cond dBit fd mBit fm => .arm (0x0EB40AC0#32 ||| put 28 cond.bits ||| putB 22 dBit ||| put 12 fd ||| putB 5 mBit ||| put 0 fm)
  | .fcmped cond fd fm => .arm (0x0EB40BC0#32 ||| put 28 cond.bits ||| put 12 fd ||| put 0 fm)
  | .fcmpzs cond dBit fd => .arm (0x0EB50A40#32 ||| put 28 cond.bits ||| putB 22 dBit ||| put 12 fd)
  | .fcmpzd cond fd => .arm (0x0EB50B40#32 ||| put 28 cond.bits ||| put 12 fd)
  | .fcmpezs cond dBit fd => .arm (0x0EB50AC0#32 ||| put 28 cond.bits ||| putB 22 dBit ||| put 12 fd)
  | .fcmpezd cond fd => .arm (0x0EB50BC0#32 ||| put 28 cond.bits ||| put 12 fd)
  | .fcvtds cond fd mBit fm => .arm (0x0EB70AC0#32 ||| put 28 cond.bits ||| put 12 fd ||| putB 5 mBit ||| put 0 fm)
  | .fcvtsd cond dBit fd fm => .arm (0x0EB70BC0#32 ||| put 28 cond.bits ||| putB 22 dBit ||| put 12 fd ||| put 0 fm)
  | .fuitos cond dBit fd mBit fm => .arm (0x0EB80A40#32 ||| put 28 cond.bits ||| putB 22 dBit ||| put 12 fd ||| putB 5 mBit ||| put 0 fm)
  | .fuitod cond fd mBit fm => .arm (0x0EB80B40#32 ||| put 28 cond.bits ||| put 12 fd ||| putB 5 mBit ||| put 0 fm)
  | .fsitos cond dBit fd mBit fm => .arm (0x0EB80AC0#32 ||| put 28 cond.bits ||| putB 22 dBit ||| put 12 fd ||| putB 5 mBit ||| put 0 fm)
  | .fsitod cond fd mBit fm => .arm (0x0EB80BC0#32 ||| put 28 cond.bits ||| put 12 fd ||| putB 5 mBit ||| put 0 fm)
  | .ftouis cond dBit fd mBit fm => .arm (0x0EBC0A40#32 ||| put 28 cond.bits ||| putB 22 dBit ||| put 12 fd ||| putB 5 mBit ||| put 0 fm)
  | .ftouid cond dBit fd fm => .arm (0x0EBC0B40#32 ||| put 28 cond.bits ||| putB 22 dBit ||| put 12 fd ||| put 0 fm)
  | .ftouizs cond dBit fd mBit fm => .arm (0x0EBC0AC0#32 ||| put 28 cond.bits ||| putB 22 dBit ||| put 12 fd ||| putB 5 mBit ||| put 0 fm)
  | .ftouizd cond dBit fd fm => .arm (0x0EBC0BC0#32 ||| put 28 cond.bits ||| putB 22 dBit ||| put 12 fd ||| put 0 fm)
  | .ftosis cond dBit fd mBit fm => .arm (0x0EBD0A40#32 ||| put 28 cond.bits ||| putB 22 dBit ||| put 12 fd ||| putB 5 mBit ||| put 0 fm)
  | .ftosid cond dBit fd fm => .arm (0x0EBD0B40#32 ||| put 28 cond.bits ||| putB 22 dBit ||| put 12 fd ||| put 0 fm)
  | .ftosizs cond dBit fd mBit fm => .arm (0x0EBD0AC0#32 ||| put 28 cond.bits ||| putB 22 dBit ||| put 12 fd ||| putB 5 mBit ||| put 0 fm)
  | .ftosizd cond dBit fd fm => .arm (0x0EBD0BC0#32 ||| put 28 cond.bits ||| putB 22 dBit ||| put 12 fd ||| put 0 fm)
  | .flds cond u dBit rn fd off8 => .arm (0x0D100A00#32 ||| put 28 cond.bits ||| putB 23 u ||| putB 22 dBit ||| put 16 rn ||| put 12 fd ||| put 0 off8)
  | .fldd cond u rn fd off8 => .arm (0x0D100B00#32 ||| put 28 cond.bits ||| putB 23 u ||| put 16 rn ||| put 12 fd ||| put 0 off8)
  | .fsts cond u dBit rn fd off8 => .arm (0x0D000A00#32 ||| put 28 cond.bits ||| putB 23 u ||| putB 22 dBit ||| put 16 rn ||| put 12 fd ||| put 0 off8)
  | .fstd cond u rn fd off8 => .arm (0x0D000B00#32 ||| put 28 cond.bits ||| putB 23 u ||| put 16 rn ||| put 12 fd ||| put 0 off8)
  | .fldmsIa cond dBit rn fd off8 => .arm (0x0C900A00#32 ||| put 28 cond.bits ||| putB 22 dBit ||| put 16 rn ||| put 12 fd ||| put 0 off8)
  | .fldmdxIa cond rn fd off8 => .arm (0x0C900B00#32 ||| put 28 cond.bits ||| put 16 rn ||| put 12 fd ||| put 0 off8)
  | .fldmsIaW cond dBit rn fd off8 => .arm (0x0CB00A00#32 ||| put 28 cond.bits ||| putB 22 dBit ||| put 16 rn ||| put 12 fd ||| put 0 off8)
  | .fldmdxIaW cond rn fd off8 => .arm (0x0CB00B00#32 ||| put 28 cond.bits ||| put 16 rn ||| put 12 fd ||| put 0 off8)
  | .fldmsDbW cond dBit rn fd off8 => .arm (0x0D300A00#32 ||| put 28 cond.bits ||| putB 22 dBit ||| put 16 rn ||| put 12 fd ||| put 0 off8)
  | .fldmdxDbW cond rn fd off8 => .arm (0x0D300B00#32 ||| put 28 cond.bits ||| put 16 rn ||| put 12 fd ||| put 0 off8)
  | .fstmsIa cond dBit rn fd off8 => .arm (0x0C800A00#32 ||| put 28 cond.bits ||| putB 22 dBit ||| put 16 rn ||| put 12 fd ||| put 0 off8)
  | .fstmdxIa cond rn fd off8 => .arm (0x0C800B00#32 ||| put 28 cond.bits ||| put 16 rn ||| put 12 fd ||| put 0 off8)
  | .fstmsIaW cond dBit rn fd off8 => .arm (0x0CA00A00#32 ||| put 28 cond.bits ||| putB 22 dBit ||| put 16 rn ||| put 12 fd ||| put 0 off8)
  | .fstmdxIaW cond rn fd off8 => .arm (0x0CA00B00#32 ||| put 28 cond.bits ||| put 16 rn ||| put 12 fd ||| put 0 off8)
  | .fstmsDbW cond dBit rn fd off8 => .arm (0x0D200A00#32 ||| put 28 cond.bits ||| putB 22 dBit ||| put 16 rn ||| put 12 fd ||| put 0 off8)
  | .fstmdxDbW cond rn fd off8 => .arm (0x0D200B00#32 ||| put 28 cond.bits ||| put 16 rn ||| put 12 fd ||| put 0 off8)
  | .fmsr cond fn rd nBit => .arm (0x0E000A10#32 ||| put 28 cond.bits ||| put 16 fn ||| put 12 rd ||| putB 7 nBit)
  | .fmrs cond fn rd nBit => .arm (0x0E100A10#32 ||| put 28 cond.bits ||| put 16 fn ||| put 12 rd ||| putB 7 nBit)
  | .fmdlr cond fn rd => .arm (0x0E000B10#32 ||| put 28 cond.bits ||| put 16 fn ||| put 12 rd)
  | .fmrdl cond fn rd => .arm (0x0E100B10#32 ||| put 28 cond.bits ||| put 16 fn ||| put 12 rd)
  | .fmdhr cond fn rd => .arm (0x0E200B10#32 ||| put 28 cond.bits ||| put 16 fn ||| put 12 rd)
  | .fmrdh cond fn rd => .arm (0x0E300B10#32 ||| put 28 cond.bits ||| put 16 fn ||| put 12 rd)
  | .fmxr cond reg rd => .arm (0x0EE00A10#32 ||| put 28 cond.bits ||| put 16 reg ||| put 12 rd)
  | .fmstat cond => .arm (0x0EF1FA10#32 ||| put 28 cond.bits)
  | .fmrx cond reg rd => .arm (0x0EF00A10#32 ||| put 28 cond.bits ||| put 16 reg ||| put 12 rd)
  | .fmdrr cond rn rd dm => .arm (0x0C400B10#32 ||| put 28 cond.bits ||| put 16 rn ||| put 12 rd ||| put 0 dm)
  | .fmrrd cond rn rd dm => .arm (0x0C500B10#32 ||| put 28 cond.bits ||| put 16 rn ||| put 12 rd ||| put 0 dm)
  | .fmsrr cond rn rd mBit sm => .arm (0x0C400A10#32 ||| put 28 cond.bits ||| put 16 rn ||| put 12 rd ||| putB 5 mBit ||| put 0 sm)
  | .fmrrs cond rn rd mBit sm => .arm (0x0C500A10#32 ||| put 28 cond.bits ||| put 16 rn ||| put 12 rd ||| putB 5 mBit ||| put 0 sm)
  | .cdp cond opc1 cRn cRd cpNum opc2 cRm => .arm (0x0E000000#32 ||| put 28 cond.bits ||| put 20 opc1 ||| put 16 cRn ||| put 12 cRd ||| put 8 cpNum ||| put 5 opc2 ||| put 0 cRm)
  | .mcr cond opc1 cRn rd cpNum opc2 cRm => .arm (0x0E000010#32 ||| put 28 cond.bits ||| put 21 opc1 ||| put 16 cRn ||| put 12 rd ||| put 8 cpNum ||| put 5 opc2 ||| put 0 cRm)
  | .mrc cond opc1 cRn rd cpNum opc2 cRm => .arm (0x0E100010#32 ||| put 28 cond.bits ||| put 21 opc1 ||| put 16 cRn ||| put 12 rd ||| put 8 cpNum ||| put 5 opc2 ||| put 0 cRm)
  | .mcrr cond rn rd cpNum opc cRm => .arm (0x0C400000#32 ||| put 28 cond.bits ||| put 16 rn ||| put 12 rd ||| put 8 cpNum ||| put 4 opc ||| put 0 cRm)
  | .mrrc cond rn rd cpNum opc cRm => .arm (0x0C500000#32 ||| put 28 cond.bits ||| put 16 rn ||| put 12 rd ||| put 8 cpNum ||| put 4 opc ||| put 0 cRm)
  | .undefCop cond l raw => .arm (0x0C000000#32 ||| put 28 cond.bits ||| putB 20 l ||| put 0 raw)
  | .ldc cond p u nBit w rn cRd cpNum off8 => .arm (0x0C100000#32 ||| put 28 cond.bits ||| putB 24 p ||| putB 23 u ||| putB 22 nBit ||| putB 21 w ||| put 16 rn ||| put 12 cRd ||| put 8 cpNum ||| put 0 off8)
  | .stc cond p u nBit w rn cRd cpNum off8 => .arm (0x0C000000#32 ||| put 28 cond.bits ||| putB 24 p ||| putB 23 u ||| putB 22 nBit ||| putB 21 w ||| put 16 rn ||| put 12 cRd ||| put 8 cpNum ||| put 0 off8)
  | .tLslImm imm5 rm rd => .thumb (0x0000#16 ||| puth 6 imm5 ||| puth 3 rm ||| puth 0 rd)
  | .tLsrImm imm5 rm rd => .thumb (0x0800#16 ||| puth 6 imm5 ||| puth 3 rm ||| puth 0 rd)
  | .tAsrImm imm5 rm rd => .thumb (0x1000#16 ||| puth 6 imm5 ||| puth 3 rm ||| puth 0 rd)
  | .tAddReg3 rm rn rd => .thumb (0x1800#16 ||| puth 6 rm ||| puth 3 rn ||| puth 0 rd)
  | .tSubReg3 rm rn rd => .thumb (0x1A00#16 ||| puth 6 rm ||| puth 3 rn ||| puth 0 rd)
  | .tMovLow rm rd => .thumb (0x1C00#16 ||| puth 3 rm ||| puth 0 rd)
  | .tAddImm3 imm3 rn rd => .thumb (0x1C00#16 ||| puth 6 imm3 ||| puth 3 rn ||| puth 0 rd)
  | .tSubImm3 imm3 rn rd => .thumb (0x1E00#16 ||| puth 6 imm3 ||| puth 3 rn ||| puth 0 rd)
  | .tMovImm8 rd imm8 => .thumb (0x2000#16 ||| puth 8 rd ||| puth 0 imm8)
  | .tCmpImm8 rn imm8 => .thumb (0x2800#16 ||| puth 8 rn ||| puth 0 imm8)
  | .tAddImm8 rd imm8 => .thumb (0x3000#16 ||| puth 8 rd ||| puth 0 imm8)
  | .tSubImm8 rd imm8 => .thumb (0x3800#16 ||| puth 8 rd ||| puth 0 imm8)
  | .tAndReg rm rd => .thumb (0x4000#16 ||| puth 3 rm ||| puth 0 rd)
  | .tEorReg rm rd => .thumb (0x4040#16 ||| puth 3 rm ||| puth 0 rd)
  | .tLslReg rm rd => .thumb (0x4080#16 ||| puth 3 rm ||| puth 0 rd)
  | .tLsrReg rm rd => .thumb (0x40C0#16 ||| puth 3 rm ||| puth 0 rd)
  | .tAsrReg rm rd => .thumb (0x4100#16 ||| puth 3 rm ||| puth 0 rd)
  | .tAdcReg rm rd => .thumb (0x4140#16 ||| puth 3 rm ||| puth 0 rd)
  | .tSbcReg rm rd => .thumb (0x4180#16 ||| puth 3 rm ||| puth 0 rd)
  | .tRorReg rm rd => .thumb (0x41C0#16 ||| puth 3 rm ||| puth 0 rd)
  | .tTstReg rm rd => .thumb (0x4200#16 ||| puth 3 rm ||| puth 0 rd)
  | .tNegReg rm rd => .thumb (0x4240#16 ||| puth 3 rm ||| puth 0 rd)
  | .tCmpReg rm rd => .thumb (0x4280#16 ||| puth 3 rm ||| puth 0 rd)
  | .tCmnReg rm rd => .thumb (0x42C0#16 ||| puth 3 rm ||| puth 0 rd)
  | .tOrrReg rm rd => .thumb (0x4300#16 ||| puth 3 rm ||| puth 0 rd)
  | .tMulReg rm rd => .thumb (0x4340#16 ||| puth 3 rm ||| puth 0 rd)
  | .tBicReg rm rd => .thumb (0x4380#16 ||| puth 3 rm ||| puth 0 rd)
  | .tMvnReg rm rd => .thumb (0x43C0#16 ||| puth 3 rm ||| puth 0 rd)
  | .tAddHigh h1 h2 rm rd => .thumb (0x4400#16 ||| puthB 7 h1 ||| puthB 6 h2 ||| puth 3 rm ||| puth 0 rd)
  | .tCmpHigh h1 h2 rm rn => .thumb (0x4500#16 ||| puthB 7 h1 ||| puthB 6 h2 ||| puth 3 rm ||| puth 0 rn)
  | .tMovHigh h1 h2 rm rd => .thumb (0x4600#16 ||| puthB 7 h1 ||| puthB 6 h2 ||| puth 3 rm ||| puth 0 rd)
  | .tBx h2 rm => .thumb (0x4700#16 ||| puthB 6 h2 ||| puth 3 rm)
  | .tBlx2 h2 rm => .thumb (0x4780#16 ||| puthB 6 h2 ||| puth 3 rm)
  | .tLdrPc rd imm8 => .thumb (0x4800#16 ||| puth 8 rd ||| puth 0 imm8)
  | .tStrReg rm rn rd => .thumb (0x5000#16 ||| puth 6 rm ||| puth 3 rn ||| puth 0 rd)
  | .tStrhReg rm rn rd => .thumb (0x5200#16 ||| puth 6 rm ||| puth 3 rn ||| puth 0 rd)
  | .tStrbReg rm rn rd => .thumb (0x5400#16 ||| puth 6 rm ||| puth 3 rn ||| puth 0 rd)
  | .tLdrsbReg rm rn rd => .thumb (0x5600#16 ||| puth 6 rm ||| puth 3 rn ||| puth 0 rd)
  | .tLdrReg rm rn rd => .thumb (0x5800#16 ||| puth 6 rm ||| puth 3 rn ||| puth 0 rd)
  | .tLdrhReg rm rn rd => .thumb (0x5A00#16 ||| puth 6 rm ||| puth 3 rn ||| puth 0 rd)
  | .tLdrbReg rm rn rd => .thumb (0x5C00#16 ||| puth 6 rm ||| puth 3 rn ||| puth 0 rd)
  | .tLdrshReg rm rn rd => .thumb (0x5E00#16 ||| puth 6 rm ||| puth 3 rn ||| puth 0 rd)
  | .tStrImm imm5 rn rd => .thumb (0x6000#16 ||| puth 6 imm5 ||| puth 3 rn ||| puth 0 rd)
  | .tLdrImm imm5 rn rd => .thumb (0x6800#16 ||| puth 6 imm5 ||| puth 3 rn ||| puth 0 rd)
  | .tStrbImm imm5 rn rd => .thumb (0x7000#16 ||| puth 6 imm5 ||| puth 3 rn ||| puth 0 rd)
  | .tLdrbImm imm5 rn rd => .thumb (0x7800#16 ||| puth 6 imm5 ||| puth 3 rn ||| puth 0 rd)
  | .tStrhImm imm5 rn rd => .thumb (0x8000#16 ||| puth 6 imm5 ||| puth 3 rn ||| puth 0 rd)
  | .tLdrhImm imm5 rn rd => .thumb (0x8800#16 ||| puth 6 imm5 ||| puth 3 rn ||| puth 0 rd)
  | .tStrSp rd imm8 => .thumb (0x9000#16 ||| puth 8 rd ||| puth 0 imm8)
  | .tLdrSp rd imm8 => .thumb (0x9800#16 ||| puth 8 rd ||| puth 0 imm8)
  | .tAddPc rd imm8 => .thumb (0xA000#16 ||| puth 8 rd ||| puth 0 imm8)
  | .tAddSpImm rd imm8 => .thumb (0xA800#16 ||| puth 8 rd ||| puth 0 imm8)
  | .tAddToSp imm7 => .thumb (0xB000#16 ||| puth 0 imm7)
  | .tSubFromSp imm7 => .thumb (0xB080#16 ||| puth 0 imm7)
  | .tSxth rm rd => .thumb (0xB200#16 ||| puth 3 rm ||| puth 0 rd)
  | .tSxtb rm rd => .thumb (0xB240#16 ||| puth 3 rm ||| puth 0 rd)
  | .tUxth rm rd => .thumb (0xB280#16 ||| puth 3 rm ||| puth 0 rd)
  | .tUxtb rm rd => .thumb (0xB2C0#16 ||| puth 3 rm ||| puth 0 rd)
  | .tPush rBit regs => .thumb (0xB400#16 ||| puthB 8 rBit ||| puth 0 regs)
  | .tSetend eBit => .thumb (0xB650#16 ||| puthB 3 eBit)
  | .tCps imod aBit iBit fBit => .thumb (0xB660#16 ||| puthB 4 imod ||| puthB 2 aBit ||| puthB 1 iBit ||| puthB 0 fBit)
  | .tRev rm rd => .thumb (0xBA00#16 ||| puth 3 rm ||| puth 0 rd)
  | .tRev16 rm rd => .thumb (0xBA40#16 ||| puth 3 rm ||| puth 0 rd)
  | .tRevsh rm rd => .thumb (0xBAC0#16 ||| puth 3 rm ||| puth 0 rd)
  | .tPop rBit regs => .thumb (0xBC00#16 ||| puthB 8 rBit ||| puth 0 regs)
  | .tBkpt imm8 => .thumb (0xBE00#16 ||| puth 0 imm8)
  | .tStmia rn regs => .thumb (0xC000#16 ||| puth 8 rn ||| puth 0 regs)
  | .tLdmia rn regs => .thumb (0xC800#16 ||| puth 8 rn ||| puth 0 regs)
  | .tUndef raw => .thumb (0xDE00#16 ||| puth 0 raw)
  | .tSvc imm8 => .thumb (0xDF00#16 ||| puth 0 imm8)
  | .tBCond cond simm8 => .thumb (0xD000#16 ||| puth 8 cond.bits ||| puth 0 simm8)
  | .tB simm11 => .thumb (0xE000#16 ||| puth 0 simm11)
  | .tBlxSuffix off11 => .thumb (0xE800#16 ||| puth 1 off11)
  | .tUndefBlx raw => .thumb (0xE801#16 ||| puth 1 raw)
  | .tBlPrefix off11 => .thumb (0xF000#16 ||| puth 0 off11)
  | .tBlSuffix off11 => .thumb (0xF800#16 ||| puth 0 off11)

end Sys2Proof
end

