-- ==== Sys2Proof/Machine/Bits.lean ====
section
/-! DEFINITION. Reading and writing bits and fields of words, sign extension, and the words of bytes (30:R685, 20:R508). -/

namespace Sys2Proof.Machine

open Sys2Proof

/-- Bit `i` of a bit vector. -/
def bit {n : Nat} (w : BitVec n) (i : Nat) : Bool := w.getLsbD i

/-- The word with bit `i` made `b`. -/
def setBit (w : Word) (i : Nat) (b : Bool) : Word :=
  if b then w ||| BitVec.twoPow 32 i else w &&& ~~~(BitVec.twoPow 32 i)

/-- The field of `n` bits whose lowest bit is `lo`. -/
def bits (w : Word) (lo n : Nat) : BitVec n := w.extractLsb' lo n

/-- The word with the field at `lo` replaced by `v`. -/
def setBits {n : Nat} (w : Word) (lo : Nat) (v : BitVec n) : Word :=
  (w &&& ~~~((BitVec.allOnes n).setWidth 32 <<< lo)) ||| (v.setWidth 32 <<< lo)

/-- The bits of `v` under the mask, the others of `w`. -/
def mergeBits (w v mask : Word) : Word := (w &&& ~~~mask) ||| (v &&& mask)

/-- One bit as a word. -/
def ofBit (b : Bool) : Word := if b then 1#32 else 0#32

/-- Zero extension to a word. -/
def zext {n : Nat} (v : BitVec n) : Word := v.setWidth 32

/-- Sign extension to a word. -/
def sext {n : Nat} (v : BitVec n) : Word := v.signExtend 32

/-- The address of the word that holds a byte, Align32 of 20:R508. -/
def align4 (a : Word) : Word := a &&& 0xFFFFFFFC#32

/-- Align16 of 20:R508. -/
def align2 (a : Word) : Word := a &&& 0xFFFFFFFE#32

/-- Align64 of 20:R508. -/
def align8 (a : Word) : Word := a &&& 0xFFFFFFF8#32

/-- A number of up to four bytes from its bytes, least significant first. -/
def ofBytesLE : List Byte → Word
  | [] => 0#32
  | b :: bs => zext b ||| (ofBytesLE bs <<< 8)

/-- The `n` low bytes of a word, least significant first. -/
def toBytesLE : Nat → Word → List Byte
  | 0, _ => []
  | n + 1, w => w.setWidth 8 :: toBytesLE n (w >>> 8)

end Sys2Proof.Machine
end

