-- ==== Sys2Proof/Config.lean ====
section
/-! DEFINITION. The free values: what the spec leaves open is an opaque constant, so that no proof can know it. What an
implementation fixes (00:R12) is the field `impl` of the state. -/

namespace Sys2Proof.Config

open Sys2Proof

/-- The n-th free word: any value (93 section 0; log 9). -/
opaque freeWord : Nat → Word

/-- The n-th free choice between two allowed outcomes (93 section 0; log 9). -/
opaque freeBit : Nat → Bool

/-- What an output pin shows where the spec leaves it open: the number of the free value, and which pin it is (log 56). -/
opaque freePin : Nat → Nat → BitVec 64

/-- Does a linked context ID breakpoint register pair compare its world and privilege fields too? 15:R387 calls it Undefined (log 71). -/
opaque linkedFieldsCompared : Bool

end Sys2Proof.Config
end

