-- ==== Sys2Proof/Machine/ResetValues.lean ====
section
/-! DEFINITION. The reset values that are not zero (70:R1301), each once, as functions of the pins sampled at reset. -/

namespace Sys2Proof.Machine

open Sys2Proof

/-- Number of TCM banks of a side for its size in KB: 0 for 0 KB, 1 for 4 KB, else 2 (00:R12, 22:R1414). -/
def tcmBanks (kb : Nat) : Nat := if kb = 0 then 0 else if kb ≤ 4 then 1 else 2

/-- Size of one TCM bank in KB (22:R1414). -/
def tcmBankKB (kb : Nat) : Nat := if tcmBanks kb = 2 then kb / 2 else kb

/-- CPSR after reset: Supervisor mode, A, I, F set, ARM state, E as BIGENDINIT and UBITINIT say (10:R90). -/
def resetCpsr (bigend ubit : Bool) : Word :=
  0x000001D3#32 ||| if bigend && ubit then 0x00000200#32 else 0#32

/-- The reset vector: 0x00000000, or 0xFFFF0000 with high vectors (60:R1210). -/
def resetPc (vinithi : Bool) : Word := if vinithi then 0xFFFF0000#32 else 0#32

/-- Each world's bits of the Control Register: V from VINITHI, U and EE from UBITINIT and BIGENDINIT, the rest 0 (12:R152, 92:D6). -/
def resetControlBanked (vinithi ubit bigend : Bool) : Word :=
  (if vinithi then 0x00002000#32 else 0#32) |||
  (if ubit then 0x00400000#32 else 0#32) |||
  (if ubit && bigend then 0x02000000#32 else 0#32)

/-- The Control Register bits that exist once: IT and DT read as one, B from BIGENDINIT without UBITINIT (12:R152). -/
def resetControlShared (ubit bigend : Bool) : Word :=
  0x00050000#32 ||| if bigend && !ubit then 0x00000080#32 else 0#32

/-- Auxiliary Control Register (12:R154). -/
def resetAuxControl : Word := 0x00000007#32

/-- Primary Region Remap Register (13:R273). -/
def resetPrimaryRemap : Word := 0x00098AA4#32

/-- Normal Memory Remap Register (13:R274). -/
def resetNormalRemap : Word := 0x44E048E0#32

/-- Cache lockdown registers: bits [31:4] read as ones (13:R258). -/
def resetCacheLockdown : Word := 0xFFFFFFF0#32

/-- The Size field of a TCM Region Register, for one bank of this many KB (13:R260). -/
def tcmSizeCode (kb : Nat) : Word :=
  if kb = 4 then 3 else if kb = 8 then 4 else if kb = 16 then 5 else if kb = 32 then 6 else 0

/-- A TCM Region Register after reset: base 0, the bank's size, enabled if `en` (13:R260, R261). -/
def resetTcmRegion (kb : Nat) (present en : Bool) : Word :=
  if present then (tcmSizeCode (tcmBankKB kb) <<< 2) ||| (if en then 1#32 else 0#32) else 0#32

/-- DMA Control Register: FT reads as one (14:R302). -/
def resetDmaControl : Word := 0x08000000#32

/-- DSCR: core restarted (15:R380). -/
def resetDscr : Word := 0x00000002#32

/-- FPINST (16:R463). -/
def resetFpinst : Word := 0xEE000A00#32

end Sys2Proof.Machine
end

