-- ==== Sys2Proof/Machine/State.lean ====
section
/-! DEFINITION. The whole state of the machine (10:R30 to R73 and the files they name), as plain data; the reasons a step can
stop; the state after reset. INVENTORY.md lists every field with its rule and its reset value. -/

namespace Sys2Proof.Machine

open Sys2Proof

/-- Why the machine stops with a fault. The spec's own faults are exceptions, which are next states. -/
inductive Fault where
  /-- CPSR.M is none of the eight modes of 10:R50. Raised by the step. No run from reset reaches such a state, since every
  write of such a value is refused. Safe: nothing is claimed of such a state. -/
  | badMode
  deriving DecidableEq, Repr

/-- Why a step is refused. Every one but the first is a case that 93 treats as `refuse` (Unpredictable, and no effect is
given) or that 00 leaves out. All are safe: nothing is claimed of what the hardware does there. -/
inductive Refusal where
  /-- An instruction that has no meaning yet. Raised by an arm of exec. -/
  | notModelled (mnemonic : String)
  /-- A word that differs from the named row only in a field that must be zero or one (30:R685, 92:D36). Raised by the step. -/
  | sbzSbo (mnemonic : String)
  /-- A write of a value that is no mode to CPSR.M (10:R50, 92:D2). Raised by every CPSR write. -/
  | reservedMode
  /-- J = 1 with T = 0: Jazelle state (10:R43, 00:R8, 92:D38). Raised by the step. -/
  | jazelleState
  /-- A data access with CPSR.E = 1 and Control Register B = 1 (20:R506, 92:D20). Raised by data accesses. -/
  | mixedBigEndian
  /-- R15, or equal registers, in a field that does not allow it (93 section 7; 30:R684). Raised by the meanings. -/
  | registerField
  /-- The SPSR, a user-bank or an exception-return form in User or System mode (10:R54). Raised by the meanings. -/
  | noSpsr
  /-- Base writeback that the addressing mode does not allow (30:R692; 42:R860, R861). Raised by loads and stores. -/
  | writeback
  /-- An empty register list, or a base register in the list where it may not be (43:R913; 48:R1124 to R1126). -/
  | registerList
  /-- A branch to an address that is not aligned for the state (20:R503; 46:R1000; 42:R867). Raised by branches. -/
  | branchTarget
  /-- BKPT with a condition other than AL (46:R1013). -/
  | bkptCondition
  /-- A form of CPS whose fields say nothing that the spec defines (45:R974; 48:R1113). -/
  | cpsForm
  /-- SRS with a mode number that is no mode (43:R920). -/
  | srsMode
  /-- An unaligned load of the PC with U = 0 and A = 0 (20:R516, 92:D21). -/
  | unalignedPcLoad
  /-- An unaligned access to Device or Strongly Ordered memory where no alignment fault is defined (20:R516, R517). -/
  | unalignedDevice
  /-- A reserved TEX, C, B encoding without TEX remap (21:R631). Raised by the translation. -/
  | reservedAttributes
  /-- Two or more TLB entries match (21:R604). Raised by the translation. -/
  | tlbMultipleMatch
  /-- A TCM Region Register written while a DMA transfer runs (13:R262). -/
  | tcmRegionDuringDma
  /-- A DMA start address register written while the channel is Running or Queued, or a DMA on TCM marked Device (14:R304). -/
  | dmaUnpredictable
  /-- The System Validation Cache Size Mask Register written with bit 31 set (14:R333). -/
  | cacheSizeMask
  /-- A BCR or WCR with a reserved field is compared (15:R387, R391). Raised by the step and by data accesses. -/
  | debugRegisterReserved
  /-- An act of the debugger in Debug state that the spec calls Unpredictable (15:R409, R432). -/
  | debugState
  /-- A scan chain 7 request to a reserved register (15:R428). -/
  | scanChainReserved
  /-- A VFP instruction with a LEN and STRIDE pair that Table 20-7 marks, or STRIDE reserved (16:R461). -/
  | vfpLenStride
  /-- A VFP transfer count of zero or past the last register, or vectors that overlap (16:R489; 49:R1132, R1172). -/
  | vfpRegisters
  /-- nRESETIN HIGH with nPORESETIN LOW (24:R1535). Raised by the step. -/
  | resetPins
  /-- A cacheable access to a line that the cache holds at another index (21:R630, 93). Raised by data accesses and fetches. -/
  | pageColouring
  /-- One physical location mapped with two different sets of attributes (20:R522, 93). Raised by data accesses. -/
  | attributesConflict
  /-- An exclusive access to Device memory, which does not support it (23:R1473). Raised by the exclusives. -/
  | exclusiveDevice
  deriving DecidableEq, Repr

/-! ### The implementation (00:R12, 92 section 2) -/

/-- What an implementation fixes (00:R12): arguments of the machine. No step changes them. -/
structure Implementation where
  /-- ICACHE_SIZE in KB, one of 4, 8, 16, 32, 64. -/
  icacheKB : Nat := 16
  /-- DCACHE_SIZE in KB. -/
  dcacheKB : Nat := 16
  /-- Size of the Instruction TCMs together, in KB, one of 0, 4, 8, 16, 32, 64. -/
  itcmKB : Nat := 16
  /-- Size of the Data TCMs together, in KB. -/
  dtcmKB : Nat := 16
  /-- The minor revision p of r0pN (92:D3). -/
  revisionMinor : Nat := 7
  /-- The numbers of the external coprocessors attached (92:D25). -/
  extCoprocessors : List Nat := []
  /-- What STR and STM store for R15, less the instruction's address: 8 or 12 (92:D35; log 22). -/
  storePcOffset : Word := 12#32
  deriving DecidableEq, Repr

/-- N_DMA_CHANNELS: two when any TCM is present (00:R12). -/
def Implementation.dmaChannels (i : Implementation) : Nat := if i.itcmKB = 0 ∧ i.dtcmKB = 0 then 0 else 2

/-! ### The bus (23:R1470 to R1492) -/

/-- The four ports of the level two interface (23:R1470). -/
inductive Port where
  | instruction | data | peripheral | dma
  deriving DecidableEq, Repr

/-- The bursts that the processor makes; the DMA port alone makes FIXED ones (23:R1480, 26:R1647). -/
inductive BusBurst where
  | fixed | incr | wrap
  deriving DecidableEq, Repr

/-- The lock types (23:R1480). -/
inductive BusLock where
  | normal | exclusive | locked
  deriving DecidableEq, Repr

/-- One burst that the processor presents to the memory system, with what it drives (23:R1480 to R1492). -/
structure BusRequest where
  /-- The port. -/
  port : Port
  /-- A write, not a read. -/
  write : Bool
  /-- AxADDR: the address of the first transfer. -/
  address : Word
  /-- The number of transfers: AxLEN and one. -/
  transfers : Nat
  /-- The bytes of one transfer: 2 to the AxSIZE. -/
  size : Nat
  /-- AxBURST. -/
  burst : BusBurst
  /-- AxLOCK. -/
  lock : BusLock
  /-- AxCACHE: the type and the outer policy (23:R1481). -/
  cache : BitVec 4
  /-- AxPROT: instruction, Non-secure, privileged (23:R1482). -/
  prot : BitVec 3
  /-- AxSIDEBAND: the type or inner policy, and Shared (23:R1483). -/
  sideband : BitVec 5
  /-- WRITEBACK of the data port: the transaction is the eviction of a cache line (26:R1645). The DMA port has the output too and never
  evicts (26:R1647). -/
  writeback : Bool
  /-- The addresses of the bytes whose strobes a write drives (23:R1488). -/
  strobes : List Word
  /-- The data that a write drives, a byte for each of these addresses. -/
  data : List Byte
  deriving DecidableEq, Repr

/-- The answer of the memory system to a transfer (23:R1492). -/
inductive BusAnswer where
  | okay | exokay | slverr | decerr
  deriving DecidableEq, Repr

/-- Why a transfer ends in an external abort: an error answer, or no EXOKAY to an exclusive read (23:R1476). -/
inductive BusError where
  | decerr
  | slverr
  | notExclusive
  deriving DecidableEq, Repr

/-- A region of physical addresses and how the memory system answers there, for the requests that the selectors name (`none`:
for all); what no region names is answered as 92:D19 says (23:R1492; log 18). -/
structure BusRegion where
  /-- First address. -/
  first : Word
  /-- Last address. -/
  last : Word
  /-- Does it hold for Secure accesses? -/
  secure : Bool
  /-- Does it hold for Non-secure accesses? -/
  nonSecure : Bool
  /-- The answer. -/
  answer : BusAnswer
  /-- Do Non-secure accesses reach a storage of their own here? (92:D19) -/
  ownStorage : Bool := false
  /-- The port. -/
  port : Option Port := none
  /-- Reads or writes. -/
  write : Option Bool := none
  /-- AxPROT[0]. -/
  privileged : Option Bool := none
  /-- AxPROT[2]. -/
  instruction : Option Bool := none
  /-- The bytes of one transfer. -/
  size : Option Nat := none
  /-- AxLOCK. -/
  lock : Option BusLock := none
  /-- AxCACHE. -/
  cache : Option (BitVec 4) := none
  /-- AxSIDEBAND. -/
  sideband : Option (BitVec 5) := none
  /-- WRITEBACK. -/
  writeback : Option Bool := none
  /-- The addresses of the bytes that a write stores to. -/
  strobes : Option (List Word) := none
  /-- The data that a write drives. -/
  data : Option (List Byte) := none
  /-- The data that reads get here, repeated from the first address on, where it is not what the storage holds; an empty list gives
  none. -/
  gives : Option (List Byte) := none
  deriving DecidableEq, Repr

/-! ### Pins -/

/-- The input pins (26:R1640 to R1650), at their levels for the current step. -/
structure Pins where
  /-- High vectors at reset. -/
  vinithi : Bool := false
  /-- Big-endian at reset. -/
  bigendinit : Bool := false
  /-- U bit at reset. -/
  ubitinit : Bool := false
  /-- Instruction TCM 0 enabled at reset. -/
  initram : Bool := false
  /-- Locks the Secure CP15 registers of 10:R63. -/
  cp15sdisable : Bool := false
  /-- Debug enable (15:R394). -/
  dbgen : Bool := false
  /-- Secure privileged invasive debug enable. -/
  spiden : Bool := false
  /-- Secure privileged non-invasive debug enable. -/
  spniden : Bool := false
  /-- Non-invasive debug enable. The spec gives it no effect (15:R394; log 65). -/
  niden : Bool := false
  /-- External debug request. -/
  edbgrq : Bool := false
  /-- Level of nIRQ: HIGH is inactive. -/
  nirq : Bool := true
  /-- Level of nFIQ: HIGH is inactive. -/
  nfiq : Bool := true
  /-- IRQADDR[31:2] of the vectored interrupt controller port, as an address. -/
  irqaddr : Word := 0#32
  /-- IRQADDRV. -/
  irqaddrv : Bool := false
  /-- Level of nRESETIN. -/
  nreset : Bool := true
  /-- Level of nPORESETIN. -/
  nporeset : Bool := true
  /-- Level of nVFPRESETIN. -/
  nvfpreset : Bool := true
  /-- RAMCLAMP: the RAM clamps are held (24:R1545, R1546). -/
  ramclamp : Bool := false
  /-- ETMPWRUP: an ETM is active (26:R1634). -/
  etmpwrup : Bool := false
  /-- ETMEXTOUT (26:R1634). -/
  etmextout : BitVec 2 := 0#2
  /-- ETMCPRDATA (26:R1629). -/
  etmcprdata : Word := 0#32
  /-- Level of nETMWFIREADY: LOW accepts a Wait For Interrupt (26:R1651, 92:D33). -/
  netmwfiready : Bool := false
  /-- DBGVERSION: the Version field of the device ID code (15:R423). -/
  dbgversion : BitVec 4 := 0#4
  /-- DBGMANID: the Manufacturer field of the device ID code (15:R423). -/
  dbgmanid : BitVec 11 := 0b11110000111#11
  deriving DecidableEq, Repr

/-- What a monitor has tagged (23:R1477, 92:D24): the exact address and size of the load-exclusive. -/
structure Tag where
  /-- Physical address. -/
  addr : Word
  /-- Size in bytes. -/
  size : Nat
  /-- Non-secure access. -/
  ns : Bool
  deriving DecidableEq, Repr

/-! ### CP15 -/

/-- One translation that the TLB holds, in the format of the TLB lockdown access registers (14:R337 to R339). -/
structure TlbEntry where
  /-- VA, G, ASID (14:R337). -/
  va : Word
  /-- PA, NSA, NSTID, Size, APX, AP, V (14:R338). -/
  pa : Word
  /-- AP3 to AP1, SPV, Domain, XN, TEX, C, B, S (14:R339). -/
  attr : Word
  /-- The R and S bits of the Control Register when the entry was made (12:R150; log 64). -/
  rs : BitVec 2
  deriving DecidableEq, Repr

/-- The CP15 registers of which each world has its own copy (11:R107). -/
structure Cp15Bank where
  /-- The Control Register bits that are banked (12:R150). -/
  control : Word
  /-- Translation Table Base Register 0 (12:R166). -/
  ttbr0 : Word
  /-- Translation Table Base Register 1 (12:R168). -/
  ttbr1 : Word
  /-- Translation Table Base Control Register (12:R170). -/
  ttbcr : Word
  /-- Domain Access Control Register (12:R172). -/
  dacr : Word
  /-- Data Fault Status Register (12:R173). -/
  dfsr : Word
  /-- Instruction Fault Status Register (12:R176). -/
  ifsr : Word
  /-- Fault Address Register (12:R177). -/
  far : Word
  /-- Instruction Fault Address Register (12:R179). -/
  ifar : Word
  /-- PA Register (13:R242). -/
  par : Word
  /-- Cache Dirty Status (13:R237). -/
  cacheDirty : Bool
  /-- TCM Selection Register (13:R265). -/
  tcmSelect : Word
  /-- Primary Region Remap Register (13:R273). -/
  primaryRemap : Word
  /-- Normal Memory Remap Register (13:R274). -/
  normalRemap : Word
  /-- Vector Base Address Register (14:R312). -/
  vbar : Word
  /-- FCSE PID Register (14:R315). -/
  fcse : Word
  /-- Context ID Register (14:R318). -/
  contextId : Word
  /-- User Read/Write Thread and Process ID Register (14:R319). -/
  tpidUserRw : Word
  /-- User Read-only Thread and Process ID Register (14:R319). -/
  tpidUserRo : Word
  /-- Privileged Only Thread and Process ID Register (14:R319). -/
  tpidPriv : Word
  /-- Peripheral Port Memory Remap Register (14:R321). -/
  periphRemap : Word
  /-- The last interrupt address taken from the VIC port in this world (15:R385, 25:R1587). -/
  lastIrqAddr : Word
  deriving DecidableEq, Repr

/-- One DMA channel (14:R290 to R310, 22:R1424 to R1433). -/
structure DmaChannel where
  /-- DMA Control Register (14:R302). -/
  control : Word
  /-- DMA Internal Start Address Register (14:R304). -/
  intStart : Word
  /-- DMA External Start Address Register (14:R304). -/
  extStart : Word
  /-- DMA Internal End Address Register (14:R304). -/
  intEnd : Word
  /-- DMA Context ID Register (14:R310). -/
  contextId : Word
  /-- DMA Channel Status Register (14:R306). -/
  status : Word
  /-- The internal address of the next item of a running transfer (14:R305). -/
  curInt : Word
  /-- The external address of the next item of a running transfer (14:R305). -/
  curExt : Word
  /-- How many items the current group has, whose accesses to the external memory are one burst; 0 between two groups (26:R1647). -/
  group : Nat
  /-- How many items of the group have been written. -/
  done : Nat
  /-- The bytes of the group's items that have been read (22:R1431). -/
  buffer : List (List Byte)
  /-- Was the channel started in the Non-secure world? (14:R309) -/
  nonSecure : Bool
  /-- Was the channel started in User mode? (14:R302, R308) -/
  userStart : Bool
  /-- A Stop was issued and the channel has not stopped yet (14:R298). -/
  stopping : Bool
  /-- The channel asserts its interrupt (14:R302, R309). -/
  interrupt : Bool
  /-- An external abort on a page table walk has asserted nDMAEXTERRIRQ (14:R309). -/
  walkAbort : Bool
  deriving DecidableEq, Repr

/-- The whole of CP15: both worlds' copies, the single registers, and the TLB. -/
structure Cp15 where
  /-- The Secure copies. -/
  secure : Cp15Bank
  /-- The Non-secure copies. -/
  nonSecure : Cp15Bank
  /-- The Control Register bits that exist once (12:R150). -/
  controlShared : Word
  /-- Auxiliary Control Register (12:R154). -/
  auxControl : Word
  /-- Coprocessor Access Control Register (12:R156). -/
  cpacr : Word
  /-- Secure Configuration Register (12:R160). -/
  scr : Word
  /-- Secure Debug Enable Register (12:R163). -/
  sder : Word
  /-- Non-Secure Access Control Register (12:R164). -/
  nsacr : Word
  /-- Data Cache Lockdown Register (13:R257). -/
  dLockdown : Word
  /-- Instruction Cache Lockdown Register (13:R257). -/
  iLockdown : Word
  /-- Data TCM Region Registers (13:R260). -/
  dtcmRegion : Vector Word 2
  /-- Instruction TCM Region Registers (13:R260). -/
  itcmRegion : Vector Word 2
  /-- Data TCM Non-secure Control Access Registers (13:R263). -/
  dtcmNsAccess : Vector Bool 2
  /-- Instruction TCM Non-secure Control Access Registers (13:R263). -/
  itcmNsAccess : Vector Bool 2
  /-- Cache Behavior Override Register (13:R267). -/
  cacheBehavior : Word
  /-- TLB Lockdown Register (13:R269). -/
  tlbLockdown : Word
  /-- Monitor Vector Base Address Register (14:R313). -/
  mvbar : Word
  /-- DMA User Accessibility Register (14:R294). -/
  dmaUser : Word
  /-- DMA Channel Number Register (14:R296). -/
  dmaSelect : Word
  /-- The two DMA channels. -/
  dma : Vector DmaChannel 2
  /-- Secure User and Non-secure Access Validation Control, V (14:R323). -/
  validation : Bool
  /-- Performance Monitor Control Register (14:R324). -/
  pmnc : Word
  /-- Cycle Counter Register (14:R326). -/
  ccnt : Word
  /-- Count Register 0 (14:R326). -/
  pmn0 : Word
  /-- Count Register 1 (14:R326). -/
  pmn1 : Word
  /-- Which counters assert the performance monitor's interrupt, nPMUIRQ: cycle counter, Count Register 0, 1 (14:R328). -/
  pmuIrq : BitVec 3
  /-- System Validation external debug request counter (14:R330). -/
  valDebugCount : BitVec 6
  /-- Which System Validation counters run: reset, interrupt, fast interrupt, external debug request (14:R331). -/
  valRunning : BitVec 4
  /-- Which of them have wrapped: they drive nVALRESET, nVALIRQ, nVALFIQ, VALEDBGRQ (14:R332). -/
  valWrapped : BitVec 4
  /-- Instruction Cache Master Valid Registers (14:R334). -/
  iMasterValid : Vector Word 8
  /-- Data Cache Master Valid Registers (14:R334). -/
  dMasterValid : Vector Word 8
  /-- TLB Lockdown Index Register (14:R336). -/
  tlbIndex : BitVec 3
  /-- The eight TLB lockdown entries (14:R335). -/
  tlbLocked : Vector TlbEntry 8
  /-- The main TLB's other entries (21:R601). -/
  tlbMain : List TlbEntry
  /-- The instruction MicroTLB, the latest entry first (21:R601). -/
  iMicroTlb : List TlbEntry
  /-- The data MicroTLB. -/
  dMicroTlb : List TlbEntry
  /-- The DMA's MicroTLB (22:R1427). -/
  dmaMicroTlb : List TlbEntry
  deriving DecidableEq, Repr

/-- What a read of the PC gives in Debug state (15:R409). -/
inductive DebugPc where
  /-- Unchanged since the entry: the resume address plus its offset. -/
  | entry
  /-- The debugger has written it: it can restart there, but a read is Unpredictable. -/
  | written
  /-- A CPSR write or a branch that failed its condition: nothing is known. -/
  | unknown
  deriving DecidableEq, Repr

/-! ### The Debug Test Access Port (15:R420 to R432) -/

/-- What the external debugger drives on the DBGTAP pins during one step (15:R420, R421). -/
inductive TapInput where
  /-- DBGTCKEN LOW. -/
  | idle
  /-- DBGTCKEN HIGH, with DBGTMS and DBGTDI. -/
  | clock (tms tdi : Bool)
  /-- DBGnTRST LOW. -/
  | reset
  deriving DecidableEq, Repr

/-- The states of the DBGTAPSM (15:R420). -/
inductive TapState where
  | testLogicReset | runTestIdle
  | selectDr | captureDr | shiftDr | exit1Dr | pauseDr | exit2Dr | updateDr
  | selectIr | captureIr | shiftIr | exit1Ir | pauseIr | exit2Ir | updateIr
  deriving DecidableEq, Repr

/-- A request that scan chain 7 has made and that is not complete (15:R428). -/
structure ScanRequest where
  /-- Address. -/
  number : BitVec 7
  /-- A write. -/
  write : Bool
  /-- Data. -/
  value : Word
  deriving DecidableEq, Repr

/-- The DBGTAP controller (15:R420 to R432). -/
structure Tap where
  /-- The state of the DBGTAPSM. -/
  state : TapState
  /-- The current instruction (15:R422). -/
  ir : BitVec 5
  /-- The shift section of the instruction register. -/
  irShift : BitVec 5
  /-- SCREG: the active scan chain (15:R424). -/
  screg : BitVec 5
  /-- The shift section of the data register between DBGTDI and DBGTDO: of 1 to 40 bits, its lowest bits. -/
  dr : BitVec 40
  /-- Was Ready, or ReqCompl, captured set at the last Capture-DR? (15:R428, R431) -/
  ready : Bool
  /-- Was nRetry captured set at the last Capture-DR? (15:R432) -/
  nRetry : Bool
  /-- DBGTDO. -/
  tdo : Bool
  /-- The request of scan chain 7 in progress (15:R428). -/
  pending : Option ScanRequest
  /-- The value that the last read request of scan chain 7 has given. -/
  reply : Word
  deriving DecidableEq, Repr

/-- The debug unit (15:R373 to R432). -/
structure Debug where
  /-- The stored bits of the DSCR (15:R380). -/
  dscr : Word
  /-- Read Data Transfer Register (15:R382). -/
  rdtr : Word
  /-- Write Data Transfer Register (15:R382). -/
  wdtr : Word
  /-- Watchpoint Fault Address Register (15:R383). -/
  wfar : Word
  /-- Vector Catch Register (15:R384). -/
  vcr : Word
  /-- Breakpoint Value Registers (15:R386). -/
  bvr : Vector Word 6
  /-- Breakpoint Control Registers (15:R387). -/
  bcr : Vector Word 6
  /-- Watchpoint Value Registers (15:R390). -/
  wvr : Vector Word 2
  /-- Watchpoint Control Registers (15:R391). -/
  wcr : Vector Word 2
  /-- Debug State Cache Control Register (15:R392). -/
  dsccr : Word
  /-- Debug State MMU Control Register (15:R393). -/
  dsmcr : Word
  /-- Instruction Transfer Register (15:R431). -/
  itr : Word
  /-- InstCompl: no instruction of the ITR is in progress (15:R431). -/
  instCompl : Bool
  /-- A Halt request that the core has not come to yet (15:R401, R422). -/
  haltPending : Bool
  /-- What is known of the PC in Debug state (15:R409). -/
  pcKnown : DebugPc
  /-- The DBGTAP controller. -/
  tap : Tap
  /-- What the debugger will drive on the DBGTAP pins, one input for each step (log 24). -/
  requests : List TapInput
  deriving DecidableEq, Repr

/-- The VFP11 coprocessor (16:R450 to R489). -/
structure Vfp where
  /-- S0 to S31; D(n) is S(2n+1) over S(2n) (16:R453). -/
  regs : Vector Word 32
  /-- FPSCR (16:R460). -/
  fpscr : Word
  /-- FPEXC (16:R462). -/
  fpexc : Word
  /-- FPINST (16:R463). -/
  fpinst : Word
  /-- FPINST2 (16:R463). -/
  fpinst2 : Word
  deriving DecidableEq, Repr

/-- An imprecise external abort that waits for CPSR.A to be 0 (60:R1243). -/
structure PendingAbort where
  /-- The value for the DFSR. -/
  status : Word
  /-- Did it come from a Non-secure access? (10:R73) -/
  nonSecure : Bool
  deriving DecidableEq, Repr

/-- An external abort that will be imprecise: its error has not reached the core yet (60:R1243). -/
structure InflightAbort where
  /-- FSR[12]. -/
  slverr : Bool
  /-- A write. -/
  write : Bool
  /-- Did it come from a Non-secure state of the core? -/
  nonSecure : Bool
  deriving DecidableEq, Repr

/-- The memories that hold bytes: the physical memory of level two, the storage that Non-secure accesses have of their own where
the memory system gives them one (92:D19), and the TCM RAMs (22:R1400). -/
inductive Place where
  | external
  | nonSecure
  | itcm (bank : Fin 2)
  | dtcm (bank : Fin 2)
  deriving DecidableEq, Repr

/-- A line of a cache (22:R1402, R1403). It is valid where its Master Valid bit is set too (14:R334). -/
structure CacheLine where
  /-- Its index: the number of its set. -/
  set : Nat
  /-- Its way. -/
  way : Nat
  /-- Its tag: the physical address of its first byte. -/
  tag : Word
  /-- Its NS Tag. -/
  ns : Bool
  /-- Its bytes. -/
  data : Vector Byte 32
  /-- Is its lower half dirty? (23:R1486) -/
  dirtyLow : Bool
  /-- Is its upper half dirty? -/
  dirtyHigh : Bool
  deriving DecidableEq, Repr

/-- MODEL: a byte of level two or of a TCM that has been written and that an instruction fetch may still see with its old value, until
the IMB sequence (20:R533; log 16). -/
structure StaleByte where
  /-- Where the byte is. -/
  place : Place
  /-- Its address, or its offset in a TCM. -/
  addr : Nat
  /-- What it held before. -/
  old : Byte
  /-- Has a Data Synchronization Barrier been performed since? -/
  synced : Bool
  /-- Has the Instruction Cache been invalidated there after such a barrier? -/
  invalidated : Bool
  deriving DecidableEq, Repr

/-- The two FIFOs of writes: the write buffer, and the one of the Write-Backs (22:R1432). -/
inductive WriteQueue where
  | store
  | writeBack
  deriving DecidableEq, Repr

/-- A write to level two that the core sees and that other observers may not see yet: what its bytes held before (22:R1432, R1433). -/
structure BufferedWrite where
  /-- Its FIFO. -/
  queue : WriteQueue
  /-- The memory that it goes to. -/
  place : Place
  /-- The addresses of its bytes, with what they held before it. -/
  bytes : List (Nat × Byte)
  /-- A write to Device memory: is it Shared? (20:R527) -/
  device : Option Bool := none
  deriving DecidableEq, Repr

/-- MODEL: what instruction fetches may use, as it was before a change since the last pipeline flush (70:R1322, 92:D43; log 17). -/
structure OldFetch where
  /-- CP15. -/
  cp15 : Cp15
  /-- CPSR.M. -/
  mode : BitVec 5
  deriving DecidableEq, Repr

/-- A watchpoint that a data access has hit and that is acted on at the end of the instruction (15:R399, 60:R1240). -/
structure WatchHit where
  /-- The MVA of the access. -/
  mva : Word
  /-- The value for the WFAR (15:R383). -/
  wfar : Word
  /-- A write (12:R173). -/
  write : Bool
  /-- Was the core in the Non-secure state? (21:R639) -/
  nonSecure : Bool
  /-- The domain of the access, where the MMU was on (21:R637). -/
  domain : Option (BitVec 4)
  deriving DecidableEq, Repr

/-- An instruction that has been committed for execution (15:R429, 10:R64). -/
structure Committed where
  /-- Its address. -/
  addr : Word
  /-- CPSR.T. -/
  thumb : Bool
  /-- CPSR.J. -/
  jazelle : Bool
  deriving DecidableEq, Repr

/-- The exceptions (60:R1200). -/
inductive Exc where
  | undef | svc | smc | prefetchAbort | dataAbort | irq | fiq
  deriving DecidableEq, Repr

/-- What the instruction interface of the trace port shows of an instruction (26:R1622, R1623, R1625). -/
structure TracedInstruction where
  /-- ETMIA. -/
  address : Word
  /-- IATBit. -/
  thumb : Bool
  /-- IAJBit. -/
  jazelle : Bool
  /-- IAInstCCFail. -/
  failed : Bool
  /-- IAIndBr. -/
  indirect : Bool
  /-- IAContextID. -/
  contextId : Bool
  /-- IADataInst. -/
  data : Bool
  /-- IASNonSecure. -/
  nonSecure : Bool
  /-- IASProhibited. -/
  prohibited : Bool
  /-- A load of several words that ends with the PC (26:R1626). -/
  loadsPc : Bool
  /-- ETMIARET of a branch phantom; none for an instruction that is executed as such (26:R1622). -/
  phantom : Option Word
  deriving DecidableEq, Repr

/-- A data access as the trace port shows it, in transfers (26:R1626, R1627). -/
structure DataAccess where
  /-- A coprocessor register transfer. -/
  cprt : Bool
  /-- The virtual address of its first byte. -/
  address : Word
  /-- How many bytes the words are to be rotated right by. -/
  rotation : BitVec 2
  /-- Big-endian data. -/
  swizzle : Bool
  /-- A write. -/
  write : Bool
  /-- Its bytes, at rising addresses. -/
  bytes : List Byte
  /-- An unaligned access, of one number. -/
  unaligned : Bool
  /-- Has an imprecise external abort been raised? -/
  aborted : Bool
  /-- A store-exclusive that has stored nothing. -/
  failed : Bool
  deriving DecidableEq, Repr

/-- A transaction on the ETM coprocessor interface (26:R1629, R1632). -/
structure EtmTransfer where
  /-- ETMCPWRITE. -/
  write : Bool
  /-- ETMCPADDRESS (26:R1631). -/
  address : BitVec 15
  /-- ETMCPWDATA. -/
  value : Word
  /-- ETMCPSECCTL[0]. -/
  nonSecure : Bool
  /-- ETMCPSECCTL[1]. -/
  prohibited : Bool
  deriving DecidableEq, Repr

/-- What the trace port shows, an instruction at a time (26:R1621). -/
structure Trace where
  /-- The instruction of the last step, if it was one. -/
  instruction : Option TracedInstruction
  /-- The exception taken since the last instruction (IAException, 26:R1623). -/
  exception : Option Exc
  /-- Is it an imprecise Data Abort? -/
  imprecise : Bool
  /-- Has it cancelled the instruction before it? (IAExCancel) -/
  cancelled : Bool
  /-- Has the exception of the last step had a placeholder instruction traced before it? (26:R1624) -/
  placeholder : Bool
  /-- No instruction has been traced since Debug state, or since a region where tracing is prohibited (26:R1624). -/
  quiet : Bool
  /-- The data accesses of the instruction of the last step, where an ETM is powered up (26:R1626). -/
  data : List DataAccess
  /-- Was that instruction a Data Memory or Data Synchronization Barrier? (10:R64) -/
  barrier : Bool
  /-- Was it a Flush Prefetch Buffer? -/
  flush : Bool
  /-- The transaction of the last step. -/
  transfer : Option EtmTransfer
  deriving DecidableEq, Repr

/-- The state of the machine. -/
structure State where
  /-- The 32 general registers other than the PC, by physical number (10:R32; `bankedReg` in Ops.lean). -/
  regs : Vector Word 32
  /-- The address of the next instruction (10:R35, R37). -/
  pc : Word
  /-- CPSR (10:R40). -/
  cpsr : Word
  /-- SPSR_fiq, SPSR_irq, SPSR_svc, SPSR_abt, SPSR_und, SPSR_mon (10:R54). -/
  spsrs : Vector Word 6
  /-- Physical memory: the bytes that differ from 0x00, addresses rising (10:R72; log 2). -/
  mem : List Host.Cell
  /-- The storage of Non-secure accesses where the memory system keeps it apart, in the same form (92:D19). -/
  memNs : List Host.Cell
  /-- Contents of Instruction TCM 0 and 1, by offset, in the same form (22:R1415). -/
  itcm : Vector (List Host.Cell) 2
  /-- Contents of Data TCM 0 and 1, by offset, in the same form (22:R1415). -/
  dtcm : Vector (List Host.Cell) 2
  /-- The lines of the Data Cache (22:R1403). -/
  dcache : List CacheLine
  /-- The lines of the Instruction Cache. -/
  icache : List CacheLine
  /-- The local exclusive monitor: none is Open (44:R940). -/
  localMon : Option Tag
  /-- The global monitor's entry for this processor (23:R1477). -/
  globalMon : Option Tag
  /-- CP15. -/
  cp15 : Cp15
  /-- CP14. -/
  dbg : Debug
  /-- The VFP11. -/
  vfp : Vfp
  /-- Standby, entered by Wait For Interrupt (24:R1543). -/
  standby : Bool
  /-- The VIC port handshake: IRQACK is asserted and the core waits for IRQADDRV (25:R1587). -/
  irqack : Bool
  /-- The write buffer: the writes that are not yet visible to others, the oldest first (22:R1432). -/
  writeBuffer : List BufferedWrite
  /-- The external aborts on their way to the core (60:R1243, 15:R412). -/
  inflight : List InflightAbort
  /-- The pending imprecise external abort (60:R1243). -/
  pendingAbort : Option PendingAbort
  /-- The watchpoint hit by the instruction just executed (15:R399). -/
  watchHit : Option WatchHit
  /-- The instruction last committed for execution; none until the first one after a reset (15:R429, 10:R64). -/
  committed : Option Committed
  /-- What the trace port shows. -/
  trace : Trace
  /-- The external coprocessor that ACPENABLE enables: the one last addressed (25:R1574). -/
  acpEnabled : Option (BitVec 4)
  /-- The RAM clamps have been held since the core last ran: the RAMs have kept their contents (24:R1546). -/
  clamped : Bool
  /-- What the implementation fixes (00:R12). -/
  impl : Implementation
  /-- The input pins. -/
  pins : Pins
  /-- How the memory system answers (23:R1492, 92:D19). -/
  bus : List BusRegion
  /-- MODEL: how many free values have been drawn (log 9). -/
  freeCtr : Nat
  /-- MODEL: the written bytes that a fetch may still see with an old value (20:R533, 92:D22; log 16). -/
  stale : List StaleByte
  /-- MODEL: CP15 before each change of the mappings that a busy DMA channel has met, the latest first (22:R1430, 92:D15; log 34). -/
  oldMap : List Cp15
  /-- MODEL: the settings before each fetch-affecting change since the last pipeline flush, the latest first (70:R1322; log 17). -/
  oldFetch : List OldFetch
  deriving DecidableEq, Repr

/-- A bank of CP15 after reset (70:R1301). -/
def Cp15Bank.reset (p : Pins) : Cp15Bank :=
  { control := resetControlBanked p.vinithi p.ubitinit p.bigendinit
    ttbr0 := 0, ttbr1 := 0, ttbcr := 0, dacr := 0, dfsr := 0, ifsr := 0, far := 0, ifar := 0, par := 0
    cacheDirty := false, tcmSelect := 0
    primaryRemap := resetPrimaryRemap, normalRemap := resetNormalRemap
    vbar := 0, fcse := 0, contextId := 0, tpidUserRw := 0, tpidUserRo := 0, tpidPriv := 0, periphRemap := 0
    lastIrqAddr := 0 }

/-- A DMA channel after reset (14:R302 to R310; log 5). -/
def DmaChannel.reset : DmaChannel :=
  { control := resetDmaControl, intStart := 0, extStart := 0, intEnd := 0, contextId := 0, status := 0
    curInt := 0, curExt := 0, group := 0, done := 0, buffer := [], nonSecure := false, userStart := false, stopping := false, interrupt := false
    walkAbort := false }

/-- An invalid TLB entry (92:D42; log 7). -/
def TlbEntry.reset : TlbEntry := { va := 0, pa := 0, attr := 0, rs := 0 }

/-- CP15 after reset (70:R1301). -/
def Cp15.reset (i : Implementation) (p : Pins) : Cp15 :=
  { secure := Cp15Bank.reset p
    nonSecure := Cp15Bank.reset p
    controlShared := resetControlShared p.ubitinit p.bigendinit
    auxControl := resetAuxControl, cpacr := 0, scr := 0, sder := 0, nsacr := 0
    dLockdown := resetCacheLockdown, iLockdown := resetCacheLockdown
    dtcmRegion := #v[resetTcmRegion i.dtcmKB (0 < tcmBanks i.dtcmKB) false, resetTcmRegion i.dtcmKB (1 < tcmBanks i.dtcmKB) false]
    itcmRegion := #v[resetTcmRegion i.itcmKB (0 < tcmBanks i.itcmKB) p.initram, resetTcmRegion i.itcmKB (1 < tcmBanks i.itcmKB) false]
    dtcmNsAccess := #v[false, false], itcmNsAccess := #v[false, false]
    cacheBehavior := 0, tlbLockdown := 0, mvbar := 0, dmaUser := 0, dmaSelect := 0
    dma := #v[DmaChannel.reset, DmaChannel.reset]
    validation := false, pmnc := 0, ccnt := 0, pmn0 := 0, pmn1 := 0, pmuIrq := 0, valDebugCount := 0, valRunning := 0, valWrapped := 0
    iMasterValid := Vector.replicate 8 0, dMasterValid := Vector.replicate 8 0
    tlbIndex := 0
    tlbLocked := Vector.replicate 8 TlbEntry.reset
    tlbMain := [], iMicroTlb := [], dMicroTlb := [], dmaMicroTlb := [] }

/-- The DBGTAP after its reset: IDcode is the current instruction, scan chain 3 the active one (15:R421; log 24). -/
def Tap.reset : Tap :=
  { state := .testLogicReset, ir := 0b11110#5, irShift := 0#5, screg := 3#5, dr := 0#40, ready := false, nRetry := false
    tdo := false, pending := none, reply := 0#32 }

/-- The debug unit after a power-on reset (15:R378; log 6). -/
def Debug.reset : Debug :=
  { dscr := resetDscr, rdtr := 0, wdtr := 0, wfar := 0, vcr := 0
    bvr := Vector.replicate 6 0, bcr := Vector.replicate 6 0
    wvr := Vector.replicate 2 0, wcr := Vector.replicate 2 0
    dsccr := 0, dsmcr := 0, itr := 0, instCompl := true, haltPending := false, pcKnown := .entry, tap := Tap.reset, requests := [] }

/-- The trace port shows nothing (26:R1620). -/
def Trace.none : Trace :=
  { instruction := .none, exception := .none, imprecise := false, cancelled := false, placeholder := false, quiet := false
    data := [], barrier := false, flush := false, transfer := .none }

/-- The VFP11 after reset (16:R470; log 4). -/
def Vfp.reset : Vfp :=
  { regs := Vector.replicate 32 0, fpscr := 0, fpexc := 0, fpinst := resetFpinst, fpinst2 := 0 }

/-- The machine right after a power-on reset with the default pins (10:R90, 70:R1301, 92 section 2). -/
def State.reset : State :=
  let p : Pins := {}
  let i : Implementation := {}
  { regs := Vector.replicate 32 0
    pc := resetPc p.vinithi
    cpsr := resetCpsr p.bigendinit p.ubitinit
    spsrs := Vector.replicate 6 0
    mem := [], memNs := [], itcm := #v[[], []], dtcm := #v[[], []], dcache := [], icache := []
    localMon := none, globalMon := none
    cp15 := Cp15.reset i p
    dbg := Debug.reset
    vfp := Vfp.reset
    standby := false, irqack := false, writeBuffer := [], inflight := [], pendingAbort := none, watchHit := none, committed := none
    trace := Trace.none, acpEnabled := none, clamped := false
    impl := i
    pins := p
    bus := []
    freeCtr := 0, stale := [], oldMap := [], oldFetch := [] }

end Sys2Proof.Machine
end

