-- ==== Sys2Proof/Machine/Ops.lean ====
section
/-! DEFINITION. The named operations over the registers and the status registers, the free values, taking an exception and
returning from one. Operations over memory are in Memory.lean, Mmu.lean and Access.lean. -/

namespace Sys2Proof.Machine

open Sys2Proof

/-! ### The ways an operation ends -/

/-- Why an instruction ends before its last effect: an exception has been taken, or the step stops. -/
inductive Stop where
  /-- An exception entry, which is the next state. -/
  | taken (s : State)
  | fault (r : Fault)
  | refuse (r : Refusal)

/-- What an operation answers: its result, or why the instruction ends there. -/
abbrev Result := Except Stop

/-- The three outcomes of an instruction or a step. -/
abbrev Outcome := Host.Outcome State Fault Refusal

/-- The outcome of a whole instruction. -/
def finish : Result State → Outcome
  | .ok s => .next s
  | .error (.taken s) => .next s
  | .error (.fault r) => .fault r
  | .error (.refuse r) => .refused r

/-- Refuse the instruction where the condition holds. -/
def refuseIf (c : Bool) (r : Refusal) : Result Unit := if c then .error (.refuse r) else .ok ()

/-! ### Free values (log 9) -/

/-- The next free word. -/
def drawWord (s : State) : Word × State := (Config.freeWord s.freeCtr, { s with freeCtr := s.freeCtr + 1 })

/-- The next free choice. -/
def drawBit (s : State) : Bool × State := (Config.freeBit s.freeCtr, { s with freeCtr := s.freeCtr + 1 })

/-! ### Modes and worlds -/

/-- User mode (10:R50). -/
def modeUsr : BitVec 5 := 0b10000#5
/-- FIQ mode. -/
def modeFiq : BitVec 5 := 0b10001#5
/-- IRQ mode. -/
def modeIrq : BitVec 5 := 0b10010#5
/-- Supervisor mode. -/
def modeSvc : BitVec 5 := 0b10011#5
/-- Secure Monitor mode. -/
def modeMon : BitVec 5 := 0b10110#5
/-- Abort mode. -/
def modeAbt : BitVec 5 := 0b10111#5
/-- Undefined mode. -/
def modeUnd : BitVec 5 := 0b11011#5
/-- System mode. -/
def modeSys : BitVec 5 := 0b11111#5

/-- The eight modes (10:R50). -/
def modes : List (BitVec 5) := [modeUsr, modeFiq, modeIrq, modeSvc, modeMon, modeAbt, modeUnd, modeSys]

/-- Is this value of M[4:0] a mode? -/
def validMode (m : BitVec 5) : Bool := modes.contains m

/-- CPSR.M. -/
def State.mode (s : State) : BitVec 5 := bits s.cpsr 0 5

/-- CPSR.T: Thumb state (10:R49). -/
def State.thumb (s : State) : Bool := bit s.cpsr 5

/-- InAPrivilegedMode (10:R50). -/
def State.privileged (s : State) : Bool := s.mode != modeUsr

/-- SCR.NS (12:R160). -/
def Cp15.nsBit (c : Cp15) : Bool := bit c.scr 0

/-- Is the processor in the Non-secure world, in this CP15 state and mode? (10:R45) -/
def Cp15.nonSecureIn (c : Cp15) (mode : BitVec 5) : Bool := c.nsBit && mode != modeMon

/-- NS_state of 10:R45. -/
def State.nsState (s : State) : Bool := s.cp15.nonSecureIn s.mode

/-- A world's copy of the banked CP15 registers. -/
def Cp15.bank (c : Cp15) (ns : Bool) : Cp15Bank := if ns then c.nonSecure else c.secure

/-- CP15 with a world's copy replaced. -/
def Cp15.setBank (c : Cp15) (ns : Bool) (b : Cp15Bank) : Cp15 :=
  if ns then { c with nonSecure := b } else { c with secure := b }

/-- The Control Register as a world sees it: its banked bits, the bits that exist once, and bits [6:3], which read as one
(12:R150, R153). -/
def Cp15.control (c : Cp15) (ns : Bool) : Word := (c.bank ns).control ||| c.controlShared ||| 0x00000078#32

/-- A bit of the Control Register of the current world. -/
def State.controlBit (s : State) (i : Nat) : Bool := bit (s.cp15.control s.nsState) i

/-- In Debug state: DSCR[0] (15:R380, R405). -/
def State.halted (s : State) : Bool := bit s.dbg.dscr 0

/-! ### General registers -/

/-- The place of a mode's R13 in the register file; its R14 follows (10:R32). -/
def bankBase (mode : BitVec 5) : Nat :=
  if mode = modeFiq then 20 else if mode = modeSvc then 22 else if mode = modeAbt then 24
  else if mode = modeIrq then 26 else if mode = modeUnd then 28 else if mode = modeMon then 30 else 13

/-- The physical register that a register number other than 15 denotes in a mode (10:R32, R33): R0 to R12 at 0, the User
R13 and R14 at 13, R8_fiq to R12_fiq at 15, then the banked R13 and R14. -/
def bankedReg (mode : BitVec 5) (r : Reg) : Fin 32 :=
  Fin.ofNat 32 <|
    if r.toNat < 8 then r.toNat
    else if r.toNat < 13 then (if mode = modeFiq then r.toNat + 7 else r.toNat)
    else bankBase mode + (r.toNat - 13)

/-- A register other than R15 in a mode's bank. -/
def State.regIn (s : State) (mode : BitVec 5) (r : Reg) : Word := s.regs[bankedReg mode r]

/-- Writing a register other than R15 in a mode's bank. -/
def State.setRegIn (s : State) (mode : BitVec 5) (r : Reg) (v : Word) : State :=
  { s with regs := s.regs.set (bankedReg mode r) v }

/-- CPSR.J: Jazelle state, where T is 0 (10:R43). -/
def State.jazelle (s : State) : Bool := bit s.cpsr 24

/-- The value read from R15: the instruction's address and 8 in ARM state, 4 in Thumb state (10:R36). In Debug state it is the
resume address and 8, 4 or, in Jazelle state, 0; once the PC or the CPSR has been written, any value (15:R409; log 24). -/
def State.readPc (s : State) : Word :=
  if s.halted && s.dbg.pcKnown != .entry then Config.freeWord s.freeCtr
  else if s.halted && s.jazelle then s.pc
  else s.pc + (if s.thumb then 4#32 else 8#32)

/-- R[i] as an operand (10:R33, R36). -/
def State.reg (s : State) (r : Reg) : Word := if r = 15#4 then s.readPc else s.regIn s.mode r

/-- Writing R[i] of the current mode, for a register other than R15; instructions that write R15 branch. -/
def State.setReg (s : State) (r : Reg) (v : Word) : State := s.setRegIn s.mode r v

/-- Going on to the next instruction (10:R37). In Debug state the PC does not move (15:R409). -/
def State.advance (s : State) : State :=
  if s.halted then s else { s with pc := s.pc + (if s.thumb then 2#32 else 4#32) }

/-- Branching: the next instruction is at `target`. In Debug state the PC is then known to be written (15:R409). -/
def State.branch (s : State) (target : Word) : State :=
  if s.halted then { s with pc := target, dbg := { s.dbg with pcKnown := .written } } else { s with pc := target }

/-- Going on after an instruction whose condition failed. In Debug state nothing is then known of the PC that the instruction
would have written (15:R409). -/
def State.skip (s : State) (writesPc : Bool) : State :=
  if s.halted && writesPc then { s with dbg := { s.dbg with pcKnown := .unknown } } else s.advance

/-- The address of an instruction as the state that T and J select aligns it: halfword in Thumb state, byte in Jazelle state, word
in ARM state (10:R35). -/
def alignFor (thumb jazelle : Bool) (a : Word) : Word := if thumb then align2 a else if jazelle then a else align4 a

/-- A write of the PC, with the value as this instruction set aligns it; in Debug state the value stays as it is, since the restart
aligns it for the state it resumes in (15:R409, R434). -/
def State.writePc (s : State) (raw aligned : Word) : State := s.branch (if s.halted then raw else aligned)

/-- Making the state Thumb or ARM. -/
def State.setThumb (s : State) (t : Bool) : State := { s with cpsr := setBit s.cpsr 5 t }

/-! ### Program status registers -/

/-- The number of a mode's SPSR; User and System modes have none (10:R54). -/
def spsrIndex (mode : BitVec 5) : Option (Fin 6) :=
  if mode = modeFiq then some 0 else if mode = modeIrq then some 1 else if mode = modeSvc then some 2
  else if mode = modeAbt then some 3 else if mode = modeUnd then some 4 else if mode = modeMon then some 5 else none

/-- The bits of a PSR that are not reserved (10:R40, R53). -/
def psrMask : Word := 0xF90F03FF#32

/-- The current mode's SPSR, refused where the mode has none (10:R54). -/
def State.spsr (s : State) : Result Word :=
  match spsrIndex s.mode with
  | some i => .ok s.spsrs[i]
  | none => .error (.refuse .noSpsr)

/-- Writing a mode's SPSR, if it has one; reserved bits stay 0 (10:R53). -/
def State.setSpsrIn (s : State) (mode : BitVec 5) (v : Word) : State :=
  match spsrIndex mode with
  | some i => { s with spsrs := s.spsrs.set i (v &&& psrMask) }
  | none => s

/-- A mask of the bytes that a field mask selects (10:R51). -/
def byteMask (m : BitVec 4) : Word :=
  (if bit m 0 then 0x000000FF#32 else 0#32) ||| (if bit m 1 then 0x0000FF00#32 else 0#32) |||
  (if bit m 2 then 0x00FF0000#32 else 0#32) ||| (if bit m 3 then 0xFF000000#32 else 0#32)

/-! ### Settings that may still be seen as they were -/

/-- The different values a component has now or had in the older settings. -/
def heldValues {σ α : Type} [BEq α] (get : σ → α) (olds : List σ) (now : σ) : List α :=
  ((now :: olds).map get).foldr List.insert []

/-- Each of these settings with each value that one component has now or had before. -/
def vary {σ α : Type} [BEq α] (get : σ → α) (set : α → σ → σ) (olds settings : List σ) : List σ :=
  settings.flatMap fun c => (heldValues get olds c).map fun v => set v c

/-- The same for a component of both banks. -/
def varyBanks (get : Cp15Bank → Word) (set : Word → Cp15Bank → Cp15Bank) (olds settings : List Cp15) : List Cp15 :=
  vary (fun c => get c.secure) (fun v c => { c with secure := set v c.secure }) olds
    (vary (fun c => get c.nonSecure) (fun v c => { c with nonSecure := set v c.nonSecure }) olds settings)

/-- The banked registers that act on fetching and translating (70:R1322), each as it is or was. -/
def mixedBanks (olds settings : List Cp15) : List Cp15 :=
  varyBanks (·.control) (fun v b => { b with control := v }) olds <|
  varyBanks (·.ttbr0) (fun v b => { b with ttbr0 := v }) olds <|
  varyBanks (·.ttbr1) (fun v b => { b with ttbr1 := v }) olds <|
  varyBanks (·.ttbcr) (fun v b => { b with ttbcr := v }) olds <|
  varyBanks (·.dacr) (fun v b => { b with dacr := v }) olds <|
  varyBanks (·.primaryRemap) (fun v b => { b with primaryRemap := v }) olds <|
  varyBanks (·.normalRemap) (fun v b => { b with normalRemap := v }) olds <|
  varyBanks (·.fcse) (fun v b => { b with fcse := v }) olds <|
  varyBanks (·.contextId) (fun v b => { b with contextId := v }) olds <|
  varyBanks (·.periphRemap) (fun v b => { b with periphRemap := v }) olds settings

/-- The registers that exist once and the TLB, each as it is or was. -/
def mixedShared (olds settings : List Cp15) : List Cp15 :=
  vary (·.controlShared) (fun v c => { c with controlShared := v }) olds <|
  vary (·.cpacr) (fun v c => { c with cpacr := v }) olds <|
  vary (·.scr) (fun v c => { c with scr := v }) olds <|
  vary (·.nsacr) (fun v c => { c with nsacr := v }) olds <|
  vary (·.dtcmRegion[0]) (fun v c => { c with dtcmRegion := c.dtcmRegion.set 0 v }) olds <|
  vary (·.dtcmRegion[1]) (fun v c => { c with dtcmRegion := c.dtcmRegion.set 1 v }) olds <|
  vary (·.itcmRegion[0]) (fun v c => { c with itcmRegion := c.itcmRegion.set 0 v }) olds <|
  vary (·.itcmRegion[1]) (fun v c => { c with itcmRegion := c.itcmRegion.set 1 v }) olds <|
  vary (·.dtcmNsAccess[0]) (fun v c => { c with dtcmNsAccess := c.dtcmNsAccess.set 0 v }) olds <|
  vary (·.dtcmNsAccess[1]) (fun v c => { c with dtcmNsAccess := c.dtcmNsAccess.set 1 v }) olds <|
  vary (·.itcmNsAccess[0]) (fun v c => { c with itcmNsAccess := c.itcmNsAccess.set 0 v }) olds <|
  vary (·.itcmNsAccess[1]) (fun v c => { c with itcmNsAccess := c.itcmNsAccess.set 1 v }) olds <|
  vary (fun c => (c.tlbLocked, c.tlbMain)) (fun v c => { c with tlbLocked := v.1, tlbMain := v.2 }) olds <|
  vary (fun c => (c.iMicroTlb, c.dmaMicroTlb)) (fun v c => { c with iMicroTlb := v.1, dmaMicroTlb := v.2 }) olds settings

/-- All that CP15 may act as: every register that acts on fetching and translating has its value of now or one from before a change
that need not have taken effect, each register for itself (70:R1322, 92:D15, D43). -/
def Cp15.mixes (olds : List Cp15) (now : Cp15) : List Cp15 := mixedBanks olds (mixedShared olds [now])

/-- The settings of now. -/
def State.settings (s : State) : OldFetch := { cp15 := s.cp15, mode := s.mode }

/-- All that an instruction may be fetched with (70:R1322, 92:D43; log 17). -/
def State.fetchSettings (s : State) : List OldFetch :=
  (heldValues (·.mode) s.oldFetch s.settings).flatMap fun mode =>
    (Cp15.mixes (s.oldFetch.map (·.cp15)) s.cp15).map fun c => { cp15 := c, mode := mode }

/-- One of these, by free choice. -/
def drawFrom {α : Type} (l : List α) (default : α) (s : State) : α × State :=
  let (w, s) := drawWord s
  (l.getD (w.toNat % l.length) default, s)

/-- What instruction fetches may go on using until the next pipeline flush (70:R1322): kept from before the change. -/
def State.keepOldFetch (s old : State) : State :=
  if s.oldFetch.contains old.settings then s else { s with oldFetch := old.settings :: s.oldFetch }

/-- Has all of the IMB sequence but the pipeline flush been done for a written byte: a Data Synchronization Barrier and, where a cache can
hold the byte, an invalidate of the Instruction Cache there? (20:R533) -/
def StaleByte.settled (b : StaleByte) : Bool :=
  b.synced && match b.place with
    | .external | .nonSecure => b.invalidated
    | .itcm _ | .dtcm _ => true

/-- A pipeline flush: Flush Prefetch Buffer, exception entry, exception return (70:R1321, 20:R532 to R534). Old settings are
no longer used, and where it ends the IMB sequence of a written byte, that is seen with its new value (20:R533; log 16). -/
def State.syncFetch (s : State) : State := { s with oldFetch := [], stale := s.stale.filter fun b => !b.settled }

/-- The CPSR bits that an instruction may write (10:R55). -/
def cpsrWritable (s : State) (value : Word) (bytes : BitVec 4) (isReturn : Bool) : Word :=
  let m := (if bit bytes 3 then 0xF8000000#32 else 0#32) ||| (if bit bytes 2 then 0x000F0000#32 else 0#32) |||
    (if bit bytes 1 then 0x00000200#32 else 0#32)
  let m := if s.privileged then
      m ||| (if bit bytes 1 then 0x00000100#32 else 0#32) ||| (if bit bytes 0 then 0x000000DF#32 else 0#32)
    else m
  let m := if isReturn then
      m ||| (if bit bytes 3 then 0x01000000#32 else 0#32) ||| (if bit bytes 0 then 0x00000020#32 else 0#32)
    else m
  let m := if s.nsState then
      (if bit s.cp15.scr 5 then m else m &&& ~~~0x00000100#32) &&& (if bit s.cp15.scr 4 then 0xFFFFFFFF#32 else ~~~0x00000040#32)
    else m
  if (s.nsState || !s.privileged) && bits value 0 5 == modeMon then m &&& ~~~0x0000001F#32 else m

/-- CPSRWriteByInstr of 10:R55; a value that is no mode is refused (92:D2). A change of privilege or world may reach
instruction fetches later (70:R1322). -/
def cpsrWriteByInstr (s : State) (value : Word) (bytes : BitVec 4) (isReturn : Bool) : Result State :=
  let cpsr := mergeBits s.cpsr value (cpsrWritable s value bytes isReturn)
  if validMode (bits cpsr 0 5) then
    let s' := { s with cpsr := cpsr }
    .ok (if s'.privileged == s.privileged && s'.nsState == s.nsState then s' else s'.keepOldFetch s)
  else .error (.refuse .reservedMode)

/-! ### Taking an exception -/

/-- The mode of an exception that is not routed to Secure Monitor mode (60:R1203). -/
def Exc.mode : Exc → BitVec 5
  | .undef => modeUnd
  | .svc => modeSvc
  | .smc => modeMon
  | .prefetchAbort => modeAbt
  | .dataAbort => modeAbt
  | .irq => modeIrq
  | .fiq => modeFiq

/-- The vector offset (60:R1200, R1210). -/
def Exc.offset : Exc → Word
  | .undef => 0x04#32
  | .svc => 0x08#32
  | .smc => 0x08#32
  | .prefetchAbort => 0x0C#32
  | .dataAbort => 0x10#32
  | .irq => 0x18#32
  | .fiq => 0x1C#32

/-- Is the exception one that sets A on an entry that stays out of Monitor mode? (60:R1204) -/
def Exc.masksAborts : Exc → Bool
  | .prefetchAbort | .dataAbort | .irq | .fiq => true
  | .undef | .svc | .smc => false

/-- Does the exception go to Secure Monitor mode? (60:R1203) -/
def routedToMonitor (s : State) (k : Exc) (ext : Bool) : Bool :=
  match k with
  | .smc => true
  | .irq => bit s.cp15.scr 1
  | .fiq => bit s.cp15.scr 2
  | .prefetchAbort | .dataAbort => ext && bit s.cp15.scr 3
  | .undef | .svc => false

/-- VectorAddress of 60:R1210. -/
def vectorAddress (s : State) (k : Exc) (toMonitor ns : Bool) : Word :=
  if toMonitor then s.cp15.mvbar + k.offset
  else
    let c := s.cp15.control ns
    if k = .irq ∧ bit c 24 then align4 s.pins.irqaddr
    else if bit c 13 then 0xFFFF0000#32 + k.offset
    else (s.cp15.bank ns).vbar + k.offset

/-- The CPSR after an entry (60:R1204 to R1206). -/
def entryCpsr (s : State) (k : Exc) (toMonitor ns : Bool) : Word :=
  let c := setBits s.cpsr 0 (if toMonitor then modeMon else k.mode)
  let c := setBit (setBit (setBit c 5 false) 24 false) 7 true
  let c := if toMonitor || (k = .fiq && (!ns || bit s.cp15.scr 4)) then setBit c 6 true else c
  let c := if toMonitor || (k.masksAborts && (!ns || bit s.cp15.scr 5)) then setBit c 8 true else c
  setBit c 9 (bit (s.cp15.control ns) 25)

/-- What an exception does in Debug state: it is recorded or ignored (15:R410). The trace port, which shows no instruction there, is told of
it for `executeItr` alone. -/
def debugStateException (k : Exc) (s : State) : State :=
  let s := { s with trace := { s.trace with exception := some k } }
  match k with
  | .undef => { s with dbg := { s.dbg with dscr := setBit s.dbg.dscr 8 true } }
  | .dataAbort => { s with dbg := { s.dbg with dscr := setBit s.dbg.dscr 6 true } }
  | .svc | .smc | .prefetchAbort | .irq | .fiq => s

/-- Is non-invasive debug permitted: in the Secure world by SPNIDEN, or in its User mode by SUNIDEN (15:R372, R394, 12:R163)? The
pins DBGEN and NIDEN do not count (log 65). -/
def State.nonInvasivePermitted (s : State) : Bool :=
  s.nsState || s.pins.spniden || (bit s.cp15.sder 1 && s.mode == modeUsr)

/-- The trace port after the entry of an exception, in the state `s` after it: where no instruction has been traced since Debug state or a
prohibited region, a placeholder is traced before it (26:R1624). -/
def traceException (k : Exc) (s : State) : State :=
  { s with trace := { s.trace with
      exception := some k, placeholder := s.trace.quiet && s.nonInvasivePermitted, quiet := s.trace.quiet && !s.nonInvasivePermitted } }

/-- TakeException of 60:R1206, after the exception kind has been settled: `ext` says that an abort is external, `ret` is the
link value of 60:R1250. In Secure Monitor mode SCR.NS is cleared first (60:R1264). The entry of a vectored IRQ asserts IRQACK and
is complete when IRQADDRV is sampled (25:R1587, `sampleVector`). -/
def takeException (k : Exc) (ext : Bool) (ret : Word) (s : State) : State :=
  if s.halted then debugStateException k s
  else
    let s := if s.mode = modeMon then { s with cp15 := { s.cp15 with scr := setBit s.cp15.scr 0 false } } else s
    let toMonitor := routedToMonitor s k ext
    let ns := s.cp15.nsBit && !toMonitor
    let mode := if toMonitor then modeMon else k.mode
    let vectored := k = .irq && !toMonitor && bit (s.cp15.control ns) 24
    let target := vectorAddress s k toMonitor ns
    let entered := (s.setRegIn mode 14#4 ret).setSpsrIn mode s.cpsr
    traceException k <| State.syncFetch { entered with
      cpsr := entryCpsr s k toMonitor ns, pc := target, irqack := vectored }

/-- The end of a vectored IRQ's entry: with IRQACK asserted and IRQADDRV HIGH the handler's address is sampled and IRQACK goes LOW
(25:R1587, R1589); otherwise the core waits. -/
def sampleVector (s : State) : State :=
  if s.irqack && s.pins.irqaddrv then
    let target := align4 s.pins.irqaddr
    { s with
      pc := target, irqack := false
      cp15 := s.cp15.setBank s.nsState { s.cp15.bank s.nsState with lastIrqAddr := target } }
  else s

/-- The address of the instruction after the current one, as a link value; in Debug state instructions run as in ARM state
(15:R406). -/
def State.nextPc (s : State) : Word := s.pc + (if s.thumb && !s.halted then 2#32 else 4#32)

/-- The Undefined Instruction exception (60:R1211). -/
def undefined {α : Type} (s : State) : Result α := .error (.taken (takeException .undef false s.nextPc s))

/-! ### Aborts -/

/-- Why an access aborts (21:R637). -/
structure AbortCause where
  /-- FSR[10,3:0]. -/
  code : BitVec 5
  /-- The domain, where the table says that it is valid. -/
  domain : Option (BitVec 4)
  /-- Is it an external abort? -/
  external : Bool
  /-- FSR[12] of an external abort: SLVERR, not DECERR. -/
  slverr : Bool
  deriving DecidableEq, Repr

/-- The DFSR for an abort: SD, RW, S, Domain, Status (12:R173). A domain that the table calls invalid is a free value. -/
def dataFaultStatus (s : State) (c : AbortCause) (write : Bool) : Word × State :=
  let (domain, s) := match c.domain with
    | some d => (d, s)
    | none => let (w, s) := drawWord s; (bits w 0 4, s)
  ((ofBit c.slverr <<< 12) ||| (ofBit write <<< 11) ||| (ofBit (bit c.code 4) <<< 10) ||| (zext domain <<< 4) |||
    zext (c.code.setWidth 4), s)

/-- The IFSR for an abort: SD and Status (12:R176). -/
def instrFaultStatus (c : AbortCause) : Word := (ofBit c.slverr <<< 12) ||| zext (c.code.setWidth 4)

/-- Which copy of the fault registers an abort writes: the Secure one for an external abort with SCR.EA = 1 (21:R639), in Debug
state that of the current world (15:R410). -/
def abortBank (s : State) (c : AbortCause) : Bool := s.nsState && (s.halted || !(c.external && bit s.cp15.scr 3))

/-- A precise Data Abort: DFSR and FAR, then the entry (60:R1219, R1220, 21:R638 to R640). -/
def takeDataAbort (c : AbortCause) (mva : Word) (write : Bool) (s : State) : State :=
  let ns := abortBank s c
  let (status, s) := dataFaultStatus s c write
  let s := { s with cp15 := s.cp15.setBank ns { s.cp15.bank ns with dfsr := status, far := mva } }
  takeException .dataAbort c.external (s.pc + 8#32) s

/-- A Prefetch Abort for a failed fetch: IFSR and IFAR, then the entry (60:R1217, 21:R638, R640). -/
def takePrefetchAbort (c : AbortCause) (mva : Word) (s : State) : State :=
  let ns := abortBank s c
  let s := { s with cp15 := s.cp15.setBank ns { s.cp15.bank ns with ifsr := instrFaultStatus c, ifar := mva } }
  takeException .prefetchAbort c.external (s.pc + 4#32) s

/-- The Prefetch Abort of BKPT and of the instruction-side debug events: the IFSR says debug event, the IFAR stays
(60:R1218, 15:R402, 92:D39). -/
def takeDebugPrefetchAbort (s : State) : State :=
  let ns := s.nsState
  let s := { s with cp15 := s.cp15.setBank ns { s.cp15.bank ns with ifsr := 0b00010#32 } }
  takeException .prefetchAbort false (s.pc + 4#32) s

/-- A pending imprecise external abort, taken before the instruction at the pc (60:R1220, R1243, 92:D41). -/
def takeImpreciseAbort (p : PendingAbort) (s : State) : State :=
  let ns := p.nonSecure && !bit s.cp15.scr 3
  let s := { s with
    pendingAbort := none
    trace := { s.trace with imprecise := true }
    cp15 := s.cp15.setBank ns { s.cp15.bank ns with dfsr := p.status, far := 0#32 } }
  takeException .dataAbort true (s.pc + 8#32) s

/-- An access has had an error that will be an imprecise external abort: it is on its way to the core (60:R1243). -/
def launchAbort (s : State) (slverr write : Bool) : State :=
  { s with inflight := s.inflight ++ [{ slverr := slverr, write := write, nonSecure := s.nsState }] }

/-- An imprecise external abort reaches the core and is pending; a second one while one is pending is not recorded (60:R1243).
In Debug state it sets DSCR[7], and is discarded if DSCR[19] is set (15:R410, R412). -/
def deliverAbort (a : InflightAbort) (s : State) : State :=
  let c : AbortCause := { code := 0b10110#5, domain := none, external := true, slverr := a.slverr }
  let (status, s) := dataFaultStatus s c a.write
  let s := if s.halted then { s with dbg := { s.dbg with dscr := setBit s.dbg.dscr 7 true } } else s
  if s.pendingAbort.isSome || (s.halted && bit s.dbg.dscr 19) then s
  else { s with pendingAbort := some { status := status, nonSecure := a.nonSecure } }

/-- Every abort on its way reaches the core. -/
def deliverAll : List InflightAbort → State → State
  | [], s => s
  | a :: rest, s => deliverAll rest (deliverAbort a s)

/-- At an instruction boundary each abort on its way may reach the core or not (60:R1243). -/
def deliverSome : List InflightAbort → State → State
  | [], s => s
  | a :: rest, s =>
    let (now, s) := drawBit s
    deliverSome rest (if now then deliverAbort a s else { s with inflight := s.inflight ++ [a] })

/-- What reaches the core at this instruction boundary. -/
def deliverAborts (s : State) : State := deliverSome s.inflight { s with inflight := [] }

/-- Is an explicit access of the core not complete as far as others can tell: a write in the write buffer, an abort on its way? -/
def State.outstanding (s : State) : Bool := !s.inflight.isEmpty || !s.writeBuffer.isEmpty

/-- Every explicit access is complete: the write buffer has drained and every abort has reached the core (20:R526, R531, 22:R1433,
60:R1243). -/
def completeAccesses (s : State) : State :=
  if s.outstanding then
    deliverAll s.inflight { s with inflight := [], writeBuffer := [] }
  else s

/-! ### Returning from an exception -/

/-- The branch of an exception return, in the instruction set that the new T and J bits select (10:R35, R56, R39). -/
def branchAfterReturn (s : State) (target : Word) : State := s.branch (alignFor s.thumb s.jazelle target)

/-- Return from an exception: the saved status into the CPSR, a pipeline flush, the branch (10:R56, 60:R1250, 70:R1321). -/
def exceptionReturn (s : State) (saved target : Word) : Result State := do
  let s ← cpsrWriteByInstr s saved 0b1111#4 true
  pure (branchAfterReturn s.syncFetch target)

end Sys2Proof.Machine
end

