-- ==== Sys2Proof/Machine/Memory.lean ====
section
/-! DEFINITION. The bytes of memory: the canonical list of cells, reading and writing one byte of a place, the record of the
bytes that an instruction fetch may still see with an old value, the write buffer, the TCM windows, and the memories of level two. -/

namespace Sys2Proof.Machine

open Sys2Proof

/-! ### Lists of cells (20:R500; log 2) -/

/-- What a byte that is not listed reads as: 0x00 (DESIGN CHOICE: the spec gives no contents of memory; log 2). -/
def unlisted : Byte := 0#8

/-- The byte at an address. -/
def readCell : List Host.Cell → Nat → Byte
  | [], _ => unlisted
  | (a, b) :: cs, x => if x = a then b else if x < a then unlisted else readCell cs x

/-- The cells with the byte at an address replaced, in the same form. -/
def writeCell : List Host.Cell → Nat → Byte → List Host.Cell
  | [], x, v => if v = unlisted then [] else [(x, v)]
  | (a, b) :: cs, x, v =>
    if x = a then (if v = unlisted then cs else (x, v) :: cs)
    else if x < a then (if v = unlisted then (a, b) :: cs else (x, v) :: (a, b) :: cs)
    else (a, b) :: writeCell cs x v

/-- The canonical form: addresses strictly rising, no listed byte equal to what an unlisted one reads as. -/
def Memory.wf : List Host.Cell → Bool
  | [] => true
  | [(_, b)] => b != unlisted
  | (a, b) :: (a', b') :: cs => b != unlisted && decide (a < a') && Memory.wf ((a', b') :: cs)

/-! ### Places -/

/-- The cells of a place. -/
def State.cells (s : State) : Place → List Host.Cell
  | .external => s.mem
  | .nonSecure => s.memNs
  | .itcm i => s.itcm[i]
  | .dtcm i => s.dtcm[i]

/-- Replacing the cells of a place. -/
def State.setCells (s : State) (p : Place) (cs : List Host.Cell) : State :=
  match p with
  | .external => { s with mem := cs }
  | .nonSecure => { s with memNs := cs }
  | .itcm i => { s with itcm := s.itcm.set i cs }
  | .dtcm i => { s with dtcm := s.dtcm.set i cs }

/-- One byte of a place. -/
def State.byteAt (s : State) (p : Place) (a : Nat) : Byte := readCell (s.cells p) a

/-- Does the canonical form hold of every memory? -/
def State.memoryWf (s : State) : Bool :=
  Memory.wf s.mem && Memory.wf s.memNs && Memory.wf s.itcm[0] && Memory.wf s.itcm[1] && Memory.wf s.dtcm[0] && Memory.wf s.dtcm[1]

/-- The actual bytes of `n` addresses from `o` on: in BE-32, Byte[A] is the byte A EOR 3 (20:R504). -/
def byteAddresses (be32 : Bool) (o n : Nat) : List Nat :=
  (List.range n).map fun i => if be32 then (o + i) ^^^ 3 else o + i

/-! ### Bytes that a fetch may still see with an old value (20:R533; log 16) -/

/-- Recording that a byte, which holds `now`, is about to be written. -/
def recordStale (l : List StaleByte) (p : Place) (a : Nat) (now : Byte) : List StaleByte :=
  let b : StaleByte := { place := p, addr := a, old := now, synced := false, invalidated := false }
  if l.contains b then l else b :: l

/-- Writing a byte of level two or of a TCM. -/
def State.setByteAt (s : State) (p : Place) (a : Nat) (v : Byte) : State :=
  let old := s.byteAt p a
  let s' := s.setCells p (writeCell (s.cells p) a v)
  { s' with stale := recordStale s.stale p a old }

/-- Writing bytes at addresses of level two or offsets of a TCM. -/
def State.setBytesAt (s : State) (p : Place) : List (Nat × Byte) → State
  | [] => s
  | (a, v) :: rest => (s.setByteAt p a v).setBytesAt p rest

/-! ### The write buffer (22:R1432, R1433; log 14) -/

/-- Writing bytes of level two through the write buffer: the core sees them at once, others when the write has drained. -/
def State.bufferBytesAt (s : State) (q : WriteQueue) (device : Option Bool) (p : Place) (l : List (Nat × Byte)) : State :=
  if l.isEmpty then s
  else
    let w : BufferedWrite := { queue := q, place := p, bytes := l.map (fun (a, _) => (a, s.byteAt p a)), device := device }
    { s.setBytesAt p l with writeBuffer := s.writeBuffer ++ [w] }

/-- Does a buffered write go to this byte? -/
def BufferedWrite.covers (w : BufferedWrite) (p : Place) (a : Nat) : Bool := w.place == p && w.bytes.any fun (x, _) => x == a

/-- Does a buffered write go to the line of 8 words of an address? -/
def BufferedWrite.inLine (w : BufferedWrite) (p : Place) (a : Nat) : Bool :=
  w.place == p && w.bytes.any fun (x, _) => x / 32 == a / 32

/-- Must the write `w` have drained before the later write `v`: the same FIFO, or the same line? -/
def BufferedWrite.before (w v : BufferedWrite) : Bool := w.queue == v.queue || v.bytes.any fun (x, _) => w.inLine v.place x

/-- What stays in the write buffer when the writes that a test selects drain, and what goes: those, and every one that is before one of
them. -/
def drainSplit (selects : BufferedWrite → Bool) : List BufferedWrite → List BufferedWrite × List BufferedWrite
  | [] => ([], [])
  | w :: rest =>
    let (kept, gone) := drainSplit selects rest
    if selects w || gone.any w.before then (kept, w :: gone) else (w :: kept, gone)

/-- The write buffer drains as far as the writes that a test selects. -/
def State.drainTo (s : State) (selects : BufferedWrite → Bool) : State :=
  { s with writeBuffer := (drainSplit selects s.writeBuffer).1 }

/-- The write buffer drains as far as one of its writes, or not at all, by free choice. -/
def drainOne (s : State) : State :=
  let (w, s) := drawWord s
  match s.writeBuffer[w.toNat % (s.writeBuffer.length + 1)]? with
  | some v => s.drainTo (· == v)
  | none => s

/-- The write buffer drains any of what it may have drained: up to one write of either FIFO (22:R1433). -/
def drainSome (s : State) : State := if s.writeBuffer.isEmpty then s else drainOne (drainOne s)

/-- A byte of level two as others than the core see it: as it was before the oldest write to it that has not drained. -/
def levelTwoByte (s : State) (p : Place) (a : Nat) : Byte :=
  (s.writeBuffer.findSome? fun w => if w.place = p then (w.bytes.find? fun x => x.1 == a).map (·.2) else none).getD (s.byteAt p a)

/-- Reading bytes of level two as a page table walk, a linefill of the Instruction Cache or the DMA does, after any draining. A TCM has no
buffered writes. -/
def readLevelTwo (s : State) (p : Place) (as : List Nat) : List Byte × State :=
  let s := if as.any fun a => s.writeBuffer.any (·.covers p a) then drainSome s else s
  (as.map (levelTwoByte s p), s)

/-- The oldest buffered write to a byte gets another old value. -/
def writeUnder (p : Place) (a : Nat) (v : Byte) : List BufferedWrite → List BufferedWrite
  | [] => []
  | w :: rest =>
    if w.covers p a then { w with bytes := w.bytes.map fun x => if x.1 == a then (a, v) else x } :: rest
    else w :: writeUnder p a v rest

/-- One byte that the DMA writes: under the core's writes to it that have not drained. -/
def dmaWriteByte (p : Place) (s : State) (x : Nat × Byte) : State :=
  if s.writeBuffer.any (·.covers p x.1) then { s with writeBuffer := writeUnder p x.1 x.2 s.writeBuffer }
  else s.setByteAt p x.1 x.2

/-- Writing bytes as the DMA does, after any draining. -/
def dmaWrite (s : State) (p : Place) (l : List (Nat × Byte)) : State :=
  let s := if l.any fun x => s.writeBuffer.any (·.covers p x.1) then drainSome s else s
  l.foldl (dmaWriteByte p) s

/-- The loss of what has not drained, the latest write first. -/
def loseBuffered (s : State) : State :=
  let undo (s : State) (w : BufferedWrite) : State :=
    w.bytes.foldl (fun s x => s.setCells w.place (writeCell (s.cells w.place) x.1 x.2)) s
  { s.writeBuffer.reverse.foldl undo s with writeBuffer := [] }

/-! ### TCM windows (22:R1415 to R1423, 13:R264) -/

/-- The size in bytes that a TCM Region Register's Size field gives (13:R260). -/
def tcmBytes (region : Word) : Nat :=
  match (bits region 2 5).toNat with
  | 3 => 4096
  | 4 => 8192
  | 5 => 16384
  | 6 => 32768
  | _ => 0

/-- The offset of a physical address in an enabled TCM that is visible to an access of this security (22:R1417). -/
def tcmOffset (region : Word) (nsAccess ns : Bool) (pa : Word) : Option Nat :=
  let size := tcmBytes region
  if bit region 0 && nsAccess == ns && size != 0 && pa.toNat / size == (bits region 12 20).toNat * 4096 / size then
    some (pa.toNat % size)
  else none

/-- The TCM that an access to a physical address reaches, if any, and the offset in it: Data TCM 0, 1, Instruction TCM 0, 1, in this
order; an instruction fetch does not reach the Data TCMs (22:R1421 to R1423). -/
def tcmPlace (c : Cp15) (ns fetch : Bool) (pa : Word) : Option (Place × Nat) :=
  let d (i : Fin 2) := if fetch then none else tcmOffset c.dtcmRegion[i] c.dtcmNsAccess[i] ns pa
  let t (i : Fin 2) := tcmOffset c.itcmRegion[i] c.itcmNsAccess[i] ns pa
  match d 0 with
  | some o => some (.dtcm 0, o)
  | none =>
    match d 1 with
    | some o => some (.dtcm 1, o)
    | none =>
      match t 0 with
      | some o => some (.itcm 0, o)
      | none =>
        match t 1 with
        | some o => some (.itcm 1, o)
        | none => none

/-- The memory of level two that an access reaches: one storage for both worlds, unless the memory system keeps the Non-secure one
apart there (92:D19). -/
def levelTwoPlace (bus : List BusRegion) (ns : Bool) (pa : Word) : Place :=
  if ns && bus.any (fun r => r.ownStorage && r.nonSecure && r.first ≤ pa && pa ≤ r.last) then .nonSecure else .external

/-- Where an access to a physical address goes: a TCM, or level two. -/
def locate (c : Cp15) (bus : List BusRegion) (ns fetch : Bool) (pa : Word) : Place × Nat :=
  (tcmPlace c ns fetch pa).getD (levelTwoPlace bus ns pa, pa.toNat)

/-- Is this level two, and no TCM? -/
def Place.isLevelTwo : Place → Bool
  | .external | .nonSecure => true
  | .itcm _ | .dtcm _ => false

end Sys2Proof.Machine
end

