-- ==== Sys2Proof/Machine/Bus.lean ====
section
/-! DEFINITION. The level two interface (23): the memory types and what the processor drives for them, the bursts of every kind
of access, and how the memory system answers (23:R1492, 92:D19; log 18). -/

namespace Sys2Proof.Machine

open Sys2Proof

/-! ### Memory types (20:R522, 21:R631) -/

/-- The memory types. -/
inductive MemType where
  | stronglyOrdered
  | device
  | normal
  deriving DecidableEq, Repr

/-- The attributes of a memory region; the cache policies are the codes of 21:R631. -/
structure MemAttrs where
  /-- The type. -/
  type : MemType
  /-- Shared. -/
  shared : Bool
  /-- Inner policy, of Normal memory. -/
  inner : BitVec 2
  /-- Outer policy, of Normal memory. -/
  outer : BitVec 2
  deriving DecidableEq, Repr

/-- Strongly Ordered memory is always Shared. -/
def MemAttrs.stronglyOrdered : MemAttrs := { type := .stronglyOrdered, shared := true, inner := 0, outer := 0 }

/-- Device memory. -/
def MemAttrs.device (shared : Bool) : MemAttrs := { type := .device, shared := shared, inner := 0, outer := 0 }

/-- Normal memory. -/
def MemAttrs.normal (shared : Bool) (inner outer : BitVec 2) : MemAttrs :=
  { type := .normal, shared := shared, inner := inner, outer := outer }

/-- Can the caches hold memory with these attributes: Normal, not Shared, with an inner policy? (22:R1404, R1412) -/
def MemAttrs.cacheable (a : MemAttrs) : Bool := a.type == .normal && !a.shared && a.inner != 0#2

/-- Is the inner policy Write-Back? -/
def MemAttrs.writeBack (a : MemAttrs) : Bool := a.inner == 1#2 || a.inner == 3#2

/-! ### What is driven with a request (23:R1480 to R1483) -/

/-- The code of a cache policy in AxCACHE and AxSIDEBAND (23:R1481). -/
def policyCode (p : BitVec 2) : BitVec 4 :=
  match p.toNat with
  | 0 => 0b0010#4
  | 1 => 0b1111#4
  | 2 => 0b0110#4
  | _ => 0b0111#4

/-- The code of a type, with the policy of Normal memory. -/
def MemAttrs.code (a : MemAttrs) (policy : BitVec 2) : BitVec 4 :=
  match a.type with
  | .stronglyOrdered => 0b0000#4
  | .device => 0b0001#4
  | .normal => policyCode policy

/-- AxCACHE: the outer attributes (23:R1481). -/
def MemAttrs.axCache (a : MemAttrs) : BitVec 4 := a.code a.outer

/-- AxSIDEBAND: the inner attributes and Shared (23:R1483). -/
def MemAttrs.axSideband (a : MemAttrs) : BitVec 5 := a.code a.inner ++ BitVec.ofBool a.shared

/-- ARSIDEBANDI of the instruction port: every cacheable policy has one code (23:R1483). -/
def MemAttrs.fetchSideband (a : MemAttrs) : BitVec 5 :=
  a.code (if a.inner = 0#2 then 0#2 else 2#2) ++ BitVec.ofBool a.shared

/-- AxPROT: instruction, Non-secure, privileged (23:R1482). -/
def axProt (instruction ns privileged : Bool) : BitVec 3 :=
  BitVec.ofBool instruction ++ BitVec.ofBool ns ++ BitVec.ofBool privileged

/-- AxLEN (23:R1480). -/
def BusRequest.axLen (r : BusRequest) : BitVec 4 := BitVec.ofNat 4 (r.transfers - 1)

/-- AxSIZE. -/
def BusRequest.axSize (r : BusRequest) : BitVec 3 :=
  if r.size = 1 then 0b000#3 else if r.size = 2 then 0b001#3 else if r.size = 4 then 0b010#3 else 0b011#3

/-- AxBURST. -/
def BusRequest.axBurst (r : BusRequest) : BitVec 2 :=
  match r.burst with
  | .fixed => 0b00#2
  | .incr => 0b01#2
  | .wrap => 0b10#2

/-- AxLOCK. -/
def BusRequest.axLock (r : BusRequest) : BitVec 2 :=
  match r.lock with
  | .normal => 0b00#2
  | .exclusive => 0b01#2
  | .locked => 0b10#2

/-- The byte strobes of a transfer whose bytes start at `a`, on a bus of eight lanes, the peripheral port of four (23:R1488, R1489). -/
def BusRequest.wstrb (r : BusRequest) (a : Nat) : BitVec 8 :=
  let lanes := if r.port = .peripheral then 4 else 8
  (r.strobes.filter fun x => a ≤ x.toNat && x.toNat < a + r.size).foldl (fun m x => m ||| (1#8 <<< (x.toNat % lanes))) 0#8

/-- The port of a data access of the core: Non-shared Device memory, the peripheral port's region among it, has its own
(23:R1472). -/
def dataPort (a : MemAttrs) : Port := if a.type = .device ∧ a.shared = false then .peripheral else .data

/-- What the requests of an access have in common: the port, the direction, the lock type, the attributes, the protection. -/
def requestShape (port : Port) (write : Bool) (lock : BusLock) (a : MemAttrs) (ns privileged : Bool) : BusRequest :=
  { port := port, write := write, address := 0#32, transfers := 1, size := 1, burst := .incr, lock := lock
    cache := a.axCache
    prot := axProt (port == .instruction) ns privileged
    sideband := if port = .instruction then a.fetchSideband else a.axSideband
    writeback := false, strobes := [], data := [] }

/-! ### Bursts (23:R1484 to R1490) -/

/-- A burst of a shape. `bytes` are the addresses that a write stores to. -/
def BusRequest.burstOf (r : BusRequest) (a transfers size : Nat) (burst : BusBurst) (bytes : List Nat) : BusRequest :=
  { r with
    address := BitVec.ofNat 32 a, transfers := transfers, size := size, burst := burst
    strobes := if r.write then bytes.map (BitVec.ofNat 32) else [] }

/-- The requests of a write with the data that they drive: what it writes at the strobes' addresses. -/
def BusRequest.carry (writes : List (Nat × Byte)) (r : BusRequest) : BusRequest :=
  { r with data := r.strobes.filterMap fun x => (writes.find? fun w => w.1 == x.toNat).map (·.2) }

/-- The address that is driven for `n` bytes from `a` on: in BE-32 a byte or a halfword is in the other lanes of its word, and is
addressed there; of what is neither, the word is (23:R1491; log 62). -/
def laneAddress (be32 : Bool) (a n : Nat) : Nat :=
  if !be32 then a else if n = 1 then a ^^^ 3 else if n = 2 ∧ a % 2 = 0 then a ^^^ 2 else a / 4 * 4

/-- The one transfer of `n` bytes of one word: 8 or 16 bits, or 32 where they are neither a byte nor an aligned halfword; a store of
three bytes drives the word's address (23:R1487, R1488). -/
def pieceRequest (r : BusRequest) (be32 : Bool) (a n : Nat) : BusRequest :=
  let size := if n = 1 then 1 else if n = 2 ∧ a % 2 = 0 then 2 else 4
  let start := if r.write ∧ n = 3 then a / 4 * 4 else a
  r.burstOf (laneAddress be32 start n) 1 size .incr (byteAddresses be32 a n)

/-- The transfers of up to four bytes: one for each word that they touch. -/
def narrowRequests (r : BusRequest) (be32 : Bool) (a n : Nat) : List BusRequest :=
  let k := 4 - a % 4
  if n ≤ k then [pieceRequest r be32 a n] else [pieceRequest r be32 a k, pieceRequest r be32 (a + k) (n - k)]

/-- The burst of `n` words in one line. `streamed`: a load from Normal memory, which reads whole doublewords (23:R1487, R1488). -/
def wordsRequest (r : BusRequest) (streamed be32 : Bool) (a n : Nat) : BusRequest :=
  let odd := a / 4 % 2
  let bytes := byteAddresses be32 a (4 * n)
  if streamed ∧ 3 ≤ n then r.burstOf a ((n + odd + 1) / 2) 8 .incr bytes
  else if n % 2 = 0 ∧ odd = 0 then r.burstOf a (n / 2) 8 .incr bytes
  else r.burstOf a n 4 .incr bytes

/-- The bursts of `n` words on the peripheral port: pairs, and a single word at the end (23:R1489; log 62). -/
def peripheralRequests (r : BusRequest) (be32 : Bool) : Nat → Nat → List BusRequest
  | _, 0 => []
  | a, 1 => [r.burstOf a 1 4 .incr (byteAddresses be32 a 4)]
  | a, n + 2 => r.burstOf a 2 4 .incr (byteAddresses be32 a 8) :: peripheralRequests r be32 (a + 8) n

/-- The bursts of a data access to `n` bytes of one line, past the caches (23:R1487 to R1489). -/
def dataRequests (r : BusRequest) (streamed be32 : Bool) (a n : Nat) : List BusRequest :=
  if a % 4 = 0 ∧ n % 4 = 0 then
    if r.port = .peripheral then peripheralRequests r be32 a (n / 4) else [wordsRequest r streamed be32 a (n / 4)]
  else narrowRequests r be32 a n

/-- A linefill of either cache: four doublewords, from the one that is wanted, wrapping (23:R1484, R1485). -/
def linefillRequest (r : BusRequest) (a : Nat) : BusRequest :=
  r.burstOf (a / 8 * 8) 4 8 (if a / 8 % 4 = 0 then .incr else .wrap) []

/-- An instruction fetch past the cache: doublewords up to the end of the line (23:R1484). -/
def fetchRequestOf (r : BusRequest) (a : Nat) : BusRequest := r.burstOf (a / 4 * 4) (4 - a / 8 % 4) 8 .incr []

/-- The write-back of a line: its dirty halves, or all of it; `a` is the address of the access that evicts it (23:R1486). -/
def writeBackRequests (r : BusRequest) (l : CacheLine) (be32 : Bool) (a : Nat) : List BusRequest :=
  let line := l.tag.toNat
  let at8 := a / 8 % 4
  let half (o : Nat) : BusRequest :=
    let wraps := at8 == o / 8 + 1
    r.burstOf (line + o + if wraps then 8 else 0) 2 8 (if wraps then .wrap else .incr) (byteAddresses be32 (line + o) 16)
  if l.dirtyLow && l.dirtyHigh then
    [r.burstOf (line + 8 * at8) 4 8 (if at8 = 0 then .incr else .wrap) (byteAddresses be32 line 32)]
  else (if l.dirtyLow then [half 0] else []) ++ (if l.dirtyHigh then [half 16] else [])

/-- The address of a transfer's bytes. -/
def BusRequest.transferAt (r : BusRequest) (i : Nat) : Nat :=
  let first := r.address.toNat / r.size * r.size
  match r.burst with
  | .fixed => first
  | .incr => first + r.size * i
  | .wrap =>
    let all := r.size * r.transfers
    first / all * all + (first + r.size * i) % all

/-! ### The answers (23:R1492, 92:D19) -/

/-- Does an optional selector admit a value? -/
def admits {α : Type} [BEq α] (selector : Option α) (x : α) : Bool := selector.all (· == x)

/-- Does a region of the memory system answer this transfer? -/
def BusRegion.answers (g : BusRegion) (r : BusRequest) (a : Nat) : Bool :=
  (if bit r.prot 1 then g.nonSecure else g.secure) && decide (g.first.toNat < a + r.size) && decide (a ≤ g.last.toNat) &&
    admits g.port r.port && admits g.write r.write && admits g.privileged (bit r.prot 0) && admits g.instruction (bit r.prot 2) &&
    admits g.size r.size && admits g.lock r.lock && admits g.cache r.cache && admits g.sideband r.sideband &&
    admits g.writeback r.writeback && admits g.strobes r.strobes && admits g.data r.data

/-- The region of the memory system that answers a transfer, if any says how. -/
def busRegion (bus : List BusRegion) (r : BusRequest) (i : Nat) : Option BusRegion :=
  bus.find? fun g => g.answers r (r.transferAt i)

/-- What the memory system answers a transfer, where a region says so. -/
def busAnswer (bus : List BusRegion) (r : BusRequest) (i : Nat) : Option BusAnswer := (busRegion bus r i).map (·.answer)

/-- The external abort, if any, that an answer is: an error, or no EXOKAY to an exclusive read (23:R1476). -/
def answerError (r : BusRequest) : BusAnswer → Option BusError
  | .decerr => some .decerr
  | .slverr => some .slverr
  | .okay => if r.lock = .exclusive ∧ r.write = false then some .notExclusive else none
  | .exokay => none

/-- The external abort of a transfer. -/
def transferError (bus : List BusRegion) (r : BusRequest) (i : Nat) : Option BusError :=
  (busAnswer bus r i).bind (answerError r)

/-- The first transfer of some bursts that ends in an external abort, with its burst. -/
def firstError (bus : List BusRegion) (rs : List BusRequest) : Option (BusRequest × Nat × BusError) :=
  rs.findSome? fun r => (List.range r.transfers).findSome? fun i => (transferError bus r i).map fun e => (r, i, e)

/-- Is a byte among those of a transfer? -/
def BusRequest.touches (r : BusRequest) (i : Nat) (a : Nat) : Bool :=
  decide (r.transferAt i ≤ a) && decide (a < r.transferAt i + r.size)

/-- The byte at an address that a region gives to reads, if it gives data of its own. -/
def BusRegion.byteFor (g : BusRegion) (a : Nat) : Option Byte := g.gives.bind fun l => l[(a - g.first.toNat) % l.length]?

/-- The data that the memory system answers at an address to a transfer, where it is not what the storage holds (23:R1492). -/
def transferData (bus : List BusRegion) (r : BusRequest) (i a : Nat) : Option Byte :=
  if r.touches i a then (busRegion bus r i).bind (·.byteFor a) else none

/-- What some bursts read at an address whose storage holds `b`. -/
def readData (bus : List BusRegion) (rs : List BusRequest) (a : Nat) (b : Byte) : Byte :=
  (rs.findSome? fun r => (List.range r.transfers).findSome? fun i => transferData bus r i a).getD b

/-- The first transfer with a wanted byte that ends in an external abort: its burst (60:R1241). -/
def wantedError (bus : List BusRegion) (rs : List BusRequest) (wanted : List Nat) : Option (BusRequest × BusError) :=
  rs.findSome? fun r => (List.range r.transfers).findSome? fun i =>
    if wanted.any (r.touches i) then (transferError bus r i).map fun e => (r, e) else none

/-- The bytes of some bursts' transfers that end in an external abort. -/
def erroneous (bus : List BusRegion) (rs : List BusRequest) (a : Nat) : Bool :=
  rs.any fun r => (List.range r.transfers).any fun i =>
    (transferError bus r i).isSome && r.touches i a

/-- FSR[12] of an external abort: SLVERR, not DECERR; any value where the read was not answered EXOKAY (21:R637; log 18). -/
def errorBit (e : BusError) (s : State) : Bool × State :=
  match e with
  | .slverr => (true, s)
  | .decerr => (false, s)
  | .notExclusive => drawBit s

end Sys2Proof.Machine
end

