-- ==== Sys2Proof/Machine/Mmu.lean ====
section
/-! DEFINITION. Address translation and protection (21), for the core's data accesses and fetches, the DMA and the VA to PA
operations: the FCSE, the TLB, the page table walk, the access control, the memory attributes. -/

namespace Sys2Proof.Machine

open Sys2Proof

/-! ### Attributes (21:R610, R631, R632) -/

/-- The attributes with TEX remap, for {TEX[0], C, B} = n (21:R632, 13:R275). -/
def remappedAttrs (b : Cp15Bank) (n : Nat) (s : Bool) : MemAttrs :=
  match (bits b.primaryRemap (2 * n) 2).toNat with
  | 0 => .stronglyOrdered
  | 1 => .device (if s then bit b.primaryRemap 17 else bit b.primaryRemap 16)
  | _ => .normal (if s then bit b.primaryRemap 19 else bit b.primaryRemap 18)
      (bits b.normalRemap (2 * n) 2) (bits b.normalRemap (2 * n + 16) 2)

/-- The attributes that a descriptor's TEX, C, B and S bits give; none where the encoding is reserved (21:R631, R632). -/
def descriptorAttrs (c : Cp15) (ns : Bool) (tex : BitVec 3) (cBit bBit s : Bool) : Option MemAttrs :=
  if bit (c.control ns) 28 then
    some (remappedAttrs (c.bank ns) ((if bit tex 0 then 4 else 0) + (if cBit then 2 else 0) + (if bBit then 1 else 0)) s)
  else
    match tex.toNat, cBit, bBit with
    | 0, false, false => some .stronglyOrdered
    | 0, false, true => some (.device true)
    | 0, true, false => some (.normal s 2 2)
    | 0, true, true => some (.normal s 3 3)
    | 1, false, false => some (.normal s 0 0)
    | 1, true, true => some (.normal s 1 1)
    | 2, false, false => some (.device false)
    | 4, _, _ => some (.normal s (policy cBit bBit) 0)
    | 5, _, _ => some (.normal s (policy cBit bBit) 1)
    | 6, _, _ => some (.normal s (policy cBit bBit) 2)
    | 7, _, _ => some (.normal s (policy cBit bBit) 3)
    | _, _, _ => none
where
  /-- The Inner policy code AA of the C and B bits. -/
  policy (cBit bBit : Bool) : BitVec 2 := (if cBit then 2#2 else 0#2) ||| (if bBit then 1#2 else 0#2)

/-- The attributes of an access with the MMU off (21:R610). -/
def flatAttrs (c : Cp15) (ns fetch : Bool) : MemAttrs :=
  if bit (c.control ns) 28 then remappedAttrs (c.bank ns) 0 true
  else if fetch && bit (c.control ns) 12 then .normal false 2 2
  else .stronglyOrdered

/-- The size in bytes of the region of a Peripheral Port Memory Remap Register: 0 for no remap (14:R321). DESIGN CHOICE, unsafe: the
reserved Size codes are no remap too (log 63). -/
def peripheralSize (r : Word) : Nat :=
  let n := (bits r 0 5).toNat
  if 3 ≤ n ∧ n ≤ 22 then 2 ^ (n + 9) else 0

/-- Is a physical address in the region remapped to the peripheral port? (14:R322) -/
def inPeripheralRegion (b : Cp15Bank) (pa : Word) : Bool :=
  let size := peripheralSize b.periphRemap
  size != 0 && pa.toNat / size == (bits b.periphRemap 12 20).toNat * 4096 / size


/-! ### Requests and answers -/

/-- A request for a translation. -/
structure Request where
  /-- The modified virtual address. -/
  mva : Word
  /-- The world of the request. -/
  ns : Bool
  /-- A privileged access, not a User one. -/
  privileged : Bool
  /-- A write. -/
  write : Bool
  /-- An instruction fetch. -/
  fetch : Bool
  /-- An access of the DMA. -/
  dma : Bool
  /-- Is the address of the instruction's access unaligned? (20:R516) -/
  unaligned : Bool
  /-- The current ASID. -/
  asid : BitVec 8
  deriving DecidableEq, Repr

/-- A translation. -/
structure Translation where
  /-- The physical address. -/
  pa : Word
  /-- The NS attribute of the access. -/
  ns : Bool
  /-- The memory attributes. -/
  attrs : MemAttrs
  /-- The attributes that the page tables give, before a TCM or the peripheral port overrides them. -/
  table : MemAttrs
  /-- The memory that the access reaches. -/
  place : Place
  /-- The address in level two, or the offset in the TCM. -/
  offset : Nat
  /-- The domain, where the MMU is on. -/
  domain : Option (BitVec 4)
  deriving DecidableEq, Repr

/-- Why there is no translation: an abort, in the state that the walk leaves, or a refusal. -/
inductive XlateStop where
  | abort (c : AbortCause) (s : State)
  | refuse (r : Refusal)

/-- What the translation operations answer. -/
abbrev Xlate := Except XlateStop

/-- An MMU fault. -/
def mmuFault {α : Type} (code : BitVec 5) (domain : Option (BitVec 4)) (s : State) : Xlate α :=
  .error (.abort { code := code, domain := domain, external := false, slverr := false } s)

/-- A translation with what overrides the page tables: a data access to the peripheral port's region is Non-shared Device and goes to
the port; else a TCM is Normal memory; the DMA does not use the port (14:R322, 21:R633, 22:R1419, 23:R1472). -/
def makeTranslation (c : Cp15) (bus : List BusRegion) (r : Request) (ns : Bool) (pa : Word) (a : MemAttrs)
    (domain : Option (BitVec 4)) : Translation :=
  let levelTwo (a' : MemAttrs) : Translation :=
    { pa := pa, ns := ns, attrs := a', table := a, place := levelTwoPlace bus ns pa, offset := pa.toNat, domain := domain }
  if !r.fetch && !r.dma && inPeripheralRegion (c.bank r.ns) pa then levelTwo (.device false)
  else
    match tcmPlace c ns r.fetch pa with
    | some (p, o) => { pa := pa, ns := ns, attrs := .normal false 0 0, table := a, place := p, offset := o, domain := domain }
    | none => levelTwo a

/-- VA to MVA (14:R316). -/
def fcse (b : Cp15Bank) (va : Word) : Word :=
  if bits va 25 7 = 0#7 then (b.fcse &&& 0xFE000000#32) ||| va else va

/-! ### TLB entries (14:R337 to R339, 21:R604) -/

/-- log2 of the size of an entry's region. -/
def TlbEntry.shift (e : TlbEntry) : Nat :=
  match (bits e.pa 6 2).toNat with
  | 0 => 24
  | 1 => 12
  | 2 => 16
  | _ => 20

/-- Is the entry a section or supersection? Its faults then have the Section codes. -/
def TlbEntry.isSection (e : TlbEntry) : Bool := e.shift == 24 || e.shift == 20

/-- Does the entry cover this address in this world? -/
def TlbEntry.covers (e : TlbEntry) (mva : Word) (ns : Bool) : Bool :=
  bit e.pa 0 && bit e.pa 8 == ns && mva >>> e.shift == e.va >>> e.shift

/-- Does the entry match a request? (21:R604) -/
def TlbEntry.hits (e : TlbEntry) (r : Request) : Bool :=
  e.covers r.mva r.ns && (bit e.va 9 || bits e.va 0 8 == r.asid)

/-- The physical address of an MVA in the entry's region. -/
def TlbEntry.physical (e : TlbEntry) (mva : Word) : Word :=
  ((e.pa >>> e.shift) <<< e.shift) ||| (mva &&& ~~~((0xFFFFFFFF#32 >>> e.shift) <<< e.shift))

/-- The domain. -/
def TlbEntry.domain (e : TlbEntry) : BitVec 4 := bits e.attr 7 4

/-- APX and AP for an address: those of its sub-page where the entry has sub-pages (21:R626, 14:R338, R339). DESIGN CHOICE, unsafe:
with SPV set, APX is not used, and an entry that is no page has its sub-page by MVA[11:10] (log 49). -/
def TlbEntry.accessBits (e : TlbEntry) (mva : Word) : Bool × BitVec 2 :=
  if bit e.attr 25 then
    let k := if e.shift == 16 then bits mva 14 2 else bits mva 10 2
    (false, match k.toNat with
      | 0 => bits e.pa 1 2
      | 1 => bits e.attr 26 2
      | 2 => bits e.attr 28 2
      | _ => bits e.attr 30 2)
  else (bit e.pa 3, bits e.pa 1 2)

/-- An entry from the parts of its descriptor; the world's walks are tagged with it (21:R602, R629). -/
def makeEntry (r : Request) (size : BitVec 2) (base : Word) (global nsDesc apx : Bool) (ap : BitVec 2) (attr : Word) :
    TlbEntry :=
  let shift := match size.toNat with
    | 0 => 24
    | 1 => 12
    | 2 => 16
    | _ => 20
  { va := ((r.mva >>> shift) <<< shift) ||| (ofBit global <<< 9) ||| (if global then 0#32 else zext r.asid)
    pa := ((base >>> shift) <<< shift) ||| (ofBit (r.ns || nsDesc) <<< 9) ||| (ofBit r.ns <<< 8) ||| (zext size <<< 6) |||
      (ofBit apx <<< 3) ||| (zext ap <<< 1) ||| 1#32
    attr := attr
    rs := 0#2 }

/-- The attributes word of an entry without sub-pages. -/
def plainAttr (domain : BitVec 4) (xn : Bool) (tex : BitVec 3) (c b s : Bool) : Word :=
  (zext domain <<< 7) ||| (ofBit xn <<< 6) ||| (zext tex <<< 3) ||| (ofBit c <<< 2) ||| (ofBit b <<< 1) ||| ofBit s

/-- The attributes word of an entry with sub-pages, from the descriptor's AP3 to AP1 in bits [11:6] (21:R624). -/
def subpageAttr (domain : BitVec 4) (desc : Word) (tex : BitVec 3) : Word :=
  plainAttr domain false tex (bit desc 3) (bit desc 2) false ||| (1#32 <<< 25) |||
    (zext (bits desc 10 2) <<< 30) ||| (zext (bits desc 8 2) <<< 28) ||| (zext (bits desc 6 2) <<< 26)

/-! ### The page table walk (21:R616 to R629) -/

/-- The address of the first-level descriptor, whether the walk from its table base is disabled, and that base register
(21:R616). -/
def firstLevelAddress (b : Cp15Bank) (mva : Word) : Word × Bool × Word :=
  let n := (bits b.ttbcr 0 3).toNat
  if n ≠ 0 ∧ mva >>> (32 - n) ≠ 0#32 then
    ((b.ttbr1 &&& 0xFFFFC000#32) ||| ((mva >>> 20) <<< 2), bit b.ttbcr 5, b.ttbr1)
  else
    (((b.ttbr0 >>> (14 - n)) <<< (14 - n)) ||| (((mva <<< n) >>> (20 + n)) <<< 2), bit b.ttbcr 4, b.ttbr0)

/-- The attributes of a walk's reads, from the RGN, S and C bits of the table base register it uses (12:R166, R168). DESIGN CHOICE, unsafe:
C = 1, which is Inner cacheable and no more, is driven as Inner Write-Through (log 62). -/
def walkAttrs (ttbr : Word) : MemAttrs := .normal (bit ttbr 1) (if bit ttbr 0 then 2#2 else 0#2) (bits ttbr 3 2)

/-- Reading a descriptor from level two memory, on the Data Read/Write port, in the world of the request; `code` is the fault status
of an external abort (21:R617, R637, 23:R1472). A write that is in the write buffer is seen or not (22:R1433; log 14). -/
def walkRead (s : State) (ns : Bool) (attrs : MemAttrs) (pa : Word) (code : BitVec 5) (domain : Option (BitVec 4)) :
    Xlate (Word × State) :=
  let a := pa.toNat
  let r := (requestShape .data false .normal attrs ns true).burstOf a 1 4 .incr []
  match firstError s.bus [r] with
  | some (_, _, e) =>
    let (slverr, s) := errorBit e s
    .error (.abort { code := code, domain := domain, external := true, slverr := slverr } s)
  | none =>
    let (bytes, s) := readLevelTwo s (levelTwoPlace s.bus ns pa) [a, a + 1, a + 2, a + 3]
    .ok (ofBytesLE (bytes.mapIdx fun i b => readData s.bus [r] (a + i) b), s)

/-- The entry of a section or supersection descriptor (21:R619). -/
def sectionEntry (r : Request) (xp : Bool) (d : Word) : TlbEntry :=
  let super := bit d 18
  let domain := if super then 0#4 else bits d 5 4
  let size := if super then 0#2 else 3#2
  if xp then
    makeEntry r size d (!bit d 17) (bit d 19) (bit d 15) (bits d 10 2)
      (plainAttr domain (bit d 4) (bits d 12 3) (bit d 3) (bit d 2) (bit d 16))
  else
    makeEntry r size d true (bit d 19) false (bits d 10 2)
      (plainAttr domain false (bits d 12 3) (bit d 3) (bit d 2) false)

/-- The entry of a second-level descriptor that is not a fault (21:R623, R624). -/
def pageEntry (r : Request) (xp nsDesc : Bool) (domain : BitVec 4) (d : Word) : TlbEntry :=
  if !bit d 1 then
    if xp then
      makeEntry r 2#2 d (!bit d 11) nsDesc (bit d 9) (bits d 4 2)
        (plainAttr domain (bit d 15) (bits d 12 3) (bit d 3) (bit d 2) (bit d 10))
    else makeEntry r 2#2 d true nsDesc false (bits d 4 2) (subpageAttr domain d (bits d 12 3))
  else if xp then
    makeEntry r 1#2 d (!bit d 11) nsDesc (bit d 9) (bits d 4 2)
      (plainAttr domain (bit d 0) (bits d 6 3) (bit d 3) (bit d 2) (bit d 10))
  else if bit d 0 then
    makeEntry r 1#2 d true nsDesc false (bits d 4 2)
      (plainAttr domain false (bits d 6 3) (bit d 3) (bit d 2) false)
  else makeEntry r 1#2 d true nsDesc false (bits d 4 2) (subpageAttr domain d 0#3)

/-- The translation table walk: the entry it finds, which keeps the S and R bits of now (21:R616 to R629, R635, 12:R150). -/
def walk (c : Cp15) (r : Request) (s : State) : Xlate (TlbEntry × State) := do
  let xp := bit (c.control r.ns) 23
  let kept (e : TlbEntry) : TlbEntry := { e with rs := bits (c.control r.ns) 8 2 }
  let (address, disabled, base) := firstLevelAddress (c.bank r.ns) r.mva
  let attrs := walkAttrs base
  if disabled then mmuFault 0b00101#5 none s
  else
    let (d, s) ← walkRead s r.ns attrs address 0b01100#5 none
    match (bits d 0 2).toNat with
    | 2 => pure (kept (sectionEntry r xp d), s)
    | 1 =>
      let domain := bits d 5 4
      let table := (d &&& 0xFFFFFC00#32) ||| (zext (bits r.mva 12 8) <<< 2)
      let (d2, s) ← walkRead s r.ns attrs table 0b01110#5 (some domain)
      if bits d2 0 2 = 0#2 then mmuFault 0b00111#5 (some domain) s
      else pure (kept (pageEntry r xp (bit d 3) domain d2), s)
    | _ => mmuFault 0b00101#5 none s

/-! ### Access control (21:R611 to R615) -/

/-- Does Force AP take AP[0] as the Access Bit for these bits? Not in the deprecated case of 21:R615. -/
def usesAccessBit (control : Word) (apx : Bool) (ap : BitVec 2) : Bool :=
  bit control 29 && bit control 23 && !(bit control 8 != bit control 9 && !apx && ap == 0#2)

/-- Is this an Access Bit fault? (21:R615) -/
def accessBitFault (control : Word) (apx : Bool) (ap : BitVec 2) : Bool :=
  usesAccessBit control apx ap && !bit ap 0

/-- Do the access permissions allow a client's access? (21:R612, R613) -/
def permits (control : Word) (apx : Bool) (ap : BitVec 2) (privileged write : Bool) : Bool :=
  let ap := if usesAccessBit control apx ap then ap ||| 1#2 else ap
  let s := bit control 8
  let r := bit control 9
  match apx, ap.toNat with
  | false, 0 => !write && ((privileged && s != r) || (!privileged && !s && r))
  | false, 1 => privileged
  | false, 2 => privileged || !write
  | false, _ => true
  | true, 0 => false
  | true, 1 => privileged && !write
  | true, _ => !write

/-- The Control Register as it rules an entry's permissions. DESIGN CHOICE, safe: where its S and R bits have changed since the entry was
made, those of then, which 12:R150 says stay in force, or those of now, which 21:R613 says need no flush, by a free choice (log 64). -/
def rulingControl (e : TlbEntry) (control : Word) (s : State) : Word × State :=
  if bits control 8 2 = e.rs then (control, s)
  else
    let (kept, s) := drawBit s
    (if kept then setBits control 8 e.rs else control, s)

/-- The fault code of an entry: the first for a section or supersection, the second for a page (21:R637). -/
def TlbEntry.code (e : TlbEntry) (sectionCode pageCode : BitVec 5) : BitVec 5 :=
  if e.isSection then sectionCode else pageCode

/-- The checks of 21:R635 after the Access Bit on an entry, and the translation it gives; `control` rules the permissions. -/
def checkEntry (c : Cp15) (control : Word) (r : Request) (e : TlbEntry) (s : State) : Xlate Translation :=
  let (apx, ap) := e.accessBits r.mva
  let d := bits (c.bank r.ns).dacr (2 * e.domain.toNat) 2
  let pa := e.physical r.mva
  let ns := bit e.pa 9
  let table := descriptorAttrs c r.ns (bits e.attr 3 3) (bit e.attr 2) (bit e.attr 1) (bit e.attr 0)
  let result := table.map fun a => makeTranslation c s.bus r ns pa a (some e.domain)
  let unaligned := r.unaligned && result.any fun t => t.attrs.type != .normal
  if !bit d 0 then mmuFault (e.code 0b01001#5 0b01011#5) (some e.domain) s
  else if unaligned && bit control 23 then mmuFault 0b00001#5 none s
  else if !bit d 1 && (!permits control apx ap r.privileged r.write || (r.fetch && bit e.attr 6)) then
    mmuFault (e.code 0b01101#5 0b01111#5) (some e.domain) s
  else
    match result with
    | none => .error (.refuse .reservedAttributes)
    | some t => if unaligned then .error (.refuse .unalignedDevice) else .ok t

/-- Is the physical location of an access mapped with other attributes by an entry of the main TLB? (20:R522, 93; log 58) -/
def conflictingAttrs (c : Cp15) (t : Translation) : Bool :=
  t.domain.isSome && t.place.isLevelTwo && (c.tlbLocked.toList ++ c.tlbMain).any fun e =>
    bit e.pa 0 && bit e.pa 9 == t.ns && t.pa >>> e.shift == e.pa >>> e.shift &&
      descriptorAttrs c (bit e.pa 8) (bits e.attr 3 3) (bit e.attr 2) (bit e.attr 1) (bit e.attr 0) != some t.table

/-! ### The TLB (21:R601 to R607, 13:R269, R270) -/

/-- Putting a walk's entry into the TLB: into the lockdown region at the victim if P is set and the world may, else into the
main region (13:R269, R270, 21:R603). `stale` is the entry it replaces, if any. -/
def insertEntry (c : Cp15) (ns : Bool) (e : TlbEntry) (stale : Option TlbEntry) : Cp15 :=
  let main := c.tlbMain.filter fun x => some x != stale
  if bit c.tlbLockdown 0 && (bit c.nsacr 17 || !ns) then
    let v := bits c.tlbLockdown 26 3
    { c with
      tlbMain := main
      tlbLocked := c.tlbLocked.set (Fin.ofNat 8 v.toNat) e
      tlbLockdown := setBits c.tlbLockdown 26 (v + 1#3) }
  else { c with tlbMain := e :: main }

/-- May the main TLB be matched, and loaded? In Debug state the DSMCR says so (15:R393). -/
def tlbUse (s : State) : Bool × Bool :=
  if s.halted then (bit s.dbg.dsmcr 6, bit s.dbg.dsmcr 4) else (true, true)

/-- A walk's entry, put into the TLB unless it has an Access Bit fault (21:R615) or loading is off. -/
def loadEntry (c : Cp15) (record : Bool) (r : Request) (e : TlbEntry) (replaced : Option TlbEntry) (s : State) :
    Xlate (TlbEntry × State) :=
  let (apx, ap) := e.accessBits r.mva
  if accessBitFault (c.control r.ns) apx ap then mmuFault (e.code 0b00011#5 0b00110#5) (some e.domain) s
  else if record && (tlbUse s).2 then .ok (e, { s with cp15 := insertEntry s.cp15 r.ns e replaced })
  else .ok (e, s)

/-- Do two entries say the same, but for the S and R bits of the time when they were made? -/
def TlbEntry.agrees (e e' : TlbEntry) : Bool := { e' with rs := e.rs } == e

/-- The entry that the main TLB and the page tables give: the one that matches, or a walk's. A main entry that differs from what the
page tables say now may have been replaced or not: either is used (21:R606, R607, 92:D15). -/
def findMain (c : Cp15) (record : Bool) (r : Request) (s : State) : Xlate (TlbEntry × State) :=
  let hits := if (tlbUse s).1 then (c.tlbLocked.toList ++ c.tlbMain).filter (·.hits r) else []
  match hits with
  | [] => do
    let (e, s) ← walk c r s
    loadEntry c record r e none s
  | [e] =>
    if c.tlbMain.contains e then
      match walk c r s with
      | .ok (e', s') =>
        if e.agrees e' then .ok (e, s')
        else
          let (useOld, s') := drawBit s'
          if useOld then .ok (e, s') else loadEntry c record r e' (some e) s'
      | .error (.abort cause s') =>
        let (useOld, s') := drawBit s'
        if useOld then .ok (e, s') else .error (.abort cause s')
      | .error (.refuse x) => .error (.refuse x)
    else .ok (e, s)
  | _ => .error (.refuse .tlbMultipleMatch)

/-- The MicroTLBs (21:R601, 22:R1427). -/
inductive MicroSide where
  | instruction | data | dma
  deriving DecidableEq, Repr

/-- The MicroTLB that a request uses. -/
def Request.side (r : Request) : MicroSide := if r.dma then .dma else if r.fetch then .instruction else .data

/-- The entries of a MicroTLB. -/
def Cp15.micro (c : Cp15) : MicroSide → List TlbEntry
  | .instruction => c.iMicroTlb
  | .data => c.dMicroTlb
  | .dma => c.dmaMicroTlb

/-- Replacing them. -/
def Cp15.setMicro (c : Cp15) (k : MicroSide) (es : List TlbEntry) : Cp15 :=
  match k with
  | .instruction => { c with iMicroTlb := es }
  | .data => { c with dMicroTlb := es }
  | .dma => { c with dmaMicroTlb := es }

/-- May a MicroTLB be matched, and loaded and flushed? In Debug state the DSMCR says so (15:R393). -/
def microUse (s : State) (k : MicroSide) : Bool × Bool :=
  if s.halted then
    match k with
    | .instruction => (bit s.dbg.dsmcr 3, bit s.dbg.dsmcr 1)
    | .data => (bit s.dbg.dsmcr 2, bit s.dbg.dsmcr 0)
    | .dma => (true, true)
  else (true, true)

/-- Loading an entry into a MicroTLB of ten entries, in place of `replaced` if there is one. Where it is full the oldest entry goes, or,
where TR and the replacement of the caches (RR = 0) select random replacement, any one (21:R601, 12:R150, R155). -/
def loadMicro (c : Cp15) (r : Request) (e : TlbEntry) (replaced : Option TlbEntry) (s : State) : State :=
  let held := (s.cp15.micro r.side).filter fun x => some x != replaced
  let (victim, s) :=
    if held.length < 10 then (held.length, s)
    else if bit c.auxControl 3 && !bit (c.control r.ns) 14 then
      let (w, s) := drawWord s
      (w.toNat % 10, s)
    else (9, s)
  { s with cp15 := s.cp15.setMicro r.side (e :: held.eraseIdx victim) }

/-- The entry of the main TLB or of a walk, which the MicroTLB is loaded with. -/
def findAndLoad (c : Cp15) (record : Bool) (r : Request) (replaced : Option TlbEntry) (s : State) : Xlate (TlbEntry × State) := do
  let (e, s) ← findMain c record r s
  pure (e, if record && (microUse s r.side).2 then loadMicro c r e replaced s else s)

/-- The entry that a request uses (21:R606). One that its MicroTLB holds and that differs from what the main TLB and the page tables give
may have been replaced or not: either is used (21:R607, 92:D15; log 15). -/
def findEntry (c : Cp15) (record : Bool) (r : Request) (s : State) : Xlate (TlbEntry × State) :=
  match if (microUse s r.side).1 then (c.micro r.side).filter (·.hits r) else [] with
  | [] => findAndLoad c record r none s
  | [m] =>
    match findMain c false r s with
    | .ok (e, s') =>
      if m.agrees e then .ok (m, s')
      else
        let (useOld, s') := drawBit s'
        if useOld then .ok (m, s') else findAndLoad c record r (some m) s'
    | .error (.abort cause s') =>
      let (useOld, s') := drawBit s'
      if useOld then .ok (m, s') else .error (.abort cause s')
    | .error (.refuse x) => .error (.refuse x)
  | _ => .error (.refuse .tlbMultipleMatch)

/-- Flushing the MicroTLBs, as all maintenance of the main TLB does (21:R601); in Debug state where the DSMCR lets it (15:R393). -/
def flushMicro (s : State) : State :=
  let flush (k : MicroSide) (c : Cp15) : Cp15 := if (microUse s k).2 then c.setMicro k [] else c
  { s with cp15 := flush .instruction (flush .data (flush .dma s.cp15)) }

/-- Translation of one address, with the CP15 settings `c` (the current ones, but for a fetch that may still use older ones);
`record` says that the TLB is updated (21:R606, R609, R635). DESIGN CHOICE, unsafe: with the MMU off and a FCSE PID that is not 0, which
21:R609 says it should be, the MVA is the physical address (log 73). -/
def translate (c : Cp15) (record : Bool) (r : Request) (s : State) : Xlate (Translation × State) :=
  if bit (c.control r.ns) 0 then do
    let (e, s) ← findEntry c record r s
    let (control, s) := rulingControl e (c.control r.ns) s
    let (apx, ap) := e.accessBits r.mva
    if accessBitFault control apx ap then mmuFault (e.code 0b00011#5 0b00110#5) (some e.domain) s
    else do
      let t ← checkEntry c control r e s
      pure (t, s)
  else
    let t := makeTranslation c s.bus r r.ns r.mva (flatAttrs c r.ns r.fetch) none
    if r.unaligned && t.attrs.type == .device then .error (.refuse .unalignedDevice)
    else .ok (t, s)

end Sys2Proof.Machine
end

