-- ==== Sys2Proof/Machine/Cache.lean ====
section
/-! DEFINITION. The level one caches (22:R1402 to R1413): which line an address has, hits, linefills, replacement, write-back, and
what the maintenance operations do to lines (13:R224 to R238). -/

namespace Sys2Proof.Machine

open Sys2Proof

/-- The two caches. -/
inductive CacheSide where
  | data | instruction
  deriving DecidableEq, Repr

/-! ### Lines (22:R1402, R1403, 14:R334) -/

/-- The lines of a cache. -/
def State.cacheLines (s : State) : CacheSide → List CacheLine
  | .data => s.dcache
  | .instruction => s.icache

/-- Replacing the lines of a cache. -/
def State.setCacheLines (s : State) (k : CacheSide) (ls : List CacheLine) : State :=
  match k with
  | .data => { s with dcache := ls }
  | .instruction => { s with icache := ls }

/-- The Master Valid registers of a cache (14:R334). -/
def State.masterValid (s : State) : CacheSide → Vector Word 8
  | .data => s.cp15.dMasterValid
  | .instruction => s.cp15.iMasterValid

/-- Replacing them. -/
def State.setMasterValid (s : State) (k : CacheSide) (v : Vector Word 8) : State :=
  match k with
  | .data => { s with cp15 := { s.cp15 with dMasterValid := v } }
  | .instruction => { s with cp15 := { s.cp15 with iMasterValid := v } }

/-- The number of sets: the size in bytes by four ways of 32 bytes (22:R1402). -/
def cacheSets (s : State) (k : CacheSide) : Nat :=
  8 * match k with
    | .data => s.impl.dcacheKB
    | .instruction => s.impl.icacheKB

/-- The number of sets in use: with CZ set those of a 16 KB cache (12:R155, 22:R1411). -/
def setsInUse (s : State) (k : CacheSide) : Nat :=
  if bit s.cp15.auxControl 6 then min 128 (cacheSets s k) else cacheSets s k

/-- The index of a virtual address (22:R1404). -/
def cacheIndex (s : State) (k : CacheSide) (va : Word) : Nat := va.toNat / 32 % setsInUse s k

/-- The number of a line, of which eight at a time have one Master Valid bit. DESIGN CHOICE, unsafe: the lines of way 0 by their
indexes, then those of way 1, and so on (log 61). -/
def lineNumber (s : State) (k : CacheSide) (set way : Nat) : Nat := way * cacheSets s k + set

/-- The Master Valid bit of a line. -/
def masterBit (v : Vector Word 8) (line : Nat) : Bool := bit v[Fin.ofNat 8 (line / 256)] (line / 8 % 32)

/-- Setting it. -/
def setMasterBit (v : Vector Word 8) (line : Nat) : Vector Word 8 :=
  v.set (Fin.ofNat 8 (line / 256)) (setBit v[Fin.ofNat 8 (line / 256)] (line / 8 % 32) true)

/-- Is a line that the RAMs hold valid? (14:R334) -/
def lineValid (s : State) (k : CacheSide) (l : CacheLine) : Bool := masterBit (s.masterValid k) (lineNumber s k l.set l.way)

/-- The valid lines. -/
def validLines (s : State) (k : CacheSide) : List CacheLine := (s.cacheLines k).filter (lineValid s k)

/-- The physical address of the line of an address. -/
def lineAddress (pa : Word) : Word := pa &&& 0xFFFFFFE0#32

/-- The line that an access hits: same index, tag and NS Tag (22:R1404). -/
def findLine (s : State) (k : CacheSide) (va pa : Word) (ns : Bool) : Option CacheLine :=
  (validLines s k).find? fun l => l.set == cacheIndex s k va && l.tag == lineAddress pa && l.ns == ns

/-- Does the cache hold the line at another index? (21:R630, 93: refused) CZ lifts the restriction (22:R1411). -/
def heldElsewhere (s : State) (k : CacheSide) (va pa : Word) (ns : Bool) : Bool :=
  !bit s.cp15.auxControl 6 && (validLines s k).any fun l => l.set != cacheIndex s k va && l.tag == lineAddress pa && l.ns == ns

/-- One byte of a line, by its address. -/
def CacheLine.byteAt (l : CacheLine) (a : Nat) : Byte := l.data[Fin.ofNat 32 a]

/-- Is a byte in a dirty half? (23:R1486) -/
def CacheLine.dirtyAt (l : CacheLine) (i : Nat) : Bool := if i < 16 then l.dirtyLow else l.dirtyHigh

/-- Is anything of the line dirty? -/
def CacheLine.dirty (l : CacheLine) : Bool := l.dirtyLow || l.dirtyHigh

/-- A line with bytes at some addresses replaced; `held`: level two does not get them, so that their halves become dirty. -/
def CacheLine.store (held : Bool) (l : CacheLine) : List (Nat × Byte) → CacheLine
  | [] => l
  | (a, v) :: rest =>
    let l := { l with data := l.data.set (Fin.ofNat 32 a) v }
    let low := a % 32 < 16
    CacheLine.store held { l with dirtyLow := l.dirtyLow || (held && low), dirtyHigh := l.dirtyHigh || (held && !low) } rest

/-- Replacing the line in a slot. -/
def putLine (s : State) (k : CacheSide) (l : CacheLine) : State :=
  s.setCacheLines k (l :: (s.cacheLines k).filter fun x => !(x.set == l.set && x.way == l.way))

/-! ### Write-back (23:R1486, 22:R1409) -/

/-- What the write-back of a line drives; its attributes and privilege are a DESIGN CHOICE (log 62). -/
def writeBackShape (ns : Bool) : BusRequest := { requestShape .data true .normal (.normal false 1#2 1#2) ns true with writeback := true }

/-- Writing the dirty halves of a line back to level two; `a` is the address of the access that evicts it. An error answer is an
imprecise external abort and what it answers is not stored (60:R1241, R1243). -/
def writeBackLine (s : State) (l : CacheLine) (be32 : Bool) (a : Nat) : State :=
  if !l.dirty then s
  else
    let rs := (writeBackRequests (writeBackShape l.ns) l be32 a).map
      (·.carry ((List.range 32).map fun i => (l.tag.toNat + i, l.byteAt i)))
    let offsets := (List.range 32).filter fun i => l.dirtyAt i && !erroneous s.bus rs (l.tag.toNat + i)
    let s := match firstError s.bus rs with
      | none => s
      | some (_, _, e) =>
        let (slverr, s) := errorBit e s
        launchAbort s slverr true
    s.bufferBytesAt .writeBack none (levelTwoPlace s.bus l.ns l.tag) (offsets.map fun i => (l.tag.toNat + i, l.byteAt i))

/-- Writing back each line of a list. -/
def writeBackAll (be32 : Bool) : List CacheLine → State → State
  | [], s => s
  | l :: rest, s => writeBackAll be32 rest (writeBackLine s l be32 l.tag.toNat)

/-! ### Linefills (22:R1406 to R1409, 23:R1485) -/

/-- The ways that a linefill may use: those that are not locked, or way 0 (22:R1408, 13:R258). -/
def openWays (s : State) (k : CacheSide) : List Nat :=
  let lock := match k with
    | .data => s.cp15.dLockdown
    | .instruction => s.cp15.iLockdown
  let ways := (List.range 4).filter fun w => !bit lock w
  if ways.isEmpty then [0] else ways

/-- One of some ways, by free choices. -/
def pickWay : List Nat → State → Nat × State
  | [], s => (0, s)
  | [w], s => (w, s)
  | w :: rest, s =>
    let (this, s) := drawBit s
    if this then (w, s) else pickWay rest s

/-- The way of a linefill: the lowest one without a valid line, else any (22:R1407; 93 section 5). -/
def victimWay (s : State) (k : CacheSide) (set : Nat) : Nat × State :=
  let ways := openWays s k
  match ways.find? fun w => !(validLines s k).any fun l => l.set == set && l.way == w with
  | some w => (w, s)
  | none => pickWay ways s

/-- Emptying the slot of a linefill, for an access to `a`: the line there is written back (22:R1409). Where the slot's Master Valid bit
is 0, the other lines under it are not valid either, and stay so when it is set. -/
def emptySlot (s : State) (k : CacheSide) (set way : Nat) (be32 : Bool) (a : Nat) : State :=
  let s := match (validLines s k).find? fun l => l.set == set && l.way == way with
    | some l => writeBackLine s l be32 a
    | none => s
  let n := lineNumber s k set way
  let group := masterBit (s.masterValid k) n
  s.setCacheLines k ((s.cacheLines k).filter fun l =>
    !(l.set == set && l.way == way) && (group || lineNumber s k l.set l.way / 8 != n / 8))

/-- The linefill of the line of an access to `va`, of which level two gives these bytes. With an error answer the line is not valid,
and what the slot held is gone (23:R1485; log 61). -/
def fillLine (s : State) (k : CacheSide) (shape : BusRequest) (va pa : Word) (ns be32 : Bool) (bytes : List Byte) : State :=
  let set := cacheIndex s k va
  let (way, s) := victimWay s k set
  let s := emptySlot s k set way be32 pa.toNat
  let r := linefillRequest shape pa.toNat
  match firstError s.bus [r] with
  | some _ => s
  | none =>
    let base := (lineAddress pa).toNat
    let line : CacheLine := { set := set, way := way, tag := lineAddress pa, ns := ns
                              data := Vector.ofFn fun i => readData s.bus [r] (base + i.val) (bytes.getD i.val 0#8), dirtyLow := false, dirtyHigh := false }
    (putLine s k line).setMasterValid k (setMasterBit (s.masterValid k) (lineNumber s k set way))

/-- The addresses of the bytes of a line. -/
def lineBytes (pa : Word) : List Nat := (List.range 32).map ((lineAddress pa).toNat + ·)

/-- May a miss fill a line: not where the Cache Behavior Override Register, or in Debug state the DSCCR, disables it
(13:R267, 15:R392, R414). DESIGN CHOICE, unsafe: in Debug state both must enable it, as 15:R392 says, where the precedence of the CP14
register in 13:R268 could enable it by itself; the same of forced Write-Through (log 61). -/
def linefillOn (s : State) (k : CacheSide) (ns : Bool) : Bool :=
  let i := match k with
    | .data => 0
    | .instruction => 1
  !bit s.cp15.cacheBehavior (if ns then i else i + 3) && (!s.halted || bit s.dbg.dsccr i)

/-! ### The Data Cache for an access (22:R1404 to R1413, R1422) -/

/-- Is the Data Cache looked up: on, for a cacheable access that no Data TCM serves? With the MMU off nothing is cacheable
(21:R610, 22:R1412, R1422). -/
def dcacheUsed (s : State) (t : Translation) : Bool :=
  s.controlBit 0 && s.controlBit 2 &&
    match t.place with
    | .external | .nonSecure => t.attrs.cacheable
    | .itcm _ => t.table.cacheable
    | .dtcm _ => false

/-- The line that a load hits. -/
def dataHit (s : State) (t : Translation) (va : Word) : Option CacheLine :=
  if dcacheUsed s t then findLine s .data va t.pa t.ns else none

/-- Do stores act as if the Data Cache were on and every region Write-Through: in Debug state, with DSCCR[2] = 0? (15:R414) -/
def debugWriteThrough (s : State) : Bool := s.halted && !bit s.dbg.dsccr 2

/-- The line that a store hits. A Data TCM's bytes are in no cache (22:R1422). -/
def storeHit (s : State) (t : Translation) (va : Word) : Option CacheLine :=
  let inDtcm := match t.place with
    | .dtcm _ => true
    | .external | .nonSecure | .itcm _ => false
  if debugWriteThrough s && !inDtcm then findLine s .data va t.pa t.ns else dataHit s t va

/-- Would a data access break the page colouring restriction? It has none for a TCM (21:R630, 22:R1415, R1422). -/
def dataElsewhere (s : State) (t : Translation) (va : Word) : Bool :=
  t.place.isLevelTwo && dcacheUsed s t && (dataHit s t va).isNone && heldElsewhere s .data va t.pa t.ns

/-- Does a store that hits stay in the cache: a Write-Back region, with no Write-Through forced? (22:R1406, 13:R267, 15:R392) -/
def heldBack (s : State) (t : Translation) : Bool :=
  t.table.writeBack && !(bit s.cp15.cacheBehavior (if t.ns then 2 else 5) || debugWriteThrough s)

/-- The Cache Dirty Status when a store makes a half of a line dirty (13:R238). -/
def markDirty (s : State) (ns : Bool) : State :=
  let c := s.cp15
  let c := { c with secure := { c.secure with cacheDirty := true } }
  { s with cp15 := if ns || s.nsState then { c with nonSecure := { c.nonSecure with cacheDirty := true } } else c }

/-! ### Maintenance (13:R224 to R233) -/

/-- Invalidating the lines of a cache that a test selects, those under a Master Valid bit of 0 too; what is dirty is lost (13:R229). -/
def invalidateLines (k : CacheSide) (selects : CacheLine → Bool) (s : State) : State :=
  s.setCacheLines k ((s.cacheLines k).filter fun l => !selects l)

/-- Cleaning the lines of the Data Cache that a test selects. -/
def cleanLines (selects : CacheLine → Bool) (s : State) : State :=
  let chosen (l : CacheLine) := lineValid s .data l && selects l
  let s' := writeBackAll (s.controlBit 7) ((validLines s .data).filter selects) s
  s'.setCacheLines .data <| s.dcache.map fun l => if chosen l then { l with dirtyLow := false, dirtyHigh := false } else l

end Sys2Proof.Machine
end

