-- ==== Sys2Proof/Machine/DebugEvents.lean ====
section
/-! DEFINITION. The debug unit as instructions meet it (15): the DSCR as it reads, the debug permission, the comparison of
breakpoints, watchpoints and vector catches, and what a debug event does. -/

namespace Sys2Proof.Machine

open Sys2Proof

/-! ### Permission (15:R394, R395) -/

/-- The debug-modes (15:R371, R395). -/
inductive DebugMode where
  | none
  | halting
  | monitor
  deriving DecidableEq, Repr

/-- debug_mode of 15:R395. -/
def State.debugMode (s : State) : DebugMode :=
  if !s.pins.dbgen then .none
  else if bit s.dbg.dscr 14 then .halting
  else if bit s.dbg.dscr 15 then .monitor
  else .none

/-- debug_permitted of 15:R395, with DBGEN. -/
def State.debugPermitted (s : State) : Bool :=
  s.pins.dbgen && (s.nsState || s.pins.spiden || (bit s.cp15.sder 0 && s.mode == modeUsr))

/-- The debug-mode that a software debug event meets: none where debug is not permitted (15:R401). -/
def State.eventMode (s : State) : DebugMode :=
  if s.debugPermitted && !s.halted then s.debugMode else .none

/-- The DSCR as it reads: the stored bits, the world, and the pins; [15:14] read as 0 with DBGEN LOW (15:R380, R394). -/
def State.readDscr (s : State) : Word :=
  let d := s.dbg.dscr &&& 0x6008FFFF#32
  let d := if s.pins.dbgen then d else d &&& ~~~0x0000C000#32
  d ||| (ofBit s.nsState <<< 18) ||| (ofBit (!s.pins.spniden) <<< 17) ||| (ofBit (!s.pins.spiden) <<< 16)

/-! ### Entering Debug state and Debug exceptions (15:R381, R401 to R405) -/

/-- DSCR[5:2] <- the method of entry (15:R381). -/
def State.setMoe (s : State) (moe : BitVec 4) : State :=
  { s with dbg := { s.dbg with dscr := setBits s.dbg.dscr 2 moe } }

/-- Debug state entry (15:R405): the processor is halted, the CPSR is unchanged, and the PC holds the resume address. Tracing is off
(26:R1624). -/
def enterDebugState (moe : BitVec 4) (s : State) : State :=
  let d := setBits s.dbg.dscr 2 moe
  { s with
    standby := false
    trace := { s.trace with quiet := true }
    dbg := { s.dbg with dscr := setBit (setBit (setBit d 0 true) 1 true) 19 false, pcKnown := .entry } }

/-- An instruction-side software debug event: Debug state, a Debug exception, or nothing (15:R401 to R405). `none`: ignored. -/
def instructionDebugEvent (moe : BitVec 4) (s : State) : Option State :=
  match s.eventMode with
  | .halting => some (enterDebugState moe s)
  | .monitor => some (takeDebugPrefetchAbort (s.setMoe moe))
  | .none => none

/-- A watchpoint that has been hit, acted on at the end of the instruction: RA is the instruction at the pc (15:R402 to R404,
60:R1240). The DFSR has the direction and the domain of the access, in the copy of its world (12:R173, 21:R637, R639). DESIGN CHOICE,
unsafe: where debug was permitted at the access and is no more, the WFAR is written and nothing else happens (log 71). -/
def watchpointEvent (h : WatchHit) (s : State) : State :=
  let s := { s with watchHit := none, dbg := { s.dbg with wfar := h.wfar } }
  match s.eventMode with
  | .halting => enterDebugState 0b0010#4 s
  | .monitor =>
    let s := s.setMoe 0b0010#4
    let (status, s) := dataFaultStatus s { code := 0b00010#5, domain := h.domain, external := false, slverr := false } h.write
    let s := { s with cp15 := s.cp15.setBank h.nonSecure { s.cp15.bank h.nonSecure with dfsr := status, far := h.mva } }
    takeException .dataAbort false (s.pc + 8#32) s
  | .none => s

/-! ### Comparing (15:R386 to R391) -/

/-- The world field of a BCR or WCR: does it match? `none`: reserved. -/
def worldMatch (s : State) (field : BitVec 2) : Option Bool :=
  match field.toNat with
  | 0 => some true
  | 1 => some s.nsState
  | 2 => some !s.nsState
  | _ => none

/-- The privilege field of a BCR or WCR. `none`: reserved. -/
def privilegeMatch (field : BitVec 2) (privileged : Bool) : Option Bool :=
  match field.toNat with
  | 0 => none
  | 1 => some privileged
  | 2 => some !privileged
  | _ => some true

/-- Does a context ID holding breakpoint register pair match? (15:R388, R389) `number` is the linked BRP. Whether its world and
privilege fields count is open (15:R387); a reserved one excludes nothing. DESIGN CHOICE, unsafe: a write of the Context ID Register is
compared at once, where 15:R389 lets it come later (log 71). -/
def linkedContextMatch (s : State) (number : BitVec 4) (self : Option Nat) : Bool :=
  let n := number.toNat
  if n = 4 ∨ n = 5 then
    let bcr := s.dbg.bcr[Fin.ofNat 6 n]
    bits bcr 20 3 == 0b011#3 && bit bcr 0 && self != some n &&
      s.dbg.bvr[Fin.ofNat 6 n] == (s.cp15.bank s.nsState).contextId &&
      (!Config.linkedFieldsCompared ||
        (worldMatch s (bits bcr 14 2)).getD true && (privilegeMatch (bits bcr 1 2) s.privileged).getD true)
  else false

/-- Are the byte lanes of an access at `mva` of `size` bytes among those selected in the word at `value`? Lanes are
little-endian byte addresses of memory (15:R387, R391). -/
def lanesHit (value mva : Word) (size : Nat) (lanes : BitVec 4) (be32 : Bool) : Bool :=
  (List.range size).any fun i =>
    let a := (mva + BitVec.ofNat 32 i) ^^^ (if be32 then 3#32 else 0#32)
    align4 a == align4 value && bit lanes (bits a 0 2).toNat

/-- Does a watchpoint register pair hit for a data access? `none`: a reserved field (15:R391, R399). -/
def watchpointHits (s : State) (i : Fin 2) (mva : Word) (size : Nat) (write privileged : Bool) : Option Bool :=
  let wcr := s.dbg.wcr[i]
  if !bit wcr 0 then some false
  else
    match worldMatch s (bits wcr 14 2), privilegeMatch (bits wcr 1 2) privileged with
    | some w, some p =>
      let ls := bits wcr 3 2
      if ls = 0#2 then none
      else some (w && p && bit ls (if write then 1 else 0) &&
        lanesHit s.dbg.wvr[i] mva size (bits wcr 5 4) (s.controlBit 7) &&
        (!bit wcr 20 || linkedContextMatch s (bits wcr 16 4) none))
    | _, _ => none

/-- Recording the watchpoints that a data access hits (15:R399). The first of an instruction is kept. -/
def recordWatch (s : State) (mva : Word) (size : Nat) (write privileged : Bool) (domain : Option (BitVec 4)) : Result State :=
  if s.eventMode = .none then .ok s
  else
    match watchpointHits s 0 mva size write privileged, watchpointHits s 1 mva size write privileged with
    | some a, some b =>
      .ok (if (a || b) && s.watchHit.isNone then
        { s with watchHit := some { mva := mva, wfar := s.pc + (if s.thumb then 4#32 else 8#32), write := write
                                    nonSecure := s.nsState, domain := domain } } else s)
    | _, _ => .error (.refuse .debugRegisterReserved)

/-- Does a breakpoint register pair match the instruction at the pc? DESIGN CHOICE, unsafe: one that holds a context ID does so whatever its
byte lanes are, which must be 1111 (15:R387; log 71). The answer says whether it is one that Monitor
debug-mode ignores in a privileged mode. `none`: a reserved field (15:R386 to R389, R398, R401). -/
def breakpointMatches (s : State) (i : Fin 6) (mva : Word) (size : Nat) : Option (Bool × Bool) :=
  let bcr := s.dbg.bcr[i]
  let bvr := s.dbg.bvr[i]
  if !bit bcr 0 then some (false, false)
  else
    match worldMatch s (bits bcr 14 2), privilegeMatch (bits bcr 1 2) s.privileged with
    | some w, some p =>
      let here := lanesHit bvr mva size (bits bcr 5 4) (s.controlBit 7)
      let linked := linkedContextMatch s (bits bcr 16 4) (some i.val)
      match (bits bcr 20 3).toNat with
      | 0 => some (w && p && here, false)
      | 1 => some (w && p && here && linked, false)
      | 2 => some (w && p && 4 ≤ i.val && bvr == (s.cp15.bank s.nsState).contextId, true)
      | 3 => some (false, false)
      | 4 => some (w && p && !here, true)
      | 5 => some (w && p && !here && linked, true)
      | _ => none
    | _, _ => none

/-- Does any breakpoint match, and if every one that matches is of the kind that Monitor debug-mode ignores? -/
def anyBreakpoint (s : State) (mva : Word) (size : Nat) : Option (Bool × Bool) :=
  let m := (List.finRange 6).map fun i => breakpointMatches s i mva size
  if m.any Option.isNone then none
  else
    let hits := m.filterMap fun x => x.bind fun h => if h.1 then some h.2 else none
    some (!hits.isEmpty, hits.all fun x => x)

/-- The vector addresses that the VCR can catch in the current world, with their bits (15:R384, R385). The third part says
that it is an abort vector, which Monitor debug-mode ignores (15:R401). -/
def vectorCatches (s : State) : List (Nat × Word × Bool) :=
  let ns := s.nsState
  let c := s.cp15.control ns
  let b := s.cp15.bank ns
  let base := if bit c 13 then 0xFFFF0000#32 else b.vbar
  let irq := if bit c 24 then b.lastIrqAddr else base + 0x18#32
  let m := s.cp15.mvbar
  if ns then
    [(25, base + 0x04#32, false), (26, base + 0x08#32, false), (27, base + 0x0C#32, true), (28, base + 0x10#32, true),
     (30, irq, false), (31, base + 0x1C#32, false)]
  else
    [(0, if bit c 13 then 0xFFFF0000#32 else 0#32, false), (1, base + 0x04#32, false), (2, base + 0x08#32, false),
     (3, base + 0x0C#32, true), (4, base + 0x10#32, true), (6, irq, false), (7, base + 0x1C#32, false),
     (10, m + 0x08#32, false), (11, m + 0x0C#32, true), (12, m + 0x10#32, true), (14, m + 0x18#32, false),
     (15, m + 0x1C#32, false)]

/-- Is the fetch from this MVA caught? (15:R385) -/
def vectorCaught (s : State) (mva : Word) : Bool :=
  (vectorCatches s).any fun (n, a, abort) => bit s.dbg.vcr n && a == mva && !(abort && s.eventMode == .monitor)

/-- The instruction-side debug event, if any, of the instruction about to be executed (15:R398, R400, R401). DESIGN CHOICE, unsafe: where a
breakpoint and a vector catch both hit, the method of entry is the breakpoint (log 71). -/
def fetchDebugEvent (s : State) (mva : Word) (size : Nat) : Result (Option State) :=
  if s.eventMode = .none then .ok none
  else
    match anyBreakpoint s mva size with
    | none => .error (.refuse .debugRegisterReserved)
    | some (hit, ignorable) =>
      if hit && !(ignorable && s.eventMode == .monitor && s.privileged) then .ok (instructionDebugEvent 0b0001#4 s)
      else if vectorCaught s mva then .ok (instructionDebugEvent 0b0101#4 s)
      else .ok none

end Sys2Proof.Machine
end

