-- ==== Sys2Proof/Machine/Access.lean ====
section
/-! DEFINITION. The data accesses of instructions: alignment (20:R513 to R519), byte order (20:R504 to R510), translation, external
aborts (60:R1241), watchpoints, the exclusive monitors (44:R940 to R951). -/

namespace Sys2Proof.Machine

open Sys2Proof

/-! ### Alignment -/

/-- The access types of 20:R513; Byte stands for BSync too. -/
inductive AccessType where
  | byte | half | hwSync | wLoad | wStore | wSync | twoWord | multiWord | dwSync
  deriving DecidableEq, Repr

/-- The address that an access uses; none is an Alignment fault (Table 4-3 in 20:R514). -/
def alignedAddress (a u : Bool) (t : AccessType) (addr : Word) : Option Word :=
  let mis2 := bit addr 0
  let mis4 := bits addr 0 2 != 0#2
  let mis8 := bits addr 0 3 != 0#3
  match t with
  | .byte => some addr
  | .half => if a then (if mis2 then none else some addr) else if u then some addr else some (align2 addr)
  | .hwSync => if a || u then (if mis2 then none else some addr) else some (align2 addr)
  | .wLoad | .wStore => if a then (if mis4 then none else some addr) else if u then some addr else some (align4 addr)
  | .wSync | .multiWord => if a || u then (if mis4 then none else some addr) else some (align4 addr)
  | .twoWord =>
    if a && !u then (if mis8 then none else some addr)
    else if a || u then (if mis4 then none else some addr)
    else some (align4 addr)
  | .dwSync => if a || u then (if mis8 then none else some addr) else some (align8 addr)

/-- Is the access one of 20:R516 (b) and (c), an unaligned address where Table 4-3 says Normal? -/
def normalUnaligned (u : Bool) (t : AccessType) (addr : Word) : Bool :=
  match t with
  | .half => u && bit addr 0
  | .wLoad | .wStore | .multiWord => bits addr 0 2 != 0#2
  | .byte | .hwSync | .wSync | .twoWord | .dwSync => false

/-- The A bit of the Control Register. -/
def State.alignCheck (s : State) : Bool := s.controlBit 1

/-- The U bit of the Control Register. -/
def State.unalignedOn (s : State) : Bool := s.controlBit 22

/-- The MVA of a virtual address in the current world (14:R316). -/
def State.mva (s : State) (va : Word) : Word := fcse (s.cp15.bank s.nsState) va

/-- An Alignment fault (20:R518). -/
def alignmentFault {α : Type} (va : Word) (write : Bool) (s : State) : Result α :=
  .error (.taken (takeDataAbort { code := 0b00001#5, domain := none, external := false, slverr := false } (s.mva va) write s))

/-- The address of an access, or its Alignment fault. -/
def checkAlignment (t : AccessType) (write : Bool) (va : Word) (s : State) : Result Word :=
  match alignedAddress s.alignCheck s.unalignedOn t va with
  | some a => .ok a
  | none => alignmentFault va write s

/-! ### Byte order -/

/-- BE-32 (20:R505). -/
def State.be32 (s : State) : Bool := s.controlBit 7

/-- Is data big-endian, as BE-8 or BE-32? (20:R505) -/
def State.bigEndian (s : State) : Bool := bit s.cpsr 9 || s.be32

/-- The number that bytes at rising addresses make (20:R508). -/
def assemble (big : Bool) (bytes : List Byte) : Word := ofBytesLE (if big then bytes.reverse else bytes)

/-- The `n` bytes that a number puts at rising addresses (20:R509). -/
def disassemble (big : Bool) (n : Nat) (v : Word) : List Byte :=
  if big then (toBytesLE n v).reverse else toBytesLE n v

/-- B = 1 with E = 1 is reserved (20:R506). -/
def checkEndian (s : State) : Result Unit := refuseIf (bit s.cpsr 9 && s.be32) .mixedBigEndian

/-! ### One access in one cache line -/

/-- How an access is made. -/
structure Access where
  /-- With privileged permissions. -/
  privileged : Bool
  /-- Are external aborts of this access precise by what the instruction is (a load of the PC or CPSR, the load of SWP)? -/
  precise : Bool
  /-- The unaligned case of 20:R516. -/
  unaligned : Bool
  /-- Is it one of several words, so that a precise external abort gives the base address of a burst? (21:R640) -/
  multiple : Bool
  /-- The lock type. -/
  lock : BusLock
  deriving DecidableEq, Repr

/-- The access of an instruction in the current mode. -/
def plainAccess (s : State) : Access :=
  { privileged := s.privileged, precise := false, unaligned := false, multiple := false, lock := .normal }

/-- The translation of a data access, or its abort. One location with two sets of attributes is refused (20:R522, 93). -/
def dataTranslate (acc : Access) (write : Bool) (va : Word) (s : State) : Result (Translation × State) :=
  let ns := s.nsState
  let mva := s.mva va
  let r : Request := { mva := mva, ns := ns, privileged := acc.privileged, write := write, fetch := false, dma := false
                       unaligned := acc.unaligned, asid := bits (s.cp15.bank ns).contextId 0 8 }
  match translate s.cp15 true r s with
  | .ok (t, s) => if conflictingAttrs s.cp15 t then .error (.refuse .attributesConflict) else .ok (t, s)
  | .error (.abort c s') => .error (.taken (takeDataAbort c mva write s'))
  | .error (.refuse r) => .error (.refuse r)

/-- The bursts of an access to `n` bytes past the Data Cache; a TCM needs none (23:R1487 to R1489). -/
def plainRequests (s : State) (acc : Access) (t : Translation) (write : Bool) (n : Nat) : List BusRequest :=
  if t.place.isLevelTwo then
    dataRequests (requestShape (dataPort t.attrs) write acc.lock t.attrs t.ns acc.privileged) (!write && t.attrs.type == .normal)
      s.be32 t.offset n
  else []

/-- Does a load that misses fill a line? (22:R1406, R1422) The locked read of a swap does not: it goes past the Data Cache (23:R1479;
DESIGN CHOICE, unsafe: log 62). -/
def dataFills (s : State) (acc : Access) (t : Translation) : Bool :=
  acc.lock != .locked && dcacheUsed s t && t.place.isLevelTwo && linefillOn s .data t.ns

/-- What a linefill of the Data Cache for this access drives. -/
def fillShape (acc : Access) (t : Translation) : BusRequest := requestShape .data false .normal t.attrs t.ns acc.privileged

/-- The bursts of a load that misses: a linefill, or past the cache. -/
def loadRequests (s : State) (acc : Access) (t : Translation) (n : Nat) : List BusRequest :=
  if dataFills s acc t then [linefillRequest (fillShape acc t) t.offset] else plainRequests s acc t false n

/-- Are all external aborts to loads precise: FI, or FIO? (60:R1241, 12:R155) -/
def State.loadsPrecise (s : State) : Bool := s.controlBit 21 || bit s.cp15.auxControl 31

/-- A precise external Data Abort, of a burst; of several words the FAR gets the burst's address (60:R1241, 21:R637, R640). -/
def externalAbort {α : Type} (acc : Access) (t : Translation) (burst : BusRequest) (e : BusError) (write : Bool) (va : Word)
    (s : State) : Result α :=
  let (slverr, s) := errorBit e s
  let far := s.mva va + (if acc.multiple then burst.address - t.pa else 0#32)
  .error (.taken (takeDataAbort { code := 0b01000#5, domain := t.domain, external := true, slverr := slverr } far write s))

/-- The error of a load, if a transfer with a byte that it wants has one (60:R1241). -/
def loadError (s : State) (acc : Access) (t : Translation) (n : Nat) (va : Word) : Option (BusRequest × BusError) :=
  if (dataHit s t va).isSome then none
  else wantedError s.bus (loadRequests s acc t n) (byteAddresses s.be32 t.offset n)

/-- The bytes of a load with an imprecise external abort: those of the transfers with an error are any values. -/
def drawErroneous (bad : Nat → Bool) : List (Nat × Byte) → State → List Byte × State
  | [], s => ([], s)
  | (a, b) :: rest, s =>
    let (b, s) := if bad a then (let (w, s) := drawWord s; (w.setWidth 8, s)) else (b, s)
    let (bs, s) := drawErroneous bad rest s
    (b :: bs, s)

/-- The write that unlocks the bus after an error of a swap's locked read: normal, at the same address, without byte strobes, so that it
changes no memory (23:R1479). An error answer is an imprecise external abort, as that of any such write (log 18). -/
def unlockBus (burst : BusRequest) (s : State) : State :=
  match firstError s.bus [{ burst with write := true, lock := .normal, strobes := [], data := [] }] with
  | none => s
  | some (_, _, e) =>
    let (slverr, s) := errorBit e s
    launchAbort s slverr true

/-- Loading `n` bytes of one line with a translation: from the Data Cache, with a linefill, or past it (22:R1404, R1409, R1422). An
imprecise external abort goes on its way, and what the bus did not give is any value. A write to the line that is in the write buffer
drains first (22:R1432). -/
def loadAt (acc : Access) (t : Translation) (n : Nat) (va : Word) (s : State) : Result (List Byte × State) :=
  let addresses := byteAddresses s.be32 t.offset n
  match dataHit s t va with
  | some l => .ok (addresses.map l.byteAt, s)
  | none =>
    if dataElsewhere s t va then .error (.refuse .pageColouring)
    else
      let s := s.drainTo (·.inLine t.place t.offset)
      let error := loadError s acc t n va
      let rs := loadRequests s acc t n
      let bytes := addresses.map fun a => readData s.bus rs a (s.byteAt t.place a)
      let s := if dataFills s acc t then
          fillLine s .data (fillShape acc t) va t.pa t.ns s.be32 ((lineBytes t.pa).map (s.byteAt t.place))
        else s
      match error with
      | none => .ok (bytes, s)
      | some (burst, e) =>
        if acc.precise || s.loadsPrecise || t.attrs.type == .stronglyOrdered then
          externalAbort acc t burst e false va (if acc.lock = .locked then unlockBus burst s else s)
        else
          let (slverr, s) := errorBit e s
          .ok (drawErroneous (erroneous s.bus rs) (addresses.zip bytes) (launchAbort s slverr false))

/-- The bytes of a store that reach memory, where `failed` is its first burst with an error: those of the bursts that were made, but
for the transfers with an error (log 18). -/
def storedBytes (bus : List BusRegion) (rs : List BusRequest) (ordered : Bool) (failed : BusRequest)
    (l : List (Nat × Byte)) : List (Nat × Byte) :=
  let made := if ordered then rs.takeWhile (· != failed) ++ [failed] else rs
  l.filter fun (a, _) => !erroneous bus rs a && made.any fun r => r.strobes.contains (BitVec.ofNat 32 a)

/-- Putting bytes into a TCM, or level two: through the write buffer, unless they are Strongly Ordered, whose writes are complete at once
(20:R526, 22:R1432). -/
def putBytes (t : Translation) (writes : List (Nat × Byte)) (s : State) : State :=
  if t.place.isLevelTwo && t.attrs.type != .stronglyOrdered then
    s.bufferBytesAt .store (if t.attrs.type == .device then some t.attrs.shared else none) t.place writes
  else s.setBytesAt t.place writes

/-- Storing bytes past the Data Cache: to a TCM, or to level two. An external abort of a Strongly Ordered write is precise, but that of
the write of a swap is imprecise, as 44:R954 says against the general 60:R1241 (DESIGN CHOICE, unsafe: log 18). -/
def storePast (acc : Access) (t : Translation) (writes : List (Nat × Byte)) (va : Word) (s : State) : Result State :=
  let ordered := t.attrs.type == .stronglyOrdered
  let rs := (plainRequests s acc t true writes.length).map (·.carry writes)
  match firstError s.bus rs with
  | none => .ok (putBytes t writes s)
  | some (burst, _, e) =>
    let s := putBytes t (storedBytes s.bus rs ordered burst writes) s
    if ordered && acc.lock != .locked then externalAbort acc t burst e true va s
    else
      let (slverr, s) := errorBit e s
      .ok (launchAbort s slverr true)

/-- Storing bytes of one line with a translation: into the line that it hits, which keeps them if it is Write-Back, else past the Data
Cache; a store does not fill a line (22:R1405, R1406, R1422). -/
def storeAt (acc : Access) (t : Translation) (bytes : List Byte) (va : Word) (s : State) : Result State :=
  let writes := (byteAddresses s.be32 t.offset bytes.length).zip bytes
  match storeHit s t va with
  | some l =>
    let held := heldBack s t
    let s := putLine s .data (l.store held writes)
    if held then .ok (markDirty s t.ns) else storePast acc t writes va s
  | none => if dataElsewhere s t va then .error (.refuse .pageColouring) else storePast acc t writes va s

/-- What must be done before an access: a Strongly Ordered one waits until every other explicit access is complete; a read of Device
memory until the writes to Device memory of its kind, Shared or Non-shared, have drained; a write to it stays behind them in the FIFO
(20:R526, R527, 22:R1432, R1433). -/
def orderBefore (t : Translation) (write : Bool) (s : State) : State :=
  match t.attrs.type with
  | .stronglyOrdered => completeAccesses s
  | .device => if write then s else s.drainTo (·.device == some t.attrs.shared)
  | .normal => s

/-- Recording the watchpoints that an access of `n` bytes hits, a word at a time where it has several (15:R399). -/
def watchAccess (acc : Access) (t : Translation) (va : Word) (n : Nat) (write : Bool) (s : State) : Result State :=
  let units := if acc.multiple then (List.range (n / 4)).map fun i => (va + BitVec.ofNat 32 (4 * i), 4) else [(va, n)]
  units.foldlM (fun s (a, k) => recordWatch s (s.mva a) k write acc.privileged t.domain) s

/-- A load of bytes of one line; watchpoints see it when it is complete (15:R399). -/
def loadPart (acc : Access) (n : Nat) (va : Word) (s : State) : Result (List Byte × State) := do
  let (t, s) ← dataTranslate acc false va s
  let (bytes, s) ← loadAt acc t n va (orderBefore t false s)
  let s ← watchAccess acc t va n false s
  pure (bytes, s)

/-- A store of bytes of one line. -/
def storePart (acc : Access) (bytes : List Byte) (va : Word) (s : State) : Result State := do
  let (t, s) ← dataTranslate acc true va s
  let s ← storeAt acc t bytes va (orderBefore t true s)
  watchAccess acc t va bytes.length true s

/-! ### Accesses of any kind -/

/-- How many bytes there are up to the end of the cache line, at which every access is split (23:R1487, R1488). -/
def roomAt (va : Word) : Nat := 32 - va.toNat % 32

/-- Loading `n` bytes, in at most `parts` parts, one for each line (20:R519, 23:R1487). -/
def loadBytes (acc : Access) : Nat → Nat → Word → State → Result (List Byte × State)
  | 0, _, _, s => .ok ([], s)
  | parts + 1, n, va, s =>
    if n ≤ roomAt va then loadPart acc n va s
    else do
      let k := roomAt va
      let (low, s) ← loadPart acc k va s
      let (high, s) ← loadBytes acc parts (n - k) (va + BitVec.ofNat 32 k) s
      pure (low ++ high, s)

/-- Storing bytes, in at most `parts` parts: if a later one aborts, the earlier ones are stored (20:R519, 23:R1488). -/
def storeBytes (acc : Access) : Nat → List Byte → Word → State → Result State
  | 0, _, _, s => .ok s
  | parts + 1, bytes, va, s =>
    if bytes.length ≤ roomAt va then storePart acc bytes va s
    else do
      let k := roomAt va
      let s ← storePart acc (bytes.take k) va s
      storeBytes acc parts (bytes.drop k) (va + BitVec.ofNat 32 k) s

/-- Loading a number of `n` ≤ 4 bytes. -/
def loadNumber (acc : Access) (n : Nat) (va : Word) (s : State) : Result (Word × State) := do
  let (bytes, s) ← loadBytes acc 2 n va s
  pure (assemble s.bigEndian bytes, s)

/-- Storing the `n` low bytes of a word. -/
def storeNumber (acc : Access) (n : Nat) (v : Word) (va : Word) (s : State) : Result State :=
  storeBytes acc 2 (disassemble s.bigEndian n v) va s

/-- A data access as the trace port shows it: its virtual address before (`va`) and after alignment, and its bytes; `aborted` and `failed`
are as in `DataAccess`. DESIGN CHOICE, unsafe: the words are rotated by the low two address bits, and the accesses of an ETM that is
powered down are not shown (26:R1626; log 56). -/
def recordAccess (write aborted failed : Bool) (va a : Word) (bytes : List Byte) (s : State) : State :=
  if s.pins.etmpwrup then
    let x : DataAccess :=
      { cprt := false, address := a, rotation := bits va 0 2, swizzle := s.bigEndian, write := write, bytes := bytes
        unaligned := bytes.length ≤ 4 && a.toNat % bytes.length != 0, aborted := aborted, failed := failed }
    { s with trace := { s.trace with data := s.trace.data ++ [x] } }
  else s

/-- Showing an access that has been made since `before` external aborts were on their way. -/
def traceAccess (write : Bool) (va a : Word) (bytes : List Byte) (before : Nat) (s : State) : State :=
  recordAccess write (decide (before < s.inflight.length)) false va a bytes s

/-- Showing a store-exclusive that has stored nothing. -/
def traceFailed (va a : Word) (bytes : List Byte) (s : State) : State := recordAccess true false true va a bytes s

/-- A load of `n` ≤ 4 bytes, made as `acc` says. -/
def readAs (acc : Access) (t : AccessType) (n : Nat) (va : Word) (s : State) : Result (Word × State) := do
  checkEndian s
  let a ← checkAlignment t false va s
  let before := s.inflight.length
  let (w, s) ← loadNumber { acc with unaligned := normalUnaligned s.unalignedOn t va } n a s
  pure (w, traceAccess false va a (disassemble s.bigEndian n w) before s)

/-- A store of `n` ≤ 4 bytes, made as `acc` says. -/
def writeAs (acc : Access) (t : AccessType) (n : Nat) (va v : Word) (s : State) : Result State := do
  checkEndian s
  let a ← checkAlignment t true va s
  let before := s.inflight.length
  let s ← storeNumber { acc with unaligned := normalUnaligned s.unalignedOn t va } n v a s
  pure (traceAccess true va a (disassemble s.bigEndian n v) before s)

/-- MemRead of 00:R15 for `n` ≤ 4 bytes: `user` makes it MemRead_unpriv, `precise` is as in `Access`. -/
def memRead (t : AccessType) (user precise : Bool) (n : Nat) (va : Word) (s : State) : Result (Word × State) :=
  readAs { plainAccess s with privileged := s.privileged && !user, precise := precise } t n va s

/-- MemWrite of 00:R15 for `n` ≤ 4 bytes. -/
def memWrite (t : AccessType) (user : Bool) (n : Nat) (va v : Word) (s : State) : Result State :=
  writeAs { plainAccess s with privileged := s.privileged && !user } t n va v s

/-- The rotation of a word load from an unaligned address, with U = 0 (20:R520). -/
def rotateLoaded (s : State) (va w : Word) : Word :=
  if s.unalignedOn then w else w.rotateRight (8 * (bits va 0 2).toNat)

/-- A load of one word, rotated as the legacy rule says (42:R866). -/
def loadWord (user precise : Bool) (va : Word) (s : State) : Result (Word × State) := do
  let (w, s) ← memRead .wLoad user precise 4 va s
  pure (rotateLoaded s va w, s)

/-- The words that bytes at rising addresses make, `n` of them. -/
def wordsOf (big : Bool) : Nat → List Byte → List Word
  | 0, _ => []
  | n + 1, bytes => assemble big (bytes.take 4) :: wordsOf big n (bytes.drop 4)

/-- A Two-word or Multi-word load: the words at rising addresses, a burst list for each line (20:R510, 43:R911, 23:R1487). -/
def loadWords (t : AccessType) (precise : Bool) (n : Nat) (va : Word) (s : State) : Result (List Word × State) := do
  checkEndian s
  let a ← checkAlignment t false va s
  let before := s.inflight.length
  let (bytes, s) ← loadBytes { plainAccess s with
    precise := precise, unaligned := normalUnaligned s.unalignedOn t va, multiple := true } n (4 * n) a s
  pure (wordsOf s.bigEndian n bytes, traceAccess false va a bytes before s)

/-- A Two-word or Multi-word store (20:R510, 43:R911, 23:R1488). -/
def storeWords (t : AccessType) (ws : List Word) (va : Word) (s : State) : Result State := do
  checkEndian s
  let a ← checkAlignment t true va s
  let before := s.inflight.length
  let bytes := ws.flatMap (disassemble s.bigEndian 4)
  let s ← storeBytes { plainAccess s with unaligned := normalUnaligned s.unalignedOn t va, multiple := true } ws.length bytes a s
  pure (traceAccess true va a bytes before s)

/-! ### The exclusive accesses (44:R940 to R953, 23:R1474 to R1477) -/

/-- What kind of access an exclusive of this many bytes is. -/
def exclusiveType (size : Nat) : AccessType :=
  if size = 1 then .byte else if size = 2 then .hwSync else if size = 4 then .wSync else .dwSync

/-- The words of an exclusive access: one number of up to four bytes, or two words. -/
def exclusiveWords (big : Bool) (bytes : List Byte) : Word × Word :=
  (assemble big (bytes.take 4), assemble big (bytes.drop 4))

/-- The bytes of an exclusive store. -/
def exclusiveBytes (big : Bool) (size : Nat) (v1 v2 : Word) : List Byte :=
  if size = 8 then disassemble big 4 v1 ++ disassemble big 4 v2 else disassemble big size v1

/-- The lock type of an exclusive access: exclusive on a Shared region alone (23:R1475). Device memory does not support it
(23:R1473). -/
def exclusiveAccess (acc : Access) (t : Translation) : Result Access := do
  refuseIf (t.attrs.type == .device) .exclusiveDevice
  pure { acc with lock := if t.attrs.shared then .exclusive else .normal }

/-- A load-exclusive: the data, and the monitors tagged. After an external abort, precise or imprecise, there is no data, so that no register
is written, and the monitor is in either state (44:R945). -/
def loadExclusive (size : Nat) (va : Word) (s : State) : Result (Option (Word × Word) × State) := do
  checkEndian s
  let a ← checkAlignment (exclusiveType size) false va s
  let before := s.inflight.length
  let (t, s) ← dataTranslate (plainAccess s) false a s
  let acc ← exclusiveAccess (plainAccess s) t
  let s := orderBefore t false s
  let tag : Tag := { addr := t.pa, size := size, ns := t.ns }
  let marked := { s with localMon := some tag, globalMon := if t.attrs.shared then some tag else s.globalMon }
  let aborts := (loadError s acc t size a).isSome
  let s := if !aborts then marked
    else
      let (set, s') := drawBit s
      if set then { marked with freeCtr := s'.freeCtr } else { s' with localMon := none }
  let (bytes, s) ← loadAt acc t size a s
  let s ← watchAccess acc t a size false s
  let s := traceAccess false va a bytes before s
  pure (if aborts then none else some (exclusiveWords s.bigEndian bytes), s)

/-- Does the system's monitor let an exclusive write of a Shared region pass: EXOKAY, which is this processor's entry in the global
monitor where no region of the bus says otherwise? (23:R1476, R1477; log 18) -/
def exclusivePasses (s : State) (tag : Tag) (rs : List BusRequest) : Bool :=
  rs.all fun r => (List.range r.transfers).all fun i =>
    match busAnswer s.bus r i with
    | some .exokay => true
    | some _ => false
    | none => s.globalMon == some tag

/-- A store-exclusive: the status value (0: stored). The permission to write is checked either way, and the local monitor
becomes Open (44:R944, 23:R1475, R1476). -/
def storeExclusive (size : Nat) (v1 v2 : Word) (va : Word) (s : State) : Result (Word × State) := do
  checkEndian s
  let a ← checkAlignment (exclusiveType size) true va s
  let before := s.inflight.length
  let (t, s) ← dataTranslate (plainAccess s) true a s
  let acc ← exclusiveAccess (plainAccess s) t
  let s := orderBefore t true s
  let tag : Tag := { addr := t.pa, size := size, ns := t.ns }
  let bytes := exclusiveBytes s.bigEndian size v1 v2
  let rs := (plainRequests s acc t true size).map (·.carry ((byteAddresses s.be32 t.offset size).zip bytes))
  let failed := ((storeHit s t a).isNone || !heldBack s t) && (firstError s.bus rs).isSome
  let passes := !t.attrs.shared || failed || exclusivePasses s tag rs
  if s.localMon = some tag && passes then
    let s ← storeAt acc t bytes a s
    let s ← watchAccess acc t a size true s
    let s := traceAccess true va a bytes before s
    let s := { s with localMon := none, globalMon := if t.attrs.shared then none else s.globalMon }
    if failed then
      let (status, s) := drawBit s
      pure (ofBit status, s)
    else pure (0#32, s)
  else
    let s ← watchAccess acc t a size true s
    pure (1#32, { traceFailed va a bytes s with localMon := none })

end Sys2Proof.Machine
end

