-- ==== Sys2Proof/Machine/Flags.lean ====
section
/-! DEFINITION. The condition of an instruction (30:R683), the exact addition of 40:R742, and what instructions do to the
flags (40:R744, 10:R41 to R44). -/

namespace Sys2Proof.Machine

open Sys2Proof

/-- ConditionPassed of 30:R683. -/
def condHolds (c : Cond) (cpsr : Word) : Bool :=
  let n := bit cpsr 31
  let z := bit cpsr 30
  let cy := bit cpsr 29
  let v := bit cpsr 28
  match c with
  | .eq => z
  | .ne => !z
  | .cs => cy
  | .cc => !cy
  | .mi => n
  | .pl => !n
  | .vs => v
  | .vc => !v
  | .hi => cy && !z
  | .ls => !cy || z
  | .ge => n == v
  | .lt => n != v
  | .gt => !z && n == v
  | .le => z || n != v
  | .al => true

/-- An instruction with a condition: where it fails, only the PC moves on. `writesPc`: see `State.skip`. -/
def conditional (c : Cond) (writesPc : Bool) (s : State) (body : Result State) : Result State :=
  if condHolds c s.cpsr then body else .ok (s.skip writesPc)

/-- The CPSR with N, Z, C, V replaced. -/
def setNZCV (cpsr : Word) (n z c v : Bool) : Word := setBit (setBit (setBit (setBit cpsr 31 n) 30 z) 29 c) 28 v

/-- N and Z from a result; C and V unchanged. -/
def setNZ (cpsr result : Word) : Word := setBit (setBit cpsr 31 (bit result 31)) 30 (result == 0#32)

/-- N and Z from a result, C given; V unchanged. -/
def setNZC (cpsr result : Word) (c : Bool) : Word := setBit (setNZ cpsr result) 29 c

/-- The Q flag becomes one where the condition holds; it is never cleared (10:R42). -/
def setQ (cpsr : Word) (sat : Bool) : Word := if sat then setBit cpsr 27 true else cpsr

/-- GE[3:0] (10:R44). -/
def setGE (cpsr : Word) (ge : BitVec 4) : Word := setBits cpsr 16 ge

/-- GE[3:0] of the CPSR. -/
def geBits (cpsr : Word) : BitVec 4 := bits cpsr 16 4

/-- The C flag. -/
def State.carry (s : State) : Bool := bit s.cpsr 29

/-- A sum with its carry and its signed overflow (40:R742). -/
structure Sum where
  result : Word
  carry : Bool
  overflow : Bool
  deriving DecidableEq, Repr

/-- AddWithCarry of 40:R742: the exact unsigned and signed sums, narrowed. -/
def addWithCarry (a b : Word) (c : Bool) : Sum :=
  let u := a.toNat + b.toNat + c.toNat
  let i := a.toInt + b.toInt + c.toNat
  let result := BitVec.ofNat 32 u
  { result := result, carry := decide (2 ^ 32 ≤ u), overflow := result.toInt != i }

/-- The result of a data-processing operation, and the CPSR with the flags it sets. -/
abbrev AluOut := Word × Word

/-- An arithmetic operation sets N, Z, C and V from its sum (40:R744). -/
def arithmetic (x : Sum) (cpsr : Word) : AluOut :=
  (x.result, setNZCV cpsr (bit x.result 31) (x.result == 0#32) x.carry x.overflow)

/-- A logical operation sets N and Z, and C from the shifter (40:R744). -/
def logical (result : Word) (shifterCarry : Bool) (cpsr : Word) : AluOut := (result, setNZC cpsr result shifterCarry)

/-- The C flag in a CPSR value. -/
def carryOf (cpsr : Word) : Bool := bit cpsr 29

/-! The operations of 40:R745 to R761, of the first operand, the second operand, the shifter's carry and the CPSR. -/

/-- AND (40:R751), and TST (R760). -/
def aluAnd (a b : Word) (sc : Bool) (cpsr : Word) : AluOut := logical (a &&& b) sc cpsr
/-- EOR (40:R752), and TEQ (R761). -/
def aluEor (a b : Word) (sc : Bool) (cpsr : Word) : AluOut := logical (a ^^^ b) sc cpsr
/-- SUB (40:R747), and CMP (R758). -/
def aluSub (a b : Word) (_ : Bool) (cpsr : Word) : AluOut := arithmetic (addWithCarry a (~~~b) true) cpsr
/-- RSB (40:R749). -/
def aluRsb (a b : Word) (_ : Bool) (cpsr : Word) : AluOut := arithmetic (addWithCarry (~~~a) b true) cpsr
/-- ADD (40:R745), and CMN (R759). -/
def aluAdd (a b : Word) (_ : Bool) (cpsr : Word) : AluOut := arithmetic (addWithCarry a b false) cpsr
/-- ADC (40:R746). -/
def aluAdc (a b : Word) (_ : Bool) (cpsr : Word) : AluOut := arithmetic (addWithCarry a b (carryOf cpsr)) cpsr
/-- SBC (40:R748). -/
def aluSbc (a b : Word) (_ : Bool) (cpsr : Word) : AluOut := arithmetic (addWithCarry a (~~~b) (carryOf cpsr)) cpsr
/-- RSC (40:R750). -/
def aluRsc (a b : Word) (_ : Bool) (cpsr : Word) : AluOut := arithmetic (addWithCarry (~~~a) b (carryOf cpsr)) cpsr
/-- ORR (40:R753). -/
def aluOrr (a b : Word) (sc : Bool) (cpsr : Word) : AluOut := logical (a ||| b) sc cpsr
/-- MOV (40:R755). -/
def aluMov (b : Word) (sc : Bool) (cpsr : Word) : AluOut := logical b sc cpsr
/-- BIC (40:R754). -/
def aluBic (a b : Word) (sc : Bool) (cpsr : Word) : AluOut := logical (a &&& ~~~b) sc cpsr
/-- MVN (40:R756). -/
def aluMvn (b : Word) (sc : Bool) (cpsr : Word) : AluOut := logical (~~~b) sc cpsr

end Sys2Proof.Machine
end

