-- ==== Sys2Proof/Machine/Operands.lean ====
section
/-! DEFINITION. The operand forms: the shifter (40:R741), operand 2 (30:R687), the addressing modes 2 to 5 (42:R860, R861,
43:R910, 30:R697), register lists, the high registers of Thumb state, and what a load into the PC does. -/

namespace Sys2Proof.Machine

open Sys2Proof

/-! ### The shifter -/

/-- The shifts (40:R741). -/
inductive ShiftOp where
  | lsl | lsr | asr | ror | rrx
  deriving DecidableEq, Repr

/-- Shift_C of 40:R741: the result and the carry out. -/
def shiftC (v : Word) (op : ShiftOp) (n : Nat) (c : Bool) : Word × Bool :=
  match op with
  | .rrx => ((ofBit c <<< 31) ||| (v >>> 1), bit v 0)
  | .lsl =>
    if n = 0 then (v, c) else if n < 32 then (v <<< n, bit v (32 - n)) else (0#32, n == 32 && bit v 0)
  | .lsr =>
    if n = 0 then (v, c) else if n < 32 then (v >>> n, bit v (n - 1)) else (0#32, n == 32 && bit v 31)
  | .asr =>
    if n = 0 then (v, c) else if n < 32 then (v.sshiftRight n, bit v (n - 1)) else (v.sshiftRight 31, bit v 31)
  | .ror =>
    if n = 0 then (v, c) else if n % 32 = 0 then (v, bit v 31) else (v.rotateRight (n % 32), bit v (n % 32 - 1))

/-- The shift that an immediate shift field encodes (30:R687): 0 is LSL #0, LSR #32, ASR #32 or RRX. -/
def immShift (shift : Shift) (imm : BitVec 5) : ShiftOp × Nat :=
  match shift with
  | .lsl => (.lsl, imm.toNat)
  | .lsr => (.lsr, if imm = 0#5 then 32 else imm.toNat)
  | .asr => (.asr, if imm = 0#5 then 32 else imm.toNat)
  | .ror => if imm = 0#5 then (.rrx, 1) else (.ror, imm.toNat)

/-- The shift that a register shift does. -/
def regShift : Shift → ShiftOp
  | .lsl => .lsl
  | .lsr => .lsr
  | .asr => .asr
  | .ror => .ror

/-- A rotated immediate (30:R688). -/
def rotatedImm (rot : BitVec 4) (imm8 : BitVec 8) : Word := (zext imm8).rotateRight (2 * rot.toNat)

/-- Operand 2, immediate (30:R687): the value and the shifter's carry. -/
def operandImm (rot : BitVec 4) (imm8 : BitVec 8) (s : State) : Word × Bool :=
  let v := rotatedImm rot imm8
  (v, if rot = 0#4 then s.carry else bit v 31)

/-- A value shifted by an immediate shift field. -/
def shiftedBy (v : Word) (shift : Shift) (shiftImm : BitVec 5) (c : Bool) : Word × Bool :=
  let (op, n) := immShift shift shiftImm
  shiftC v op n c

/-- Operand 2, register with immediate shift. -/
def operandReg (shiftImm : BitVec 5) (shift : Shift) (rm : Reg) (s : State) : Word × Bool :=
  shiftedBy (s.reg rm) shift shiftImm s.carry

/-- Operand 2, register with register shift: the bottom byte of R[s]. -/
def operandRegShift (rs : Reg) (shift : Shift) (rm : Reg) (s : State) : Word × Bool :=
  shiftC (s.reg rm) (regShift shift) (bits (s.reg rs) 0 8).toNat s.carry

/-- Refuse R15 in a register field that does not allow it (30:R684). -/
def noPc (rs : List Reg) : Result Unit := refuseIf (rs.contains 15#4) .registerField

/-! ### Loads and stores of one register -/

/-- The address of an access, and the value the base register takes, if any (42:R860, R861). -/
def indexed (p u w : Bool) (base offset : Word) : Word × Option Word :=
  let target := if u then base + offset else base - offset
  if p then (target, if w then some target else none) else (base, some target)

/-- Does the form write the base register? In addressing mode 2, P = 0 does whatever W is. -/
def writesBase (p w : Bool) : Bool := !p || w

/-- The base register's new value, where the form writes it. -/
def writeBase (s : State) (rn : Reg) (wb : Option Word) : State :=
  match wb with
  | some b => s.setReg rn b
  | none => s

/-- The registers of addressing modes 2 and 3 that a write of the base does not allow: R15 or Rd as the base (42:R860). -/
def checkBase (p w : Bool) (rn : Reg) (rd : List Reg) : Result Unit :=
  refuseIf (writesBase p w && (rn == 15#4 || rd.contains rn)) .writeback

/-- An offset register may not be R15, nor the base where that is written (42:R860). -/
def checkOffset (p w : Bool) (rn rm : Reg) : Result Unit := do
  noPc [rm]
  refuseIf (writesBase p w && rm == rn) .writeback

/-- In addressing mode 3, P = 0 with W = 1 is not allowed (42:R861). -/
def checkMode3 (p w : Bool) : Result Unit := refuseIf (!p && w) .writeback

/-- The offset of addressing mode 3, immediate. -/
def splitImm (hi lo : BitVec 4) : Word := zext (hi ++ lo)

/-- The value that STR and STM store for a register (10:R36; log 22). -/
def storeValue (s : State) (r : Reg) : Word := if r = 15#4 then s.readPc + (s.impl.storePcOffset - 8#32) else s.reg r

/-- What a load into the PC does (42:R867): with L4 = 0, bit 0 becomes T. -/
def loadToPc (s : State) (data : Word) : Result State :=
  if s.controlBit 15 then .ok (s.writePc data (if s.thumb then align2 data else align4 data))
  else if !bit data 0 && bit data 1 then .error (.refuse .branchTarget)
  else .ok ((s.setThumb (bit data 0)).branch (align2 data))

/-- BXWritePC of 46:R1000. -/
def bxWritePc (s : State) (target : Word) : Result State :=
  if !bit target 0 && bit target 1 then .error (.refuse .branchTarget)
  else .ok ((s.setThumb (bit target 0)).branch (align2 target))

/-! ### Register lists and blocks -/

/-- The registers of a list, in rising order (30:R695). -/
def regList (regs : BitVec 16) : List Reg :=
  ((List.range 16).filter fun i => bit regs i).map (BitVec.ofNat 4)

/-- The lowest address of a block of `n` words (43:R910). -/
def blockStart (p u : Bool) (base : Word) (n : Nat) : Word :=
  let len := BitVec.ofNat 32 (4 * n)
  match p, u with
  | false, true => base
  | true, true => base + 4#32
  | false, false => base - len + 4#32
  | true, false => base - len

/-- The value written back to the base of a block (43:R910). -/
def blockEnd (u : Bool) (base : Word) (n : Nat) : Word :=
  let len := BitVec.ofNat 32 (4 * n)
  if u then base + len else base - len

/-- Writing registers other than R15 in a mode's bank. -/
def State.setRegsIn (s : State) (mode : BitVec 5) : List (Reg × Word) → State
  | [] => s
  | (r, v) :: rest => (s.setRegIn mode r v).setRegsIn mode rest

/-! ### Thumb registers -/

/-- The register that a three-bit field names (10:R58). -/
def lowReg (r : LowReg) : Reg := r.setWidth 4

/-- The register that a three-bit field and its H bit name (48:R1070). -/
def highReg (h : Bool) (r : LowReg) : Reg := (if h then 8#4 else 0#4) ||| r.setWidth 4

end Sys2Proof.Machine
end

