-- ==== Sys2Proof/Machine/Cp14.lean ====
section
/-! DEFINITION. The debug registers of coprocessor 14 as MRC, MCR, LDC and STC reach them (15:R373 to R393), the access rules
(15:R376), and the registers as scan chain 7 shares them (15:R428). -/

namespace Sys2Proof.Machine

open Sys2Proof

/-! ### Access (15:R376) -/

/-- The groups of access of 15:R376. -/
inductive Cp14Group where
  /-- Reading DIDR or DSCR, reading or writing the DTR. -/
  | status
  /-- Writing the DSCR. -/
  | control
  /-- Any other debug register. -/
  | other
  deriving DecidableEq, Repr

/-- May the core make this access now? (Table 13-20 in 15:R376) -/
def cp14Permitted (g : Cp14Group) (s : State) : Bool :=
  if s.halted then true
  else if !s.privileged then g == .status && !bit s.dbg.dscr 12
  else g != .other || bits s.readDscr 14 2 == 0b10#2

/-- Undefined unless the access is permitted. -/
def requireCp14 (g : Cp14Group) (s : State) : Result Unit := if cp14Permitted g s then .ok () else undefined s

/-! ### The registers (15:R379 to R393) -/

/-- The debug registers that exist, by their number in {Opcode_2, CRm} (15:R373). -/
inductive DebugReg where
  | didr | dscr | dtr | wfar | vcr | dsccr | dsmcr
  | bvr (i : Fin 6)
  | bcr (i : Fin 6)
  | wvr (i : Fin 2)
  | wcr (i : Fin 2)
  deriving DecidableEq, Repr

/-- The register of a number, if it is not reserved (15:R373). -/
def debugReg (opc2 : BitVec 3) (crm : BitVec 4) : Option DebugReg :=
  let n := crm.toNat
  match opc2.toNat, n with
  | 0, 0 => some .didr
  | 0, 1 => some .dscr
  | 0, 5 => some .dtr
  | 0, 6 => some .wfar
  | 0, 7 => some .vcr
  | 0, 10 => some .dsccr
  | 0, 11 => some .dsmcr
  | 4, _ => if h : n < 6 then some (.bvr ⟨n, h⟩) else none
  | 5, _ => if h : n < 6 then some (.bcr ⟨n, h⟩) else none
  | 6, _ => if h : n < 2 then some (.wvr ⟨n, h⟩) else none
  | 7, _ => if h : n < 2 then some (.wcr ⟨n, h⟩) else none
  | _, _ => none

/-- The access group of a register (15:R376). -/
def DebugReg.group (write : Bool) : DebugReg → Cp14Group
  | .didr => .status
  | .dscr => if write then .control else .status
  | .dtr => .status
  | .wfar | .vcr | .dsccr | .dsmcr | .bvr _ | .bcr _ | .wvr _ | .wcr _ => .other

/-- The Debug ID Register (15:R379): the Variant and Revision of the Main ID Register. -/
def debugId (s : State) : Word := 0x15121000#32 ||| BitVec.ofNat 32 s.impl.revisionMinor

/-- The bits of the DSCR that a core write changes: 15, 12, 5 to 2 (15:R380). -/
def dscrCoreMask : Word := 0x0000903C#32

/-- The bits of the DSCR that a write of the debugger changes: 14, 13, 11, 10, 9 (15:R380). -/
def dscrExternalMask : Word := 0x00006E00#32

/-- The implemented bits of the VCR (15:R384). -/
def vcrMask : Word := 0xDE00DCDF#32

/-- The implemented bits of a BVR: BVR4 and BVR5 hold context IDs too (15:R386). -/
def bvrMask (i : Fin 6) : Word := if i.val < 4 then 0xFFFFFFFC#32 else 0xFFFFFFFF#32

/-- The implemented bits of a BCR: bit 21 only where the pair can hold a context ID (15:R387). -/
def bcrMask (i : Fin 6) : Word := if i.val < 4 then 0x005FC1E7#32 else 0x007FC1E7#32

/-- The implemented bits of a WVR (15:R390). -/
def wvrMask : Word := 0xFFFFFFFC#32

/-- The implemented bits of a WCR (15:R391). -/
def wcrMask : Word := 0x001FC1FF#32

/-- The core reads rDTR: rDTRfull is cleared (15:R382). -/
def readRdtr (s : State) : Word × State :=
  (s.dbg.rdtr, { s with dbg := { s.dbg with dscr := setBit s.dbg.dscr 30 false } })

/-- The core writes wDTR: wDTRfull is set (15:R382). -/
def writeWdtr (v : Word) (s : State) : State :=
  { s with dbg := { s.dbg with wdtr := v, dscr := setBit s.dbg.dscr 29 true } }

/-- A register as the core reads it. -/
def readDebugReg (r : DebugReg) (s : State) : Word × State :=
  match r with
  | .didr => (debugId s, s)
  | .dscr => (s.readDscr, s)
  | .dtr => readRdtr s
  | .wfar => (s.dbg.wfar, s)
  | .vcr => (s.dbg.vcr, s)
  | .dsccr => (s.dbg.dsccr, s)
  | .dsmcr => (s.dbg.dsmcr, s)
  | .bvr i => (s.dbg.bvr[i], s)
  | .bcr i => (s.dbg.bcr[i], s)
  | .wvr i => (s.dbg.wvr[i], s)
  | .wcr i => (s.dbg.wcr[i], s)

/-- A register after a write of the core. -/
def writeDebugReg (r : DebugReg) (v : Word) (s : State) : State :=
  let d := s.dbg
  match r with
  | .didr => s
  | .dscr => { s with dbg := { d with dscr := mergeBits d.dscr v dscrCoreMask } }
  | .dtr => writeWdtr v s
  | .wfar => { s with dbg := { d with wfar := v } }
  | .vcr => { s with dbg := { d with vcr := v &&& vcrMask } }
  | .dsccr => { s with dbg := { d with dsccr := v &&& 0x00000007#32 } }
  | .dsmcr => { s with dbg := { d with dsmcr := v &&& 0x0000005F#32 } }
  | .bvr i => { s with dbg := { d with bvr := d.bvr.set i (v &&& bvrMask i) } }
  | .bcr i => { s with dbg := { d with bcr := d.bcr.set i (v &&& bcrMask i) } }
  | .wvr i => { s with dbg := { d with wvr := d.wvr.set i (v &&& wvrMask) } }
  | .wcr i => { s with dbg := { d with wcr := d.wcr.set i (v &&& wcrMask) } }

/-! ### The instructions (15:R374, R375; 47:R1045) -/

/-- N, Z, C, V replaced by the top four bits of a word (47:R1049). -/
def setFlagsFrom (v : Word) (s : State) : State := { s with cpsr := mergeBits s.cpsr v 0xF0000000#32 }

/-- What MRC does with the word that a coprocessor gives: Rd, or with R15 the flags (47:R1049). -/
def mrcResult (rd : Reg) (v : Word) (s : State) : State := if rd = 15#4 then setFlagsFrom v s else s.setReg rd v

/-- The word whose top bits become the flags of an MRC from CP14 with R15: Z and C are known for the DSCR, every other flag
is free (15:R375; log 38). -/
def cp14Flags (r : DebugReg) (v : Word) (s : State) : Word × State :=
  let (free, s) := drawWord s
  (if r = .dscr then mergeBits free v 0x60000000#32 else free, s)

/-- The register that an MRC or MCR p14 with Opcode_1 = 0 addresses (15:R373), if the access is legal and permitted. -/
def selectDebugReg (write : Bool) (crn : BitVec 4) (opc2 : BitVec 3) (crm : BitVec 4) (s : State) : Result DebugReg := do
  match if crn = 0#4 then debugReg opc2 crm else none with
  | none => undefined s
  | some r =>
    if write && r == .didr then undefined s
    else do
      requireCp14 (r.group write) s
      pure r

/-- MRC p14. The ETM's space, Opcode_1 = 1, reads as ETMCPRDATA says (26:R1633, 92:D33; log 36). -/
def mrc14 (opc1 : BitVec 3) (crn crm : BitVec 4) (opc2 : BitVec 3) (rd : Reg) (s : State) : Result State :=
  if opc1 = 1#3 then .ok (mrcResult rd s.pins.etmcprdata s)
  else if opc1 = 0#3 then do
    let r ← selectDebugReg false crn opc2 crm s
    let (v, s) := readDebugReg r s
    if rd = 15#4 then
      let (w, s) := cp14Flags r v s
      pure (setFlagsFrom w s)
    else pure (s.setReg rd v)
  else undefined s

/-- MCR p14: R15 is none of the legal sources (15:R374), and is refused as a source for the ETM (47:R1048). -/
def mcr14 (opc1 : BitVec 3) (crn crm : BitVec 4) (opc2 : BitVec 3) (rd : Reg) (s : State) : Result State :=
  if opc1 = 1#3 then do
    noPc [rd]
    pure s
  else if opc1 = 0#3 && rd != 15#4 then do
    let r ← selectDebugReg true crn opc2 crm s
    pure (writeDebugReg r (s.reg rd) s)
  else undefined s

end Sys2Proof.Machine
end

