-- ==== Sys2Proof/Machine/Dma.lean ====
section
/-! DEFINITION. The level one DMA (14:R290 to R311, 22:R1425 to R1431): its registers as CP15 c11 reaches them, its commands, and
one step of its engine. -/

namespace Sys2Proof.Machine

open Sys2Proof

/-! ### Registers -/

/-- NSACR.DMA: the DMA may be used by the Non-secure world (12:R164). -/
def State.dmaBit (s : State) : Bool := bit s.cp15.nsacr 18

/-- The channel that the DMA Channel Number Register selects (14:R296). -/
def State.dmaChannel (s : State) : Fin 2 := Fin.ofNat 2 (bits s.cp15.dmaSelect 0 1).toNat

/-- May a privileged mode of the current world reach the DMA registers? (14:R290) -/
def State.dmaWorld (s : State) : Bool := !s.nsState || s.dmaBit

/-- The U bit of a channel (14:R294). -/
def State.dmaUser (s : State) (n : Fin 2) : Bool := bit s.cp15.dmaUser n.val

/-- Replacing a channel. -/
def State.setDma (s : State) (n : Fin 2) (c : DmaChannel) : State := { s with cp15 := { s.cp15 with dma := s.cp15.dma.set n c } }

/-- The Status field (14:R306): 0 Idle, 1 Queued, 2 Running, 3 Complete or Error. -/
def DmaChannel.state (c : DmaChannel) : Nat := (bits c.status 0 2).toNat

/-- Is the channel Running or Queued? -/
def DmaChannel.busy (c : DmaChannel) : Bool := c.state == 1 || c.state == 2

/-- Does the status hold an internal or external address error? -/
def DmaChannel.addressError (c : DmaChannel) : Bool := bits c.status 2 5 != 0#5 || bits c.status 7 5 != 0#5

/-- Is the channel in operation? (14:R299) -/
def DmaChannel.inOperation (c : DmaChannel) : Bool := c.busy || (c.state == 3 && c.addressError)

/-- The transaction size in bytes (14:R302). -/
def DmaChannel.size (c : DmaChannel) : Nat := 2 ^ (bits c.control 0 2).toNat

/-- The stride (14:R302). -/
def DmaChannel.stride (c : DmaChannel) : Word := zext (bits c.control 8 12)

/-- Is this a User mode transfer? (14:R302) -/
def DmaChannel.user (c : DmaChannel) : Bool := c.userStart || bit c.control 26

/-- Bad parameters: an address or the stride that is no multiple of the transaction size (14:R304, R307). -/
def DmaChannel.badParameters (c : DmaChannel) : Bool :=
  [c.intStart, c.intEnd, c.extStart, c.stride].any fun a => a.toNat % c.size != 0

/-- An identification and status register: a property of the channels (14:R292). -/
def dmaFlags (s : State) (p : DmaChannel → Bool) : Word := ofBit (p s.cp15.dma[0]) ||| (ofBit (p s.cp15.dma[1]) <<< 1)

/-- How many channels there are, as the Present register shows them (14:R292). -/
def dmaPresent (s : State) : Word := if s.impl.dmaChannels = 0 then 0#32 else 3#32

/-- A write of the Control Register (14:R302, R303). -/
def writeDmaControl (v : Word) (c : DmaChannel) : DmaChannel :=
  if c.busy then c else { c with control := (v &&& 0xF40FFF03#32) ||| 0x08000000#32 }

/-- A write of a start address register: refused while the channel is Running or Queued (14:R304, 93). -/
def writeDmaStart (internal : Bool) (v : Word) (c : DmaChannel) : Result DmaChannel :=
  if c.busy then .error (.refuse .dmaUnpredictable)
  else .ok (if internal then { c with intStart := v } else { c with extStart := v })

/-- A write of the Context ID Register (14:R310). -/
def writeDmaContext (v : Word) (c : DmaChannel) : DmaChannel := if c.busy then c else { c with contextId := v }

/-! ### Commands (14:R298 to R300, R307) -/

/-- The channel at the start of its transfer. DESIGN CHOICE, unsafe: a Start after Complete or Error without a Clear makes the whole
status Running, so that the error fields are 0 (log 67). -/
def DmaChannel.launch (c : DmaChannel) : DmaChannel :=
  { c with status := 2#32, curInt := c.intStart, curExt := c.extStart, group := 0, done := 0, buffer := [], stopping := false }

/-- The channel where its transfer is to start: Complete or Error with BP, and its error interrupt, where the parameters are bad, else
Running (14:R302, R307, 92:D12). `user`: the U bit of the channel. -/
def DmaChannel.begin (c : DmaChannel) (user : Bool) : DmaChannel :=
  if c.badParameters then
    { c with status := 0x00001003#32, stopping := false, interrupt := c.interrupt || bit c.control 28 || user }
  else c.launch

/-- A Queued channel becomes Running when the other one is neither Running nor stopped by an address error, if its parameters, of which
the Internal End may have been written since, are good (14:R304, R307, R308). -/
def dmaPromote (s : State) (n : Fin 2) : State :=
  let c := s.cp15.dma[n]
  let other := s.cp15.dma[n + 1]
  if c.state = 1 && other.state != 2 && !(other.state == 3 && other.addressError) then s.setDma n (c.begin (s.dmaUser n)) else s

/-- Start: the channel is configured Secure or Non-secure by the world that starts it (14:R309); Error with bad parameters, Queued behind the other channel, or Running (14:R299, R307, 92:D12). DESIGN CHOICE, unsafe: a
Start of a channel that is itself Running or Queued has no effect; one of a channel with an address error lets the other one, if it is
Queued, run first (log 67). -/
def dmaStart (s : State) (n : Fin 2) : State :=
  let c := s.cp15.dma[n]
  let other := s.cp15.dma[n + 1]
  if c.busy then s
  else
    let s := if other.busy then s else { s with oldMap := [] }
    let c := { c with nonSecure := s.nsState, userStart := !s.privileged }
    let c :=
      if !c.badParameters && other.inOperation then { c with status := 1#32, stopping := false }
      else c.begin (s.dmaUser n)
    dmaPromote (s.setDma n c) (n + 1)

/-- Stop: a Running channel stops at the engine's next step, a Queued one becomes Idle (14:R298). DESIGN CHOICE, unsafe: a Queued one
asserts no completion interrupt (14:R302; log 67). -/
def dmaStop (s : State) (n : Fin 2) : State :=
  let c := s.cp15.dma[n]
  if c.state = 2 then s.setDma n { c with stopping := true }
  else if c.state = 1 then s.setDma n { c with status := 0#32 }
  else s

/-- Clear: from Complete or Error to Idle, with the error fields and the interrupt cleared; the other channel may then run (14:R300,
R308). DESIGN CHOICE, unsafe: it deasserts nDMAEXTERRIRQ too (log 67). -/
def dmaClear (s : State) (n : Fin 2) : State :=
  let c := s.cp15.dma[n]
  if c.busy then s
  else dmaPromote (s.setDma n { c with status := 0#32, interrupt := false, walkAbort := false }) (n + 1)

/-! ### The engine (14:R305, R308, R309, 22:R1426 to R1431; log 34) -/

/-- The end of a transfer: Complete (14:R305), with the completion interrupt if it is wanted. -/
def DmaChannel.complete (c : DmaChannel) : DmaChannel :=
  { c with status := 3#32, intStart := c.curInt, extStart := c.curExt, stopping := false
           interrupt := c.interrupt || bit c.control 29 }

/-- The end of a channel's transfer: the other channel, if it is Queued, becomes Running (14:R308). -/
def dmaComplete (s : State) (n : Fin 2) : State := dmaPromote (s.setDma n s.cp15.dma[n].complete) (n + 1)

/-- The end of a transfer with an error of one side: the status says which, and that side's start address register has the address that
faulted (14:R308). The other one, and after an external error both, have the address of the first item that is not written, to restart
from (log 34). -/
def dmaFail (s : State) (n : Fin 2) (status : Word) (internalAt externalAt : Option Word) (external : Bool) : State :=
  let c := s.cp15.dma[n]
  s.setDma n { c with
    status := status ||| 3#32, intStart := internalAt.getD c.curInt, extStart := externalAt.getD c.curExt, stopping := false
    interrupt := c.interrupt || bit c.control 28 || s.dmaUser n
    walkAbort := c.walkAbort || external }

/-- The error field for an abort of a translation: the fault status with bit 4 set (14:R306). -/
def dmaErrorCode (cause : AbortCause) : Word := zext (cause.code ||| 0b10000#5)

/-- The internal and external error status (14:R306). -/
def internalError (cause : AbortCause) : Word := (dmaErrorCode cause <<< 2) ||| (ofBit (cause.external && cause.slverr) <<< 13)

/-- The external error status. -/
def externalError (cause : AbortCause) : Word := (dmaErrorCode cause <<< 7) ||| (ofBit (cause.external && cause.slverr) <<< 16)

/-- The translation of a DMA access, in the world that NSACR[18] says at the access (22:R1426, R1427). Where the mappings have changed
while the channel was busy, any mix of the old and the new ones is used (22:R1430, 92:D15; log 34). One location with two sets of
attributes is refused (20:R522, 93). -/
def dmaTranslate (s : State) (c : DmaChannel) (va : Word) (write : Bool) : Xlate (Translation × State) :=
  let ns := s.dmaBit
  let request (m : Cp15) : Request :=
    { mva := fcse (m.bank ns) va, ns := ns, privileged := !c.user, write := write, fetch := false, dma := true
      unaligned := false, asid := bits c.contextId 0 8 }
  let (m, s) := match s.oldMap with
    | [] => (s.cp15, s)
    | olds => drawFrom (Cp15.mixes olds s.cp15) s.cp15 s
  match translate m (m == s.cp15) (request m) s with
  | .ok (t, s) => if conflictingAttrs m t then .error (.refuse .attributesConflict) else .ok (t, s)
  | .error e => .error e

/-- Is this place in the TCMs that the channel's TR bit names? (14:R302) -/
def inTargetTcm (c : DmaChannel) (p : Place) : Bool :=
  match p with
  | .external | .nonSecure => false
  | .itcm _ => bit c.control 31
  | .dtcm _ => !bit c.control 31

/-- The bytes of one item at the addresses where an access of `n` bytes from `o` on stores them. -/
def dmaAddresses (s : State) (c : DmaChannel) (o : Nat) : List Nat := byteAddresses s.be32 o c.size

/-- The burst on the DMA port whose transfer `i` is the current access, for a group of items (23:R1482, R1490, 26:R1647): FIXED for a
stride of 0. A write drives all the group's bytes. -/
def dmaBus (s : State) (c : DmaChannel) (t : Translation) (write : Bool) (i : Nat) : BusRequest :=
  let fixed := c.stride == 0#32
  let start := if fixed then t.offset else t.offset - c.size * i
  let shape := { requestShape .dma write .normal t.attrs t.ns (!c.user) with prot := axProt (bit c.control 31) t.ns (!c.user) }
  { shape.burstOf (laneAddress s.be32 start c.size) c.group c.size (if fixed then .fixed else .incr)
      (byteAddresses s.be32 start (if fixed then c.size else c.size * c.group)) with
    data := if write then c.buffer.flatten else [] }

/-- The most items whose external accesses can be one burst: four, of which none lies beyond the end or in another KB; one, where the
stride is neither 0 nor the size, or BE-32 swaps the items (26:R1647; log 34). -/
def dmaMost (s : State) (c : DmaChannel) : Nat :=
  let left := min 4 ((c.intEnd - c.curInt).toNat / c.size)
  let last := c.curExt + c.stride * BitVec.ofNat 32 (left - 1)
  if (c.stride == 0#32 || c.stride.toNat == c.size) && !(s.be32 && c.size < 4) && bits last 10 22 == bits c.curExt 10 22 then left
  else 1

/-- The start of a group: of how many items, by a free choice; read bursts have one transfer or four (26:R1647; log 34). -/
def dmaGroup (s : State) (n : Fin 2) : State :=
  let c := s.cp15.dma[n]
  if c.group != 0 then s
  else
    let most := dmaMost s c
    let (w, s) := drawWord s
    let group := if bit c.control 30 then 1 + w.toNat % max most 1 else if most = 4 ∧ bit w 0 then 4 else 1
    s.setDma n { c with group := group, done := 0, buffer := [] }

/-- Have all items of the group been read, so that they are being written? -/
def DmaChannel.writing (c : DmaChannel) : Bool := c.buffer.length == c.group

/-- Which item of the group the next access is for. -/
def DmaChannel.item (c : DmaChannel) : Nat := if c.writing then c.done else c.buffer.length

/-- How many items further than the running addresses the next access is: reads go ahead of them. -/
def DmaChannel.ahead (c : DmaChannel) : Nat := if c.writing then 0 else c.buffer.length

/-- Moving the bytes of one access: a read, which gave `bytes`, adds them to the buffer, a write stores an item's bytes and goes on to
the next one (14:R305). -/
def dmaRead (s : State) (n : Fin 2) (bytes : List Byte) : State :=
  let c := s.cp15.dma[n]
  s.setDma n { c with buffer := c.buffer ++ [bytes] }

/-- The write of an item's bytes, which ends the item, and with the last one the group (14:R305). -/
def dmaStore (s : State) (n : Fin 2) (p : Place) (addresses : List Nat) : State :=
  let c := s.cp15.dma[n]
  let s := dmaWrite s p (addresses.zip (c.buffer.getD c.done []))
  let c := { c with curInt := c.curInt + BitVec.ofNat 32 c.size, curExt := c.curExt + c.stride }
  s.setDma n (if c.done + 1 < c.group then { c with done := c.done + 1 } else { c with group := 0, done := 0, buffer := [] })

/-- The access of the current item to the TCM, or its error (14:R304, R308). -/
def dmaInternal (s : State) (n : Fin 2) : Result State :=
  let c := s.cp15.dma[n]
  let va := c.curInt + BitVec.ofNat 32 (c.size * c.ahead)
  match dmaTranslate s c va c.writing with
  | .error (.refuse r) => .error (.refuse r)
  | .error (.abort cause s) => .ok (dmaFail s n (internalError cause) (some va) none cause.external)
  | .ok (t, s) =>
    let addresses := dmaAddresses s c t.offset
    if !inTargetTcm c t.place then .ok (dmaFail s n (0b01000#32 <<< 2) (some va) none false)
    else if t.table.type = .device then .error (.refuse .dmaUnpredictable)
    else .ok (if c.writing then dmaStore s n t.place addresses else dmaRead s n (addresses.map (s.byteAt t.place)))

/-- The access of the current item to the external memory, or its error (14:R308). -/
def dmaExternal (s : State) (n : Fin 2) : Result State :=
  let c := s.cp15.dma[n]
  let va := c.curExt + c.stride * BitVec.ofNat 32 c.ahead
  match dmaTranslate s c va c.writing with
  | .error (.refuse r) => .error (.refuse r)
  | .error (.abort cause s) => .ok (dmaFail s n (externalError cause) none (some va) cause.external)
  | .ok (t, s) =>
    if !t.place.isLevelTwo || (c.user && !t.attrs.shared) then .ok (dmaFail s n (0b01001#32 <<< 7) none (some va) false)
    else
      let r := dmaBus s c t c.writing c.item
      let addresses := dmaAddresses s c t.offset
      match transferError s.bus r c.item with
      | some e =>
        let (slverr, s) := errorBit e s
        .ok (dmaFail s n ((0b11010#32 <<< 7) ||| (ofBit slverr <<< 16)) none none true)
      | none =>
        if c.writing then .ok (dmaStore s n t.place addresses)
        else
          let (bytes, s) := readLevelTwo s t.place addresses
          .ok (dmaRead s n ((addresses.zip bytes).map fun (a, b) => (transferData s.bus r c.item a).getD b))

/-- The next access of a Running channel's group: reads of the one side, then writes of the other (22:R1431, 23:R1490). -/
def dmaAccess (s : State) (n : Fin 2) : Result State :=
  let s := dmaGroup s n
  let c := s.cp15.dma[n]
  if bit c.control 30 == c.writing then dmaExternal s n else dmaInternal s n

/-- The end of a transfer's items: Complete, if the Internal End Address lies in the TCM, as it must (14:R304, R305; log 34). -/
def dmaEnd (s : State) (n : Fin 2) : Result State :=
  let c := s.cp15.dma[n]
  match dmaTranslate s c c.intEnd (!bit c.control 30) with
  | .error (.refuse r) => .error (.refuse r)
  | .error (.abort cause s) => .ok (dmaFail s n (internalError cause) (some c.intEnd) none cause.external)
  | .ok (t, s) => .ok (if inTargetTcm c t.place then dmaComplete s n else dmaFail s n (0b01000#32 <<< 2) (some c.intEnd) none false)

/-- A Running channel goes on: it stops, completes, or makes one access. -/
def dmaRun (s : State) (n : Fin 2) : Result State :=
  let c := s.cp15.dma[n]
  if c.stopping then .ok (dmaComplete s n)
  else if c.curInt = c.intEnd then dmaEnd s n
  else dmaAccess s n

/-- Some accesses of the engine: those of the channel that is Running, if any. -/
def dmaMoves : Nat → State → Result State
  | 0, s => .ok s
  | n + 1, s => do
    if s.cp15.dma[0].state = 2 then
      let s ← dmaRun s 0
      dmaMoves n s
    else if s.cp15.dma[1].state = 2 then
      let s ← dmaRun s 1
      dmaMoves n s
    else .ok s

/-- The engine between two steps of the core: if a channel is Running or Queued, it makes any number of accesses (22:R1431; log 34). -/
def dmaStep (s : State) : Result State :=
  if s.cp15.dma[0].busy || s.cp15.dma[1].busy then
    let (moves, s) := drawWord s
    dmaMoves moves.toNat s
  else .ok s

/-- CP15 as a busy channel may go on using it: kept from before the change of the mappings (22:R1430). -/
def State.keepOldMap (s old : State) : State :=
  if (s.cp15.dma[0].busy || s.cp15.dma[1].busy) && !s.oldMap.contains old.cp15 then { s with oldMap := old.cp15 :: s.oldMap } else s

end Sys2Proof.Machine
end

