-- ==== Sys2Proof/Machine/Fetch.lean ====
section
/-! DEFINITION. Fetching the bytes of the next instruction (20:R507, R525, 21:R634, 70:R1322). -/

namespace Sys2Proof.Machine

open Sys2Proof

/-! ### What a fetch sees of a byte (20:R533; log 16) -/

/-- A byte, or one of some others by a free choice: where they do not differ there is no choice (92:D22, D23). -/
def chooseByte (now : Byte) : List Byte → State → Byte × State
  | [], s => (now, s)
  | b :: rest, s =>
    if b = now then chooseByte now rest s
    else
      let (other, s) := drawBit s
      if other then (b, s) else chooseByte now rest s

/-- The bytes that an instruction fetch may see in place of `now`: where the byte has been stored to since the last IMB, what it held
before and what it holds; and what a line of the Data Cache holds of it that has not been cleaned (20:R533, 92:D22). -/
def fetchAlternatives (s : State) (p : Place) (a : Nat) : List Byte :=
  let stale := s.stale.filter fun b => b.place = p && b.addr = a
  let uncleaned := (validLines s .data).filterMap fun l =>
    if l.tag.toNat = a / 32 * 32 ∧ levelTwoPlace s.bus l.ns l.tag = p ∧ l.dirtyAt (a % 32) then some (l.byteAt a) else none
  (if stale.isEmpty then [] else s.byteAt p a :: stale.map (·.old)) ++ uncleaned

/-- A byte of a place as an instruction fetch sees it, where the memory or the Instruction Cache gives `now` (20:R533). -/
def observeByte (s : State) (p : Place) (a : Nat) (now : Byte) : Byte × State := chooseByte now (fetchAlternatives s p a) s

/-- Bytes of a place, with what they hold, as an instruction fetch sees them. -/
def observeBytes (p : Place) : List (Nat × Byte) → State → List Byte × State
  | [], s => ([], s)
  | (a, now) :: rest, s =>
    let (b, s) := observeByte s p a now
    let (bs, s) := observeBytes p rest s
    (b :: bs, s)

/-! ### Fetching -/

/-- The address of the instruction at the pc: word aligned in ARM state, halfword aligned in Thumb state (20:R503, 10:R35). -/
def State.fetchAddress (s : State) : Word := alignFor s.thumb s.jazelle s.pc

/-- How many bytes an instruction has (10:R37). -/
def State.fetchSize (s : State) : Nat := if s.thumb then 2 else 4

/-- The request for the translation of a fetch, with these CP15 settings and this mode. -/
def fetchRequest (c : Cp15) (mode : BitVec 5) (s : State) : Request :=
  let ns := c.nonSecureIn mode
  let b := c.bank ns
  { mva := fcse b s.fetchAddress, ns := ns, privileged := mode != modeUsr, write := false, fetch := true, dma := false
    unaligned := false, asid := bits b.contextId 0 8 }

/-- The addresses of the instruction's bytes in its place, least significant first: in BE-32 a Thumb halfword is the other
one of its word (20:R507). -/
def fetchBytes (be32 thumb : Bool) (o : Nat) : List Nat :=
  if thumb then (let h := if be32 then o ^^^ 2 else o; [h, h + 1]) else [o, o + 1, o + 2, o + 3]

/-- Is the Instruction Cache looked up: on, for a cacheable fetch that no Instruction TCM serves? (22:R1423) -/
def icacheUsed (c : Cp15) (r : Request) (t : Translation) : Bool :=
  bit (c.control r.ns) 12 && t.place.isLevelTwo && t.attrs.cacheable

/-- What a fetch drives (23:R1484). -/
def fetchShape (r : Request) (t : Translation) : BusRequest := requestShape .instruction false .normal t.attrs t.ns r.privileged

/-- The linefill of the Instruction Cache for an address, from level two as the write buffer leaves it (22:R1433). -/
def fillInstruction (shape : BusRequest) (t : Translation) (be32 : Bool) (va : Word) (s : State) : State :=
  let (bytes, s) := readLevelTwo s t.place (lineBytes t.pa)
  fillLine s .instruction shape va t.pa t.ns be32 bytes

/-- The instruction prefetch of the line at `va`, by a free choice; whatever keeps the line from being fetched ends it (20:R525; log 16). -/
def prefetchLine (c : Cp15) (r : Request) (be32 : Bool) (va : Word) (s : State) : State :=
  let (wanted, s) := drawBit s
  if wanted then
    let r := { r with mva := fcse (c.bank r.ns) va }
    match translate c false r s with
    | .error _ => s
    | .ok (t, s) =>
      if icacheUsed c r t && linefillOn s .instruction t.ns && (findLine s .instruction va t.pa t.ns).isNone &&
          !heldElsewhere s .instruction va t.pa t.ns then
        fillInstruction (fetchShape r t) t be32 va s
      else s
  else s

/-- The two lines that may be prefetched ahead of the instruction: up to 64 bytes (20:R525). -/
def prefetchAhead (c : Cp15) (r : Request) (be32 : Bool) (s : State) : State :=
  prefetchLine c r be32 (s.fetchAddress + 64#32) (prefetchLine c r be32 (s.fetchAddress + 32#32) s)

/-- The bytes of the instruction, from the Instruction Cache, with a linefill, or past it, or the error of the bus; the page colouring
restriction broken is refused (22:R1423, 23:R1484). A byte that has been stored to since the last pipeline flush is the old or the
new one (20:R533). -/
def fetchAt (c : Cp15) (r : Request) (t : Translation) (s : State) : Result ((Except BusError (List Byte)) × State) :=
  let be32 := bit (c.control r.ns) 7
  let va := s.fetchAddress
  let addresses := fetchBytes be32 s.thumb t.offset
  let seen (l : List (Nat × Byte)) (s : State) : (Except BusError (List Byte)) × State :=
    let (bytes, s) := observeBytes t.place l s
    (.ok bytes, s)
  if icacheUsed c r t then
    match findLine s .instruction va t.pa t.ns with
    | some l => .ok (seen (addresses.map fun a => (a, l.byteAt a)) (prefetchAhead c r be32 s))
    | none =>
      if heldElsewhere s .instruction va t.pa t.ns then .error (.refuse .pageColouring)
      else
        let fills := linefillOn s .instruction t.ns
        let shape := fetchShape r t
        let rs := if fills then [linefillRequest shape t.offset] else [fetchRequestOf shape t.offset]
        let now := addresses.map fun a => (a, readData s.bus rs a (s.byteAt t.place a))
        let s' := if fills then prefetchAhead c r be32 (fillInstruction shape t be32 va s) else s
        match wantedError s.bus rs addresses with
        | some (_, e) => .ok (.error e, s')
        | none => .ok (seen now s')
  else
    let rs := if t.place.isLevelTwo then [fetchRequestOf (fetchShape r t) t.offset] else []
    match wantedError s.bus rs addresses with
    | some (_, e) => .ok (.error e, s)
    | none => .ok (seen (addresses.map fun a => (a, readData s.bus rs a (s.byteAt t.place a))) s)

/-- Fetching with these CP15 settings and this mode: the bytes, or the Prefetch Abort (60:R1217). -/
def fetchWith (c : Cp15) (mode : BitVec 5) (record : Bool) (s : State) : Result (List Byte × State) :=
  let r := fetchRequest c mode s
  match translate c record r s with
  | .error (.refuse x) => .error (.refuse x)
  | .error (.abort cause s') => .error (.taken (takePrefetchAbort cause r.mva s'))
  | .ok (t, s) => do
    refuseIf (conflictingAttrs c t) .attributesConflict
    match ← fetchAt c r t s with
    | (.ok bytes, s) => pure (bytes, s)
    | (.error e, s) =>
      let (slverr, s) := errorBit e s
      .error (.taken (takePrefetchAbort { code := 0b01000#5, domain := t.domain, external := true, slverr := slverr } r.mva s))

/-- Fetching the next instruction: with the settings of now, or, where that makes a difference to the bytes, with any mix of them and
those that were changed since the last pipeline flush (92:D43; log 17). -/
def fetch (s : State) : Result (List Byte × State) :=
  let now := fetchWith s.cp15 s.mode true s
  match s.oldFetch with
  | [] => now
  | _ :: _ =>
    if s.fetchSettings.all fun o => sameBytes (fetchWith o.cp15 o.mode false s) now then now
    else
      let (o, s) := drawFrom s.fetchSettings s.settings s
      fetchWith o.cp15 o.mode (o == s.settings) s
where
  /-- Have both fetches given the same bytes? -/
  sameBytes : Result (List Byte × State) → Result (List Byte × State) → Bool
    | .ok x, .ok y => x.1 == y.1
    | _, _ => false

end Sys2Proof.Machine
end

