-- ==== Sys2Proof/Machine/Cp15Cache.lean ====
section
/-! DEFINITION. The operations of CP15 c7 and c8: cache maintenance, the barriers, VA to PA translation, TLB maintenance (13:R220 to
R256). -/

namespace Sys2Proof.Machine

open Sys2Proof

/-! ### Whole caches (13:R229, R231, R238) -/

/-- Does an operation of the current world reach lines with this NS Tag? (13:R231, R233) -/
def reachesTag (s : State) (ns : Bool) : Bool := !s.nsState || ns

/-- The Cache Dirty Status after an operation on the entire Data Cache (13:R238). -/
def clearDirty (s : State) : State :=
  let c := s.cp15
  let c := { c with nonSecure := { c.nonSecure with cacheDirty := false } }
  { s with cp15 := if s.nsState then c else { c with secure := { c.secure with cacheDirty := false } } }

/-- The Instruction Cache has been invalidated at the written bytes that a test selects: that part of their IMB sequence is done, if a
Data Synchronization Barrier came before it (20:R533). -/
def fetchInvalidated (reaches : StaleByte → Bool) (s : State) : State :=
  { s with stale := s.stale.map fun b => { b with invalidated := b.invalidated || (b.synced && reaches b) } }

/-- Invalidate Entire Instruction Cache, of both worlds (13:R231). The Master Valid registers keep their value (log 61). -/
def invalidateInstructionCache (s : State) : State := fetchInvalidated (fun _ => true) (invalidateLines .instruction (fun _ => true) s)

/-- Invalidate Entire Data Cache, of the Secure world (13:R231): what is dirty is lost. -/
def invalidateDataCache (s : State) : State := clearDirty (invalidateLines .data (fun _ => true) s)

/-- Clean Entire Data Cache (13:R229, R231). -/
def cleanDataCache (s : State) : State := clearDirty (cleanLines (fun l => reachesTag s l.ns) s)

/-- Clean and Invalidate Entire Data Cache. -/
def cleanInvalidateDataCache (s : State) : State :=
  clearDirty (invalidateLines .data (fun l => reachesTag s l.ns) (cleanLines (fun l => reachesTag s l.ns) s))

/-! ### Lines (13:R224, R225, R232 to R236, 21:R641) -/

/-- What is done to the lines. -/
inductive LineOp where
  | invalidateInstruction
  | invalidateData
  | cleanData
  | cleanInvalidateData
  | prefetchInstruction
  deriving DecidableEq, Repr

/-- Is this an operation on the Instruction Cache? -/
def LineOp.instruction : LineOp → Bool
  | .invalidateInstruction | .prefetchInstruction => true
  | .invalidateData | .cleanData | .cleanInvalidateData => false

/-- The cache that it is on. -/
def LineOp.side (op : LineOp) : CacheSide := if op.instruction then .instruction else .data

/-- What is done to the lines that a test selects; the prefetch of a line is `prefetchByMva`. -/
def maintain (op : LineOp) (selects : CacheLine → Bool) (s : State) : State :=
  match op with
  | .invalidateInstruction => invalidateLines .instruction selects s
  | .invalidateData => invalidateLines .data selects s
  | .cleanData => cleanLines selects s
  | .cleanInvalidateData => invalidateLines .data selects (cleanLines selects s)
  | .prefetchInstruction => s

/-- Is a written byte one whose line lies in this set of the Instruction Cache, and in none of its ways any more? -/
def goneFromSet (s : State) (set : Nat) (b : StaleByte) : Bool :=
  b.addr / 32 % cacheSets s .instruction == set && !s.icache.any fun l => l.tag.toNat == b.addr / 32 * 32

/-- An operation on a line by Set and Index: the way in Rd[31:30], the index above bit 5 (13:R224, R233). -/
def lineByIndex (op : LineOp) (v : Word) (s : State) : State :=
  let set := v.toNat / 32 % cacheSets s op.side
  let s := maintain op (fun l => l.way == (bits v 30 2).toNat && l.set == set && reachesTag s l.ns) s
  if op = .invalidateInstruction then fetchInvalidated (goneFromSet s set) s else s

/-- The physical address of an MVA, its NS attribute and its memory attributes: with the MMU on, by the TLB or a walk. No permission is
checked. -/
def lineOf (mva : Word) (s : State) : Xlate ((Word × Bool × MemAttrs) × State) :=
  let ns := s.nsState
  if bit (s.cp15.control ns) 0 then do
    let r : Request := { mva := mva, ns := ns, privileged := true, write := false, fetch := false, dma := false
                         unaligned := false, asid := bits (s.cp15.bank ns).contextId 0 8 }
    let (e, s) ← findEntry s.cp15 true r s
    let a := descriptorAttrs s.cp15 ns (bits e.attr 3 3) (bit e.attr 2) (bit e.attr 1) (bit e.attr 0)
    pure ((e.physical mva, bit e.pa 9, a.getD .stronglyOrdered), s)
  else pure ((mva, ns, flatAttrs s.cp15 ns true), s)

/-- A Data Abort for a translation that a cache operation could not get (21:R641): for an Instruction Cache operation the DFSR
says so and the IFSR gives the reason. The IFAR has the address of the instruction. DESIGN CHOICE, unsafe: the DFSR says a read
(log 66). -/
def cacheOpAbort (op : LineOp) (cause : AbortCause) (mva : Word) (s : State) : State :=
  let ns := abortBank s cause
  let b := s.cp15.bank ns
  let b := { b with ifar := s.mva s.pc, ifsr := if op.instruction then instrFaultStatus cause else b.ifsr }
  let s := { s with cp15 := s.cp15.setBank ns b }
  takeDataAbort (if op.instruction then { cause with code := 0b00100#5, domain := none, slverr := false } else cause) mva false s

/-- Prefetch Instruction Cache Line: a line that the cache does not hold is filled, if the location is cacheable (13:R232, R259; log 61).
DESIGN CHOICE, unsafe: it is filled from level two also where an Instruction TCM covers the address, whose fetches fill no line, and also
with the Instruction Cache off (I = 0), where 13:R223 says only that the effect depends on I (log 61). -/
def prefetchByMva (mva pa : Word) (ns : Bool) (attrs : MemAttrs) (s : State) : State :=
  if attrs.cacheable && linefillOn s .instruction ns && (findLine s .instruction mva pa ns).isNone &&
      !heldElsewhere s .instruction mva pa ns then
    let t : Translation := { pa := pa, ns := ns, attrs := attrs, table := attrs, place := levelTwoPlace s.bus ns pa
                             offset := pa.toNat, domain := none }
    fillInstruction (requestShape .instruction false .normal attrs ns true) t s.be32 mva s
  else s

/-- The effect on the line of an MVA, of which the physical address, the NS attribute and the memory attributes are given. -/
def lineEffect (op : LineOp) (mva pa : Word) (ns : Bool) (attrs : MemAttrs) (s : State) : State :=
  if op = .prefetchInstruction then prefetchByMva mva pa ns attrs s
  else
    let s' := maintain op (fun l => l.set == cacheIndex s op.side mva && l.tag == lineAddress pa && l.ns == ns) s
    if op = .invalidateInstruction then
      fetchInvalidated (fun b => b.place == levelTwoPlace s.bus ns pa && b.addr / 32 == pa.toNat / 32) s'
    else s'

/-- An operation on the line of an MVA. -/
def lineByMva (op : LineOp) (mva : Word) (s : State) : Result State :=
  match lineOf mva s with
  | .error (.refuse r) => .error (.refuse r)
  | .error (.abort cause s') => .error (.taken (cacheOpAbort op cause mva s'))
  | .ok ((pa, ns, attrs), s) => .ok (if reachesTag s ns then lineEffect op mva pa ns attrs s else s)

/-- An operation on `n` lines from an address on; ranges are of VAs, which the FCSE translates (13:R234). -/
def lineRange (op : LineOp) : Nat → Word → State → Result State
  | 0, _, s => .ok s
  | n + 1, va, s => do
    let s ← lineByMva op (s.mva va) s
    lineRange op n (va + 32#32) s

/-- A range operation (13:R234): bits [31:5] of the addresses count, and nothing is done if the start is greater than the end
(13:R235). -/
def rangeOp (op : LineOp) (start stop : Word) (s : State) : Result State :=
  let first := start.toNat / 32
  let last := stop.toNat / 32
  if last < first then .ok s
  else lineRange op (last + 1 - first) (start &&& 0xFFFFFFE0#32) s

/-! ### Barriers (13:R248 to R250, 15:R412) -/

/-- A Data Memory Barrier: every explicit access is complete; in Debug state DSCR[19] becomes 1. -/
def barrier (s : State) : State :=
  let s := completeAccesses s
  if s.halted then { s with dbg := { s.dbg with dscr := setBit s.dbg.dscr 19 true } } else s

/-- A Data Synchronization Barrier: the same, and a step of the IMB sequence (20:R531, R533). -/
def syncBarrier (s : State) : State := barrier { s with stale := s.stale.map fun b => { b with synced := true } }

/-! ### VA to PA translation (13:R242 to R247) -/

/-- The INNER field of the PA Register (13:R243). -/
def innerCode (a : MemAttrs) : Word :=
  match a.type with
  | .stronglyOrdered => 1#32
  | .device => 3#32
  | .normal => if a.inner = 0#2 then 0#32 else if a.inner = 2#2 then 6#32 else 7#32

/-- The PA Register after a translation (13:R243). -/
def paSuccess (t : Translation) : Word :=
  (t.pa &&& 0xFFFFFC00#32) ||| (ofBit t.ns <<< 9) ||| (ofBit t.attrs.shared <<< 7) ||| (innerCode t.attrs <<< 4) |||
    (if t.attrs.type == .normal then zext t.attrs.outer <<< 2 else 0#32)

/-- The PA Register after an aborted translation: FSR[12,10,3:0] over 1 (13:R244). -/
def paFailure (c : AbortCause) : Word := (ofBit c.slverr <<< 6) ||| (zext c.code <<< 1) ||| 1#32

/-- Writing a world's PA Register. -/
def setPa (ns : Bool) (v : Word) (s : State) : State :=
  { s with cp15 := s.cp15.setBank ns { s.cp15.bank ns with par := v } }

/-- A VA to PA operation with the tables and settings of world `ns`; the copy of the issuing world gets the result. An external
abort on the walk is taken, any other is only reported (13:R245 to R247). -/
def vaToPa (ns user write : Bool) (va : Word) (s : State) : Result State :=
  let b := s.cp15.bank ns
  let issuer := s.nsState
  let mva := fcse b va
  let r : Request := { mva := mva, ns := ns, privileged := !user, write := write, fetch := false, dma := false, unaligned := false,
                       asid := bits b.contextId 0 8 }
  match translate s.cp15 true r s with
  | .ok (t, s) => .ok (setPa issuer (paSuccess t) s)
  | .error (.refuse x) => .error (.refuse x)
  | .error (.abort c s) =>
    let s := setPa issuer (paFailure c) s
    if c.external then .error (.taken (takeDataAbort c mva write s)) else .ok s

/-- What software may write to the PA Register: the fields of its two formats (13:R243, R244). -/
def paMask (v : Word) : Word := if bit v 0 then v &&& 0x0000007F#32 else v &&& 0xFFFFFEFC#32

/-! ### TLB maintenance (13:R251 to R256) -/

/-- Invalidate unlocked entries of a world: the prefetch buffer is flushed too (13:R252). -/
def invalidateTlb (ns : Bool) (s : State) : State :=
  ((flushMicro { s with cp15 := { s.cp15 with tlbMain := s.cp15.tlbMain.filter fun e => bit e.pa 8 != ns } }).keepOldMap s).syncFetch

/-- Invalidating the entries, locked ones too, that a test selects; fetches may use them until the next flush (13:R253). -/
def invalidateEntries (selects : TlbEntry → Bool) (s : State) : State :=
  let clear (e : TlbEntry) : TlbEntry := if selects e then { e with pa := setBit e.pa 0 false } else e
  let s' := flushMicro { s with cp15 := { s.cp15 with
    tlbMain := s.cp15.tlbMain.filter fun e => !selects e
    tlbLocked := s.cp15.tlbLocked.map clear } }
  (s'.keepOldFetch s).keepOldMap s

/-- Invalidate an entry by MVA and ASID: a global one by MVA alone (13:R254). -/
def invalidateByMva (ns : Bool) (v : Word) (s : State) : State :=
  invalidateEntries (fun e => e.covers (v &&& 0xFFFFF000#32) ns && (bit e.va 9 || bits e.va 0 8 == bits v 0 8)) s

/-- Invalidate on ASID match: not the global ones (13:R255). -/
def invalidateByAsid (ns : Bool) (v : Word) (s : State) : State :=
  invalidateEntries (fun e => bit e.pa 8 == ns && !bit e.va 9 && bits e.va 0 8 == bits v 0 8) s

end Sys2Proof.Machine
end

