-- ==== Sys2Proof/Machine/Cp15.lean ====
section
/-! DEFINITION. The registers of the system control coprocessor CP15 as MRC, MCR and MCRR reach them (11 to 14): who may, what is
read, what a write changes. A register number is (Opcode_1, CRn, CRm, Opcode_2); one that is not named here is Undefined
(11:R105, R131). -/

namespace Sys2Proof.Machine

open Sys2Proof

/-! ### Who may (11:R102 to R109) -/

/-- Privileged access to CP15; a debugger that may write the mode bits has it in any mode (11:R102, 15:R408). -/
def State.cp15Privileged (s : State) : Bool := s.privileged || (s.halted && (s.nsState || s.pins.spiden))

/-- Undefined unless the condition holds. -/
def require (c : Bool) (s : State) : Result Unit := if c then .ok () else undefined s

/-- CP15SDISABLE on a privileged write of a banked register: in Secure Monitor mode, or with NS = 0 (10:R63). -/
def lockedBanked (s : State) : Bool := s.pins.cp15sdisable && !s.nsState

/-- CP15SDISABLE on a write of a register that has one copy: Secure and privileged (10:R63, 14:R329). DESIGN CHOICE, unsafe: with V = 1 a
write of a System Validation register in User mode or the Non-secure world is not locked, although 11:R109 speaks of any MCR
(log 68). -/
def lockedSingle (s : State) : Bool := s.pins.cp15sdisable && !s.nsState && s.cp15Privileged

/-- The copies that an access reaches: those that SCR.NS selects (11:R107). -/
def State.bank (s : State) : Cp15Bank := s.cp15.bank s.cp15.nsBit

/-- Replacing them. -/
def State.setBank (s : State) (b : Cp15Bank) : State := { s with cp15 := s.cp15.setBank s.cp15.nsBit b }

/-! ### c0: identification (11:R112 to R130) -/

/-- log2 of a size in KB and 1: the Size code of the Cache Type Register. -/
def cacheSizeCode (kb : Nat) : Word :=
  if kb = 4 then 3 else if kb = 8 then 4 else if kb = 16 then 5 else if kb = 32 then 6 else 7

/-- One half of the Cache Type Register (11:R114). -/
def cacheTypeHalf (kb : Nat) : Word :=
  (if 16 < kb then 0x800#32 else 0#32) ||| (cacheSizeCode kb <<< 6) ||| 0x12#32

/-- Main ID (11:R112). -/
def mainId (s : State) : Word := 0x410FB760#32 + BitVec.ofNat 32 s.impl.revisionMinor

/-- Cache Type: Ctype = 0b1110, S = 1, the two halves (11:R114 and 90:C5, which give 0x1D152152 for 16 KB; the formula in R114 leaves S
out: log 42). -/
def cacheType (s : State) : Word :=
  0x1D000000#32 ||| (cacheTypeHalf s.impl.dcacheKB <<< 12) ||| cacheTypeHalf s.impl.icacheKB

/-- TCM Status (11:R115). -/
def tcmStatus (s : State) : Word :=
  (BitVec.ofNat 32 (tcmBanks s.impl.dtcmKB) <<< 16) ||| BitVec.ofNat 32 (tcmBanks s.impl.itcmKB)

/-- The c0 registers; none is written. -/
def readC0 (crm opc2 : Nat) (s : State) : Result Word := do
  require s.cp15Privileged s
  match crm, opc2 with
  | 0, 0 => .ok (mainId s)
  | 0, 1 => .ok (cacheType s)
  | 0, 2 => .ok (tcmStatus s)
  | 0, 3 => .ok 0x00000800#32
  | 0, _ => .ok (mainId s)
  | 1, 0 => .ok 0x00000111#32
  | 1, 1 => .ok 0x00000011#32
  | 1, 2 => .ok 0x00000033#32
  | 1, 3 => .ok 0x00000000#32
  | 1, 4 => .ok 0x01130003#32
  | 1, 5 => .ok 0x10030302#32
  | 1, 6 => .ok 0x01222100#32
  | 1, 7 => .ok 0x00000000#32
  | 2, 0 => .ok 0x00140011#32
  | 2, 1 => .ok 0x12002111#32
  | 2, 2 => .ok 0x11231121#32
  | 2, 3 => .ok 0x01102131#32
  | 2, 4 => .ok 0x00001141#32
  | 2, 5 => .ok 0x00000000#32
  | _, _ => undefined s

/-! ### Cache Master Valid (14:R334) -/

/-- The implemented Master Valid bits of one register: one for 256 bytes of cache. -/
def masterValidMask (kb n : Nat) : Word :=
  let total := kb * 4
  if 32 * (n + 1) ≤ total then 0xFFFFFFFF#32
  else if 32 * n < total then BitVec.ofNat 32 (2 ^ (total - 32 * n) - 1)
  else 0#32

/-! ### c1: control (12:R150 to R165) -/

/-- The banked bits of the Control Register (12:R150). -/
def controlBankedMask : Word := 0x33C03B07#32

/-- The bits that only the Secure world modifies: FI, L4, RR, B. -/
def controlSecureMask : Word := 0x0020C080#32

/-- IT and DT. -/
def controlTcmMask : Word := 0x00050000#32

/-- A write of the Control Register (12:R151). -/
def writeControl (v : Word) (s : State) : State :=
  let mask := if s.nsState then controlTcmMask else controlSecureMask ||| controlTcmMask
  let s' := s.setBank { s.bank with control := v &&& controlBankedMask }
  { s' with cp15 := { s'.cp15 with controlShared := mergeBits s'.cp15.controlShared v mask } }

/-- A mask of the two-bit fields of the coprocessors that satisfy a condition. -/
def copFields (p : Nat → Bool) : Word :=
  (List.range 14).foldl (fun m n => if p n then m ||| (3#32 <<< (2 * n)) else m) 0#32

/-- Does a coprocessor exist? (12:R158) -/
def copExists (s : State) (n : Nat) : Bool := n == 10 || n == 11 || s.impl.extCoprocessors.contains n

/-- The fields of the Coprocessor Access Control Register that the current world reaches (12:R157). -/
def cpacrMask (s : State) : Word := copFields fun n => copExists s n && (!s.nsState || bit s.cp15.nsacr n)

/-- c1. -/
def readC1 (crm opc2 : Nat) (s : State) : Result Word := do
  require s.cp15Privileged s
  match crm, opc2 with
  | 0, 0 => .ok (s.cp15.control s.cp15.nsBit)
  | 0, 1 => .ok s.cp15.auxControl
  | 0, 2 => .ok (s.cp15.cpacr &&& cpacrMask s)
  | 1, 0 => do require (!s.nsState) s; .ok s.cp15.scr
  | 1, 1 => do require (!s.nsState) s; .ok s.cp15.sder
  | 1, 2 => .ok s.cp15.nsacr
  | _, _ => undefined s

/-- c1. What changes fetching may take effect later (70:R1322). -/
def writeC1 (crm opc2 : Nat) (v : Word) (s : State) : Result State := do
  require s.cp15Privileged s
  match crm, opc2 with
  | 0, 0 => do
    require (!lockedBanked s) s
    .ok (((writeControl v s).keepOldFetch s).keepOldMap s)
  | 0, 1 => do
    require (!s.nsState) s
    .ok { s with cp15 := { s.cp15 with auxControl := v &&& 0xF000007F#32 } }
  | 0, 2 => .ok ({ s with cp15 := { s.cp15 with cpacr := mergeBits s.cp15.cpacr v (cpacrMask s) } }.keepOldFetch s)
  | 1, 0 => do
    require (!s.nsState) s
    let s' := { s with cp15 := { s.cp15 with scr := v &&& 0x0000003F#32 } }
    .ok (if s'.nsState = s.nsState then s' else s'.keepOldFetch s)
  | 1, 1 => do
    require (!s.nsState) s
    .ok { s with cp15 := { s.cp15 with sder := v &&& 0x00000003#32 } }
  | 1, 2 => do
    require (!s.nsState) s
    .ok ({ s with cp15 := { s.cp15 with nsacr := v &&& 0x00073FFF#32 } }.keepOldFetch s)
  | _, _ => undefined s

/-! ### c2, c3, c5, c6: tables, domains, faults (12:R166 to R179) -/

/-- c2. -/
def readC2 (crm opc2 : Nat) (s : State) : Result Word := do
  require s.cp15Privileged s
  match crm, opc2 with
  | 0, 0 => .ok s.bank.ttbr0
  | 0, 1 => .ok s.bank.ttbr1
  | 0, 2 => .ok s.bank.ttbcr
  | _, _ => undefined s

/-- c2. The P bit is 0 on this processor (12:R166). -/
def writeC2 (crm opc2 : Nat) (v : Word) (s : State) : Result State := do
  require s.cp15Privileged s
  let b := s.bank
  match crm, opc2 with
  | 0, 0 => do
    require (!lockedBanked s) s
    .ok (((s.setBank { b with ttbr0 := v &&& 0xFFFFFF9B#32 }).keepOldFetch s).keepOldMap s)
  | 0, 1 => .ok (((s.setBank { b with ttbr1 := v &&& 0xFFFFC01B#32 }).keepOldFetch s).keepOldMap s)
  | 0, 2 => do
    require (!lockedBanked s) s
    .ok (((s.setBank { b with ttbcr := v &&& 0x00000037#32 }).keepOldFetch s).keepOldMap s)
  | _, _ => undefined s

/-- c3: Domain Access Control (12:R172). -/
def readC3 (crm opc2 : Nat) (s : State) : Result Word := do
  require s.cp15Privileged s
  match crm, opc2 with
  | 0, 0 => .ok s.bank.dacr
  | _, _ => undefined s

/-- c3. -/
def writeC3 (crm opc2 : Nat) (v : Word) (s : State) : Result State := do
  require s.cp15Privileged s
  match crm, opc2 with
  | 0, 0 => do
    require (!lockedBanked s) s
    .ok (((s.setBank { s.bank with dacr := v }).keepOldFetch s).keepOldMap s)
  | _, _ => undefined s

/-- c5: fault status (12:R173, R176). -/
def readC5 (crm opc2 : Nat) (s : State) : Result Word := do
  require s.cp15Privileged s
  match crm, opc2 with
  | 0, 0 => .ok s.bank.dfsr
  | 0, 1 => .ok s.bank.ifsr
  | _, _ => undefined s

/-- c5. -/
def writeC5 (crm opc2 : Nat) (v : Word) (s : State) : Result State := do
  require s.cp15Privileged s
  match crm, opc2 with
  | 0, 0 => .ok (s.setBank { s.bank with dfsr := v &&& 0x00001CFF#32 })
  | 0, 1 => .ok (s.setBank { s.bank with ifsr := v &&& 0x0000100F#32 })
  | _, _ => undefined s

/-- c6: fault addresses (12:R177 to R179). The WFAR is the CP14 register (92:D7). -/
def readC6 (crm opc2 : Nat) (s : State) : Result Word := do
  require s.cp15Privileged s
  match crm, opc2 with
  | 0, 0 => .ok s.bank.far
  | 0, 1 => do require (!s.nsState) s; .ok s.dbg.wfar
  | 0, 2 => .ok s.bank.ifar
  | _, _ => undefined s

/-- c6. -/
def writeC6 (crm opc2 : Nat) (v : Word) (s : State) : Result State := do
  require s.cp15Privileged s
  match crm, opc2 with
  | 0, 0 => .ok (s.setBank { s.bank with far := v })
  | 0, 1 => do require (!s.nsState) s; .ok { s with dbg := { s.dbg with wfar := v } }
  | 0, 2 => .ok (s.setBank { s.bank with ifar := v })
  | _, _ => undefined s

/-! ### c7 and c8: operations (13:R220 to R256) -/

/-- c7: the PA Register and the Cache Dirty Status are read (13:R221). -/
def readC7 (crm opc2 : Nat) (s : State) : Result Word := do
  require s.cp15Privileged s
  match crm, opc2 with
  | 4, 0 => .ok s.bank.par
  | 10, 6 => .ok (ofBit s.bank.cacheDirty)
  | _, _ => undefined s

/-- May Invalidate Entire Instruction Cache be used? (13:R231) -/
def mayInvalidateInstruction (s : State) : Bool := !s.nsState || bit s.cp15.nsacr 16

/-- Wait For Interrupt (13:R250): standby, after a Data Synchronization Barrier. The debugger's is a barrier only (log 35). -/
def waitForInterrupt (s : State) : State := if s.halted then syncBarrier s else { syncBarrier s with standby := true }

/-- c7 (13:R220 to R223). The operations of R222 are for User mode too; the unified cache operations have no effect (92:D8). DESIGN
CHOICE, unsafe: RA = 1 disables Clean Entire Data Cache alone, and not Clean and Invalidate Entire Data Cache, which 11:R110 marks X
as well (12:R155, 13:R223; log 69). -/
def writeC7 (crm opc2 : Nat) (v : Word) (s : State) : Result State :=
  match crm, opc2 with
  | 5, 4 => .ok s.syncFetch
  | 10, 4 => .ok (syncBarrier s)
  | 10, 5 => .ok (barrier s)
  | 5, 6 => do require (s.cp15Privileged || s.halted) s; .ok s
  | _, _ => do
    require s.cp15Privileged s
    match crm, opc2 with
    | 0, 4 => .ok (waitForInterrupt s)
    | 4, 0 => .ok (s.setBank { s.bank with par := paMask v })
    | 5, 0 => do require (mayInvalidateInstruction s) s; .ok (invalidateInstructionCache s)
    | 5, 1 => lineByMva .invalidateInstruction v s
    | 5, 2 => .ok (lineByIndex .invalidateInstruction v s)
    | 5, 7 => .ok s
    | 6, 0 => do require (!s.nsState) s; .ok (invalidateDataCache s)
    | 6, 1 => lineByMva .invalidateData v s
    | 6, 2 => .ok (lineByIndex .invalidateData v s)
    | 7, 0 => do require (!s.nsState) s; .ok (invalidateInstructionCache (invalidateDataCache s))
    | 7, _ => .ok s
    | 8, 0 => vaToPa s.nsState false false v s
    | 8, 1 => vaToPa s.nsState false true v s
    | 8, 2 => vaToPa s.nsState true false v s
    | 8, 3 => vaToPa s.nsState true true v s
    | 8, 4 => do require (!s.nsState) s; vaToPa true false false v s
    | 8, 5 => do require (!s.nsState) s; vaToPa true false true v s
    | 8, 6 => do require (!s.nsState) s; vaToPa true true false v s
    | 8, 7 => do require (!s.nsState) s; vaToPa true true true v s
    | 10, 0 => do require (!bit s.cp15.auxControl 4) s; .ok (cleanDataCache s)
    | 10, 1 => lineByMva .cleanData v s
    | 10, 2 => .ok (lineByIndex .cleanData v s)
    | 11, _ => .ok s
    | 13, 1 => lineByMva .prefetchInstruction v s
    | 14, 0 => .ok (cleanInvalidateDataCache s)
    | 14, 1 => lineByMva .cleanInvalidateData v s
    | 14, 2 => .ok (lineByIndex .cleanInvalidateData v s)
    | 15, _ => .ok s
    | _, _ => undefined s

/-- c8: TLB operations on the entries of the world that issues them; all three TLBs are one (13:R251, R256; log 51). -/
def writeC8 (crm opc2 : Nat) (v : Word) (s : State) : Result State := do
  require (s.cp15Privileged && (crm == 5 || crm == 6 || crm == 7)) s
  match opc2 with
  | 0 => .ok (invalidateTlb s.nsState s)
  | 1 => .ok (invalidateByMva s.nsState v s)
  | 2 => .ok (invalidateByAsid s.nsState v s)
  | _ => undefined s

/-! ### c9 and c10: lockdown, TCMs, remap (13:R257 to R277) -/

/-- The TCM that the current world's Selection Register selects (13:R265). -/
def selectedTcm (s : State) : Fin 2 := Fin.ofNat 2 (bits (s.cp15.bank s.nsState).tcmSelect 0 1).toNat

/-- The NS access bit of the selected TCM (13:R263). -/
def tcmNsAccess (data : Bool) (s : State) : Bool :=
  if data then s.cp15.dtcmNsAccess[selectedTcm s] else s.cp15.itcmNsAccess[selectedTcm s]

/-- Does the selected TCM exist? (13:R266) -/
def tcmExists (data : Bool) (s : State) : Bool :=
  (selectedTcm s).val < tcmBanks (if data then s.impl.dtcmKB else s.impl.itcmKB)

/-- A write of the TCM Selection Register: a TCM that exists on neither side is not selected (13:R265). -/
def selectTcm (i : Implementation) (v : Word) (old : Word) : Word :=
  let n := bits v 0 2
  if n = 0#2 then 0#32
  else if n = 1#2 && (tcmBanks i.dtcmKB == 2 || tcmBanks i.itcmKB == 2) then 1#32
  else old

/-- A TCM Region Register (13:R260 to R262, R266). -/
def readTcmRegion (data : Bool) (s : State) : Result Word := do
  require (!s.nsState || tcmNsAccess data s) s
  .ok (if tcmExists data s then (if data then s.cp15.dtcmRegion[selectedTcm s] else s.cp15.itcmRegion[selectedTcm s]) else 0#32)

/-- Is a DMA channel running? -/
def dmaRuns (s : State) : Bool := s.cp15.dma[0].state == 2 || s.cp15.dma[1].state == 2

/-- Writing a TCM Region Register: the size is kept; CP15SDISABLE protects a Secure TCM's and no other, as 10:R63 says against 13:R262
(DESIGN CHOICE, unsafe: log 72; 13:R260). DESIGN CHOICE, unsafe: the
bits of the base below the TCM's size, which are ignored, read back as written (log 70). -/
def writeTcmRegion (data : Bool) (v : Word) (s : State) : Result State := do
  require ((!s.nsState || tcmNsAccess data s) && !(lockedSingle s && !tcmNsAccess data s)) s
  refuseIf (dmaRuns s) .tcmRegionDuringDma
  let i := selectedTcm s
  let new (old : Word) := mergeBits old v 0xFFFFF001#32
  let s' :=
    if !tcmExists data s then s
    else if data then { s with cp15 := { s.cp15 with dtcmRegion := s.cp15.dtcmRegion.set i (new s.cp15.dtcmRegion[i]) } }
    else { s with cp15 := { s.cp15 with itcmRegion := s.cp15.itcmRegion.set i (new s.cp15.itcmRegion[i]) } }
  .ok (s'.keepOldFetch s)

/-- Writing a TCM Non-secure Control Access Register (13:R263). DESIGN CHOICE, unsafe: that of a TCM that does not exist ignores writes and
reads as zero (log 72). -/
def writeTcmNsAccess (data : Bool) (v : Word) (s : State) : Result State := do
  require (!s.nsState && !lockedSingle s) s
  let i := selectedTcm s
  let s' :=
    if !tcmExists data s then s
    else if data then { s with cp15 := { s.cp15 with dtcmNsAccess := s.cp15.dtcmNsAccess.set i (bit v 0) } }
    else { s with cp15 := { s.cp15 with itcmNsAccess := s.cp15.itcmNsAccess.set i (bit v 0) } }
  .ok (s'.keepOldFetch s)

/-- May the cache lockdown registers be reached? NSACR.CL (13:R257). -/
def mayLockCache (s : State) : Bool := !s.nsState || bit s.cp15.nsacr 16

/-- The bits of the Cache Behavior Override Register that the current world reaches (13:R267). -/
def behaviorMask (s : State) : Word := if s.nsState then 0x00000007#32 else 0x0000003F#32

/-- c9. -/
def readC9 (crm opc2 : Nat) (s : State) : Result Word := do
  require s.cp15Privileged s
  match crm, opc2 with
  | 0, 0 => do require (mayLockCache s) s; .ok s.cp15.dLockdown
  | 0, 1 => do require (mayLockCache s) s; .ok s.cp15.iLockdown
  | 1, 0 => readTcmRegion true s
  | 1, 1 => readTcmRegion false s
  | 1, 2 => do require (!s.nsState) s; .ok (ofBit (tcmNsAccess true s))
  | 1, 3 => do require (!s.nsState) s; .ok (ofBit (tcmNsAccess false s))
  | 2, 0 => .ok s.bank.tcmSelect
  | 8, 0 => .ok (s.cp15.cacheBehavior &&& behaviorMask s)
  | _, _ => undefined s

/-- c9. -/
def writeC9 (crm opc2 : Nat) (v : Word) (s : State) : Result State := do
  require s.cp15Privileged s
  match crm, opc2 with
  | 0, 0 => do
    require (mayLockCache s) s
    .ok { s with cp15 := { s.cp15 with dLockdown := v ||| 0xFFFFFFF0#32 } }
  | 0, 1 => do
    require (mayLockCache s) s
    .ok { s with cp15 := { s.cp15 with iLockdown := v ||| 0xFFFFFFF0#32 } }
  | 1, 0 => writeTcmRegion true v s
  | 1, 1 => writeTcmRegion false v s
  | 1, 2 => writeTcmNsAccess true v s
  | 1, 3 => writeTcmNsAccess false v s
  | 2, 0 => .ok (s.setBank { s.bank with tcmSelect := selectTcm s.impl v s.bank.tcmSelect })
  | 8, 0 => .ok { s with cp15 := { s.cp15 with cacheBehavior := mergeBits s.cp15.cacheBehavior v (behaviorMask s) } }
  | _, _ => undefined s

/-- May the TLB Lockdown Register be reached? NSACR.TL (13:R269). -/
def mayLockTlb (s : State) : Bool := !s.nsState || bit s.cp15.nsacr 17

/-- c10. -/
def readC10 (crm opc2 : Nat) (s : State) : Result Word := do
  require s.cp15Privileged s
  match crm, opc2 with
  | 0, 0 => do require (mayLockTlb s) s; .ok s.cp15.tlbLockdown
  | 2, 0 => .ok s.bank.primaryRemap
  | 2, 1 => .ok s.bank.normalRemap
  | _, _ => undefined s

/-- c10. -/
def writeC10 (crm opc2 : Nat) (v : Word) (s : State) : Result State := do
  require s.cp15Privileged s
  match crm, opc2 with
  | 0, 0 => do
    require (mayLockTlb s) s
    .ok { s with cp15 := { s.cp15 with tlbLockdown := v &&& 0x1C000001#32 } }
  | 2, 0 => do
    require (!lockedBanked s) s
    .ok (((s.setBank { s.bank with primaryRemap := v &&& 0x000FFFFF#32 }).keepOldFetch s).keepOldMap s)
  | 2, 1 => do
    require (!lockedBanked s) s
    .ok (((s.setBank { s.bank with normalRemap := v }).keepOldFetch s).keepOldMap s)
  | _, _ => undefined s

/-! ### c11: DMA (14:R290 to R311) -/

/-- May the current mode reach the selected channel's registers? (14:R291) -/
def mayUseChannel (s : State) : Bool := s.dmaWorld && (s.cp15Privileged || s.dmaUser s.dmaChannel)

/-- May it reach the Channel Number Register? (14:R296) -/
def mayUseNumber (s : State) : Bool := s.dmaWorld && (s.cp15Privileged || s.dmaUser 0 || s.dmaUser 1)

/-- May it reach the registers of privileged modes? (14:R292, R294, R310) -/
def mayManageDma (s : State) : Bool := s.dmaWorld && s.cp15Privileged

/-- c11. -/
def readC11 (crm opc2 : Nat) (s : State) : Result Word :=
  let c := s.cp15.dma[s.dmaChannel]
  match crm, opc2 with
  | 0, 0 => do require (mayManageDma s) s; .ok (dmaPresent s)
  | 0, 1 => do require (mayManageDma s) s; .ok (dmaFlags s fun c => c.state == 1)
  | 0, 2 => do require (mayManageDma s) s; .ok (dmaFlags s fun c => c.state == 2)
  | 0, 3 => do require (mayManageDma s) s; .ok (dmaFlags s fun c => c.interrupt)
  | 1, 0 => do require (mayManageDma s) s; .ok s.cp15.dmaUser
  | 2, 0 => do require (mayUseNumber s) s; .ok s.cp15.dmaSelect
  | 4, 0 => do require (mayUseChannel s) s; .ok c.control
  | 5, 0 => do require (mayUseChannel s) s; .ok c.intStart
  | 6, 0 => do require (mayUseChannel s) s; .ok c.extStart
  | 7, 0 => do require (mayUseChannel s) s; .ok c.intEnd
  | 8, 0 => do require (mayUseChannel s) s; .ok c.status
  | 15, 0 => do require (mayManageDma s) s; .ok c.contextId
  | _, _ => undefined s

/-- c11. -/
def writeC11 (crm opc2 : Nat) (v : Word) (s : State) : Result State :=
  let n := s.dmaChannel
  let c := s.cp15.dma[n]
  match crm, opc2 with
  | 1, 0 => do require (mayManageDma s) s; .ok { s with cp15 := { s.cp15 with dmaUser := v &&& 3#32 } }
  | 2, 0 => do require (mayUseNumber s) s; .ok { s with cp15 := { s.cp15 with dmaSelect := v &&& 1#32 } }
  | 3, 0 => do require (mayUseChannel s) s; .ok (dmaStop s n)
  | 3, 1 => do require (mayUseChannel s) s; .ok (dmaStart s n)
  | 3, 2 => do require (mayUseChannel s) s; .ok (dmaClear s n)
  | 4, 0 => do require (mayUseChannel s) s; .ok (s.setDma n (writeDmaControl v c))
  | 5, 0 => do
    require (mayUseChannel s) s
    let c ← writeDmaStart true v c
    .ok (s.setDma n c)
  | 6, 0 => do
    require (mayUseChannel s) s
    let c ← writeDmaStart false v c
    .ok (s.setDma n c)
  | 7, 0 => do require (mayUseChannel s) s; .ok (s.setDma n { c with intEnd := v })
  | 15, 0 => do require (mayManageDma s) s; .ok (s.setDma n (writeDmaContext v c))
  | _, _ => undefined s

/-! ### c12 and c13: vectors, interrupts, processes (14:R312 to R319) -/

/-- The Interrupt Status Register (14:R314). -/
def interruptStatus (s : State) : Word :=
  (ofBit s.pendingAbort.isSome <<< 8) ||| (ofBit (!s.pins.nirq) <<< 7) ||| (ofBit (!s.pins.nfiq) <<< 6)

/-- c12. -/
def readC12 (crm opc2 : Nat) (s : State) : Result Word := do
  require s.cp15Privileged s
  match crm, opc2 with
  | 0, 0 => .ok s.bank.vbar
  | 0, 1 => do require (!s.nsState) s; .ok s.cp15.mvbar
  | 1, 0 => .ok (interruptStatus s)
  | _, _ => undefined s

/-- c12. -/
def writeC12 (crm opc2 : Nat) (v : Word) (s : State) : Result State := do
  require s.cp15Privileged s
  match crm, opc2 with
  | 0, 0 => do
    require (!lockedBanked s) s
    .ok (s.setBank { s.bank with vbar := v &&& 0xFFFFFFE0#32 })
  | 0, 1 => do
    require (!s.nsState && !lockedSingle s) s
    .ok { s with cp15 := { s.cp15 with mvbar := v &&& 0xFFFFFFE0#32 } }
  | _, _ => undefined s

/-- c13. The User registers are the first two of the three (14:R319). -/
def readC13 (crm opc2 : Nat) (s : State) : Result Word :=
  match crm, opc2 with
  | 0, 2 => .ok s.bank.tpidUserRw
  | 0, 3 => .ok s.bank.tpidUserRo
  | _, _ => do
    require s.cp15Privileged s
    match crm, opc2 with
    | 0, 0 => .ok s.bank.fcse
    | 0, 1 => .ok s.bank.contextId
    | 0, 4 => .ok s.bank.tpidPriv
    | _, _ => undefined s

/-- c13. -/
def writeC13 (crm opc2 : Nat) (v : Word) (s : State) : Result State :=
  match crm, opc2 with
  | 0, 2 => .ok (s.setBank { s.bank with tpidUserRw := v })
  | _, _ => do
    require s.cp15Privileged s
    match crm, opc2 with
    | 0, 0 => do
      require (!lockedBanked s) s
      .ok (((s.setBank { s.bank with fcse := v &&& 0xFE000000#32 }).keepOldFetch s).keepOldMap s)
    | 0, 1 => .ok ((s.setBank { s.bank with contextId := v }).keepOldFetch s)
    | 0, 3 => .ok (s.setBank { s.bank with tpidUserRo := v })
    | 0, 4 => .ok (s.setBank { s.bank with tpidPriv := v })
    | _, _ => undefined s

/-! ### c15: the performance monitor (14:R324 to R328) -/

/-- May the performance monitor be reached? (14:R324) -/
def mayMonitor (s : State) : Bool := s.cp15Privileged || s.cp15.validation

/-- May the System Validation registers be reached? (14:R329) -/
def mayValidate (s : State) : Bool := s.cp15.validation || (s.cp15Privileged && !s.nsState)

/-- The counters whose overflow flags these are: the cycle counter, Count Register 0, 1 (14:R324, R332). -/
def countersOf (flags : Word) : BitVec 3 :=
  BitVec.ofBool (bit flags 9) ++ BitVec.ofBool (bit flags 8) ++ BitVec.ofBool (bit flags 10)

/-- A write of the Performance Monitor Control Register (14:R324): 1 in a flag clears it, C and P clear the counters. A counter's interrupt
is cleared by writing 1 to its flag with E = 1, and by nothing else (14:R328). DESIGN CHOICE, unsafe: E is bit 0 of the value being
written (log 29). -/
def writePmnc (v : Word) (s : State) : State :=
  let flags := s.cp15.pmnc &&& 0x00000700#32 &&& ~~~v
  let cleared := s.cp15.pmnc &&& 0x00000700#32 &&& v
  let c := { s.cp15 with
    pmnc := (v &&& 0x0FFFF879#32) ||| flags
    ccnt := if bit v 2 then 0#32 else s.cp15.ccnt
    pmn0 := if bit v 1 then 0#32 else s.cp15.pmn0
    pmn1 := if bit v 1 then 0#32 else s.cp15.pmn1
    pmuIrq := if bit v 0 then s.cp15.pmuIrq &&& ~~~countersOf v else s.cp15.pmuIrq
    valWrapped := s.cp15.valWrapped &&& ~~~(countersOf cleared).setWidth 4 }
  { s with cp15 := c }

/-- Is this event number reserved? Its counter does not count (14:R325, 93 section 2). -/
def reservedEvent (e : BitVec 8) : Bool :=
  let n := e.toNat
  !(n ≤ 7 || (9 ≤ n && n ≤ 13) || (15 ≤ n && n ≤ 18) || (32 ≤ n && n ≤ 38) || n == 255)

/-- Do the counters count for the performance monitor: enabled, out of Debug state, and where non-invasive debug is permitted?
(14:R327) -/
def monitorCounts (s : State) : Bool := bit s.cp15.pmnc 0 && !s.halted && s.nonInvasivePermitted

/-- Which counters go on counting: the three of the performance monitor, which System Validation uses too, and its external debug
request counter (14:R327, R330, R331). -/
def counterRuns (s : State) (i : Nat) : Bool :=
  bit s.cp15.valRunning i || match i with
    | 0 => monitorCounts s
    | 1 => monitorCounts s && !reservedEvent (bits s.cp15.pmnc 20 8)
    | 2 => monitorCounts s && !reservedEvent (bits s.cp15.pmnc 12 8)
    | _ => false

/-- A counter has wrapped: its overflow flag, the interrupt if it is enabled, and the output of a System Validation counter (14:R326,
R332). -/
def counterWraps (i flagBit enableBit : Nat) (s : State) : State :=
  let c := s.cp15
  { s with cp15 := { c with
      pmnc := setBit c.pmnc flagBit true
      pmuIrq := if bit c.pmnc enableBit then c.pmuIrq ||| BitVec.twoPow 3 i else c.pmuIrq
      valWrapped := if bit c.valRunning i then c.valWrapped ||| BitVec.twoPow 4 i else c.valWrapped } }

/-- A System Validation counter counts until it wraps: by a free choice it then stops, or goes on and may wrap again (14:R332; log 30). -/
def mayStop (i : Nat) (s : State) : State :=
  if bit s.cp15.valRunning i then
    let (stops, s) := drawBit s
    { s with cp15 := { s.cp15 with
        valRunning := if stops then s.cp15.valRunning &&& ~~~BitVec.twoPow 4 i else s.cp15.valRunning } }
  else s

/-- The value of a counter that may have counted, and whether it has wrapped: any value, at any time (92:D13; log 29). -/
def countOne (i flagBit enableBit : Nat) (value : Word) (s : State) : Word × State :=
  if counterRuns s i then
    let (v, s) := drawWord s
    let (wraps, s) := drawBit s
    (v, if wraps then mayStop i (counterWraps i flagBit enableBit s) else s)
  else (value, s)

/-- The counters during one step of the core. -/
def countStep (s : State) : State :=
  let (a, s) := countOne 0 10 6 s.cp15.ccnt s
  let s := { s with cp15 := { s.cp15 with ccnt := a } }
  let (b, s) := countOne 1 8 4 s.cp15.pmn0 s
  let s := { s with cp15 := { s.cp15 with pmn0 := b } }
  let (c, s) := countOne 2 9 5 s.cp15.pmn1 s
  let s := { s with cp15 := { s.cp15 with pmn1 := c } }
  if bit s.cp15.valRunning 3 then
    let (v, s) := drawWord s
    let (wraps, s) := drawBit s
    let s := { s with cp15 := { s.cp15 with valDebugCount := bits v 0 6 } }
    if wraps then mayStop 3 { s with cp15 := { s.cp15 with valWrapped := s.cp15.valWrapped ||| 8#4 } } else s
  else s

/-! ### c15: System Validation (14:R329 to R333) -/

/-- A System Validation operation: Opcode_1 = 0 and 2 start and stop the counters that Opcode_2 names, 1 and 3 the external debug
request counter, which ends its request; others have no effect (14:R331, R332; log 30). -/
def validationOp (opc1 opc2 : Nat) (s : State) : State :=
  let named : BitVec 4 := BitVec.ofNat 4 (opc2 % 8)
  let run := s.cp15.valRunning
  let new := match opc1 with
    | 0 => run ||| named
    | 1 => run ||| 8#4
    | 2 => run &&& ~~~named
    | 3 => run &&& 7#4
    | _ => run
  let wrapped := if opc1 = 1 || opc1 = 3 then s.cp15.valWrapped &&& 7#4 else s.cp15.valWrapped
  { s with cp15 := { s.cp15 with valRunning := new, valWrapped := wrapped } }

/-- The size code of a TCM side in the Cache Size Mask Register (14:R333). -/
def tcmMaskCode (kb : Nat) : Word :=
  if kb = 4 then 3 else if kb = 8 then 4 else if kb = 16 then 5 else if kb = 32 then 6 else if kb = 64 then 7 else 0

/-- The Cache Size Mask Register: the implemented sizes (14:R333; log 30). -/
def cacheSizeMaskValue (i : Implementation) : Word :=
  (tcmMaskCode i.dtcmKB <<< 12) ||| (tcmMaskCode i.itcmKB <<< 8) ||| (cacheSizeCode i.dcacheKB <<< 4) |||
    cacheSizeCode i.icacheKB

/-! ### c15: TLB lockdown access (14:R335 to R340) -/

/-- The selected lockdown entry. -/
def lockdownEntry (s : State) : TlbEntry := s.cp15.tlbLocked[Fin.ofNat 8 s.cp15.tlbIndex.toNat]

/-- Replacing the selected lockdown entry, which then has the S and R bits of now (12:R150; log 49). -/
def setLockdownEntry (s : State) (e : TlbEntry) : State :=
  let e := { e with rs := bits (s.cp15.control (bit e.pa 8)) 8 2 }
  ({ s with cp15 := { s.cp15 with tlbLocked := s.cp15.tlbLocked.set (Fin.ofNat 8 s.cp15.tlbIndex.toNat) e } }.keepOldFetch s).keepOldMap s

/-- What a write puts into the PA part: NSTID sets NSA (14:R338). -/
def lockdownPa (v : Word) : Word :=
  let v := v &&& 0xFFFFF3CF#32
  if bit v 8 then setBit v 9 true else v

/-- c15 with Opcode_1 = 0. -/
def readC15Op0 (crm opc2 : Nat) (s : State) : Result (Word × State) :=
  match crm, opc2 with
  | 2, 4 => do require s.cp15Privileged s; .ok (s.bank.periphRemap, s)
  | 9, 0 => do require (s.cp15Privileged && !s.nsState) s; .ok (ofBit s.cp15.validation, s)
  | 12, 0 => do require (mayMonitor s) s; .ok (s.cp15.pmnc, s)
  | 12, 1 => do require (mayMonitor s) s; .ok (s.cp15.ccnt, s)
  | 12, 2 => do require (mayMonitor s) s; .ok (s.cp15.pmn0, s)
  | 12, 3 => do require (mayMonitor s) s; .ok (s.cp15.pmn1, s)
  | 12, _ => do require (mayValidate s) s; .ok (0#32, s)
  | 13, _ => do require (mayValidate s) s; .ok (0#32, s)
  | 14, 0 => do require (mayValidate s) s; .ok (cacheSizeMaskValue s.impl, s)
  | _, _ => undefined s

/-- c15 with Opcode_1 = 0. -/
def writeC15Op0 (crm opc2 : Nat) (v : Word) (s : State) : Result State :=
  match crm, opc2 with
  | 2, 4 => do
    require (s.cp15Privileged && !lockedBanked s) s
    .ok ((s.setBank { s.bank with periphRemap := v &&& 0xFFFFF01F#32 }).keepOldFetch s)
  | 9, 0 => do
    require (s.cp15Privileged && !s.nsState && !lockedSingle s) s
    .ok { s with cp15 := { s.cp15 with validation := bit v 0 } }
  | 12, 0 => do require (mayMonitor s) s; .ok (writePmnc v s)
  | 12, 1 => do
    require (mayMonitor s) s
    .ok { s with cp15 := { s.cp15 with ccnt := v } }
  | 12, 2 => do
    require (mayMonitor s) s
    .ok { s with cp15 := { s.cp15 with pmn0 := v } }
  | 12, 3 => do
    require (mayMonitor s) s
    .ok { s with cp15 := { s.cp15 with pmn1 := v } }
  | 12, 7 => do
    require (mayValidate s && !lockedSingle s) s
    .ok { s with cp15 := { s.cp15 with valDebugCount := bits v 0 6, valWrapped := s.cp15.valWrapped &&& 7#4 } }
  | 12, _ => do require (mayValidate s && !lockedSingle s) s; .ok s
  | 13, _ => do require (mayValidate s && !lockedSingle s) s; .ok (validationOp 0 opc2 s)
  | 14, 0 => do
    require (mayValidate s && !lockedSingle s) s
    refuseIf (bit v 31) .cacheSizeMask
    .ok s
  | _, _ => undefined s

/-- c15 with another Opcode_1. -/
def readC15Other (opc1 crm opc2 : Nat) (s : State) : Result (Word × State) :=
  if crm = 13 then do require (mayValidate s) s; .ok (0#32, s)
  else do
    require (s.cp15Privileged && !s.nsState) s
    match opc1, crm, opc2 with
    | 3, 8, n => .ok (s.cp15.iMasterValid[Fin.ofNat 8 n], s)
    | 3, 12, n => .ok (s.cp15.dMasterValid[Fin.ofNat 8 n], s)
    | 5, 4, 2 => .ok (zext s.cp15.tlbIndex, s)
    | 5, 5, 2 => .ok ((lockdownEntry s).va, s)
    | 5, 6, 2 => .ok ((lockdownEntry s).pa, s)
    | 5, 7, 2 => .ok ((lockdownEntry s).attr, s)
    | _, _, _ => undefined s

/-- c15 with another Opcode_1. -/
def writeC15Other (opc1 crm opc2 : Nat) (v : Word) (s : State) : Result State :=
  if crm = 13 then do require (mayValidate s && !lockedSingle s) s; .ok (validationOp opc1 opc2 s)
  else do
    require (s.cp15Privileged && !s.nsState && !lockedSingle s) s
    match opc1, crm, opc2 with
    | 3, 8, n =>
      let m := v &&& masterValidMask s.impl.icacheKB n
      .ok { s with cp15 := { s.cp15 with iMasterValid := s.cp15.iMasterValid.set (Fin.ofNat 8 n) m } }
    | 3, 12, n =>
      let m := v &&& masterValidMask s.impl.dcacheKB n
      .ok { s with cp15 := { s.cp15 with dMasterValid := s.cp15.dMasterValid.set (Fin.ofNat 8 n) m } }
    | 5, 4, 2 => .ok { s with cp15 := { s.cp15 with tlbIndex := bits v 0 3 } }
    | 5, 5, 2 => .ok (setLockdownEntry s { lockdownEntry s with va := v &&& 0xFFFFF2FF#32 })
    | 5, 6, 2 => .ok (setLockdownEntry s { lockdownEntry s with pa := lockdownPa v })
    | 5, 7, 2 => .ok (setLockdownEntry s { lockdownEntry s with attr := v &&& 0xFE0007FF#32 })
    | _, _, _ => undefined s

/-! ### The whole of CP15 -/

/-- A value read without another effect. -/
def plainRead (r : Result Word) (s : State) : Result (Word × State) := do
  let v ← r
  pure (v, s)

/-- Reading a CP15 register (11:R110). -/
def readCp15 (opc1 : BitVec 3) (crn crm : BitVec 4) (opc2 : BitVec 3) (s : State) : Result (Word × State) :=
  let m := crm.toNat
  let o := opc2.toNat
  if opc1 ≠ 0#3 then (if crn = 15#4 then readC15Other opc1.toNat m o s else undefined s)
  else
    match crn.toNat with
    | 0 => plainRead (readC0 m o s) s
    | 1 => plainRead (readC1 m o s) s
    | 2 => plainRead (readC2 m o s) s
    | 3 => plainRead (readC3 m o s) s
    | 5 => plainRead (readC5 m o s) s
    | 6 => plainRead (readC6 m o s) s
    | 7 => plainRead (readC7 m o s) s
    | 9 => plainRead (readC9 m o s) s
    | 10 => plainRead (readC10 m o s) s
    | 11 => plainRead (readC11 m o s) s
    | 12 => plainRead (readC12 m o s) s
    | 13 => plainRead (readC13 m o s) s
    | 15 => readC15Op0 m o s
    | _ => undefined s

/-- Writing a CP15 register, or doing a CP15 operation (11:R110). -/
def writeCp15 (opc1 : BitVec 3) (crn crm : BitVec 4) (opc2 : BitVec 3) (v : Word) (s : State) : Result State :=
  let m := crm.toNat
  let o := opc2.toNat
  if opc1 ≠ 0#3 then (if crn = 15#4 then writeC15Other opc1.toNat m o v s else undefined s)
  else
    match crn.toNat with
    | 1 => writeC1 m o v s
    | 2 => writeC2 m o v s
    | 3 => writeC3 m o v s
    | 5 => writeC5 m o v s
    | 6 => writeC6 m o v s
    | 7 => writeC7 m o v s
    | 8 => writeC8 m o v s
    | 9 => writeC9 m o v s
    | 10 => writeC10 m o v s
    | 11 => writeC11 m o v s
    | 12 => writeC12 m o v s
    | 13 => writeC13 m o v s
    | 15 => writeC15Op0 m o v s
    | _ => undefined s

/-- A two-register operation: the ranges of 11:R111, disabled by RV (13:R223). Clean Data Cache Range is for User mode too, and
Invalidate Instruction Cache Range for Debug state (13:R222, 15:R408). -/
def rangeCp15 (opc : BitVec 4) (crm : BitVec 4) (stop start : Word) (s : State) : Result State := do
  let enabled := opc = 0#4 && !bit s.cp15.auxControl 5
  match crm.toNat with
  | 5 => do
    require (enabled && (s.cp15Privileged || s.halted)) s
    rangeOp .invalidateInstruction start stop s
  | 6 => do
    require (enabled && s.cp15Privileged) s
    rangeOp .invalidateData start stop s
  | 12 => do
    require enabled s
    rangeOp .cleanData start stop s
  | 14 => do
    require (enabled && s.cp15Privileged) s
    rangeOp .cleanInvalidateData start stop s
  | _ => undefined s

end Sys2Proof.Machine
end

