-- ==== Sys2Proof/Machine/VfpNumbers.lean ====
section
/-! DEFINITION. The arithmetic of the VFP11, as functions of operands and FPSCR: the two formats, exact results, rounding, and
one iteration of each operation in the order of 49:R1133, with the conditions under which the hardware bounces
(16:R480 to R488). -/

namespace Sys2Proof.Machine

open Sys2Proof

/-! ### Formats and operands (16:R455) -/

/-- A floating-point format. -/
structure Format where
  /-- Bits of the fraction. -/
  frac : Nat
  /-- Bits of the exponent. -/
  expBits : Nat
  deriving DecidableEq, Repr

/-- Single precision. -/
def single : Format := { frac := 23, expBits := 8 }

/-- Double precision. -/
def double : Format := { frac := 52, expBits := 11 }

/-- The exponent bias. -/
def Format.bias (f : Format) : Nat := 2 ^ (f.expBits - 1) - 1

/-- The exponent field of infinities and NaNs. -/
def Format.maxExp (f : Format) : Nat := 2 ^ f.expBits - 1

/-- The exponent of the least significant bit of the smallest normal numbers. -/
def Format.minExp (f : Format) : Int := 1 - (f.bias : Int) - f.frac

/-- The default NaN (Table 20-1 in 16:R455). -/
def Format.defaultNan (f : Format) : DWord := BitVec.ofNat 64 (f.maxExp * 2 ^ f.frac + 2 ^ (f.frac - 1))

/-- A sign over a magnitude field. -/
def Format.pack (f : Format) (neg : Bool) (magnitude : Nat) : DWord :=
  BitVec.ofNat 64 ((if neg then 2 ^ (f.frac + f.expBits) else 0) + magnitude)

/-- Infinity. -/
def Format.infinity (f : Format) (neg : Bool) : DWord := f.pack neg (f.maxExp * 2 ^ f.frac)

/-- An operand in its three fields. -/
structure Operand where
  /-- Sign. -/
  neg : Bool
  /-- Biased exponent. -/
  biased : Nat
  /-- Fraction. -/
  frac : Nat
  deriving DecidableEq, Repr

/-- The fields of a register's content. -/
def Format.unpack (f : Format) (v : DWord) : Operand :=
  { neg := bit v (f.frac + f.expBits), biased := v.toNat / 2 ^ f.frac % 2 ^ f.expBits, frac := v.toNat % 2 ^ f.frac }

/-- Zero. -/
def Operand.isZero (x : Operand) : Bool := x.biased == 0 && x.frac == 0

/-- A subnormal number. -/
def Operand.isSubnormal (x : Operand) : Bool := x.biased == 0 && x.frac != 0

/-- An infinity. -/
def Operand.isInf (f : Format) (x : Operand) : Bool := x.biased == f.maxExp && x.frac == 0

/-- A NaN. -/
def Operand.isNan (f : Format) (x : Operand) : Bool := x.biased == f.maxExp && x.frac != 0

/-- A signalling NaN: the top bit of the fraction is 0. -/
def Operand.isSignalling (f : Format) (x : Operand) : Bool := x.isNan f && x.frac < 2 ^ (f.frac - 1)

/-- The operand with its sign inverted. -/
def Operand.negate (x : Operand) : Operand := { x with neg := !x.neg }

/-- Positive zero. -/
def Operand.plusZero : Operand := { neg := false, biased := 0, frac := 0 }

/-- An exact number: `mant * 2 ^ exp` with a sign. For a quotient or a root the lowest bit of `mant` says whether digits have
been cut off; there are more bits than any format keeps, so that it rounds and compares as the exact one does. -/
structure Exact where
  neg : Bool
  mant : Nat
  exp : Int
  deriving DecidableEq, Repr

/-- The value of an operand that is zero or normal. -/
def Operand.value (f : Format) (x : Operand) : Exact :=
  { neg := x.neg
    mant := if x.biased = 0 then x.frac else 2 ^ f.frac + x.frac
    exp := f.minExp + ((x.biased - 1 : Nat) : Int) }

/-! ### Rounding (16:R475, R485) -/

/-- The rounding modes (16:R460). -/
inductive Rounding where
  | nearest | plus | minus | zero
  deriving DecidableEq, Repr

/-- FPSCR.Rmode. -/
def roundingOf (fpscr : Word) : Rounding :=
  match (bits fpscr 22 2).toNat with
  | 0 => .nearest
  | 1 => .plus
  | 2 => .minus
  | _ => .zero

/-- Does a quotient `m` with remainder `r` of division by `d` round away from zero? -/
def roundsUp (mode : Rounding) (neg : Bool) (m r d : Nat) : Bool :=
  match mode with
  | .nearest => decide (d < 2 * r) || (decide (2 * r = d) && m % 2 == 1)
  | .plus => !neg && r != 0
  | .minus => neg && r != 0
  | .zero => false

/-- A magnitude rounded to a multiple of `2 ^ unit`: the multiple, and whether it differs. -/
def roundTo (mode : Rounding) (x : Exact) (unit : Int) : Nat × Bool :=
  if unit ≤ x.exp then (x.mant * 2 ^ (x.exp - unit).toNat, false)
  else
    let d := 2 ^ (unit - x.exp).toNat
    let m := x.mant / d
    let r := x.mant % d
    (if roundsUp mode x.neg m r d then m + 1 else m, r != 0)

/-- The exponent of the leading bit of a number other than zero. -/
def Exact.top (x : Exact) : Int := (Nat.log2 x.mant : Int) + x.exp

/-- The exponent of the last bit that a format keeps of a number. -/
def Format.unit (f : Format) (x : Exact) : Int := max (x.top - f.frac) f.minExp

/-! The cumulative flags of the FPSCR (16:R460), and the flags of the FPEXC (16:R462). -/

/-- FPSCR.IDC. -/
def flagIDC : Word := 0x80#32
/-- FPSCR.IXC. -/
def flagIXC : Word := 0x10#32
/-- FPSCR.UFC. -/
def flagUFC : Word := 0x08#32
/-- FPSCR.OFC. -/
def flagOFC : Word := 0x04#32
/-- FPSCR.DZC. -/
def flagDZC : Word := 0x02#32
/-- FPSCR.IOC. -/
def flagIOC : Word := 0x01#32
/-- FPEXC.INV. -/
def excINV : Word := 0x80#32
/-- FPEXC.UFC. -/
def excUFC : Word := 0x08#32
/-- FPEXC.OFC. -/
def excOFC : Word := 0x04#32
/-- FPEXC.IOC. -/
def excIOC : Word := 0x01#32

/-- What one operation does: it is completed, with a result and the cumulative flags that it sets, or the hardware bounces
with a flag of the FPEXC (16:R480). -/
inductive FpOut where
  | done (v : DWord) (flags : Word)
  | bounce (flag : Word)
  deriving DecidableEq, Repr

/-- What an overflow delivers (Table 22-6 in 16:R485). -/
def Format.overflowed (f : Format) (mode : Rounding) (neg : Bool) : DWord :=
  let toInfinity := match mode with
    | .nearest => true
    | .plus => !neg
    | .minus => neg
    | .zero => false
  if toInfinity then f.infinity neg else f.pack neg (f.maxExp * 2 ^ f.frac - 1)

/-- Steps 6 and 7 of 49:R1133: an exact result other than zero becomes a flushed or a rounded one. -/
def Format.deliver (f : Format) (fpscr : Word) (x : Exact) (flags : Word) : FpOut :=
  if bit fpscr 24 && decide (x.top < f.minExp + f.frac) then .done 0#64 (flags ||| flagUFC)
  else
    let (m, inexact) := roundTo (roundingOf fpscr) x (f.unit x)
    let packed := (f.unit x - f.minExp).toNat * 2 ^ f.frac + m
    if f.maxExp * 2 ^ f.frac ≤ packed then
      .done (f.overflowed (roundingOf fpscr) x.neg) (flags ||| flagOFC ||| flagIXC)
    else .done (f.pack x.neg packed) (if inexact then flags ||| flagIXC else flags)

/-- The same for an exact result that may be zero, whose sign is then given. -/
def Format.deliverOrZero (f : Format) (fpscr : Word) (x : Exact) (zeroNeg : Bool) (flags : Word) : FpOut :=
  if x.mant = 0 then .done (f.pack zeroNeg 0) flags else f.deliver fpscr x flags

/-! ### Inputs (49:R1133 steps 1 and 2) -/

/-- Step 1: a subnormal operand bounces, or becomes +0 with IDC (16:R481). -/
def flushInput (fpscr : Word) (x : Operand) : Except Word (Operand × Word) :=
  if x.isSubnormal then
    if !bit fpscr 24 || bit fpscr 15 then .error excINV else .ok (.plusZero, flagIDC)
  else .ok (x, 0#32)

/-- Step 1 for two operands. -/
def flushInputs (fpscr : Word) (a b : Operand) : Except Word (Operand × Operand × Word) := do
  let (a, i) ← flushInput fpscr a
  let (b, j) ← flushInput fpscr b
  pure (a, b, i ||| j)

/-- Step 2: none if no operand is a NaN; else the flags with which the operation has the result of a NaN. `every` says that
quiet NaNs count as signalling ones. -/
def nanInputs (f : Format) (fpscr : Word) (every : Bool) (xs : List Operand) : Except Word (Option Word) :=
  if !xs.any (·.isNan f) then .ok none
  else if !bit fpscr 25 then .error excINV
  else if every || xs.any (·.isSignalling f) then
    if bit fpscr 8 then .error excIOC else .ok (some flagIOC)
  else .ok (some 0#32)

/-- Step 3: an Invalid Operation with the default NaN as its result (16:R482). -/
def invalidOperation (f : Format) (fpscr flags : Word) : Except Word FpOut :=
  if bit fpscr 8 then .error excIOC else .ok (.done f.defaultNan (flags ||| flagIOC))

/-- The end of an operation. -/
def settle : Except Word FpOut → FpOut
  | .ok x => x
  | .error flag => .bounce flag

/-! ### The initial exponent (49:R1133 step 5, 16:R488) -/

/-- The first exponent of the overflow range. -/
def Format.overflowFrom (f : Format) : Int := (f.maxExp : Int) - 2

/-- Step 5, on the exponent fields of the operands, whatever the operands are: zeros and infinities too. -/
def checkRange (f : Format) (fpscr : Word) (e low : Int) : Except Word Unit :=
  if bit fpscr 10 && decide (f.overflowFrom ≤ e) then .error excOFC
  else if !bit fpscr 24 && decide (e ≤ low) then .error excUFC
  else .ok ()

/-! ### Operations -/

/-- A signed integer at an exponent. -/
def Exact.at (x : Exact) (e : Int) : Int :=
  let m : Int := x.mant * 2 ^ (x.exp - e).toNat
  if x.neg then -m else m

/-- The exact sum. -/
def Exact.add (x y : Exact) : Exact :=
  let e := min x.exp y.exp
  let v := x.at e + y.at e
  { neg := decide (v < 0), mant := v.natAbs, exp := e }

/-- Steps 3 and 5 to 7 of a sum of operands that are no NaNs (49:R1140, 16:R488 Table 22-8). -/
def sumOf (f : Format) (fpscr : Word) (a b : Operand) (flags : Word) : Except Word FpOut :=
  let unlike := a.neg != b.neg
  if a.isInf f && b.isInf f && unlike then invalidOperation f fpscr flags
  else do
    let low : Int := if unlike then (if f.frac = 23 then 0x1F else 0x3F) else 0
    checkRange f fpscr (max a.biased b.biased) low
    if a.isInf f then pure (.done (f.infinity a.neg) flags)
    else if b.isInf f then pure (.done (f.infinity b.neg) flags)
    else
      let zeroNeg := if unlike then roundingOf fpscr == .minus else a.neg
      pure (f.deliverOrZero fpscr ((a.value f).add (b.value f)) zeroNeg flags)

/-- FADD, and with `subtract` FSUB (49:R1140, R1141). -/
def addOp (f : Format) (subtract : Bool) (fpscr : Word) (n m : DWord) : FpOut :=
  settle do
    let (a, b, flags) ← flushInputs fpscr (f.unpack n) (f.unpack m)
    match ← nanInputs f fpscr false [a, b] with
    | some nanFlags => pure (.done f.defaultNan (flags ||| nanFlags))
    | none => sumOf f fpscr a (if subtract then b.negate else b) flags

/-- Steps 3 and 5 to 7 of a product. `addend` is the A operand of a multiply and accumulate, with the sign that the product
gets there: with IOE, an infinity against a product that may overflow is a potential Invalid Operation (16:R482). -/
def productOf (f : Format) (fpscr : Word) (addend : Option Operand) (flip : Bool) (a b : Operand)
    (flags : Word) : Except Word FpOut :=
  let neg := a.neg != b.neg
  if (a.isZero && b.isInf f) || (a.isInf f && b.isZero) then invalidOperation f fpscr flags
  else
    let e : Int := (a.biased : Int) + b.biased - f.bias
    let clash := match addend with
      | some x => x.isInf f && x.neg != (neg != flip) && decide (f.overflowFrom ≤ e)
      | none => false
    if clash && bit fpscr 8 then .error excIOC
    else do
      checkRange f fpscr e 0
      if a.isInf f || b.isInf f then pure (.done (f.infinity neg) flags)
      else
        let x := a.value f
        let y := b.value f
        pure (f.deliverOrZero fpscr { neg := neg, mant := x.mant * y.mant, exp := x.exp + y.exp } neg flags)

/-- The multiplication, with its inputs. -/
def fpProduct (f : Format) (fpscr : Word) (addend : Option Operand) (flip : Bool) (n m : DWord) :
    Except Word FpOut := do
  let (a, b, flags) ← flushInputs fpscr (f.unpack n) (f.unpack m)
  match ← nanInputs f fpscr false [a, b] with
  | some nanFlags => pure (.done f.defaultNan (flags ||| nanFlags))
  | none => productOf f fpscr addend flip a b flags

/-- FMUL (49:R1142). -/
def mulOp (f : Format) (fpscr : Word) (n m : DWord) : FpOut := settle (fpProduct f fpscr none false n m)

/-- A result with its sign inverted; the default NaN stays (49:R1143). -/
def negateResult (f : Format) (v : DWord) : DWord := if (f.unpack v).isNan f then v else v ^^^ f.pack true 0

/-- FNMUL (49:R1143). -/
def nmulOp (f : Format) (fpscr : Word) (n m : DWord) : FpOut :=
  match mulOp f fpscr n m with
  | .done v flags => .done (negateResult f v) flags
  | .bounce flag => .bounce flag

/-- The multiply and accumulate family: the product, rounded, then the sum with Fd, of which a NaN that the product has generated is an
input (49:R1133, R1144 to R1147). -/
def macOp (f : Format) (negD negProduct : Bool) (fpscr : Word) (d n m : DWord) : FpOut :=
  settle do
    let old := f.unpack d
    let a := if negD then old.negate else old
    match ← fpProduct f fpscr (some a) negProduct n m with
    | .bounce flag => pure (.bounce flag)
    | .done t mulFlags =>
      let (a, inFlags) ← flushInput fpscr a
      let flags := mulFlags ||| inFlags
      let t := f.unpack t
      match ← nanInputs f fpscr false [a, t] with
      | some nanFlags => pure (.done f.defaultNan (flags ||| nanFlags))
      | none => sumOf f fpscr a (if negProduct then t.negate else t) flags

/-- The quotient of two normal numbers, with a last bit for what is cut off. -/
def Exact.quotient (f : Format) (neg : Bool) (x y : Exact) : Exact :=
  let k := f.frac + 4
  let n := x.mant * 2 ^ k
  { neg := neg
    mant := 2 * (n / y.mant) + (if n % y.mant = 0 then 0 else 1)
    exp := x.exp - y.exp - (k + 1 : Nat) }

/-- FDIV (49:R1148, 16:R484). -/
def divOp (f : Format) (fpscr : Word) (n m : DWord) : FpOut :=
  settle do
    let (a, b, flags) ← flushInputs fpscr (f.unpack n) (f.unpack m)
    match ← nanInputs f fpscr false [a, b] with
    | some nanFlags => pure (.done f.defaultNan (flags ||| nanFlags))
    | none =>
      let neg := a.neg != b.neg
      if (a.isZero && b.isZero) || (a.isInf f && b.isInf f) then invalidOperation f fpscr flags
      else if b.isZero && !a.isInf f then
        if bit fpscr 9 then .error 0#32 else pure (.done (f.infinity neg) (flags ||| flagDZC))
      else do
        checkRange f fpscr ((a.biased : Int) - b.biased + f.bias) 1
        if a.isInf f then pure (.done (f.infinity neg) flags)
        else if b.isInf f || a.isZero then pure (.done (f.pack neg 0) flags)
        else pure (f.deliver fpscr (Exact.quotient f neg (a.value f) (b.value f)) flags)

/-- The integer square root, bit by bit: `k` bits are still to be decided. -/
def isqrtFrom (n : Nat) : Nat → Nat → Nat
  | 0, root => root
  | k + 1, root =>
    let next := root + 2 ^ k
    isqrtFrom n k (if next * next ≤ n then next else root)

/-- The integer square root. -/
def isqrt (n : Nat) : Nat := isqrtFrom n (Nat.log2 n / 2 + 1) 0

/-- The root of a normal number, with a last bit for what is cut off. -/
def Exact.root (f : Format) (x : Exact) : Exact :=
  let odd := x.exp % 2 != 0
  let k := f.frac + 3
  let n := x.mant * 2 ^ (2 * k + (if odd then 1 else 0))
  let e := if odd then x.exp - 1 else x.exp
  let r := isqrt n
  { neg := false, mant := 2 * r + (if r * r = n then 0 else 1), exp := e / 2 - (k + 1 : Nat) }

/-- FSQRT (49:R1149). -/
def sqrtOp (f : Format) (fpscr : Word) (m : DWord) : FpOut :=
  settle do
    let (a, flags) ← flushInput fpscr (f.unpack m)
    match ← nanInputs f fpscr false [a] with
    | some nanFlags => pure (.done f.defaultNan (flags ||| nanFlags))
    | none =>
      if a.isZero then pure (.done (f.pack a.neg 0) flags)
      else if a.neg then invalidOperation f fpscr flags
      else if a.isInf f then pure (.done (f.infinity false) flags)
      else pure (f.deliver fpscr (Exact.root f (a.value f)) flags)

/-! ### Comparisons (49:R1153 to R1156, 16:R476) -/

/-- FPSCR[31:28] of a comparison, as a number. -/
def compareFlags (f : Format) (a b : Operand) : DWord :=
  let x := a.value f
  let y := b.value f
  let e := min x.exp y.exp
  let less := x.at e < y.at e
  let equal := x.at e = y.at e
  if less then 0b1000#64 else if equal then 0b0110#64 else 0b0010#64

/-- FCMP, and with `every` FCMPE: the result is the four flags. An infinity compares by its fields as the largest number. -/
def compareOp (f : Format) (every : Bool) (fpscr : Word) (d m : DWord) : FpOut :=
  settle do
    let (a, b, flags) ← flushInputs fpscr (f.unpack d) (f.unpack m)
    match ← nanInputs f fpscr every [a, b] with
    | some nanFlags => pure (.done 0b0011#64 (flags ||| nanFlags))
    | none => pure (.done (compareFlags f a b) flags)

/-! ### Conversions (49:R1157 to R1164) -/

/-- FCVTDS (49:R1157): exact. -/
def widenOp (fpscr : Word) (m : DWord) : FpOut :=
  settle do
    let (a, flags) ← flushInput fpscr (single.unpack m)
    match ← nanInputs single fpscr false [a] with
    | some nanFlags => pure (.done double.defaultNan (flags ||| nanFlags))
    | none =>
      if a.isInf single then pure (.done (double.infinity a.neg) flags)
      else pure (double.deliverOrZero fpscr (a.value single) a.neg flags)

/-- FCVTSD (49:R1158, 16:R488 Table 22-11). -/
def narrowOp (fpscr : Word) (m : DWord) : FpOut :=
  settle do
    let (a, flags) ← flushInput fpscr (double.unpack m)
    match ← nanInputs double fpscr false [a] with
    | some nanFlags => pure (.done single.defaultNan (flags ||| nanFlags))
    | none => do
      checkRange single fpscr ((a.biased : Int) - 0x380) 0
      if a.isInf double then pure (.done (single.infinity a.neg) flags)
      else pure (single.deliverOrZero fpscr (a.value double) a.neg flags)

/-- FUITO, and with `signed` FSITO (49:R1159, R1160). -/
def fromIntOp (f : Format) (signed : Bool) (fpscr : Word) (m : DWord) : FpOut :=
  let w : Word := m.setWidth 32
  let v : Int := if signed then w.toInt else w.toNat
  f.deliverOrZero fpscr { neg := decide (v < 0), mant := v.natAbs, exp := 0 } false 0#32

/-- The default results of conversions that are out of range (Table 22-5 in 16:R483). -/
def outOfRange (signed neg : Bool) : DWord :=
  if signed then (if neg then 0x80000000#64 else 0x7FFFFFFF#64) else (if neg then 0x00000000#64 else 0xFFFFFFFF#64)

/-- Is the conversion of a number, with IOE, a potential Invalid Operation? (16:R482, R488 Tables 22-12 and 22-13) -/
def mayBeOutOfRange (signed towardsZero : Bool) (x : Exact) : Bool :=
  let under (p : Nat) : Bool := decide (x.mant * 2 ^ x.exp.toNat < 2 ^ p * 2 ^ (-x.exp).toNat)
  let isMin := decide (x.mant * 2 ^ x.exp.toNat = 2 ^ 31 * 2 ^ (-x.exp).toNat) && x.neg
  if signed then !isMin && !(under 30 || (towardsZero && under 31))
  else x.neg || !(under 31 || (towardsZero && under 32))

/-- FTOUI and FTOSI, and the forms that round towards zero (49:R1161 to R1164). -/
def toIntOp (f : Format) (signed truncate : Bool) (fpscr : Word) (m : DWord) : FpOut :=
  let mode := if truncate then .zero else roundingOf fpscr
  settle do
    let (a, flags) ← flushInput fpscr (f.unpack m)
    match ← nanInputs f fpscr true [a] with
    | some nanFlags => pure (.done 0#64 (flags ||| nanFlags))
    | none =>
      let invalid := if bit fpscr 8 then .error excIOC else .ok (.done (outOfRange signed a.neg) (flags ||| flagIOC))
      if a.isInf f then invalid
      else
        let x := a.value f
        let (i, inexact) := roundTo mode x 0
        let v : Int := if x.neg then -(i : Int) else i
        let low : Int := if signed then -(2 ^ 31) else 0
        let high : Int := if signed then 2 ^ 31 else 2 ^ 32
        if (bit fpscr 8 && mayBeOutOfRange signed (mode == .zero) x) || v < low || high ≤ v then invalid
        else pure (.done (zext64 (BitVec.ofInt 32 v)) (if inexact then flags ||| flagIXC else flags))
where
  /-- A word as a register's content. -/
  zext64 (w : Word) : DWord := w.setWidth 64

/-! ### Operations on the raw bits (49:R1150 to R1152) -/

/-- FABS. -/
def absBits (f : Format) (v : DWord) : DWord := v &&& ~~~(f.pack true 0)

/-- FNEG. -/
def negBits (f : Format) (v : DWord) : DWord := v ^^^ f.pack true 0

end Sys2Proof.Machine
end

