-- ==== Sys2Proof/Machine/VfpOps.lean ====
section
/-! DEFINITION. The VFP11's registers and system registers, the gates before every VFP instruction (16:R451, R452; 49:R1130), short
vectors (49:R1132), the bounce (16:R487), and the shared operations of the VFP instructions. -/

namespace Sys2Proof.Machine

open Sys2Proof

/-! ### Registers (16:R453 to R456) -/

/-- The number of a single-precision register: the extra bit is the least significant one (16:R456). -/
def sReg (field : BitVec 4) (extra : Bool) : Nat := 2 * field.toNat + extra.toNat

/-- The number of a double-precision register. -/
def dReg (field : BitVec 4) : Nat := field.toNat

/-- S(r). -/
def State.sr (s : State) (r : Nat) : Word := s.vfp.regs[Fin.ofNat 32 r]

/-- Writing S(r). -/
def State.setSr (s : State) (r : Nat) (v : Word) : State :=
  { s with vfp := { s.vfp with regs := s.vfp.regs.set (Fin.ofNat 32 r) v } }

/-- D(r): S(2r+1) over S(2r). -/
def State.dr (s : State) (r : Nat) : DWord := s.sr (2 * r + 1) ++ s.sr (2 * r)

/-- Writing D(r). -/
def State.setDr (s : State) (r : Nat) (v : DWord) : State :=
  (s.setSr (2 * r) (v.setWidth 32)).setSr (2 * r + 1) ((v >>> 32).setWidth 32)

/-- A register of either precision, as a number of 64 bits. -/
def State.fp (s : State) (f : Format) (r : Nat) : DWord := if f = double then s.dr r else (s.sr r).setWidth 64

/-- Writing a register of either precision. -/
def State.setFp (s : State) (f : Format) (r : Nat) (v : DWord) : State :=
  if f = double then s.setDr r v else s.setSr r (v.setWidth 32)

/-- The bits of the FPSCR that are not SBZ (16:R460). -/
def fpscrMask : Word := 0xF3F79F9F#32

/-- The bits of the FPEXC that are not SBZ (16:R462). -/
def fpexcMask : Word := 0xD000078D#32

/-- Setting cumulative flags. -/
def State.orFpscr (s : State) (flags : Word) : State := { s with vfp := { s.vfp with fpscr := s.vfp.fpscr ||| flags } }

/-! ### The gates -/

/-- May the instructions of a coprocessor from 0 to 13 be executed, with these CP15 settings and this mode? (12:R165) -/
def coprocessorAllowed (c : Cp15) (mode : BitVec 5) (n : Nat) : Bool :=
  (!c.nonSecureIn mode || bit c.nsacr n) &&
    (bits c.cpacr (2 * n) 2 == 0b11#2 || (bits c.cpacr (2 * n) 2 == 0b01#2 && mode != modeUsr))

/-- The first gate (16:R451). Settings from before the last pipeline flush may still hold (70:R1322; log 17). -/
def requireCoprocessor (n : Nat) (s : State) : Result State :=
  let now := coprocessorAllowed s.cp15 s.mode n
  match s.oldFetch with
  | [] => if now then .ok s else undefined s
  | _ :: _ =>
    if s.fetchSettings.all fun o => coprocessorAllowed o.cp15 o.mode n == now then (if now then .ok s else undefined s)
    else
      let (o, s) := drawFrom s.fetchSettings s.settings s
      if coprocessorAllowed o.cp15 o.mode n then .ok s else undefined s

/-- FPEXC.EX. -/
def State.vfpException (s : State) : Bool := bit s.vfp.fpexc 31

/-- FPEXC.EN. -/
def State.vfpEnabled (s : State) : Bool := bit s.vfp.fpexc 30

/-- The second gate, and the exceptional state, which stops every trigger instruction (16:R452, R487; 49:R1130). -/
def requireVfp (n : Nat) (s : State) : Result State := do
  let s ← requireCoprocessor n s
  if s.vfpEnabled && !s.vfpException then .ok s else undefined s

/-- A VFP instruction other than FMXR, FMRX and FMSTAT: the condition, the gates, the body. -/
def vfpInstruction (cond : Cond) (n : Nat) (s : State) (body : State → Result State) : Result State :=
  conditional cond false s do
    let s ← requireVfp n s
    body s

/-- The coprocessor number of a precision. -/
def vfpNumber (f : Format) : Nat := if f = double then 11 else 10

/-! ### Bounces (16:R487) -/

/-- The exceptional state: EX, VECITR for the iterations that remain, one flag; FPINST has the instruction (92:D31). -/
def enterExceptional (s : State) (flag : Word) (word : Word) (remaining : Nat) : State :=
  let e := setBits s.vfp.fpexc 8 (BitVec.ofNat 3 (remaining + 7))
  { s with vfp := { s.vfp with fpexc := setBit e 31 true ||| flag, fpinst := word } }

/-- With IXE, an instruction of the CDP class is not executed: it takes the Undefined Instruction exception with EX set
(16:R487 case P, 92:D30; log 32). -/
def preciseInexact (s : State) (body : Result State) : Result State :=
  if bit s.vfp.fpscr 12 then undefined { s with vfp := { s.vfp with fpexc := setBit s.vfp.fpexc 31 true } } else body

/-- A register number in the Fd and D fields. -/
def fdField (f : Format) (r : Nat) : Word :=
  if f = double then BitVec.ofNat 32 r <<< 12 else (BitVec.ofNat 32 (r / 2) <<< 12) ||| (BitVec.ofNat 32 (r % 2) <<< 22)

/-- A register number in the Fn and N fields. -/
def fnField (f : Format) (r : Nat) : Word :=
  if f = double then BitVec.ofNat 32 r <<< 16 else (BitVec.ofNat 32 (r / 2) <<< 16) ||| (BitVec.ofNat 32 (r % 2) <<< 7)

/-- A register number in the Fm and M fields. -/
def fmField (f : Format) (r : Nat) : Word :=
  if f = double then BitVec.ofNat 32 r else BitVec.ofNat 32 (r / 2) ||| (BitVec.ofNat 32 (r % 2) <<< 5)

/-- The coprocessor number's low bit in an instruction word. -/
def precisionField (f : Format) : Word := if f = double then 0x100#32 else 0#32

/-! ### Short vectors (16:R454, R461; 49:R1132) -/

/-- The registers of a bank. -/
def bankSize (f : Format) : Nat := if f = double then 4 else 8

/-- The register `k` strides on, in the same bank. -/
def bankStep (f : Format) (stride r k : Nat) : Nat := r / bankSize f * bankSize f + (r % bankSize f + k * stride) % bankSize f

/-- LEN + 1. -/
def vectorLength (fpscr : Word) : Nat := (bits fpscr 16 3).toNat + 1

/-- The registers of the iterations: Fd, Fn, Fm. `hasFn` says that Fn is an operand. A LEN and STRIDE that Table 20-7 does not
allow, and vectors that overlap without being the same, are refused (16:R461, R489). -/
def iterations (f : Format) (fpscr : Word) (hasFn : Bool) (fd fn fm : Nat) : Result (List (Nat × Nat × Nat)) :=
  let len := vectorLength fpscr
  let strideBits := bits fpscr 20 2
  if len = 1 then
    if strideBits = 0#2 then .ok [(fd, fn, fm)] else .error (.refuse .vfpLenStride)
  else if fd < bankSize f then .ok [(fd, fn, fm)]
  else if strideBits ≠ 0#2 ∧ strideBits ≠ 3#2 then .error (.refuse .vfpLenStride)
  else
    let stride := if strideBits = 0#2 then 1 else 2
    if bankSize f < len * stride then .error (.refuse .vfpLenStride)
    else
      let walk (r : Nat) : List Nat := (List.range len).map (bankStep f stride r)
      let mixed := fm < bankSize f
      let ds := walk fd
      let ns := walk fn
      let ms := if mixed then List.replicate len fm else walk fm
      let overlap (xs : List Nat) : Bool := xs != ds && xs.any ds.contains
      if (hasFn && overlap ns) || (!mixed && overlap ms) then .error (.refuse .vfpRegisters)
      else .ok (ds.zip (ns.zip ms))

/-! ### Operations of the CDP class -/

/-- What one iteration computes, of the FPSCR and Fd, Fn, Fm. -/
abbrev FpOp := Word → DWord → DWord → DWord → FpOut

/-- The iterations in order: the first that bounces ends the instruction, and those before it have been completed. -/
def iterate (f : Format) (op : FpOp) (word : Nat → Nat → Nat → Word) : List (Nat × Nat × Nat) → State → State
  | [], s => s
  | (d, n, m) :: rest, s =>
    match op s.vfp.fpscr (s.fp f d) (s.fp f n) (s.fp f m) with
    | .done v flags => iterate f op word rest ((s.setFp f d v).orFpscr flags)
    | .bounce flag => enterExceptional s flag (word d n m) rest.length

/-- A vectorisable instruction with three operands. `base` is its word for single precision with register fields of 0. -/
def vfpThree (cond : Cond) (f : Format) (base : Word) (op : FpOp) (fd fn fm : Nat) (s : State) : Result State :=
  vfpInstruction cond (vfpNumber f) s fun s =>
    preciseInexact s do
      let regs ← iterations f s.vfp.fpscr true fd fn fm
      let word d n m := base ||| precisionField f ||| fdField f d ||| fnField f n ||| fmField f m
      pure (iterate f op word regs s).advance

/-- A vectorisable instruction with two operands, Fd and Fm. -/
def vfpTwo (cond : Cond) (f : Format) (base : Word) (op : Word → DWord → FpOut) (fd fm : Nat) (s : State) : Result State :=
  vfpInstruction cond (vfpNumber f) s fun s =>
    preciseInexact s do
      let regs ← iterations f s.vfp.fpscr false fd fd fm
      let word d (_ : Nat) m := base ||| precisionField f ||| fdField f d ||| fmField f m
      pure (iterate f (fun fpscr _ _ v => op fpscr v) word regs s).advance

/-- An instruction that is always scalar: one operation, whose result `write` puts away (49:R1132). -/
def vfpScalar (cond : Cond) (n : Nat) (word : Word) (op : State → Word → FpOut)
    (write : State → DWord → State) (s : State) : Result State :=
  vfpInstruction cond n s fun s =>
    preciseInexact s <|
      match op s s.vfp.fpscr with
      | .done v flags => .ok ((write s v).orFpscr flags).advance
      | .bounce flag => .ok (enterExceptional s flag word 0).advance

/-- Putting away the result of a comparison: FPSCR[31:28] (16:R460). -/
def writeFpFlags (s : State) (v : DWord) : State :=
  { s with vfp := { s.vfp with fpscr := setBits s.vfp.fpscr 28 (v.setWidth 4) } }

/-- A comparison with a register. -/
def vfpCompare (cond : Cond) (f : Format) (base : Word) (every : Bool) (fd fm : Nat) (s : State) : Result State :=
  vfpScalar cond (vfpNumber f) (base ||| precisionField f ||| fdField f fd ||| fmField f fm)
    (fun s fpscr => compareOp f every fpscr (s.fp f fd) (s.fp f fm)) writeFpFlags s

/-- A comparison with +0. -/
def vfpCompareZero (cond : Cond) (f : Format) (base : Word) (every : Bool) (fd : Nat) (s : State) : Result State :=
  vfpScalar cond (vfpNumber f) (base ||| precisionField f ||| fdField f fd)
    (fun s fpscr => compareOp f every fpscr (s.fp f fd) 0#64) writeFpFlags s

/-- A conversion from a register of format `g` to one of format `f`; the coprocessor number is that of precision `p`. -/
def vfpConvert (cond : Cond) (p g f : Format) (base : Word) (op : Word → DWord → FpOut) (fd fm : Nat)
    (s : State) : Result State :=
  vfpScalar cond (vfpNumber p) (base ||| precisionField p ||| fdField f fd ||| fmField g fm)
    (fun s fpscr => op fpscr (s.fp g fm)) (fun s v => s.setFp f fd v) s

/-! ### Loads and stores (49:R1135, R1170 to R1173) -/

/-- The words of a list of registers as they lie in memory: of a double, the least significant word first, or in a big-endian
system the most significant one (16:R457). -/
def vfpWords (s : State) (f : Format) (regs : List Nat) : List Word :=
  if f = double then regs.flatMap fun r =>
    if s.bigEndian then [s.sr (2 * r + 1), s.sr (2 * r)] else [s.sr (2 * r), s.sr (2 * r + 1)]
  else regs.map s.sr

/-- Filling doubles from words. -/
def State.setDoubles (s : State) (big : Bool) : List Nat → List Word → State
  | r :: rs, a :: b :: ws =>
    let s := (s.setSr (2 * r) (if big then b else a)).setSr (2 * r + 1) (if big then a else b)
    s.setDoubles big rs ws
  | _, _ => s

/-- Filling singles from words. -/
def State.setSingles (s : State) : List Nat → List Word → State
  | r :: rs, w :: ws => (s.setSr r w).setSingles rs ws
  | _, _ => s

/-- Filling registers from the words that lie in memory. -/
def State.fillVfp (s : State) (f : Format) (regs : List Nat) (ws : List Word) : State :=
  if f = double then s.setDoubles s.bigEndian regs ws else s.setSingles regs ws

/-- How many words a number of registers has. -/
def vfpWordCount (f : Format) (regs : List Nat) : Nat := if f = double then 2 * regs.length else regs.length

/-- Loading registers from rising addresses, and the base. -/
def vfpLoad (f : Format) (regs : List Nat) (address : Word) (rn : Reg) (wb : Option Word) (s : State) : Result State := do
  let (ws, s) ← loadWords .multiWord false (vfpWordCount f regs) address s
  pure (writeBase (s.fillVfp f regs ws) rn wb).advance

/-- Storing registers to rising addresses, and the base. -/
def vfpStore (f : Format) (regs : List Nat) (address : Word) (rn : Reg) (wb : Option Word) (s : State) : Result State := do
  let s ← storeWords .multiWord (vfpWords s f regs) address s
  pure (writeBase s rn wb).advance

/-- The address of FLD and FST (49:R1135). -/
def vfpAddress (u : Bool) (rn : Reg) (off8 : BitVec 8) (s : State) : Word :=
  let offset := zext off8 <<< 2
  if u then s.reg rn + offset else s.reg rn - offset

/-- How many registers FLDM and FSTM transfer: words, or doubles and in the X form one word less (49:R1135). -/
def vfpCount (f : Format) (off8 : BitVec 8) : Nat := if f = double then off8.toNat / 2 else off8.toNat

/-- The number of registers of a precision. -/
def vfpFileSize (f : Format) : Nat := if f = double then 16 else 32

/-- The registers of FLDM and FSTM; none or past the last one is refused (16:R489). -/
def vfpList (f : Format) (fd : Nat) (off8 : BitVec 8) : Result (List Nat) := do
  let n := vfpCount f off8
  refuseIf (n == 0 || decide (vfpFileSize f < fd + n)) .vfpRegisters
  pure ((List.range n).map (fd + ·))

/-- The lowest address of FLDM and FSTM. -/
def vfpBlockStart (up : Bool) (base : Word) (off8 : BitVec 8) : Word := if up then base else base - (zext off8 <<< 2)

/-- The base after FLDM and FSTM, where it is written. -/
def vfpBlockBase (up w : Bool) (base : Word) (off8 : BitVec 8) : Option Word :=
  if w then some (if up then base + (zext off8 <<< 2) else base - (zext off8 <<< 2)) else none

/-- FLD (49:R1170). -/
def vfpLoadOne (cond : Cond) (f : Format) (u : Bool) (rn : Reg) (fd : Nat) (off8 : BitVec 8) (s : State) : Result State :=
  vfpInstruction cond (vfpNumber f) s fun s => vfpLoad f [fd] (vfpAddress u rn off8 s) rn none s

/-- FST (49:R1171). -/
def vfpStoreOne (cond : Cond) (f : Format) (u : Bool) (rn : Reg) (fd : Nat) (off8 : BitVec 8) (s : State) : Result State :=
  vfpInstruction cond (vfpNumber f) s fun s => vfpStore f [fd] (vfpAddress u rn off8 s) rn none s

/-- FLDM (49:R1172): `up` increments after, else decrements before; `w` writes the base. -/
def vfpLoadMany (cond : Cond) (f : Format) (up w : Bool) (rn : Reg) (fd : Nat) (off8 : BitVec 8) (s : State) : Result State :=
  vfpInstruction cond (vfpNumber f) s fun s => do
    refuseIf (w && rn == 15#4) .writeback
    let regs ← vfpList f fd off8
    vfpLoad f regs (vfpBlockStart up (s.reg rn) off8) rn (vfpBlockBase up w (s.reg rn) off8) s

/-- FSTM (49:R1173). -/
def vfpStoreMany (cond : Cond) (f : Format) (up w : Bool) (rn : Reg) (fd : Nat) (off8 : BitVec 8) (s : State) : Result State :=
  vfpInstruction cond (vfpNumber f) s fun s => do
    refuseIf (w && rn == 15#4) .writeback
    let regs ← vfpList f fd off8
    vfpStore f regs (vfpBlockStart up (s.reg rn) off8) rn (vfpBlockBase up w (s.reg rn) off8) s

/-! ### System registers (16:R458 to R465) -/

/-- The system registers. -/
inductive VfpReg where
  | fpsid | fpscr | mvfr1 | mvfr0 | fpexc | fpinst | fpinst2
  deriving DecidableEq, Repr

/-- The register of a number (Table 20-3 in 16:R458). -/
def vfpReg (n : BitVec 4) : Option VfpReg :=
  match n.toNat with
  | 0 => some .fpsid
  | 1 => some .fpscr
  | 6 => some .mvfr1
  | 7 => some .mvfr0
  | 8 => some .fpexc
  | 9 => some .fpinst
  | 10 => some .fpinst2
  | _ => none

/-- FPSID (16:R459, 92:D3). -/
def fpsidValue (i : Implementation) : Word :=
  0x410120B0#32 ||| (if i.revisionMinor = 0 then 3#32 else if i.revisionMinor ≤ 2 then 4#32 else 5#32)

/-- May the current mode access the register? (Table 20-4 in 16:R458) With the VFP11 in the exceptional state an access to the
FPSCR is a trigger (16:R487). -/
def vfpRegAllowed (r : VfpReg) (s : State) : Bool :=
  match r with
  | .fpsid | .mvfr0 | .mvfr1 => s.vfpEnabled || s.privileged
  | .fpscr => s.vfpEnabled && !s.vfpException
  | .fpexc | .fpinst | .fpinst2 => s.privileged

/-- The gates of FMXR, FMRX and FMSTAT. -/
def selectVfpReg (reg : BitVec 4) (s : State) : Result (VfpReg × State) := do
  let s ← requireCoprocessor 10 s
  match vfpReg reg with
  | none => undefined s
  | some r => if vfpRegAllowed r s then .ok (r, s) else undefined s

/-- Reading a system register; FPINST2 holds any value while FP2V is 0 (16:R463). -/
def readVfpReg (r : VfpReg) (s : State) : Word × State :=
  match r with
  | .fpsid => (fpsidValue s.impl, s)
  | .fpscr => (s.vfp.fpscr, s)
  | .mvfr1 => (0x00000000#32, s)
  | .mvfr0 => (0x11111111#32, s)
  | .fpexc => (s.vfp.fpexc, s)
  | .fpinst => (s.vfp.fpinst, s)
  | .fpinst2 => if bit s.vfp.fpexc 28 then (s.vfp.fpinst2, s) else drawWord s

/-- Writing a system register; the identification registers ignore it (16:R458, 92:D27). -/
def writeVfpReg (r : VfpReg) (v : Word) (s : State) : State :=
  match r with
  | .fpsid | .mvfr0 | .mvfr1 => s
  | .fpscr => { s with vfp := { s.vfp with fpscr := v &&& fpscrMask } }
  | .fpexc => { s with vfp := { s.vfp with fpexc := v &&& fpexcMask } }
  | .fpinst => { s with vfp := { s.vfp with fpinst := v } }
  | .fpinst2 => { s with vfp := { s.vfp with fpinst2 := v } }

end Sys2Proof.Machine
end

