-- ==== Sys2Proof/Machine/Coprocessor.lean ====
section
/-! DEFINITION. The meanings of the coprocessor instructions that are no VFP instruction (47): the condition, the routing by
coprocessor number (47:R1041), and the "2" forms, which are unconditional and otherwise identical, but that CP15 has none (47:R1040,
R1044). An external coprocessor that is attached is part of the environment: it accepts or
bounces an instruction, and what it gives is any value (25:R1572; log 37). A word of coprocessors 10 and 11 that the VFP11 does not
define is Undefined (47:R1046). -/

namespace Sys2Proof.Machine

open Sys2Proof

/-- Where a generic coprocessor instruction goes (47:R1041). -/
inductive Coprocessor where
  | debugUnit
  | systemControl
  /-- The VFP11, which does not define these forms (47:R1046). -/
  | vfp
  /-- An external coprocessor, if it is attached (47:R1043). -/
  | external
  deriving DecidableEq, Repr

/-- The coprocessor of a number. -/
def coprocessor (cpNum : BitVec 4) : Coprocessor :=
  if cpNum = 15#4 then .systemControl
  else if cpNum = 14#4 then .debugUnit
  else if cpNum = 10#4 ∨ cpNum = 11#4 then .vfp
  else .external

/-- Is this the number of an external coprocessor that is attached? (92:D25) -/
def attached (cpNum : BitVec 4) (s : State) : Bool :=
  coprocessor cpNum == .external && s.impl.extCoprocessors.contains cpNum.toNat

/-- An instruction for an external coprocessor: access permitted, it is attached, and it accepts the instruction, or Undefined. What it
accepts is its own matter, a free choice (25:R1572; log 37). -/
def externalOnly (cpNum : BitVec 4) (s : State) (accepted : State → Result State) : Result State :=
  if attached cpNum s then do
    let s ← requireCoprocessor cpNum.toNat s
    let (accepts, s) := drawBit s
    if accepts then accepted s else undefined s
  else undefined s

/-- CDP to an external coprocessor: nothing in the core changes (47:R1047). -/
def externalOperation (cpNum : BitVec 4) (s : State) : Result State := externalOnly cpNum s fun s => .ok s.advance

/-- MCR to an external coprocessor, which takes the value (47:R1048). -/
def externalWrite (rd : Reg) (cpNum : BitVec 4) (s : State) : Result State :=
  externalOnly cpNum s fun s => do
    noPc [rd]
    pure s.advance

/-- MRC from an external coprocessor, which gives any value (47:R1049). -/
def externalRead (rd : Reg) (cpNum : BitVec 4) (s : State) : Result State :=
  externalOnly cpNum s fun s =>
    let (v, s) := drawWord s
    .ok (mrcResult rd v s).advance

/-- MCRR to an external coprocessor (47:R1050). -/
def externalWritePair (rn rd : Reg) (cpNum : BitVec 4) (s : State) : Result State :=
  externalOnly cpNum s fun s => do
    noPc [rn, rd]
    pure s.advance

/-- MRRC from an external coprocessor, which gives any two values (47:R1051). -/
def externalReadPair (rn rd : Reg) (cpNum : BitVec 4) (s : State) : Result State :=
  externalOnly cpNum s fun s => do
    noPc [rn, rd]
    refuseIf (rn == rd) .registerField
    let (v, s) := drawWord s
    let (w, s) := drawWord s
    pure ((s.setReg rd v).setReg rn w).advance

/-- How many words an external coprocessor moves: any number that the four bits of the length queue can stand for, of items of up to a
doubleword each (25:R1577, R1583; log 37). -/
def drawLength (s : State) : Nat × State :=
  let (n, s) := drawWord s
  (n.toNat % 31, s)

/-- Some free words. -/
def drawItems : Nat → State → List Word × State
  | 0, s => ([], s)
  | n + 1, s =>
    let (v, s) := drawWord s
    let (vs, s) := drawItems n s
    (v :: vs, s)

/-- LDC to an external coprocessor: as many words as it wants are read for it (47:R1052). -/
def externalLoad (p u w : Bool) (rn : Reg) (cpNum : BitVec 4) (off8 : BitVec 8) (s : State) : Result State :=
  externalOnly cpNum s fun s => do
    refuseIf (w && rn == 15#4) .writeback
    let (address, wb) := indexed p u w (s.reg rn) (zext off8 <<< 2)
    let (n, s) := drawLength s
    let (_, s) ← loadWords .multiWord false n address s
    pure (writeBase s rn (if w then wb else none)).advance

/-- STC from an external coprocessor: as many words of any value as it gives are written (47:R1052). -/
def externalStore (p u w : Bool) (rn : Reg) (cpNum : BitVec 4) (off8 : BitVec 8) (s : State) : Result State :=
  externalOnly cpNum s fun s => do
    refuseIf (w && rn == 15#4) .writeback
    let (address, wb) := indexed p u w (s.reg rn) (zext off8 <<< 2)
    let (n, s) := drawLength s
    let (items, s) := drawItems n s
    let s ← storeWords .multiWord items address s
    pure (writeBase s rn (if w then wb else none)).advance

/-- An operation on registers that may not be R15: where one is, it is Undefined if it is so with any value, else refused (47:R1041, R1048,
R1050). -/
def withSources (regs : List Reg) (s : State) (r : Result State) : Result State :=
  if !regs.contains 15#4 then r
  else
    match r with
    | .error (.taken t) => if t = takeException .undef false s.nextPc s then .error (.taken t) else .error (.refuse .registerField)
    | _ => .error (.refuse .registerField)

/-- MRC (47:R1049). -/
def moveFromCoprocessor (opc1 : BitVec 3) (crn : BitVec 4) (rd : Reg) (cpNum : BitVec 4) (opc2 : BitVec 3) (crm : BitVec 4)
    (s : State) : Result State :=
  match coprocessor cpNum with
  | .systemControl => do
    let (v, s) ← readCp15 opc1 crn crm opc2 s
    pure (mrcResult rd v s).advance
  | .debugUnit => do
    let s ← mrc14 opc1 crn crm opc2 rd s
    pure s.advance
  | .vfp => undefined s
  | .external => externalRead rd cpNum s

/-- MCR (47:R1048). -/
def moveToCoprocessor (opc1 : BitVec 3) (crn : BitVec 4) (rd : Reg) (cpNum : BitVec 4) (opc2 : BitVec 3) (crm : BitVec 4)
    (s : State) : Result State :=
  match coprocessor cpNum with
  | .systemControl => do
    let s ← withSources [rd] s (writeCp15 opc1 crn crm opc2 (s.reg rd) s)
    pure s.advance
  | .debugUnit => do
    let s ← mcr14 opc1 crn crm opc2 rd s
    pure s.advance
  | .vfp => undefined s
  | .external => externalWrite rd cpNum s

/-- MCRR (47:R1050): the range operations of CP15, with Rd the end and Rn the start. -/
def movePairToCoprocessor (rn rd : Reg) (cpNum opc crm : BitVec 4) (s : State) : Result State :=
  match coprocessor cpNum with
  | .systemControl => do
    let s ← withSources [rn, rd] s (rangeCp15 opc crm (s.reg rd) (s.reg rn) s)
    pure s.advance
  | .debugUnit | .vfp => undefined s
  | .external => externalWritePair rn rd cpNum s

/-- Is this the transfer between memory and the DTR, of one word? (15:R374) -/
def isDtrTransfer (cpNum crd : BitVec 4) (nBit : Bool) : Bool := coprocessor cpNum == .debugUnit && crd == 5#4 && !nBit

/-- LDC (47:R1052): to the wDTR. -/
def loadCoprocessor (p u nBit w : Bool) (rn : Reg) (crd cpNum : BitVec 4) (off8 : BitVec 8) (s : State) : Result State :=
  if isDtrTransfer cpNum crd nBit then do
    requireCp14 .status s
    refuseIf (w && rn == 15#4) .writeback
    let (address, wb) := indexed p u w (s.reg rn) (zext off8 <<< 2)
    let (ws, s) ← loadWords .multiWord false 1 address s
    pure (writeBase (writeWdtr (ws.getD 0 0#32) s) rn (if w then wb else none)).advance
  else externalLoad p u w rn cpNum off8 s

/-- STC (47:R1052): from the rDTR, which counts as read when the store is done (log 6). -/
def storeCoprocessor (p u nBit w : Bool) (rn : Reg) (crd cpNum : BitVec 4) (off8 : BitVec 8) (s : State) : Result State :=
  if isDtrTransfer cpNum crd nBit then do
    requireCp14 .status s
    refuseIf (w && rn == 15#4) .writeback
    let (address, wb) := indexed p u w (s.reg rn) (zext off8 <<< 2)
    let s ← storeWords .multiWord [s.dbg.rdtr] address s
    pure (writeBase (readRdtr s).2 rn (if w then wb else none)).advance
  else externalStore p u w rn cpNum off8 s

/-- CDP (47:R1047): CP14 and CP15 have none (47:R1044, 15:R374). -/
def execCdp (cond : Cond) (_opc1 _cRn _cRd cpNum : BitVec 4) (_opc2 : BitVec 3) (_cRm : BitVec 4)
    (s : State) : Outcome :=
  finish (conditional cond false s (externalOperation cpNum s))

/-- MCR (47:R1048). -/
def execMcr (cond : Cond) (opc1 : BitVec 3) (cRn : BitVec 4) (rd : Reg) (cpNum : BitVec 4) (opc2 : BitVec 3) (cRm : BitVec 4)
    (s : State) : Outcome :=
  finish (conditional cond false s (moveToCoprocessor opc1 cRn rd cpNum opc2 cRm s))

/-- MRC (47:R1049). -/
def execMrc (cond : Cond) (opc1 : BitVec 3) (cRn : BitVec 4) (rd : Reg) (cpNum : BitVec 4) (opc2 : BitVec 3) (cRm : BitVec 4)
    (s : State) : Outcome :=
  finish (conditional cond false s (moveFromCoprocessor opc1 cRn rd cpNum opc2 cRm s))

/-- MCRR (47:R1050). -/
def execMcrr (cond : Cond) (rn rd : Reg) (cpNum opc cRm : BitVec 4) (s : State) : Outcome :=
  finish (conditional cond false s (movePairToCoprocessor rn rd cpNum opc cRm s))

/-- MRRC (47:R1051): the VFP11 has its own, CP14 and CP15 have none. -/
def execMrrc (cond : Cond) (rn rd : Reg) (cpNum _opc _cRm : BitVec 4) (s : State) : Outcome :=
  finish (conditional cond false s (externalReadPair rn rd cpNum s))

/-- LDC (47:R1052). -/
def execLdc (cond : Cond) (p u nBit w : Bool) (rn : Reg) (cRd cpNum : BitVec 4) (off8 : BitVec 8)
    (s : State) : Outcome :=
  finish (conditional cond false s (loadCoprocessor p u nBit w rn cRd cpNum off8 s))

/-- STC (47:R1052). -/
def execStc (cond : Cond) (p u nBit w : Bool) (rn : Reg) (cRd cpNum : BitVec 4) (off8 : BitVec 8)
    (s : State) : Outcome :=
  finish (conditional cond false s (storeCoprocessor p u nBit w rn cRd cpNum off8 s))

/-- A "2" form of MCR or MRC: CP15 has none (47:R1044, 92:D5), else as the other form (47:R1040). -/
def secondForm (cpNum : BitVec 4) (s : State) (body : Result State) : Result State :=
  if coprocessor cpNum = .systemControl then undefined s else body

/-- CDP2 (47:R1047): the VFP11 defines none (log 37). -/
def execCdp2 (_opc1 _cRn _cRd cpNum : BitVec 4) (_opc2 : BitVec 3) (_cRm : BitVec 4) (s : State) : Outcome :=
  finish (externalOperation cpNum s)

/-- MCR2 (47:R1040, R1048). -/
def execMcr2 (opc1 : BitVec 3) (cRn : BitVec 4) (rd : Reg) (cpNum : BitVec 4) (opc2 : BitVec 3) (cRm : BitVec 4)
    (s : State) : Outcome :=
  finish (secondForm cpNum s (moveToCoprocessor opc1 cRn rd cpNum opc2 cRm s))

/-- MRC2 (47:R1040, R1049). -/
def execMrc2 (opc1 : BitVec 3) (cRn : BitVec 4) (rd : Reg) (cpNum : BitVec 4) (opc2 : BitVec 3) (cRm : BitVec 4)
    (s : State) : Outcome :=
  finish (secondForm cpNum s (moveFromCoprocessor opc1 cRn rd cpNum opc2 cRm s))

/-- MCRR2 (47:R1050): CP14 has none. -/
def execMcrr2 (rn rd : Reg) (cpNum _opc _cRm : BitVec 4) (s : State) : Outcome :=
  finish (externalWritePair rn rd cpNum s)

/-- MRRC2 (47:R1051). -/
def execMrrc2 (rn rd : Reg) (cpNum _opc _cRm : BitVec 4) (s : State) : Outcome :=
  finish (externalReadPair rn rd cpNum s)

/-- LDC2 (47:R1040, R1052). -/
def execLdc2 (p u nBit w : Bool) (rn : Reg) (cRd cpNum : BitVec 4) (off8 : BitVec 8) (s : State) : Outcome :=
  finish (loadCoprocessor p u nBit w rn cRd cpNum off8 s)

/-- STC2 (47:R1040, R1052). -/
def execStc2 (p u nBit w : Bool) (rn : Reg) (cRd cpNum : BitVec 4) (off8 : BitVec 8) (s : State) : Outcome :=
  finish (storeCoprocessor p u nBit w rn cRd cpNum off8 s)

end Sys2Proof.Machine
end

