-- ==== Sys2Proof/Machine/DataProcessing.lean ====
section
/-! DEFINITION. The meanings of the ARM data-processing instructions (40:R740 to R762), each over the common execution of
40:R743. -/

namespace Sys2Proof.Machine

open Sys2Proof

/-- The end of a data-processing instruction with a destination (40:R743): a register and perhaps the flags, a branch without
state change, or a return from an exception. -/
def writeResult (sBit : Bool) (rd : Reg) (out : AluOut) (s : State) : Result State :=
  if rd = 15#4 then
    if sBit then do
      let saved ← s.spsr
      exceptionReturn s saved out.1
    else .ok (s.writePc out.1 (align4 out.1))
  else
    let s' := s.setReg rd out.1
    .ok (if sBit then { s' with cpsr := out.2 } else s').advance

/-- A data-processing instruction: `op` takes operand 2, the shifter's carry and the CPSR. -/
def dataProc (cond : Cond) (sBit : Bool) (rd : Reg) (operand : State → Word × Bool) (op : Word → Bool → Word → AluOut)
    (s : State) : Result State :=
  conditional cond (rd == 15#4) s <|
    let (b, carry) := operand s
    writeResult sBit rd (op b carry s.cpsr) s

/-- The same with a register shift, where R15 is not allowed (40:R743). -/
def dataProcShift (cond : Cond) (sBit : Bool) (used : List Reg) (rd : Reg) (operand : State → Word × Bool)
    (op : Word → Bool → Word → AluOut) (s : State) : Result State :=
  conditional cond (rd == 15#4) s do
    noPc (rd :: used)
    let (b, carry) := operand s
    writeResult sBit rd (op b carry s.cpsr) s

/-- A comparison: only the flags are written (40:R743). -/
def compare (cond : Cond) (operand : State → Word × Bool) (op : Word → Bool → Word → AluOut) (s : State) : Result State :=
  conditional cond false s <|
    let (b, carry) := operand s
    .ok { s with cpsr := (op b carry s.cpsr).2 }.advance

/-- A comparison with a register shift. -/
def compareShift (cond : Cond) (used : List Reg) (operand : State → Word × Bool) (op : Word → Bool → Word → AluOut)
    (s : State) : Result State :=
  conditional cond false s do
    noPc used
    let (b, carry) := operand s
    pure { s with cpsr := (op b carry s.cpsr).2 }.advance

/-- AND, immediate (40:R751). -/
def execAndImm (cond : Cond) (sBit : Bool) (rn rd : Reg) (rot : BitVec 4) (imm8 : BitVec 8) (s : State) : Outcome :=
  finish (dataProc cond sBit rd (operandImm rot imm8) (aluAnd (s.reg rn)) s)

/-- AND, register (40:R751). -/
def execAndReg (cond : Cond) (sBit : Bool) (rn rd : Reg) (shiftImm : BitVec 5) (shift : Shift) (rm : Reg)
    (s : State) : Outcome :=
  finish (dataProc cond sBit rd (operandReg shiftImm shift rm) (aluAnd (s.reg rn)) s)

/-- AND, register shift (40:R751). -/
def execAndRegShift (cond : Cond) (sBit : Bool) (rn rd rs : Reg) (shift : Shift) (rm : Reg) (s : State) : Outcome :=
  finish (dataProcShift cond sBit [rn, rs, rm] rd (operandRegShift rs shift rm) (aluAnd (s.reg rn)) s)

/-- EOR, immediate (40:R752). -/
def execEorImm (cond : Cond) (sBit : Bool) (rn rd : Reg) (rot : BitVec 4) (imm8 : BitVec 8) (s : State) : Outcome :=
  finish (dataProc cond sBit rd (operandImm rot imm8) (aluEor (s.reg rn)) s)

/-- EOR, register (40:R752). -/
def execEorReg (cond : Cond) (sBit : Bool) (rn rd : Reg) (shiftImm : BitVec 5) (shift : Shift) (rm : Reg)
    (s : State) : Outcome :=
  finish (dataProc cond sBit rd (operandReg shiftImm shift rm) (aluEor (s.reg rn)) s)

/-- EOR, register shift (40:R752). -/
def execEorRegShift (cond : Cond) (sBit : Bool) (rn rd rs : Reg) (shift : Shift) (rm : Reg) (s : State) : Outcome :=
  finish (dataProcShift cond sBit [rn, rs, rm] rd (operandRegShift rs shift rm) (aluEor (s.reg rn)) s)

/-- SUB, immediate (40:R747). -/
def execSubImm (cond : Cond) (sBit : Bool) (rn rd : Reg) (rot : BitVec 4) (imm8 : BitVec 8) (s : State) : Outcome :=
  finish (dataProc cond sBit rd (operandImm rot imm8) (aluSub (s.reg rn)) s)

/-- SUB, register (40:R747). -/
def execSubReg (cond : Cond) (sBit : Bool) (rn rd : Reg) (shiftImm : BitVec 5) (shift : Shift) (rm : Reg)
    (s : State) : Outcome :=
  finish (dataProc cond sBit rd (operandReg shiftImm shift rm) (aluSub (s.reg rn)) s)

/-- SUB, register shift (40:R747). -/
def execSubRegShift (cond : Cond) (sBit : Bool) (rn rd rs : Reg) (shift : Shift) (rm : Reg) (s : State) : Outcome :=
  finish (dataProcShift cond sBit [rn, rs, rm] rd (operandRegShift rs shift rm) (aluSub (s.reg rn)) s)

/-- RSB, immediate (40:R749). -/
def execRsbImm (cond : Cond) (sBit : Bool) (rn rd : Reg) (rot : BitVec 4) (imm8 : BitVec 8) (s : State) : Outcome :=
  finish (dataProc cond sBit rd (operandImm rot imm8) (aluRsb (s.reg rn)) s)

/-- RSB, register (40:R749). -/
def execRsbReg (cond : Cond) (sBit : Bool) (rn rd : Reg) (shiftImm : BitVec 5) (shift : Shift) (rm : Reg)
    (s : State) : Outcome :=
  finish (dataProc cond sBit rd (operandReg shiftImm shift rm) (aluRsb (s.reg rn)) s)

/-- RSB, register shift (40:R749). -/
def execRsbRegShift (cond : Cond) (sBit : Bool) (rn rd rs : Reg) (shift : Shift) (rm : Reg) (s : State) : Outcome :=
  finish (dataProcShift cond sBit [rn, rs, rm] rd (operandRegShift rs shift rm) (aluRsb (s.reg rn)) s)

/-- ADD, immediate (40:R745). -/
def execAddImm (cond : Cond) (sBit : Bool) (rn rd : Reg) (rot : BitVec 4) (imm8 : BitVec 8) (s : State) : Outcome :=
  finish (dataProc cond sBit rd (operandImm rot imm8) (aluAdd (s.reg rn)) s)

/-- ADD, register (40:R745). -/
def execAddReg (cond : Cond) (sBit : Bool) (rn rd : Reg) (shiftImm : BitVec 5) (shift : Shift) (rm : Reg)
    (s : State) : Outcome :=
  finish (dataProc cond sBit rd (operandReg shiftImm shift rm) (aluAdd (s.reg rn)) s)

/-- ADD, register shift (40:R745). -/
def execAddRegShift (cond : Cond) (sBit : Bool) (rn rd rs : Reg) (shift : Shift) (rm : Reg) (s : State) : Outcome :=
  finish (dataProcShift cond sBit [rn, rs, rm] rd (operandRegShift rs shift rm) (aluAdd (s.reg rn)) s)

/-- ADC, immediate (40:R746). -/
def execAdcImm (cond : Cond) (sBit : Bool) (rn rd : Reg) (rot : BitVec 4) (imm8 : BitVec 8) (s : State) : Outcome :=
  finish (dataProc cond sBit rd (operandImm rot imm8) (aluAdc (s.reg rn)) s)

/-- ADC, register (40:R746). -/
def execAdcReg (cond : Cond) (sBit : Bool) (rn rd : Reg) (shiftImm : BitVec 5) (shift : Shift) (rm : Reg)
    (s : State) : Outcome :=
  finish (dataProc cond sBit rd (operandReg shiftImm shift rm) (aluAdc (s.reg rn)) s)

/-- ADC, register shift (40:R746). -/
def execAdcRegShift (cond : Cond) (sBit : Bool) (rn rd rs : Reg) (shift : Shift) (rm : Reg) (s : State) : Outcome :=
  finish (dataProcShift cond sBit [rn, rs, rm] rd (operandRegShift rs shift rm) (aluAdc (s.reg rn)) s)

/-- SBC, immediate (40:R748). -/
def execSbcImm (cond : Cond) (sBit : Bool) (rn rd : Reg) (rot : BitVec 4) (imm8 : BitVec 8) (s : State) : Outcome :=
  finish (dataProc cond sBit rd (operandImm rot imm8) (aluSbc (s.reg rn)) s)

/-- SBC, register (40:R748). -/
def execSbcReg (cond : Cond) (sBit : Bool) (rn rd : Reg) (shiftImm : BitVec 5) (shift : Shift) (rm : Reg)
    (s : State) : Outcome :=
  finish (dataProc cond sBit rd (operandReg shiftImm shift rm) (aluSbc (s.reg rn)) s)

/-- SBC, register shift (40:R748). -/
def execSbcRegShift (cond : Cond) (sBit : Bool) (rn rd rs : Reg) (shift : Shift) (rm : Reg) (s : State) : Outcome :=
  finish (dataProcShift cond sBit [rn, rs, rm] rd (operandRegShift rs shift rm) (aluSbc (s.reg rn)) s)

/-- RSC, immediate (40:R750). -/
def execRscImm (cond : Cond) (sBit : Bool) (rn rd : Reg) (rot : BitVec 4) (imm8 : BitVec 8) (s : State) : Outcome :=
  finish (dataProc cond sBit rd (operandImm rot imm8) (aluRsc (s.reg rn)) s)

/-- RSC, register (40:R750). -/
def execRscReg (cond : Cond) (sBit : Bool) (rn rd : Reg) (shiftImm : BitVec 5) (shift : Shift) (rm : Reg)
    (s : State) : Outcome :=
  finish (dataProc cond sBit rd (operandReg shiftImm shift rm) (aluRsc (s.reg rn)) s)

/-- RSC, register shift (40:R750). -/
def execRscRegShift (cond : Cond) (sBit : Bool) (rn rd rs : Reg) (shift : Shift) (rm : Reg) (s : State) : Outcome :=
  finish (dataProcShift cond sBit [rn, rs, rm] rd (operandRegShift rs shift rm) (aluRsc (s.reg rn)) s)

/-- ORR, immediate (40:R753). -/
def execOrrImm (cond : Cond) (sBit : Bool) (rn rd : Reg) (rot : BitVec 4) (imm8 : BitVec 8) (s : State) : Outcome :=
  finish (dataProc cond sBit rd (operandImm rot imm8) (aluOrr (s.reg rn)) s)

/-- ORR, register (40:R753). -/
def execOrrReg (cond : Cond) (sBit : Bool) (rn rd : Reg) (shiftImm : BitVec 5) (shift : Shift) (rm : Reg)
    (s : State) : Outcome :=
  finish (dataProc cond sBit rd (operandReg shiftImm shift rm) (aluOrr (s.reg rn)) s)

/-- ORR, register shift (40:R753). -/
def execOrrRegShift (cond : Cond) (sBit : Bool) (rn rd rs : Reg) (shift : Shift) (rm : Reg) (s : State) : Outcome :=
  finish (dataProcShift cond sBit [rn, rs, rm] rd (operandRegShift rs shift rm) (aluOrr (s.reg rn)) s)

/-- BIC, immediate (40:R754). -/
def execBicImm (cond : Cond) (sBit : Bool) (rn rd : Reg) (rot : BitVec 4) (imm8 : BitVec 8) (s : State) : Outcome :=
  finish (dataProc cond sBit rd (operandImm rot imm8) (aluBic (s.reg rn)) s)

/-- BIC, register (40:R754). -/
def execBicReg (cond : Cond) (sBit : Bool) (rn rd : Reg) (shiftImm : BitVec 5) (shift : Shift) (rm : Reg)
    (s : State) : Outcome :=
  finish (dataProc cond sBit rd (operandReg shiftImm shift rm) (aluBic (s.reg rn)) s)

/-- BIC, register shift (40:R754). -/
def execBicRegShift (cond : Cond) (sBit : Bool) (rn rd rs : Reg) (shift : Shift) (rm : Reg) (s : State) : Outcome :=
  finish (dataProcShift cond sBit [rn, rs, rm] rd (operandRegShift rs shift rm) (aluBic (s.reg rn)) s)

/-- MOV, immediate (40:R755). -/
def execMovImm (cond : Cond) (sBit : Bool) (rd : Reg) (rot : BitVec 4) (imm8 : BitVec 8) (s : State) : Outcome :=
  finish (dataProc cond sBit rd (operandImm rot imm8) aluMov s)

/-- MOV, register (40:R755). -/
def execMovReg (cond : Cond) (sBit : Bool) (rd : Reg) (shiftImm : BitVec 5) (shift : Shift) (rm : Reg)
    (s : State) : Outcome :=
  finish (dataProc cond sBit rd (operandReg shiftImm shift rm) aluMov s)

/-- MOV, register shift (40:R755). -/
def execMovRegShift (cond : Cond) (sBit : Bool) (rd rs : Reg) (shift : Shift) (rm : Reg) (s : State) : Outcome :=
  finish (dataProcShift cond sBit [rs, rm] rd (operandRegShift rs shift rm) aluMov s)

/-- CPY (40:R757): MOV of an unshifted register, without flags. -/
def execCpy (cond : Cond) (rd rm : Reg) (s : State) : Outcome :=
  finish (dataProc cond false rd (operandReg 0#5 .lsl rm) aluMov s)

/-- MVN, immediate (40:R756). -/
def execMvnImm (cond : Cond) (sBit : Bool) (rd : Reg) (rot : BitVec 4) (imm8 : BitVec 8) (s : State) : Outcome :=
  finish (dataProc cond sBit rd (operandImm rot imm8) aluMvn s)

/-- MVN, register (40:R756). -/
def execMvnReg (cond : Cond) (sBit : Bool) (rd : Reg) (shiftImm : BitVec 5) (shift : Shift) (rm : Reg)
    (s : State) : Outcome :=
  finish (dataProc cond sBit rd (operandReg shiftImm shift rm) aluMvn s)

/-- MVN, register shift (40:R756). -/
def execMvnRegShift (cond : Cond) (sBit : Bool) (rd rs : Reg) (shift : Shift) (rm : Reg) (s : State) : Outcome :=
  finish (dataProcShift cond sBit [rs, rm] rd (operandRegShift rs shift rm) aluMvn s)

/-- TST, immediate (40:R760). -/
def execTstImm (cond : Cond) (rn : Reg) (rot : BitVec 4) (imm8 : BitVec 8) (s : State) : Outcome :=
  finish (compare cond (operandImm rot imm8) (aluAnd (s.reg rn)) s)

/-- TST, register (40:R760). -/
def execTstReg (cond : Cond) (rn : Reg) (shiftImm : BitVec 5) (shift : Shift) (rm : Reg) (s : State) : Outcome :=
  finish (compare cond (operandReg shiftImm shift rm) (aluAnd (s.reg rn)) s)

/-- TST, register shift (40:R760). -/
def execTstRegShift (cond : Cond) (rn rs : Reg) (shift : Shift) (rm : Reg) (s : State) : Outcome :=
  finish (compareShift cond [rn, rs, rm] (operandRegShift rs shift rm) (aluAnd (s.reg rn)) s)

/-- TEQ, immediate (40:R761). -/
def execTeqImm (cond : Cond) (rn : Reg) (rot : BitVec 4) (imm8 : BitVec 8) (s : State) : Outcome :=
  finish (compare cond (operandImm rot imm8) (aluEor (s.reg rn)) s)

/-- TEQ, register (40:R761). -/
def execTeqReg (cond : Cond) (rn : Reg) (shiftImm : BitVec 5) (shift : Shift) (rm : Reg) (s : State) : Outcome :=
  finish (compare cond (operandReg shiftImm shift rm) (aluEor (s.reg rn)) s)

/-- TEQ, register shift (40:R761). -/
def execTeqRegShift (cond : Cond) (rn rs : Reg) (shift : Shift) (rm : Reg) (s : State) : Outcome :=
  finish (compareShift cond [rn, rs, rm] (operandRegShift rs shift rm) (aluEor (s.reg rn)) s)

/-- CMP, immediate (40:R758). -/
def execCmpImm (cond : Cond) (rn : Reg) (rot : BitVec 4) (imm8 : BitVec 8) (s : State) : Outcome :=
  finish (compare cond (operandImm rot imm8) (aluSub (s.reg rn)) s)

/-- CMP, register (40:R758). -/
def execCmpReg (cond : Cond) (rn : Reg) (shiftImm : BitVec 5) (shift : Shift) (rm : Reg) (s : State) : Outcome :=
  finish (compare cond (operandReg shiftImm shift rm) (aluSub (s.reg rn)) s)

/-- CMP, register shift (40:R758). -/
def execCmpRegShift (cond : Cond) (rn rs : Reg) (shift : Shift) (rm : Reg) (s : State) : Outcome :=
  finish (compareShift cond [rn, rs, rm] (operandRegShift rs shift rm) (aluSub (s.reg rn)) s)

/-- CMN, immediate (40:R759). -/
def execCmnImm (cond : Cond) (rn : Reg) (rot : BitVec 4) (imm8 : BitVec 8) (s : State) : Outcome :=
  finish (compare cond (operandImm rot imm8) (aluAdd (s.reg rn)) s)

/-- CMN, register (40:R759). -/
def execCmnReg (cond : Cond) (rn : Reg) (shiftImm : BitVec 5) (shift : Shift) (rm : Reg) (s : State) : Outcome :=
  finish (compare cond (operandReg shiftImm shift rm) (aluAdd (s.reg rn)) s)

/-- CMN, register shift (40:R759). -/
def execCmnRegShift (cond : Cond) (rn rs : Reg) (shift : Shift) (rm : Reg) (s : State) : Outcome :=
  finish (compareShift cond [rn, rs, rm] (operandRegShift rs shift rm) (aluAdd (s.reg rn)) s)

/-- The number of zero bits above the highest one bit (40:R762). -/
def countLeadingZeros (v : Word) : Nat := if v = 0#32 then 32 else 31 - v.toNat.log2

/-- CLZ (40:R762). -/
def execClz (cond : Cond) (rd rm : Reg) (s : State) : Outcome :=
  finish <| conditional cond false s do
    noPc [rd, rm]
    pure (s.setReg rd (BitVec.ofNat 32 (countLeadingZeros (s.reg rm)))).advance

end Sys2Proof.Machine
end

