-- ==== Sys2Proof/Machine/LoadStore.lean ====
section
/-! DEFINITION. The meanings of the ARM loads and stores of single registers, of PLD, and of the swaps and
exclusives (42, 44). -/

namespace Sys2Proof.Machine

open Sys2Proof

/-! ### Shared operations -/

/-- The offset of addressing mode 2, register (42:R860). -/
def scaledOffset (s : State) (shiftImm : BitVec 5) (shift : Shift) (rm : Reg) : Word := (operandReg shiftImm shift rm s).1

/-- The end of a load of one register: the base, then the destination (42:R862). -/
def endLoad (s : State) (rn rd : Reg) (wb : Option Word) (v : Word) : Result State :=
  .ok ((writeBase s rn wb).setReg rd v).advance

/-- A load of less than a word, or with User permission: Rd may not be R15. `read` reads at an address. -/
def loadReg (cond : Cond) (p u w : Bool) (rn rd : Reg) (offset : Word) (check : Result Unit)
    (read : Word → State → Result (Word × State)) (s : State) : Result State :=
  conditional cond false s do
    noPc [rd]
    checkBase p w rn [rd]
    check
    let (address, wb) := indexed p u (writesBase p w) (s.reg rn) offset
    let (v, s) ← read address s
    endLoad s rn rd wb v

/-- A load of a word into the PC (42:R867, 20:R516). -/
def loadPcFrom (rn : Reg) (wb : Option Word) (address : Word) (s : State) : Result State := do
  if bits address 0 2 != 0#2 && !s.alignCheck then
    if s.unalignedOn then alignmentFault address false s else .error (.refuse .unalignedPcLoad)
  else do
    let (v, s) ← loadWord false true address s
    loadToPc (writeBase s rn wb) v

/-- LDR (42:R866, R867). -/
def loadRegOrPc (cond : Cond) (p u w : Bool) (rn rd : Reg) (offset : Word) (check : Result Unit)
    (s : State) : Result State :=
  conditional cond (rd == 15#4) s do
    checkBase p w rn [rd]
    check
    let (address, wb) := indexed p u (writesBase p w) (s.reg rn) offset
    if rd = 15#4 then loadPcFrom rn wb address s
    else do
      let (v, s) ← loadWord false false address s
      endLoad s rn rd wb v

/-- A store of one register: `write` writes at an address. -/
def storeReg (cond : Cond) (p u w : Bool) (rn rd : Reg) (offset : Word) (check : Result Unit)
    (write : Word → Word → State → Result State) (s : State) : Result State :=
  conditional cond false s do
    checkBase p w rn [rd]
    check
    let (address, wb) := indexed p u (writesBase p w) (s.reg rn) offset
    let s ← write address (storeValue s rd) s
    pure (writeBase s rn wb).advance

/-- Reading a byte, zero-extended. -/
def readByte (user : Bool) : Word → State → Result (Word × State) := memRead .byte user false 1

/-- Reading a byte, sign-extended (42:R871). -/
def readSignedByte (a : Word) (s : State) : Result (Word × State) := do
  let (v, s) ← memRead .byte false false 1 a s
  pure (sext (bits v 0 8), s)

/-- Reading a halfword, zero-extended (42:R872). -/
def readHalf : Word → State → Result (Word × State) := memRead .half false false 2

/-- Reading a halfword, sign-extended (42:R873). -/
def readSignedHalf (a : Word) (s : State) : Result (Word × State) := do
  let (v, s) ← memRead .half false false 2 a s
  pure (sext (bits v 0 16), s)

/-- Writing a word (42:R875). -/
def writeWord (user : Bool) : Word → Word → State → Result State := memWrite .wStore user 4

/-- Writing a byte (42:R877). -/
def writeByte (user : Bool) : Word → Word → State → Result State := memWrite .byte user 1

/-- Writing a halfword (42:R879). -/
def writeHalf : Word → Word → State → Result State := memWrite .half false 2

/-- The register after an even one. -/
def pairReg (r : Reg) : Reg := r + 1#4

/-- The first register of a doubleword transfer: an odd one is Undefined, R14 is refused (42:R874). -/
def checkPair (r : Reg) (s : State) : Result Unit :=
  if bit r 0 then undefined s else refuseIf (r == 14#4) .registerField

/-- LDRD (42:R874). -/
def loadPair (cond : Cond) (p u w : Bool) (rn rd : Reg) (offset : Word) (check : Result Unit)
    (s : State) : Result State :=
  conditional cond false s do
    checkPair rd s
    checkMode3 p w
    checkBase p w rn [rd, pairReg rd]
    check
    let (address, wb) := indexed p u (writesBase p w) (s.reg rn) offset
    let (vs, s) ← loadWords .twoWord false 2 address s
    let s := (writeBase s rn wb).setRegsIn s.mode ([rd, pairReg rd].zip vs)
    pure s.advance

/-- STRD (42:R880). -/
def storePair (cond : Cond) (p u w : Bool) (rn rd : Reg) (offset : Word) (check : Result Unit)
    (s : State) : Result State :=
  conditional cond false s do
    checkPair rd s
    checkMode3 p w
    checkBase p w rn [rd]
    check
    let (address, wb) := indexed p u (writesBase p w) (s.reg rn) offset
    let s ← storeWords .twoWord [s.reg rd, s.reg (pairReg rd)] address s
    pure (writeBase s rn wb).advance

/-- The linefill of a preload, in the Secure world: where a load of the address would fill a line without an abort, a line may be filled
(42:R881; log 12). -/
def preloadLine (va : Word) (s : State) : State :=
  if s.nsState || !(s.controlBit 0 && s.controlBit 2) then s
  else
    let acc := plainAccess s
    match dataTranslate acc false va s with
    | .error _ => s
    | .ok (t, s) =>
      let shape := fillShape acc t
      if (dataHit s t va).isSome || dataElsewhere s t va || !dataFills s acc t ||
          (firstError s.bus [linefillRequest shape t.offset]).isSome then s
      else
        let (fills, s) := drawBit s
        if fills then
          fillLine (s.drainTo (·.inLine t.place t.offset)) .data shape va t.pa t.ns s.be32 ((lineBytes t.pa).map (s.byteAt t.place))
        else s

/-- Preload: no register, flag or byte of memory changes, and nothing aborts (42:R881). -/
def preload (u : Bool) (rn : Reg) (offset : Word) (s : State) : Result State :=
  .ok (preloadLine (indexed true u false (s.reg rn) offset).1 s).advance

/-! ### Loads and stores, addressing mode 2 (42:R866 to R881) -/

/-- PLD, immediate offset (42:R881). -/
def execPldImm (u : Bool) (rn : Reg) (off12 : BitVec 12) (s : State) : Outcome :=
  finish (preload u rn (zext off12) s)

/-- PLD, register offset (42:R881); R15 as the offset is refused (42:R860). -/
def execPldReg (u : Bool) (rn : Reg) (shiftImm : BitVec 5) (shift : Shift) (rm : Reg) (s : State) : Outcome :=
  finish (noPc [rm] >>= fun _ => preload u rn (scaledOffset s shiftImm shift rm) s)

/-- LDR, immediate offset (42:R866, R867). -/
def execLdrImm (cond : Cond) (p u w : Bool) (rn rd : Reg) (off12 : BitVec 12) (s : State) : Outcome :=
  finish (loadRegOrPc cond p u w rn rd (zext off12) (.ok ()) s)

/-- LDRB, immediate offset (42:R869). -/
def execLdrbImm (cond : Cond) (p u w : Bool) (rn rd : Reg) (off12 : BitVec 12) (s : State) : Outcome :=
  finish (loadReg cond p u w rn rd (zext off12) (.ok ()) (readByte false) s)

/-- STR, immediate offset (42:R875). -/
def execStrImm (cond : Cond) (p u w : Bool) (rn rd : Reg) (off12 : BitVec 12) (s : State) : Outcome :=
  finish (storeReg cond p u w rn rd (zext off12) (.ok ()) (writeWord false) s)

/-- STRB, immediate offset (42:R877); R15 is refused. -/
def execStrbImm (cond : Cond) (p u w : Bool) (rn rd : Reg) (off12 : BitVec 12) (s : State) : Outcome :=
  finish (storeReg cond p u w rn rd (zext off12) (noPc [rd] >>= fun _ => (.ok ())) (writeByte false) s)

/-- LDRT, immediate offset (42:R868). -/
def execLdrtImm (cond : Cond) (u : Bool) (rn rd : Reg) (off12 : BitVec 12) (s : State) : Outcome :=
  finish (loadReg cond false u true rn rd (zext off12) (.ok ()) (loadWord true false) s)

/-- LDRBT, immediate offset (42:R870). -/
def execLdrbtImm (cond : Cond) (u : Bool) (rn rd : Reg) (off12 : BitVec 12) (s : State) : Outcome :=
  finish (loadReg cond false u true rn rd (zext off12) (.ok ()) (readByte true) s)

/-- STRT, immediate offset (42:R876). -/
def execStrtImm (cond : Cond) (u : Bool) (rn rd : Reg) (off12 : BitVec 12) (s : State) : Outcome :=
  finish (storeReg cond false u true rn rd (zext off12) (.ok ()) (writeWord true) s)

/-- STRBT, immediate offset (42:R878). -/
def execStrbtImm (cond : Cond) (u : Bool) (rn rd : Reg) (off12 : BitVec 12) (s : State) : Outcome :=
  finish (storeReg cond false u true rn rd (zext off12) (noPc [rd] >>= fun _ => (.ok ())) (writeByte true) s)

/-- LDR, register offset (42:R866, R867). -/
def execLdrReg (cond : Cond) (p u w : Bool) (rn rd : Reg) (shiftImm : BitVec 5) (shift : Shift) (rm : Reg)
    (s : State) : Outcome :=
  finish (loadRegOrPc cond p u w rn rd (scaledOffset s shiftImm shift rm) (checkOffset p w rn rm) s)

/-- LDRB, register offset (42:R869). -/
def execLdrbReg (cond : Cond) (p u w : Bool) (rn rd : Reg) (shiftImm : BitVec 5) (shift : Shift) (rm : Reg)
    (s : State) : Outcome :=
  finish (loadReg cond p u w rn rd (scaledOffset s shiftImm shift rm) (checkOffset p w rn rm) (readByte false) s)

/-- STR, register offset (42:R875). -/
def execStrReg (cond : Cond) (p u w : Bool) (rn rd : Reg) (shiftImm : BitVec 5) (shift : Shift) (rm : Reg)
    (s : State) : Outcome :=
  finish (storeReg cond p u w rn rd (scaledOffset s shiftImm shift rm) (checkOffset p w rn rm) (writeWord false) s)

/-- STRB, register offset (42:R877); R15 is refused. -/
def execStrbReg (cond : Cond) (p u w : Bool) (rn rd : Reg) (shiftImm : BitVec 5) (shift : Shift) (rm : Reg)
    (s : State) : Outcome :=
  finish (storeReg cond p u w rn rd (scaledOffset s shiftImm shift rm) (noPc [rd] >>= fun _ =>
    (checkOffset p w rn rm)) (writeByte false) s)

/-- LDRT, register offset (42:R868). -/
def execLdrtReg (cond : Cond) (u : Bool) (rn rd : Reg) (shiftImm : BitVec 5) (shift : Shift) (rm : Reg)
    (s : State) : Outcome :=
  finish (loadReg cond false u true rn rd (scaledOffset s shiftImm shift rm) (checkOffset false true rn rm)
    (loadWord true false) s)

/-- LDRBT, register offset (42:R870). -/
def execLdrbtReg (cond : Cond) (u : Bool) (rn rd : Reg) (shiftImm : BitVec 5) (shift : Shift) (rm : Reg)
    (s : State) : Outcome :=
  finish (loadReg cond false u true rn rd (scaledOffset s shiftImm shift rm) (checkOffset false true rn rm)
    (readByte true) s)

/-- STRT, register offset (42:R876). -/
def execStrtReg (cond : Cond) (u : Bool) (rn rd : Reg) (shiftImm : BitVec 5) (shift : Shift) (rm : Reg)
    (s : State) : Outcome :=
  finish (storeReg cond false u true rn rd (scaledOffset s shiftImm shift rm) (checkOffset false true rn rm)
    (writeWord true) s)

/-- STRBT, register offset (42:R878). -/
def execStrbtReg (cond : Cond) (u : Bool) (rn rd : Reg) (shiftImm : BitVec 5) (shift : Shift) (rm : Reg)
    (s : State) : Outcome :=
  finish (storeReg cond false u true rn rd (scaledOffset s shiftImm shift rm) (noPc [rd] >>= fun _ =>
    (checkOffset false true rn rm)) (writeByte true) s)

/-! ### Loads and stores, addressing mode 3 (42:R871 to R880) -/

/-- STRH, immediate offset (42:R879); R15 is refused. -/
def execStrhImm (cond : Cond) (p u w : Bool) (rn rd : Reg) (immH immL : BitVec 4) (s : State) : Outcome :=
  finish (storeReg cond p u w rn rd (splitImm immH immL) (noPc [rd] >>= fun _ => (checkMode3 p w)) writeHalf s)

/-- LDRH, immediate offset (42:R872). -/
def execLdrhImm (cond : Cond) (p u w : Bool) (rn rd : Reg) (immH immL : BitVec 4) (s : State) : Outcome :=
  finish (loadReg cond p u w rn rd (splitImm immH immL) (checkMode3 p w) readHalf s)

/-- LDRSB, immediate offset (42:R871). -/
def execLdrsbImm (cond : Cond) (p u w : Bool) (rn rd : Reg) (immH immL : BitVec 4) (s : State) : Outcome :=
  finish (loadReg cond p u w rn rd (splitImm immH immL) (checkMode3 p w) readSignedByte s)

/-- LDRSH, immediate offset (42:R873). -/
def execLdrshImm (cond : Cond) (p u w : Bool) (rn rd : Reg) (immH immL : BitVec 4) (s : State) : Outcome :=
  finish (loadReg cond p u w rn rd (splitImm immH immL) (checkMode3 p w) readSignedHalf s)

/-- LDRD, immediate offset (42:R874). -/
def execLdrdImm (cond : Cond) (p u w : Bool) (rn rd : Reg) (immH immL : BitVec 4) (s : State) : Outcome :=
  finish (loadPair cond p u w rn rd (splitImm immH immL) (.ok ()) s)

/-- STRD, immediate offset (42:R880). -/
def execStrdImm (cond : Cond) (p u w : Bool) (rn rd : Reg) (immH immL : BitVec 4) (s : State) : Outcome :=
  finish (storePair cond p u w rn rd (splitImm immH immL) (.ok ()) s)

/-- STRH, register offset (42:R879); R15 is refused. -/
def execStrhReg (cond : Cond) (p u w : Bool) (rn rd rm : Reg) (s : State) : Outcome :=
  finish (storeReg cond p u w rn rd (s.reg rm) (noPc [rd] >>= fun _ =>
    (checkMode3 p w >>= fun _ => checkOffset p w rn rm)) writeHalf s)

/-- LDRH, register offset (42:R872). -/
def execLdrhReg (cond : Cond) (p u w : Bool) (rn rd rm : Reg) (s : State) : Outcome :=
  finish (loadReg cond p u w rn rd (s.reg rm) (checkMode3 p w >>= fun _ => checkOffset p w rn rm) readHalf s)

/-- LDRSB, register offset (42:R871). -/
def execLdrsbReg (cond : Cond) (p u w : Bool) (rn rd rm : Reg) (s : State) : Outcome :=
  finish (loadReg cond p u w rn rd (s.reg rm) (checkMode3 p w >>= fun _ => checkOffset p w rn rm) readSignedByte s)

/-- LDRSH, register offset (42:R873). -/
def execLdrshReg (cond : Cond) (p u w : Bool) (rn rd rm : Reg) (s : State) : Outcome :=
  finish (loadReg cond p u w rn rd (s.reg rm) (checkMode3 p w >>= fun _ => checkOffset p w rn rm) readSignedHalf s)

/-- LDRD, register offset (42:R874). -/
def execLdrdReg (cond : Cond) (p u w : Bool) (rn rd rm : Reg) (s : State) : Outcome :=
  finish (loadPair cond p u w rn rd (s.reg rm)
    (checkOffset p w rn rm >>= fun _ => refuseIf ([rd, pairReg rd].contains rm) .registerField) s)

/-- STRD, register offset (42:R880). -/
def execStrdReg (cond : Cond) (p u w : Bool) (rn rd rm : Reg) (s : State) : Outcome :=
  finish (storePair cond p u w rn rd (s.reg rm) (checkOffset p w rn rm) s)

/-! ### Swap (44:R954, R955) -/

/-- The accesses of a swap: locked, the write too, as 23:R1479 and 44:R954 say and the signal tables 26:R1645 and R1646 do not (DESIGN
CHOICE, unsafe: log 62); an external abort of the read is precise (60:R1241). -/
def swapAccess (s : State) : Access := { plainAccess s with precise := true, lock := .locked }

/-- SWP: the locked load, then the store (44:R954, 23:R1479). -/
def swapWord (address v : Word) (s : State) : Result (Word × State) := do
  let acc := swapAccess s
  let load := if s.unalignedOn then AccessType.wSync else AccessType.wLoad
  let store := if s.unalignedOn then AccessType.wSync else AccessType.wStore
  let (w, s) ← readAs acc load 4 address s
  let s ← writeAs acc store 4 address v s
  pure (rotateLoaded s address w, s)

/-- SWPB (44:R955). -/
def swapByte (address v : Word) (s : State) : Result (Word × State) := do
  let acc := swapAccess s
  let (w, s) ← readAs acc .byte 1 address s
  let s ← writeAs acc .byte 1 address v s
  pure (w, s)

/-- A swap: R15, and the base as Rd or Rm, are refused (44:R954). -/
def swap (cond : Cond) (rn rd rm : Reg) (op : Word → Word → State → Result (Word × State))
    (s : State) : Result State :=
  conditional cond false s do
    noPc [rn, rd, rm]
    refuseIf (rn == rd || rn == rm) .registerField
    let (w, s) ← op (s.reg rn) (s.reg rm) s
    pure (s.setReg rd w).advance

/-- SWP (44:R954). -/
def execSwp (cond : Cond) (rn rd rm : Reg) (s : State) : Outcome :=
  finish (swap cond rn rd rm swapWord s)

/-- SWPB (44:R955). -/
def execSwpb (cond : Cond) (rn rd rm : Reg) (s : State) : Outcome :=
  finish (swap cond rn rd rm swapByte s)

/-! ### Exclusives (44:R940 to R953) -/

/-- A load-exclusive of up to a word (44:R945). -/
def loadExclusiveReg (cond : Cond) (size : Nat) (rn rd : Reg) (s : State) : Result State :=
  conditional cond false s do
    noPc [rn, rd]
    let (words, s) ← loadExclusive size (s.reg rn) s
    match words with
    | some (v, _) => pure (s.setReg rd v).advance
    | none => pure s.advance

/-- A store-exclusive of up to a word: Rd may be neither the base nor the source (44:R944). -/
def storeExclusiveReg (cond : Cond) (size : Nat) (rn rd rm : Reg) (s : State) : Result State :=
  conditional cond false s do
    noPc [rn, rd, rm]
    refuseIf (rd == rn || rd == rm) .registerField
    let (status, s) ← storeExclusive size (s.reg rm) 0#32 (s.reg rn) s
    pure (s.setReg rd status).advance

/-- LDREX (44:R945). -/
def execLdrex (cond : Cond) (rn rd : Reg) (s : State) : Outcome :=
  finish (loadExclusiveReg cond 4 rn rd s)

/-- LDREXB (44:R946). -/
def execLdrexb (cond : Cond) (rn rd : Reg) (s : State) : Outcome :=
  finish (loadExclusiveReg cond 1 rn rd s)

/-- LDREXH (44:R948). -/
def execLdrexh (cond : Cond) (rn rd : Reg) (s : State) : Outcome :=
  finish (loadExclusiveReg cond 2 rn rd s)

/-- STREX (44:R944). -/
def execStrex (cond : Cond) (rn rd rm : Reg) (s : State) : Outcome :=
  finish (storeExclusiveReg cond 4 rn rd rm s)

/-- STREXB (44:R947). -/
def execStrexb (cond : Cond) (rn rd rm : Reg) (s : State) : Outcome :=
  finish (storeExclusiveReg cond 1 rn rd rm s)

/-- STREXH (44:R949). -/
def execStrexh (cond : Cond) (rn rd rm : Reg) (s : State) : Outcome :=
  finish (storeExclusiveReg cond 2 rn rd rm s)

/-- LDREXD: an odd first register, or R14, is refused (44:R950, 93; log 48). -/
def execLdrexd (cond : Cond) (rn rd : Reg) (s : State) : Outcome :=
  finish <| conditional cond false s do
    noPc [rn]
    refuseIf (bit rd 0 || rd == 14#4) .registerField
    let (words, s) ← loadExclusive 8 (s.reg rn) s
    match words with
    | some (v1, v2) => pure ((s.setReg rd v1).setReg (pairReg rd) v2).advance
    | none => pure s.advance

/-- STREXD (44:R951): Rm is even and not R14; Rd differs from the base and both sources. -/
def execStrexd (cond : Cond) (rn rd rm : Reg) (s : State) : Outcome :=
  finish <| conditional cond false s do
    noPc [rn, rd, rm]
    refuseIf (bit rm 0 || rm == 14#4 || rd == rn || rd == rm || rd == pairReg rm) .registerField
    let (status, s) ← storeExclusive 8 (s.reg rm) (s.reg (pairReg rm)) (s.reg rn) s
    pure (s.setReg rd status).advance

/-- CLREX (44:R953). -/
def execClrex (s : State) : Outcome :=
  finish (.ok { s with localMon := none }.advance)

end Sys2Proof.Machine
end

