-- ==== Sys2Proof/Machine/LoadStoreMultiple.lean ====
section
/-! DEFINITION. The meanings of LDM, STM, RFE and SRS (43). -/

namespace Sys2Proof.Machine

open Sys2Proof

/-- The restrictions on every LDM and STM (43:R913). -/
def checkBlock (rn : Reg) (list : List Reg) : Result Unit := do
  refuseIf list.isEmpty .registerList
  noPc [rn]

/-- The base with writeback may not be in the list of an LDM (43:R913). -/
def checkLoadBase (w : Bool) (rn : Reg) (list : List Reg) : Result Unit := refuseIf (w && list.contains rn) .registerList

/-- The base with writeback may be in the list of an STM only as its lowest register (43:R913). -/
def checkStoreBase (w : Bool) (rn : Reg) (list : List Reg) : Result Unit :=
  refuseIf (w && list.contains rn && list.head? != some rn) .registerList

/-- The value written back, if any (43:R910). -/
def blockBase (u w : Bool) (base : Word) (n : Nat) : Option Word := if w then some (blockEnd u base n) else none

/-- A mode without an SPSR is refused (10:R54). -/
def needsSpsr (s : State) : Result Unit := refuseIf (spsrIndex s.mode).isNone .noSpsr

/-- The words loaded for a list, and the registers other than R15 with their words. -/
def loadBlock (p u precise : Bool) (base : Word) (list : List Reg) (s : State) : Result (List (Reg × Word) × State) := do
  let (ws, s) ← loadWords .multiWord precise list.length (blockStart p u base list.length) s
  pure (list.zip ws, s)

/-- The word loaded for R15. -/
def pcWord (loaded : List (Reg × Word)) : Word := (loaded.lookup 15#4).getD 0#32

/-- The registers loaded other than R15. -/
def plainRegs (loaded : List (Reg × Word)) : List (Reg × Word) := loaded.filter fun x => x.1 != 15#4

/-- LDM (1) (43:R914). -/
def execLdm1 (cond : Cond) (p u w : Bool) (rn : Reg) (regs : BitVec 16) (s : State) : Outcome :=
  finish <| conditional cond (bit regs 15) s do
    let list := regList regs
    checkBlock rn list
    checkLoadBase w rn list
    let (loaded, s) ← loadBlock p u (bit regs 15) (s.reg rn) list s
    let s' := (writeBase s rn (blockBase u w (s.reg rn) list.length)).setRegsIn s.mode (plainRegs loaded)
    if bit regs 15 then loadToPc s' (pcWord loaded) else pure s'.advance

/-- LDM (2), into the User mode registers (43:R915). -/
def execLdm2 (cond : Cond) (p u : Bool) (rn : Reg) (regs : BitVec 15) (s : State) : Outcome :=
  finish <| conditional cond false s do
    let list := regList (regs.setWidth 16)
    checkBlock rn list
    needsSpsr s
    let (loaded, s) ← loadBlock p u false (s.reg rn) list s
    pure (s.setRegsIn modeUsr loaded).advance

/-- LDM (3), a return from an exception (43:R916). -/
def execLdm3 (cond : Cond) (p u w : Bool) (rn : Reg) (regs : BitVec 15) (s : State) : Outcome :=
  finish <| conditional cond true s do
    let list := regList (regs.setWidth 16 ||| 0x8000#16)
    checkBlock rn list
    checkLoadBase w rn list
    let saved ← s.spsr
    let (loaded, s) ← loadBlock p u true (s.reg rn) list s
    let s' := (writeBase s rn (blockBase u w (s.reg rn) list.length)).setRegsIn s.mode (plainRegs loaded)
    exceptionReturn s' saved (pcWord loaded)

/-- STM (1) (43:R917). -/
def execStm1 (cond : Cond) (p u w : Bool) (rn : Reg) (regs : BitVec 16) (s : State) : Outcome :=
  finish <| conditional cond false s do
    let list := regList regs
    checkBlock rn list
    checkStoreBase w rn list
    let base := s.reg rn
    let s ← storeWords .multiWord (list.map (storeValue s)) (blockStart p u base list.length) s
    pure (writeBase s rn (blockBase u w base list.length)).advance

/-- STM (2), from the User mode registers (43:R918). -/
def execStm2 (cond : Cond) (p u : Bool) (rn : Reg) (regs : BitVec 16) (s : State) : Outcome :=
  finish <| conditional cond false s do
    let list := regList regs
    checkBlock rn list
    needsSpsr s
    let values := list.map fun r => if r = 15#4 then storeValue s r else s.regIn modeUsr r
    let s ← storeWords .multiWord values (blockStart p u (s.reg rn) list.length) s
    pure s.advance

/-- RFE (43:R919): R15 as the base, and User and System mode, are refused (93 section 1). -/
def execRfe (p u w : Bool) (rn : Reg) (s : State) : Outcome :=
  finish do
    noPc [rn]
    let _ ← s.spsr
    let (ws, s) ← loadWords .multiWord true 2 (blockStart p u (s.reg rn) 2) s
    exceptionReturn (writeBase s rn (blockBase u w (s.reg rn) 2)) (ws.getD 1 0#32) (ws.getD 0 0#32)

/-- SRS (43:R920). -/
def execSrs (p u w : Bool) (mode : BitVec 5) (s : State) : Outcome :=
  finish do
    if s.nsState && mode == modeMon then undefined s
    else do
      refuseIf (!validMode mode) .srsMode
      let saved ← s.spsr
      let base := s.regIn mode 13#4
      let s ← storeWords .multiWord [s.reg 14#4, saved] (blockStart p u base 2) s
      pure (if w then s.setRegIn mode 13#4 (blockEnd u base 2) else s).advance

end Sys2Proof.Machine
end

