-- ==== Sys2Proof/Machine/MultiplyMedia.lean ====
section
/-! DEFINITION. The meanings of the ARM multiply, saturating and media instructions (41). Arithmetic is exact, on integers, and
narrowed at the end. -/

namespace Sys2Proof.Machine

open Sys2Proof

/-! ### Shared operations -/

/-- A signed halfword of a word: the top one or the bottom one (41:R790). -/
def half (v : Word) (top : Bool) : Int := (bits v (if top then 16 else 0) 16).toInt

/-- An integer's low 32 bits. -/
def word (i : Int) : Word := BitVec.ofInt 32 i

/-- Two halfwords as a word. -/
def packHalves (hi lo : Int) : Word := BitVec.ofInt 16 hi ++ BitVec.ofInt 16 lo

/-- SignedSat of 41:R791. -/
def signedSat (n : Nat) (v : Int) : Int × Bool :=
  let max : Int := 2 ^ (n - 1) - 1
  let min : Int := -(2 ^ (n - 1))
  if v < min then (min, true) else if max < v then (max, true) else (v, false)

/-- UnsignedSat of 41:R791. -/
def unsignedSat (n : Nat) (v : Int) : Int × Bool :=
  let max : Int := 2 ^ n - 1
  if v < 0 then (0, true) else if max < v then (max, true) else (v, false)

/-- Is the integer outside the signed 32-bit range? -/
def overflows (v : Int) : Bool := (signedSat 32 v).2

/-- An instruction that writes one register (41:R790). -/
def writeReg (cond : Cond) (used : List Reg) (rd : Reg) (v : State → Word) (s : State) : Result State :=
  conditional cond false s do
    noPc (rd :: used)
    pure (s.setReg rd (v s)).advance

/-- An instruction that writes one register and may set Q. -/
def writeRegQ (cond : Cond) (used : List Reg) (rd : Reg) (v : State → Int × Bool) (s : State) : Result State :=
  conditional cond false s do
    noPc (rd :: used)
    let (r, sat) := v s
    pure { s.setReg rd (word r) with cpsr := setQ s.cpsr sat }.advance

/-- A multiply that writes one register, and N and Z if S is set (41:R792, R793). -/
def multiply (cond : Cond) (sBit : Bool) (used : List Reg) (rd : Reg) (v : State → Word) (s : State) : Result State :=
  conditional cond false s do
    noPc (rd :: used)
    let r := v s
    let s' := s.setReg rd r
    pure (if sBit then { s' with cpsr := setNZ s.cpsr r } else s').advance

/-- A multiply that writes a pair of registers, and N and Z if S is set (41:R794 to R798). -/
def multiplyLong (cond : Cond) (sBit : Bool) (rdHi rdLo rs rm : Reg) (v : State → Int) (s : State) : Result State :=
  conditional cond false s do
    noPc [rdHi, rdLo, rs, rm]
    refuseIf (rdHi == rdLo) .registerField
    let p := BitVec.ofInt 64 (v s)
    let s' := (s.setReg rdHi (p.extractLsb' 32 32)).setReg rdLo (p.extractLsb' 0 32)
    let flags := setBit (setBit s.cpsr 31 (bit p 63)) 30 (p == 0#64)
    pure (if sBit then { s' with cpsr := flags } else s').advance

/-- The 64-bit accumulator of a long multiply, unsigned. -/
def accUnsigned (s : State) (rdHi rdLo : Reg) : Int := ((s.reg rdHi ++ s.reg rdLo : BitVec 64).toNat : Int)

/-- The 64-bit accumulator of a long multiply, signed. -/
def accSigned (s : State) (rdHi rdLo : Reg) : Int := (s.reg rdHi ++ s.reg rdLo : BitVec 64).toInt

/-- A register as an unsigned integer. -/
def uInt (s : State) (r : Reg) : Int := ((s.reg r).toNat : Int)

/-- A register as a signed integer. -/
def sInt (s : State) (r : Reg) : Int := (s.reg r).toInt

/-- The two products of the dual multiplies (41:R824); `x` exchanges the halves of Rs. -/
def dualProducts (s : State) (rm rs : Reg) (x : Bool) : Int × Int :=
  (half (s.reg rm) false * half (s.reg rs) x, half (s.reg rm) true * half (s.reg rs) (!x))

/-- The sum of the two products. -/
def dualSum (s : State) (rm rs : Reg) (x : Bool) : Int := (dualProducts s rm rs x).1 + (dualProducts s rm rs x).2

/-- The low product less the high product. -/
def dualDifference (s : State) (rm rs : Reg) (x : Bool) : Int := (dualProducts s rm rs x).1 - (dualProducts s rm rs x).2

/-- The integer, and whether it is outside the signed 32-bit range. -/
def checked (v : Int) : Int × Bool := (v, overflows v)

/-- Bits [63:32] of an integer. -/
def topWord (v : Int) : Word := (BitVec.ofInt 64 v).extractLsb' 32 32

/-- The rounding constant of the most significant word multiplies (41:R838). -/
def rounding : Int := 0x80000000

/-! ### Multiplies (41:R792 to R798) -/

/-- MUL (41:R792). -/
def execMul (cond : Cond) (sBit : Bool) (rd rs rm : Reg) (s : State) : Outcome :=
  finish (multiply cond sBit [rs, rm] rd (fun s => s.reg rm * s.reg rs) s)

/-- MLA (41:R793). -/
def execMla (cond : Cond) (sBit : Bool) (rd rn rs rm : Reg) (s : State) : Outcome :=
  finish (multiply cond sBit [rn, rs, rm] rd (fun s => s.reg rm * s.reg rs + s.reg rn) s)

/-- UMULL (41:R794). -/
def execUmull (cond : Cond) (sBit : Bool) (rdHi rdLo rs rm : Reg) (s : State) : Outcome :=
  finish (multiplyLong cond sBit rdHi rdLo rs rm (fun s => uInt s rm * uInt s rs) s)

/-- UMLAL (41:R795). -/
def execUmlal (cond : Cond) (sBit : Bool) (rdHi rdLo rs rm : Reg) (s : State) : Outcome :=
  finish (multiplyLong cond sBit rdHi rdLo rs rm (fun s => uInt s rm * uInt s rs + accUnsigned s rdHi rdLo) s)

/-- SMULL (41:R796). -/
def execSmull (cond : Cond) (sBit : Bool) (rdHi rdLo rs rm : Reg) (s : State) : Outcome :=
  finish (multiplyLong cond sBit rdHi rdLo rs rm (fun s => sInt s rm * sInt s rs) s)

/-- SMLAL (41:R797). -/
def execSmlal (cond : Cond) (sBit : Bool) (rdHi rdLo rs rm : Reg) (s : State) : Outcome :=
  finish (multiplyLong cond sBit rdHi rdLo rs rm (fun s => sInt s rm * sInt s rs + accSigned s rdHi rdLo) s)

/-- UMAAL (41:R798). -/
def execUmaal (cond : Cond) (rdHi rdLo rs rm : Reg) (s : State) : Outcome :=
  finish (multiplyLong cond false rdHi rdLo rs rm (fun s => uInt s rm * uInt s rs + uInt s rdLo + uInt s rdHi) s)

/-! ### Saturating add and subtract (41:R799 to R802) -/

/-- The doubling step of QDADD and QDSUB, then the second step, with both saturations. -/
def doubled (a b : Int) (op : Int → Int → Int) : Int × Bool :=
  let (dbl, s1) := signedSat 32 (2 * b)
  let (r, s2) := signedSat 32 (op a dbl)
  (r, s1 || s2)

/-- QADD (41:R799). -/
def execQadd (cond : Cond) (rn rd rm : Reg) (s : State) : Outcome :=
  finish (writeRegQ cond [rn, rm] rd (fun s => signedSat 32 (sInt s rm + sInt s rn)) s)

/-- QDADD (41:R800). -/
def execQdadd (cond : Cond) (rn rd rm : Reg) (s : State) : Outcome :=
  finish (writeRegQ cond [rn, rm] rd (fun s => doubled (sInt s rm) (sInt s rn) (· + ·)) s)

/-- QSUB (41:R801). -/
def execQsub (cond : Cond) (rn rd rm : Reg) (s : State) : Outcome :=
  finish (writeRegQ cond [rn, rm] rd (fun s => signedSat 32 (sInt s rm - sInt s rn)) s)

/-- QDSUB (41:R802). -/
def execQdsub (cond : Cond) (rn rd rm : Reg) (s : State) : Outcome :=
  finish (writeRegQ cond [rn, rm] rd (fun s => doubled (sInt s rm) (sInt s rn) (· - ·)) s)

/-! ### Signed 16-bit multiplies (41:R803 to R807) -/

/-- The product of two halves (41:R803). -/
def halfProduct (s : State) (rm rs : Reg) (x y : Bool) : Int := half (s.reg rm) x * half (s.reg rs) y

/-- Bits [47:16] of the product of a word and a half, as a signed number (41:R805). -/
def wideProduct (s : State) (rm rs : Reg) (y : Bool) : Int :=
  ((BitVec.ofInt 48 (sInt s rm * half (s.reg rs) y)).extractLsb' 16 32).toInt

/-- SMULxy (41:R803). -/
def execSmulXY (cond : Cond) (rd rs : Reg) (y x : Bool) (rm : Reg) (s : State) : Outcome :=
  finish (writeReg cond [rs, rm] rd (fun s => word (halfProduct s rm rs x y)) s)

/-- SMLAxy (41:R804). -/
def execSmlaXY (cond : Cond) (rd rn rs : Reg) (y x : Bool) (rm : Reg) (s : State) : Outcome :=
  finish (writeRegQ cond [rn, rs, rm] rd (fun s => checked (halfProduct s rm rs x y + sInt s rn)) s)

/-- SMULWy (41:R805). -/
def execSmulWY (cond : Cond) (rd rs : Reg) (y : Bool) (rm : Reg) (s : State) : Outcome :=
  finish (writeReg cond [rs, rm] rd (fun s => word (wideProduct s rm rs y)) s)

/-- SMLAWy (41:R806). -/
def execSmlaWY (cond : Cond) (rd rn rs : Reg) (y : Bool) (rm : Reg) (s : State) : Outcome :=
  finish (writeRegQ cond [rn, rs, rm] rd (fun s => checked (wideProduct s rm rs y + sInt s rn)) s)

/-- SMLALxy (41:R807). -/
def execSmlalXY (cond : Cond) (rdHi rdLo rs : Reg) (y x : Bool) (rm : Reg) (s : State) : Outcome :=
  finish (multiplyLong cond false rdHi rdLo rs rm (fun s => accSigned s rdHi rdLo + halfProduct s rm rs x y) s)

/-! ### Parallel add and subtract (41:R808, R1700 to R1735) -/

/-- The prefixes of the parallel instructions (41:R808). -/
inductive Par where
  | s | u | q | uq | sh | uh
  deriving DecidableEq, Repr

/-- Are the lanes read as signed numbers? -/
def Par.isSigned : Par → Bool
  | .s | .q | .sh => true
  | .u | .uq | .uh => false

/-- Does the prefix write GE? -/
def Par.writesGE : Par → Bool
  | .s | .u => true
  | .q | .uq | .sh | .uh => false

/-- A lane's exact sum or difference. -/
def Par.exact {w : Nat} (k : Par) (add : Bool) (x y : BitVec w) : Int :=
  let a : Int := if k.isSigned then x.toInt else x.toNat
  let b : Int := if k.isSigned then y.toInt else y.toNat
  if add then a + b else a - b

/-- A lane's result from its exact sum or difference (41:R808). -/
def Par.result (k : Par) (w : Nat) (v : Int) : BitVec w :=
  match k with
  | .s | .u => BitVec.ofInt w v
  | .q => BitVec.ofInt w (signedSat w v).1
  | .uq => BitVec.ofInt w (unsignedSat w v).1
  | .sh | .uh => BitVec.ofInt w (v / 2)

/-- A lane's GE bit (41:R808, 10:R44). -/
def Par.ge (k : Par) (w : Nat) (add : Bool) (v : Int) : Bool :=
  if k = .u ∧ add then decide ((2 : Int) ^ w ≤ v) else decide (0 ≤ v)

/-- Two halfword lanes: `addTop` and `addBottom` say which lanes add, `exchange` exchanges the halves of the second operand. -/
def parallel16 (k : Par) (addTop addBottom exchange : Bool) (a b : Word) : Word × BitVec 4 :=
  let top := k.exact addTop (bits a 16 16) (bits b (if exchange then 0 else 16) 16)
  let bottom := k.exact addBottom (bits a 0 16) (bits b (if exchange then 16 else 0) 16)
  (k.result 16 top ++ k.result 16 bottom,
   (if k.ge 16 addTop top then 0b1100#4 else 0#4) ||| (if k.ge 16 addBottom bottom then 0b0011#4 else 0#4))

/-- Four byte lanes. -/
def parallel8 (k : Par) (add : Bool) (a b : Word) : Word × BitVec 4 :=
  let v (i : Nat) := k.exact add (bits a (8 * i) 8) (bits b (8 * i) 8)
  let g (i : Nat) := if k.ge 8 add (v i) then 1#1 else 0#1
  (k.result 8 (v 3) ++ k.result 8 (v 2) ++ k.result 8 (v 1) ++ k.result 8 (v 0), g 3 ++ g 2 ++ g 1 ++ g 0)

/-- A parallel instruction: the result, and GE where the prefix writes it. -/
def parallel (cond : Cond) (k : Par) (rn rd rm : Reg) (op : Word → Word → Word × BitVec 4) (s : State) : Result State :=
  conditional cond false s do
    noPc [rn, rd, rm]
    let (r, ge) := op (s.reg rn) (s.reg rm)
    let s' := s.setReg rd r
    pure (if k.writesGE then { s' with cpsr := setGE s.cpsr ge } else s').advance

/-- SADD16 (41:R1700). -/
def execSadd16 (cond : Cond) (rn rd rm : Reg) (s : State) : Outcome :=
  finish (parallel cond .s rn rd rm (parallel16 .s true true false) s)

/-- QADD16 (41:R1701). -/
def execQadd16 (cond : Cond) (rn rd rm : Reg) (s : State) : Outcome :=
  finish (parallel cond .q rn rd rm (parallel16 .q true true false) s)

/-- SHADD16 (41:R1702). -/
def execShadd16 (cond : Cond) (rn rd rm : Reg) (s : State) : Outcome :=
  finish (parallel cond .sh rn rd rm (parallel16 .sh true true false) s)

/-- UADD16 (41:R1703). -/
def execUadd16 (cond : Cond) (rn rd rm : Reg) (s : State) : Outcome :=
  finish (parallel cond .u rn rd rm (parallel16 .u true true false) s)

/-- UQADD16 (41:R1704). -/
def execUqadd16 (cond : Cond) (rn rd rm : Reg) (s : State) : Outcome :=
  finish (parallel cond .uq rn rd rm (parallel16 .uq true true false) s)

/-- UHADD16 (41:R1705). -/
def execUhadd16 (cond : Cond) (rn rd rm : Reg) (s : State) : Outcome :=
  finish (parallel cond .uh rn rd rm (parallel16 .uh true true false) s)

/-- SADDSUBX (41:R1706). -/
def execSaddsubx (cond : Cond) (rn rd rm : Reg) (s : State) : Outcome :=
  finish (parallel cond .s rn rd rm (parallel16 .s true false true) s)

/-- QADDSUBX (41:R1707). -/
def execQaddsubx (cond : Cond) (rn rd rm : Reg) (s : State) : Outcome :=
  finish (parallel cond .q rn rd rm (parallel16 .q true false true) s)

/-- SHADDSUBX (41:R1708). -/
def execShaddsubx (cond : Cond) (rn rd rm : Reg) (s : State) : Outcome :=
  finish (parallel cond .sh rn rd rm (parallel16 .sh true false true) s)

/-- UADDSUBX (41:R1709). -/
def execUaddsubx (cond : Cond) (rn rd rm : Reg) (s : State) : Outcome :=
  finish (parallel cond .u rn rd rm (parallel16 .u true false true) s)

/-- UQADDSUBX (41:R1710). -/
def execUqaddsubx (cond : Cond) (rn rd rm : Reg) (s : State) : Outcome :=
  finish (parallel cond .uq rn rd rm (parallel16 .uq true false true) s)

/-- UHADDSUBX (41:R1711). -/
def execUhaddsubx (cond : Cond) (rn rd rm : Reg) (s : State) : Outcome :=
  finish (parallel cond .uh rn rd rm (parallel16 .uh true false true) s)

/-- SSUBADDX (41:R1712). -/
def execSsubaddx (cond : Cond) (rn rd rm : Reg) (s : State) : Outcome :=
  finish (parallel cond .s rn rd rm (parallel16 .s false true true) s)

/-- QSUBADDX (41:R1713). -/
def execQsubaddx (cond : Cond) (rn rd rm : Reg) (s : State) : Outcome :=
  finish (parallel cond .q rn rd rm (parallel16 .q false true true) s)

/-- SHSUBADDX (41:R1714). -/
def execShsubaddx (cond : Cond) (rn rd rm : Reg) (s : State) : Outcome :=
  finish (parallel cond .sh rn rd rm (parallel16 .sh false true true) s)

/-- USUBADDX (41:R1715). -/
def execUsubaddx (cond : Cond) (rn rd rm : Reg) (s : State) : Outcome :=
  finish (parallel cond .u rn rd rm (parallel16 .u false true true) s)

/-- UQSUBADDX (41:R1716). -/
def execUqsubaddx (cond : Cond) (rn rd rm : Reg) (s : State) : Outcome :=
  finish (parallel cond .uq rn rd rm (parallel16 .uq false true true) s)

/-- UHSUBADDX (41:R1717). -/
def execUhsubaddx (cond : Cond) (rn rd rm : Reg) (s : State) : Outcome :=
  finish (parallel cond .uh rn rd rm (parallel16 .uh false true true) s)

/-- SSUB16 (41:R1718). -/
def execSsub16 (cond : Cond) (rn rd rm : Reg) (s : State) : Outcome :=
  finish (parallel cond .s rn rd rm (parallel16 .s false false false) s)

/-- QSUB16 (41:R1719). -/
def execQsub16 (cond : Cond) (rn rd rm : Reg) (s : State) : Outcome :=
  finish (parallel cond .q rn rd rm (parallel16 .q false false false) s)

/-- SHSUB16 (41:R1720). -/
def execShsub16 (cond : Cond) (rn rd rm : Reg) (s : State) : Outcome :=
  finish (parallel cond .sh rn rd rm (parallel16 .sh false false false) s)

/-- USUB16 (41:R1721). -/
def execUsub16 (cond : Cond) (rn rd rm : Reg) (s : State) : Outcome :=
  finish (parallel cond .u rn rd rm (parallel16 .u false false false) s)

/-- UQSUB16 (41:R1722). -/
def execUqsub16 (cond : Cond) (rn rd rm : Reg) (s : State) : Outcome :=
  finish (parallel cond .uq rn rd rm (parallel16 .uq false false false) s)

/-- UHSUB16 (41:R1723). -/
def execUhsub16 (cond : Cond) (rn rd rm : Reg) (s : State) : Outcome :=
  finish (parallel cond .uh rn rd rm (parallel16 .uh false false false) s)

/-- SADD8 (41:R1724). -/
def execSadd8 (cond : Cond) (rn rd rm : Reg) (s : State) : Outcome :=
  finish (parallel cond .s rn rd rm (parallel8 .s true) s)

/-- QADD8 (41:R1725). -/
def execQadd8 (cond : Cond) (rn rd rm : Reg) (s : State) : Outcome :=
  finish (parallel cond .q rn rd rm (parallel8 .q true) s)

/-- SHADD8 (41:R1726). -/
def execShadd8 (cond : Cond) (rn rd rm : Reg) (s : State) : Outcome :=
  finish (parallel cond .sh rn rd rm (parallel8 .sh true) s)

/-- UADD8 (41:R1727). -/
def execUadd8 (cond : Cond) (rn rd rm : Reg) (s : State) : Outcome :=
  finish (parallel cond .u rn rd rm (parallel8 .u true) s)

/-- UQADD8 (41:R1728). -/
def execUqadd8 (cond : Cond) (rn rd rm : Reg) (s : State) : Outcome :=
  finish (parallel cond .uq rn rd rm (parallel8 .uq true) s)

/-- UHADD8 (41:R1729). -/
def execUhadd8 (cond : Cond) (rn rd rm : Reg) (s : State) : Outcome :=
  finish (parallel cond .uh rn rd rm (parallel8 .uh true) s)

/-- SSUB8 (41:R1730). -/
def execSsub8 (cond : Cond) (rn rd rm : Reg) (s : State) : Outcome :=
  finish (parallel cond .s rn rd rm (parallel8 .s false) s)

/-- QSUB8 (41:R1731). -/
def execQsub8 (cond : Cond) (rn rd rm : Reg) (s : State) : Outcome :=
  finish (parallel cond .q rn rd rm (parallel8 .q false) s)

/-- SHSUB8 (41:R1732). -/
def execShsub8 (cond : Cond) (rn rd rm : Reg) (s : State) : Outcome :=
  finish (parallel cond .sh rn rd rm (parallel8 .sh false) s)

/-- USUB8 (41:R1733). -/
def execUsub8 (cond : Cond) (rn rd rm : Reg) (s : State) : Outcome :=
  finish (parallel cond .u rn rd rm (parallel8 .u false) s)

/-- UQSUB8 (41:R1734). -/
def execUqsub8 (cond : Cond) (rn rd rm : Reg) (s : State) : Outcome :=
  finish (parallel cond .uq rn rd rm (parallel8 .uq false) s)

/-- UHSUB8 (41:R1735). -/
def execUhsub8 (cond : Cond) (rn rd rm : Reg) (s : State) : Outcome :=
  finish (parallel cond .uh rn rd rm (parallel8 .uh false) s)

/-! ### Sum of absolute differences (41:R809, R810) -/

/-- The sum of the absolute differences of the bytes of two words. -/
def absDifferences (a b : Word) : Nat :=
  let d (i : Nat) : Nat := ((bits a (8 * i) 8).toNat : Int) - ((bits b (8 * i) 8).toNat : Int) |>.natAbs
  d 0 + d 1 + d 2 + d 3

/-- USAD8 (41:R809). -/
def execUsad8 (cond : Cond) (rd rs rm : Reg) (s : State) : Outcome :=
  finish (writeReg cond [rs, rm] rd (fun s => BitVec.ofNat 32 (absDifferences (s.reg rm) (s.reg rs))) s)

/-- USADA8 (41:R810). -/
def execUsada8 (cond : Cond) (rd rn rs rm : Reg) (s : State) : Outcome :=
  finish (writeReg cond [rn, rs, rm] rd (fun s => s.reg rn + BitVec.ofNat 32 (absDifferences (s.reg rm) (s.reg rs))) s)

/-! ### Extension (41:R811 to R823) -/

/-- Rm rotated by a number of bytes (41:R811). -/
def rotated (s : State) (rm : Reg) (rotate : BitVec 2) : Word := (s.reg rm).rotateRight (8 * rotate.toNat)

/-- The bytes [23:16] and [7:0] as two halfwords, sign-extended or zero-extended. -/
def extendBytes (isSigned : Bool) (v : Word) : BitVec 16 × BitVec 16 :=
  let e (b : Byte) : BitVec 16 := if isSigned then b.signExtend 16 else b.setWidth 16
  (e (bits v 16 8), e (bits v 0 8))

/-- Two halfwords as a word. -/
def joinHalves (p : BitVec 16 × BitVec 16) : Word := p.1 ++ p.2

/-- Two halfwords added to those of a word, without a carry between them (41:R812). -/
def addHalves (a : Word) (p : BitVec 16 × BitVec 16) : Word := (bits a 16 16 + p.1) ++ (bits a 0 16 + p.2)

/-- SXTB16 (41:R818). -/
def execSxtb16 (cond : Cond) (rd : Reg) (rotate : BitVec 2) (rm : Reg) (s : State) : Outcome :=
  finish (writeReg cond [rm] rd (fun s => joinHalves (extendBytes true (rotated s rm rotate))) s)

/-- SXTAB16 (41:R812). -/
def execSxtab16 (cond : Cond) (rn rd : Reg) (rotate : BitVec 2) (rm : Reg) (s : State) : Outcome :=
  finish (writeReg cond [rn, rm] rd (fun s => addHalves (s.reg rn) (extendBytes true (rotated s rm rotate))) s)

/-- SXTB (41:R819). -/
def execSxtb (cond : Cond) (rd : Reg) (rotate : BitVec 2) (rm : Reg) (s : State) : Outcome :=
  finish (writeReg cond [rm] rd (fun s => sext (bits (rotated s rm rotate) 0 8)) s)

/-- SXTAB (41:R813). -/
def execSxtab (cond : Cond) (rn rd : Reg) (rotate : BitVec 2) (rm : Reg) (s : State) : Outcome :=
  finish (writeReg cond [rn, rm] rd (fun s => s.reg rn + sext (bits (rotated s rm rotate) 0 8)) s)

/-- SXTH (41:R820). -/
def execSxth (cond : Cond) (rd : Reg) (rotate : BitVec 2) (rm : Reg) (s : State) : Outcome :=
  finish (writeReg cond [rm] rd (fun s => sext (bits (rotated s rm rotate) 0 16)) s)

/-- SXTAH (41:R814). -/
def execSxtah (cond : Cond) (rn rd : Reg) (rotate : BitVec 2) (rm : Reg) (s : State) : Outcome :=
  finish (writeReg cond [rn, rm] rd (fun s => s.reg rn + sext (bits (rotated s rm rotate) 0 16)) s)

/-- UXTB16 (41:R821). -/
def execUxtb16 (cond : Cond) (rd : Reg) (rotate : BitVec 2) (rm : Reg) (s : State) : Outcome :=
  finish (writeReg cond [rm] rd (fun s => joinHalves (extendBytes false (rotated s rm rotate))) s)

/-- UXTAB16 (41:R815). -/
def execUxtab16 (cond : Cond) (rn rd : Reg) (rotate : BitVec 2) (rm : Reg) (s : State) : Outcome :=
  finish (writeReg cond [rn, rm] rd (fun s => addHalves (s.reg rn) (extendBytes false (rotated s rm rotate))) s)

/-- UXTB (41:R822). -/
def execUxtb (cond : Cond) (rd : Reg) (rotate : BitVec 2) (rm : Reg) (s : State) : Outcome :=
  finish (writeReg cond [rm] rd (fun s => zext (bits (rotated s rm rotate) 0 8)) s)

/-- UXTAB (41:R816). -/
def execUxtab (cond : Cond) (rn rd : Reg) (rotate : BitVec 2) (rm : Reg) (s : State) : Outcome :=
  finish (writeReg cond [rn, rm] rd (fun s => s.reg rn + zext (bits (rotated s rm rotate) 0 8)) s)

/-- UXTH (41:R823). -/
def execUxth (cond : Cond) (rd : Reg) (rotate : BitVec 2) (rm : Reg) (s : State) : Outcome :=
  finish (writeReg cond [rm] rd (fun s => zext (bits (rotated s rm rotate) 0 16)) s)

/-- UXTAH (41:R817). -/
def execUxtah (cond : Cond) (rn rd : Reg) (rotate : BitVec 2) (rm : Reg) (s : State) : Outcome :=
  finish (writeReg cond [rn, rm] rd (fun s => s.reg rn + zext (bits (rotated s rm rotate) 0 16)) s)

/-! ### Dual 16-bit multiplies and most significant word multiplies (41:R824 to R842) -/

/-- SMLAD (41:R825). -/
def execSmlad (cond : Cond) (rd rn rs rm : Reg) (s : State) : Outcome :=
  finish (writeRegQ cond [rn, rs, rm] rd (fun s => checked (dualSum s rm rs false + sInt s rn)) s)

/-- SMLSD (41:R827). -/
def execSmlsd (cond : Cond) (rd rn rs rm : Reg) (s : State) : Outcome :=
  finish (writeRegQ cond [rn, rs, rm] rd (fun s => checked (dualDifference s rm rs false + sInt s rn)) s)

/-- SMLALD (41:R829). -/
def execSmlald (cond : Cond) (rdHi rdLo rs rm : Reg) (s : State) : Outcome :=
  finish (multiplyLong cond false rdHi rdLo rs rm (fun s => accSigned s rdHi rdLo + dualSum s rm rs false) s)

/-- SMLSLD (41:R831). -/
def execSmlsld (cond : Cond) (rdHi rdLo rs rm : Reg) (s : State) : Outcome :=
  finish (multiplyLong cond false rdHi rdLo rs rm (fun s => accSigned s rdHi rdLo + dualDifference s rm rs false) s)

/-- SMUAD (41:R833). -/
def execSmuad (cond : Cond) (rd rs rm : Reg) (s : State) : Outcome :=
  finish (writeRegQ cond [rs, rm] rd (fun s => checked (dualSum s rm rs false)) s)

/-- SMUSD (41:R835). -/
def execSmusd (cond : Cond) (rd rs rm : Reg) (s : State) : Outcome :=
  finish (writeReg cond [rs, rm] rd (fun s => word (dualDifference s rm rs false)) s)

/-- SMLADX (41:R826). -/
def execSmladx (cond : Cond) (rd rn rs rm : Reg) (s : State) : Outcome :=
  finish (writeRegQ cond [rn, rs, rm] rd (fun s => checked (dualSum s rm rs true + sInt s rn)) s)

/-- SMLSDX (41:R828). -/
def execSmlsdx (cond : Cond) (rd rn rs rm : Reg) (s : State) : Outcome :=
  finish (writeRegQ cond [rn, rs, rm] rd (fun s => checked (dualDifference s rm rs true + sInt s rn)) s)

/-- SMLALDX (41:R830). -/
def execSmlaldx (cond : Cond) (rdHi rdLo rs rm : Reg) (s : State) : Outcome :=
  finish (multiplyLong cond false rdHi rdLo rs rm (fun s => accSigned s rdHi rdLo + dualSum s rm rs true) s)

/-- SMLSLDX (41:R832). -/
def execSmlsldx (cond : Cond) (rdHi rdLo rs rm : Reg) (s : State) : Outcome :=
  finish (multiplyLong cond false rdHi rdLo rs rm (fun s => accSigned s rdHi rdLo + dualDifference s rm rs true) s)

/-- SMUADX (41:R834). -/
def execSmuadx (cond : Cond) (rd rs rm : Reg) (s : State) : Outcome :=
  finish (writeRegQ cond [rs, rm] rd (fun s => checked (dualSum s rm rs true)) s)

/-- SMUSDX (41:R836). -/
def execSmusdx (cond : Cond) (rd rs rm : Reg) (s : State) : Outcome :=
  finish (writeReg cond [rs, rm] rd (fun s => word (dualDifference s rm rs true)) s)

/-- SMMUL (41:R837). -/
def execSmmul (cond : Cond) (rd rs rm : Reg) (s : State) : Outcome :=
  finish (writeReg cond [rs, rm] rd (fun s => topWord (sInt s rm * sInt s rs)) s)

/-- SMMULR (41:R838). -/
def execSmmulr (cond : Cond) (rd rs rm : Reg) (s : State) : Outcome :=
  finish (writeReg cond [rs, rm] rd (fun s => topWord (sInt s rm * sInt s rs + rounding)) s)

/-- SMMLA (41:R839). -/
def execSmmla (cond : Cond) (rd rn rs rm : Reg) (s : State) : Outcome :=
  finish (writeReg cond [rn, rs, rm] rd (fun s => topWord (sInt s rn * 2 ^ 32 + sInt s rm * sInt s rs)) s)

/-- SMMLAR (41:R840). -/
def execSmmlar (cond : Cond) (rd rn rs rm : Reg) (s : State) : Outcome :=
  finish (writeReg cond [rn, rs, rm] rd (fun s => topWord (sInt s rn * 2 ^ 32 + sInt s rm * sInt s rs + rounding)) s)

/-- SMMLS (41:R841). -/
def execSmmls (cond : Cond) (rd rn rs rm : Reg) (s : State) : Outcome :=
  finish (writeReg cond [rn, rs, rm] rd (fun s => topWord (sInt s rn * 2 ^ 32 - sInt s rm * sInt s rs)) s)

/-- SMMLSR (41:R842). -/
def execSmmlsr (cond : Cond) (rd rn rs rm : Reg) (s : State) : Outcome :=
  finish (writeReg cond [rn, rs, rm] rd (fun s => topWord (sInt s rn * 2 ^ 32 - sInt s rm * sInt s rs + rounding)) s)

/-! ### Saturate, select, pack, reverse (41:R843 to R852) -/

/-- The operand of SSAT and USAT: LSL or ASR by an immediate (41:R843). -/
def saturateOperand (s : State) (rm : Reg) (sh : Bool) (shiftImm : BitVec 5) : Int :=
  (shiftedBy (s.reg rm) (if sh then .asr else .lsl) shiftImm false).1.toInt

/-- Both halfwords saturated (41:R845, R846). -/
def saturateHalves (sat : Int → Int × Bool) (v : Word) : Int × Bool :=
  let (hi, s1) := sat (half v true)
  let (lo, s2) := sat (half v false)
  ((packHalves hi lo).toInt, s1 || s2)

/-- The bytes of `a` where the bit is one, those of `b` elsewhere (41:R847). -/
def selectBytes (ge : BitVec 4) (a b : Word) : Word := mergeBits b a (byteMask ge)

/-- The bytes of a word reversed (41:R850). -/
def reverseBytes (v : Word) : Word := bits v 0 8 ++ bits v 8 8 ++ bits v 16 8 ++ bits v 24 8

/-- The bytes of each halfword reversed (41:R851). -/
def reverseHalves (v : Word) : Word := bits v 16 8 ++ bits v 24 8 ++ bits v 0 8 ++ bits v 8 8

/-- The bytes of the bottom halfword reversed, sign-extended (41:R852). -/
def reverseSigned (v : Word) : Word := sext (bits v 0 8 ++ bits v 8 8)

/-- SSAT (41:R843). -/
def execSsat (cond : Cond) (satImm : BitVec 5) (rd : Reg) (shiftImm : BitVec 5) (sh : Bool) (rm : Reg)
    (s : State) : Outcome :=
  finish (writeRegQ cond [rm] rd (fun s => signedSat (satImm.toNat + 1) (saturateOperand s rm sh shiftImm)) s)

/-- USAT (41:R844). -/
def execUsat (cond : Cond) (satImm : BitVec 5) (rd : Reg) (shiftImm : BitVec 5) (sh : Bool) (rm : Reg)
    (s : State) : Outcome :=
  finish (writeRegQ cond [rm] rd (fun s => unsignedSat satImm.toNat (saturateOperand s rm sh shiftImm)) s)

/-- SSAT16 (41:R845). -/
def execSsat16 (cond : Cond) (satImm : BitVec 4) (rd rm : Reg) (s : State) : Outcome :=
  finish (writeRegQ cond [rm] rd (fun s => saturateHalves (signedSat (satImm.toNat + 1)) (s.reg rm)) s)

/-- USAT16 (41:R846). -/
def execUsat16 (cond : Cond) (satImm : BitVec 4) (rd rm : Reg) (s : State) : Outcome :=
  finish (writeRegQ cond [rm] rd (fun s => saturateHalves (unsignedSat satImm.toNat) (s.reg rm)) s)

/-- SEL (41:R847). -/
def execSel (cond : Cond) (rn rd rm : Reg) (s : State) : Outcome :=
  finish (writeReg cond [rn, rm] rd (fun s => selectBytes (geBits s.cpsr) (s.reg rn) (s.reg rm)) s)

/-- PKHBT (41:R848). -/
def execPkhbt (cond : Cond) (rn rd : Reg) (shiftImm : BitVec 5) (rm : Reg) (s : State) : Outcome :=
  finish (writeReg cond [rn, rm] rd (fun s => bits (s.reg rm <<< shiftImm.toNat) 16 16 ++ bits (s.reg rn) 0 16) s)

/-- PKHTB (41:R849). -/
def execPkhtb (cond : Cond) (rn rd : Reg) (shiftImm : BitVec 5) (rm : Reg) (s : State) : Outcome :=
  finish (writeReg cond [rn, rm] rd
    (fun s => bits (s.reg rn) 16 16 ++ bits (shiftedBy (s.reg rm) .asr shiftImm false).1 0 16) s)

/-- REV (41:R850). -/
def execRev (cond : Cond) (rd rm : Reg) (s : State) : Outcome :=
  finish (writeReg cond [rm] rd (fun s => reverseBytes (s.reg rm)) s)

/-- REV16 (41:R851). -/
def execRev16 (cond : Cond) (rd rm : Reg) (s : State) : Outcome :=
  finish (writeReg cond [rm] rd (fun s => reverseHalves (s.reg rm)) s)

/-- REVSH (41:R852). -/
def execRevsh (cond : Cond) (rd rm : Reg) (s : State) : Outcome :=
  finish (writeReg cond [rm] rd (fun s => reverseSigned (s.reg rm)) s)

end Sys2Proof.Machine
end

