-- ==== Sys2Proof/Machine/StatusBranch.lean ====
section
/-! DEFINITION. The meanings of the status register instructions (45), of the branches and of the instructions that raise
exceptions (46, 30:R702). -/

namespace Sys2Proof.Machine

open Sys2Proof

/-! ### Status registers (45:R970 to R985) -/

/-- The CPSR write of MSR in Debug state (15:R407): any mode that the debug level permits, J and T too; one that debug is not
permitted in is ignored. The PC is then unknown (15:R409). -/
def debugCpsrWrite (s : State) (value : Word) (bytes : BitVec 4) : Result State :=
  let wide := s.privileged || s.nsState || s.pins.spiden
  let m := (if bit bytes 3 then 0xF9000000#32 else 0#32) ||| (if bit bytes 2 then 0x000F0000#32 else 0#32) |||
    (if bit bytes 1 then 0x00000200#32 else 0#32) ||| (if bit bytes 0 then 0x00000020#32 else 0#32)
  let m := if wide then
      m ||| (if bit bytes 1 then 0x00000100#32 else 0#32) ||| (if bit bytes 0 then 0x000000DF#32 else 0#32)
    else m
  let m := if s.nsState then
      (if bit s.cp15.scr 5 then m else m &&& ~~~0x00000100#32) &&&
        (if bit s.cp15.scr 4 then 0xFFFFFFFF#32 else ~~~0x00000040#32)
    else m
  let cpsr := mergeBits s.cpsr value m
  let s' := { s with cpsr := cpsr, dbg := { s.dbg with pcKnown := .unknown } }
  if !validMode (bits cpsr 0 5) then .error (.refuse .reservedMode)
  else .ok (if s'.debugPermitted then s' else s)

/-- Going on after an MSR that has written an SPSR; in Debug state the PC is then unknown (15:R409). -/
def State.afterMsr (s : State) : State :=
  if s.halted then { s with dbg := { s.dbg with pcKnown := .unknown } } else s.advance

/-- MSR of an operand (45:R971). -/
def writeStatus (rBit : Bool) (fieldMask : BitVec 4) (operand : Word) (s : State) : Result State :=
  if rBit then do
    let saved ← s.spsr
    pure (s.setSpsrIn s.mode (mergeBits saved operand (byteMask fieldMask))).afterMsr
  else if s.halted then debugCpsrWrite s operand fieldMask
  else do
    let s ← cpsrWriteByInstr s operand fieldMask false
    pure s.advance

/-- The CPSR value of a CPS that changes the masks selected (45:R974). -/
def maskedCpsr (cpsr : Word) (a i f value : Bool) : Word :=
  let c := if a then setBit cpsr 8 value else cpsr
  let c := if i then setBit c 7 value else c
  if f then setBit c 6 value else c

/-- CPS writes a CPSR value through the control and extension fields, in a privileged mode (45:R974). -/
def changeProcessorState (value : Word) (s : State) : Result State :=
  if s.privileged then do
    let s ← cpsrWriteByInstr s value 0b0011#4 false
    pure s.advance
  else .ok s.advance

/-- MRS (45:R970). -/
def execMrs (cond : Cond) (rBit : Bool) (rd : Reg) (s : State) : Outcome :=
  finish <| conditional cond false s do
    noPc [rd]
    let v ← if rBit then s.spsr else .ok (s.cpsr &&& psrMask)
    pure (s.setReg rd v).advance

/-- MSR, register (45:R971). -/
def execMsrReg (cond : Cond) (rBit : Bool) (fieldMask : BitVec 4) (rm : Reg) (s : State) : Outcome :=
  finish <| conditional cond false s do
    noPc [rm]
    writeStatus rBit fieldMask (s.reg rm) s

/-- MSR, immediate (45:R972). With R = 0 and no byte selected the word is a hint, whatever its other bits and its condition
(30:R691, 45:R985). -/
def execMsrImm (cond : Cond) (rBit : Bool) (fieldMask rot : BitVec 4) (imm8 : BitVec 8) (s : State) : Outcome :=
  if !rBit && fieldMask == 0#4 then finish (.ok s.advance)
  else finish (conditional cond false s (writeStatus rBit fieldMask (rotatedImm rot imm8) s))

/-- NOP, YIELD and the reserved hints, whatever the condition (45:R985). -/
def execNop (_cond : Cond) (_hint : BitVec 8) (s : State) : Outcome :=
  finish (.ok s.advance)

/-- CPS (45:R974). -/
def execCps (imod : BitVec 2) (mmod aBit iBit fBit : Bool) (mode : BitVec 5) (s : State) : Outcome :=
  finish do
    let flags := aBit || iBit || fBit
    refuseIf (imod == 0b01#2 || (imod == 0b00#2 && !mmod) || (!bit imod 1 && flags) || (!mmod && mode != 0#5)) .cpsForm
    refuseIf (mmod && !validMode mode) .cpsForm
    let c := if bit imod 1 then maskedCpsr s.cpsr aBit iBit fBit (bit imod 0) else s.cpsr
    changeProcessorState (if mmod then setBits c 0 mode else c) s

/-- SETEND (45:R975). -/
def execSetend (eBit : Bool) (s : State) : Outcome :=
  finish (.ok { s with cpsr := setBit s.cpsr 9 eBit }.advance)

/-! ### Branches (46:R1000 to R1006) -/

/-- The target of a branch with a 24-bit offset (30:R688). -/
def branchTarget24 (s : State) (offset : BitVec 24) : Word := s.readPc + (sext offset <<< 2)

/-- B (46:R1001). -/
def execB (cond : Cond) (simm24 : BitVec 24) (s : State) : Outcome :=
  finish (conditional cond true s (.ok (s.branch (branchTarget24 s simm24))))

/-- BL (46:R1002). -/
def execBl (cond : Cond) (simm24 : BitVec 24) (s : State) : Outcome :=
  finish (conditional cond true s (.ok ((s.setReg 14#4 s.nextPc).branch (branchTarget24 s simm24))))

/-- BX (46:R1003). -/
def execBx (cond : Cond) (rm : Reg) (s : State) : Outcome :=
  finish (conditional cond true s (bxWritePc s (s.reg rm)))

/-- BXJ: as BX, Jazelle not being enabled (46:R1006, 92:D38; log 28). -/
def execBxj (cond : Cond) (rm : Reg) (s : State) : Outcome :=
  finish (conditional cond true s (bxWritePc s (s.reg rm)))

/-- BLX, immediate (46:R1004). -/
def execBlx1 (h : Bool) (simm24 : BitVec 24) (s : State) : Outcome :=
  finish <| .ok
    (((s.setReg 14#4 s.nextPc).setThumb true).branch (branchTarget24 s simm24 + (ofBit h <<< 1)))

/-- BLX, register (46:R1005). -/
def execBlx2 (cond : Cond) (rm : Reg) (s : State) : Outcome :=
  finish <| conditional cond true s do
    noPc [rm]
    bxWritePc (s.setReg 14#4 s.nextPc) (s.reg rm)

/-! ### Instructions that raise exceptions (46:R1010 to R1014) -/

/-- A breakpoint instruction: a debug event, or a Prefetch Abort (46:R1013); nothing in Debug state (15:R406). -/
def breakpoint (s : State) : State :=
  if s.halted then s else (instructionDebugEvent 0b0011#4 s).getD (takeDebugPrefetchAbort s)

/-- Supervisor Call (60:R1215). -/
def supervisorCall (s : State) : State := takeException .svc false s.nextPc s

/-- BKPT (46:R1013). -/
def execBkpt (_immHi : BitVec 12) (_immLo : BitVec 4) (s : State) : Outcome :=
  finish (.ok (breakpoint s))

/-- SMC (46:R1012). -/
def execSmc (cond : Cond) (_immHi : BitVec 12) (_immLo : BitVec 4) (s : State) : Outcome :=
  finish <| conditional cond false s <|
    if s.privileged || s.halted then .ok (takeException .smc false s.nextPc s) else undefined s

/-- SVC (46:R1010). -/
def execSvc (cond : Cond) (_imm24 : BitVec 24) (s : State) : Outcome :=
  finish (conditional cond false s (.ok (supervisorCall s)))

/-- The architecturally Undefined space (30:R702). -/
def execUndefArch (cond : Cond) (_anyHi : BitVec 12) (_anyLo : BitVec 4) (s : State) : Outcome :=
  finish (conditional cond false s (undefined s))

/-- The Undefined words of the coprocessor space (30:R702). -/
def execUndefCop (cond : Cond) (_l : Bool) (_raw : BitVec 20) (s : State) : Outcome :=
  finish (conditional cond false s (undefined s))

/-- The same in the unconditional space (30:R702). -/
def execUndefCop2 (_l : Bool) (_raw : BitVec 20) (s : State) : Outcome :=
  finish (undefined s)

/-- The rest of the unconditional space (30:R700). -/
def execUndefUncond (_raw : BitVec 28) (s : State) : Outcome :=
  finish (undefined s)

end Sys2Proof.Machine
end

