-- ==== Sys2Proof/Machine/Thumb.lean ====
section
/-! DEFINITION. The meanings of the Thumb instructions (48), over the operations of the ARM instructions they equal. -/

namespace Sys2Proof.Machine

open Sys2Proof

/-- A data-processing result with its flags into a low register (48:R1070). -/
def thumbAlu (rd : LowReg) (out : AluOut) (s : State) : State := { s.setReg (lowReg rd) out.1 with cpsr := out.2 }.advance

/-- Only the flags of a data-processing result. -/
def thumbFlags (out : AluOut) (s : State) : State := { s with cpsr := out.2 }.advance

/-- A register result without flags; a write of R15 branches without a state change (48:R1074, R1079). -/
def thumbWrite (rd : Reg) (v : Word) (s : State) : State :=
  if rd = 15#4 then s.branch (align2 v) else (s.setReg rd v).advance

/-- A low register. -/
def low (s : State) (r : LowReg) : Word := s.reg (lowReg r)

/-- A logical operation of two low registers; C is unchanged (48:R1095). -/
def thumbLogical (op : Word → Word → Bool → Word → AluOut) (rd rm : LowReg) (s : State) : State :=
  thumbAlu rd (op (low s rd) (low s rm) s.carry s.cpsr) s

/-- A shift of a low register (48:R1106 to R1112). -/
def thumbShift (rd : LowReg) (out : Word × Bool) (s : State) : State := thumbAlu rd (logical out.1 out.2 s.cpsr) s

/-- The shift amount of a register shift: the bottom byte. -/
def thumbAmount (s : State) (rs : LowReg) : Nat := (bits (low s rs) 0 8).toNat

/-- A load into a low register. -/
def thumbLoad (rd : LowReg) (read : Word → State → Result (Word × State)) (address : Word) (s : State) : Result State := do
  let (v, s) ← read address s
  pure (s.setReg (lowReg rd) v).advance

/-- A store of a low register. -/
def thumbStore (rd : LowReg) (write : Word → Word → State → Result State) (address : Word) (s : State) : Result State := do
  let s ← write address (low s rd) s
  pure s.advance

/-- The word-aligned PC of the PC-relative forms (48:R1080, R1748). -/
def thumbPc (s : State) : Word := align4 s.readPc

/-- An offset in words. -/
def words {n : Nat} (v : BitVec n) : Word := zext v <<< 2

/-- LSL, immediate (48:R1106). -/
def execTLslImm (imm5 : BitVec 5) (rm rd : LowReg) (s : State) : Outcome :=
  finish (.ok (thumbShift rd (shiftedBy (low s rm) .lsl imm5 s.carry) s))

/-- LSR, immediate (48:R1108). -/
def execTLsrImm (imm5 : BitVec 5) (rm rd : LowReg) (s : State) : Outcome :=
  finish (.ok (thumbShift rd (shiftedBy (low s rm) .lsr imm5 s.carry) s))

/-- ASR, immediate (48:R1110). -/
def execTAsrImm (imm5 : BitVec 5) (rm rd : LowReg) (s : State) : Outcome :=
  finish (.ok (thumbShift rd (shiftedBy (low s rm) .asr imm5 s.carry) s))

/-- ADD, low registers (48:R1078). -/
def execTAddReg3 (rm rn rd : LowReg) (s : State) : Outcome :=
  finish (.ok (thumbAlu rd (aluAdd (low s rn) (low s rm) s.carry s.cpsr) s))

/-- SUB, low registers (48:R1086). -/
def execTSubReg3 (rm rn rd : LowReg) (s : State) : Outcome :=
  finish (.ok (thumbAlu rd (aluSub (low s rn) (low s rm) s.carry s.cpsr) s))

/-- MOV, low register to low register: ADD of 0 (48:R1073). -/
def execTMovLow (rm rd : LowReg) (s : State) : Outcome :=
  finish (.ok (thumbAlu rd (aluAdd (low s rm) 0#32 s.carry s.cpsr) s))

/-- ADD, 3-bit immediate (48:R1076). -/
def execTAddImm3 (imm3 : BitVec 3) (rn rd : LowReg) (s : State) : Outcome :=
  finish (.ok (thumbAlu rd (aluAdd (low s rn) (zext imm3) s.carry s.cpsr) s))

/-- SUB, 3-bit immediate (48:R1084). -/
def execTSubImm3 (imm3 : BitVec 3) (rn rd : LowReg) (s : State) : Outcome :=
  finish (.ok (thumbAlu rd (aluSub (low s rn) (zext imm3) s.carry s.cpsr) s))

/-- MOV, immediate (48:R1072). -/
def execTMovImm8 (rd : LowReg) (imm8 : BitVec 8) (s : State) : Outcome :=
  finish (.ok (thumbAlu rd (aluMov (zext imm8) s.carry s.cpsr) s))

/-- CMP, immediate (48:R1091). -/
def execTCmpImm8 (rn : LowReg) (imm8 : BitVec 8) (s : State) : Outcome :=
  finish (.ok (thumbFlags (aluSub (low s rn) (zext imm8) s.carry s.cpsr) s))

/-- ADD, 8-bit immediate (48:R1077). -/
def execTAddImm8 (rd : LowReg) (imm8 : BitVec 8) (s : State) : Outcome :=
  finish (.ok (thumbAlu rd (aluAdd (low s rd) (zext imm8) s.carry s.cpsr) s))

/-- SUB, 8-bit immediate (48:R1085). -/
def execTSubImm8 (rd : LowReg) (imm8 : BitVec 8) (s : State) : Outcome :=
  finish (.ok (thumbAlu rd (aluSub (low s rd) (zext imm8) s.carry s.cpsr) s))

/-- AND (48:R1095). -/
def execTAndReg (rm rd : LowReg) (s : State) : Outcome :=
  finish (.ok (thumbLogical aluAnd rd rm s))

/-- EOR (48:R1096). -/
def execTEorReg (rm rd : LowReg) (s : State) : Outcome :=
  finish (.ok (thumbLogical aluEor rd rm s))

/-- ORR (48:R1097). -/
def execTOrrReg (rm rd : LowReg) (s : State) : Outcome :=
  finish (.ok (thumbLogical aluOrr rd rm s))

/-- BIC (48:R1098). -/
def execTBicReg (rm rd : LowReg) (s : State) : Outcome :=
  finish (.ok (thumbLogical aluBic rd rm s))

/-- MVN (48:R1099). -/
def execTMvnReg (rm rd : LowReg) (s : State) : Outcome :=
  finish (.ok (thumbAlu rd (aluMvn (low s rm) s.carry s.cpsr) s))

/-- LSL, register (48:R1107). -/
def execTLslReg (rm rd : LowReg) (s : State) : Outcome :=
  finish (.ok (thumbShift rd (shiftC (low s rd) .lsl (thumbAmount s rm) s.carry) s))

/-- LSR, register (48:R1109). -/
def execTLsrReg (rm rd : LowReg) (s : State) : Outcome :=
  finish (.ok (thumbShift rd (shiftC (low s rd) .lsr (thumbAmount s rm) s.carry) s))

/-- ASR, register (48:R1111). -/
def execTAsrReg (rm rd : LowReg) (s : State) : Outcome :=
  finish (.ok (thumbShift rd (shiftC (low s rd) .asr (thumbAmount s rm) s.carry) s))

/-- ROR, register (48:R1112). -/
def execTRorReg (rm rd : LowReg) (s : State) : Outcome :=
  finish (.ok (thumbShift rd (shiftC (low s rd) .ror (thumbAmount s rm) s.carry) s))

/-- ADC (48:R1083). -/
def execTAdcReg (rm rd : LowReg) (s : State) : Outcome :=
  finish (.ok (thumbAlu rd (aluAdc (low s rd) (low s rm) s.carry s.cpsr) s))

/-- SBC (48:R1088). -/
def execTSbcReg (rm rd : LowReg) (s : State) : Outcome :=
  finish (.ok (thumbAlu rd (aluSbc (low s rd) (low s rm) s.carry s.cpsr) s))

/-- NEG (48:R1089). -/
def execTNegReg (rm rd : LowReg) (s : State) : Outcome :=
  finish (.ok (thumbAlu rd (aluRsb (low s rm) 0#32 s.carry s.cpsr) s))

/-- TST (48:R1100). -/
def execTTstReg (rm rd : LowReg) (s : State) : Outcome :=
  finish (.ok (thumbFlags (aluAnd (low s rd) (low s rm) s.carry s.cpsr) s))

/-- CMP, low registers (48:R1092). -/
def execTCmpReg (rm rd : LowReg) (s : State) : Outcome :=
  finish (.ok (thumbFlags (aluSub (low s rd) (low s rm) s.carry s.cpsr) s))

/-- CMN (48:R1094). -/
def execTCmnReg (rm rd : LowReg) (s : State) : Outcome :=
  finish (.ok (thumbFlags (aluAdd (low s rd) (low s rm) s.carry s.cpsr) s))

/-- MUL (48:R1090). -/
def execTMulReg (rm rd : LowReg) (s : State) : Outcome :=
  let r := low s rm * low s rd
  finish (.ok (thumbAlu rd (r, setNZ s.cpsr r) s))

/-- ADD, high registers (48:R1079). -/
def execTAddHigh (h1 h2 : Bool) (rm rd : LowReg) (s : State) : Outcome :=
  finish (.ok (thumbWrite (highReg h1 rd) (s.reg (highReg h1 rd) + s.reg (highReg h2 rm)) s))

/-- CMP, high registers (48:R1093). -/
def execTCmpHigh (h1 h2 : Bool) (rm rn : LowReg) (s : State) : Outcome :=
  finish do
    refuseIf ((!h1 && !h2) || highReg h1 rn == 15#4) .registerField
    pure (thumbFlags (aluSub (s.reg (highReg h1 rn)) (s.reg (highReg h2 rm)) s.carry s.cpsr) s)

/-- MOV, high registers, and CPY (48:R1074, R1075). -/
def execTMovHigh (h1 h2 : Bool) (rm rd : LowReg) (s : State) : Outcome :=
  finish (.ok (thumbWrite (highReg h1 rd) (s.reg (highReg h2 rm)) s))

/-- BX (48:R1105). -/
def execTBx (h2 : Bool) (rm : LowReg) (s : State) : Outcome :=
  finish (bxWritePc s (s.reg (highReg h2 rm)))

/-- BLX, register (48:R1104). -/
def execTBlx2 (h2 : Bool) (rm : LowReg) (s : State) : Outcome :=
  finish do
    noPc [highReg h2 rm]
    bxWritePc (s.setReg 14#4 (s.nextPc ||| 1#32)) (s.reg (highReg h2 rm))

/-- LDR, PC-relative (48:R1748). -/
def execTLdrPc (rd : LowReg) (imm8 : BitVec 8) (s : State) : Outcome :=
  finish (thumbLoad rd (loadWord false false) (thumbPc s + words imm8) s)

/-- STR, register offset (48:R1753). -/
def execTStrReg (rm rn rd : LowReg) (s : State) : Outcome :=
  finish (thumbStore rd (writeWord false) (low s rn + low s rm) s)

/-- STRH, register offset (48:R1754). -/
def execTStrhReg (rm rn rd : LowReg) (s : State) : Outcome :=
  finish (thumbStore rd writeHalf (low s rn + low s rm) s)

/-- STRB, register offset (48:R1755). -/
def execTStrbReg (rm rn rd : LowReg) (s : State) : Outcome :=
  finish (thumbStore rd (writeByte false) (low s rn + low s rm) s)

/-- LDRSB, register offset (48:R1747). -/
def execTLdrsbReg (rm rn rd : LowReg) (s : State) : Outcome :=
  finish (thumbLoad rd readSignedByte (low s rn + low s rm) s)

/-- LDR, register offset (48:R1743). -/
def execTLdrReg (rm rn rd : LowReg) (s : State) : Outcome :=
  finish (thumbLoad rd (loadWord false false) (low s rn + low s rm) s)

/-- LDRH, register offset (48:R1744). -/
def execTLdrhReg (rm rn rd : LowReg) (s : State) : Outcome :=
  finish (thumbLoad rd readHalf (low s rn + low s rm) s)

/-- LDRB, register offset (48:R1746). -/
def execTLdrbReg (rm rn rd : LowReg) (s : State) : Outcome :=
  finish (thumbLoad rd (readByte false) (low s rn + low s rm) s)

/-- LDRSH, register offset (48:R1745). -/
def execTLdrshReg (rm rn rd : LowReg) (s : State) : Outcome :=
  finish (thumbLoad rd readSignedHalf (low s rn + low s rm) s)

/-- STR, immediate offset (48:R1750). -/
def execTStrImm (imm5 : BitVec 5) (rn rd : LowReg) (s : State) : Outcome :=
  finish (thumbStore rd (writeWord false) (low s rn + words imm5) s)

/-- LDR, immediate offset (48:R1740). -/
def execTLdrImm (imm5 : BitVec 5) (rn rd : LowReg) (s : State) : Outcome :=
  finish (thumbLoad rd (loadWord false false) (low s rn + words imm5) s)

/-- STRB, immediate offset (48:R1752). -/
def execTStrbImm (imm5 : BitVec 5) (rn rd : LowReg) (s : State) : Outcome :=
  finish (thumbStore rd (writeByte false) (low s rn + zext imm5) s)

/-- LDRB, immediate offset (48:R1742). -/
def execTLdrbImm (imm5 : BitVec 5) (rn rd : LowReg) (s : State) : Outcome :=
  finish (thumbLoad rd (readByte false) (low s rn + zext imm5) s)

/-- STRH, immediate offset (48:R1751). -/
def execTStrhImm (imm5 : BitVec 5) (rn rd : LowReg) (s : State) : Outcome :=
  finish (thumbStore rd writeHalf (low s rn + (zext imm5 <<< 1)) s)

/-- LDRH, immediate offset (48:R1741). -/
def execTLdrhImm (imm5 : BitVec 5) (rn rd : LowReg) (s : State) : Outcome :=
  finish (thumbLoad rd readHalf (low s rn + (zext imm5 <<< 1)) s)

/-- STR, SP-relative (48:R1756). -/
def execTStrSp (rd : LowReg) (imm8 : BitVec 8) (s : State) : Outcome :=
  finish (thumbStore rd (writeWord false) (s.reg 13#4 + words imm8) s)

/-- LDR, SP-relative (48:R1749). -/
def execTLdrSp (rd : LowReg) (imm8 : BitVec 8) (s : State) : Outcome :=
  finish (thumbLoad rd (loadWord false false) (s.reg 13#4 + words imm8) s)

/-- ADD, PC plus immediate (48:R1080). -/
def execTAddPc (rd : LowReg) (imm8 : BitVec 8) (s : State) : Outcome :=
  finish (.ok (thumbWrite (lowReg rd) (thumbPc s + words imm8) s))

/-- ADD, SP plus immediate (48:R1081). -/
def execTAddSpImm (rd : LowReg) (imm8 : BitVec 8) (s : State) : Outcome :=
  finish (.ok (thumbWrite (lowReg rd) (s.reg 13#4 + words imm8) s))

/-- ADD, to SP (48:R1082). -/
def execTAddToSp (imm7 : BitVec 7) (s : State) : Outcome :=
  finish (.ok (thumbWrite 13#4 (s.reg 13#4 + words imm7) s))

/-- SUB, from SP (48:R1087). -/
def execTSubFromSp (imm7 : BitVec 7) (s : State) : Outcome :=
  finish (.ok (thumbWrite 13#4 (s.reg 13#4 - words imm7) s))

/-- SXTH (48:R1120). -/
def execTSxth (rm rd : LowReg) (s : State) : Outcome :=
  finish (.ok (thumbWrite (lowReg rd) (sext (bits (low s rm) 0 16)) s))

/-- SXTB (48:R1121). -/
def execTSxtb (rm rd : LowReg) (s : State) : Outcome :=
  finish (.ok (thumbWrite (lowReg rd) (sext (bits (low s rm) 0 8)) s))

/-- UXTH (48:R1122). -/
def execTUxth (rm rd : LowReg) (s : State) : Outcome :=
  finish (.ok (thumbWrite (lowReg rd) (zext (bits (low s rm) 0 16)) s))

/-- UXTB (48:R1123). -/
def execTUxtb (rm rd : LowReg) (s : State) : Outcome :=
  finish (.ok (thumbWrite (lowReg rd) (zext (bits (low s rm) 0 8)) s))

/-- The register list of PUSH and POP: low registers, and R14 or R15 (48:R1124, R1125). -/
def stackList (regs : BitVec 8) (extra : Bool) (high : Reg) : List Reg :=
  regList (regs.setWidth 16) ++ (if extra then [high] else [])

/-- PUSH (48:R1124). -/
def execTPush (rBit : Bool) (regs : BitVec 8) (s : State) : Outcome :=
  finish do
    let list := stackList regs rBit 14#4
    refuseIf list.isEmpty .registerList
    let base := s.reg 13#4
    let s ← storeWords .multiWord (list.map s.reg) (blockStart true false base list.length) s
    pure (s.setReg 13#4 (blockEnd false base list.length)).advance

/-- POP (48:R1125). -/
def execTPop (rBit : Bool) (regs : BitVec 8) (s : State) : Outcome :=
  finish do
    let list := stackList regs rBit 15#4
    refuseIf list.isEmpty .registerList
    let base := s.reg 13#4
    let (loaded, s) ← loadBlock false true rBit base list s
    let s' := (s.setReg 13#4 (blockEnd true base list.length)).setRegsIn s.mode (plainRegs loaded)
    if rBit then loadToPc s' (pcWord loaded) else pure s'.advance

/-- STMIA (48:R1128): the base in the list and not its lowest register is refused. -/
def execTStmia (rn : LowReg) (regs : BitVec 8) (s : State) : Outcome :=
  finish do
    let list := regList (regs.setWidth 16)
    refuseIf list.isEmpty .registerList
    let base := low s rn
    refuseIf (list.contains (lowReg rn) && list.head? != some (lowReg rn)) .registerList
    let s ← storeWords .multiWord (list.map s.reg) (blockStart false true base list.length) s
    pure (s.setReg (lowReg rn) (blockEnd true base list.length)).advance

/-- LDMIA (48:R1126): no writeback where the base is in the list. -/
def execTLdmia (rn : LowReg) (regs : BitVec 8) (s : State) : Outcome :=
  finish do
    let list := regList (regs.setWidth 16)
    refuseIf list.isEmpty .registerList
    let base := low s rn
    let (loaded, s) ← loadBlock false true false base list s
    pure (((s.setReg (lowReg rn) (blockEnd true base list.length)).setRegsIn s.mode loaded).advance)

/-- SETEND (48:R1114). -/
def execTSetend (eBit : Bool) (s : State) : Outcome :=
  finish (.ok ({ s with cpsr := setBit s.cpsr 9 eBit }.advance))

/-- CPS (48:R1113). -/
def execTCps (imod aBit iBit fBit : Bool) (s : State) : Outcome :=
  finish do
    refuseIf (!aBit && !iBit && !fBit) .cpsForm
    changeProcessorState (maskedCpsr s.cpsr aBit iBit fBit imod) s

/-- REV (48:R1115). -/
def execTRev (rm rd : LowReg) (s : State) : Outcome :=
  finish (.ok (thumbWrite (lowReg rd) (reverseBytes (low s rm)) s))

/-- REV16 (48:R1116). -/
def execTRev16 (rm rd : LowReg) (s : State) : Outcome :=
  finish (.ok (thumbWrite (lowReg rd) (reverseHalves (low s rm)) s))

/-- REVSH (48:R1117). -/
def execTRevsh (rm rd : LowReg) (s : State) : Outcome :=
  finish (.ok (thumbWrite (lowReg rd) (reverseSigned (low s rm)) s))

/-- BKPT (48:R1119). -/
def execTBkpt (_imm8 : BitVec 8) (s : State) : Outcome :=
  finish (.ok (breakpoint s))

/-- The permanently Undefined halfwords (48:R1127). -/
def execTUndef (_raw : BitVec 8) (s : State) : Outcome :=
  finish (undefined s)

/-- SVC (48:R1118). -/
def execTSvc (_imm8 : BitVec 8) (s : State) : Outcome :=
  finish (.ok (supervisorCall s))

/-- B, conditional (48:R1101). -/
def execTBCond (cond : Cond) (simm8 : BitVec 8) (s : State) : Outcome :=
  finish (conditional cond true s (.ok (s.branch (s.readPc + (sext simm8 <<< 1)))))

/-- B, unconditional (48:R1102). -/
def execTB (simm11 : BitVec 11) (s : State) : Outcome :=
  finish (.ok (s.branch (s.readPc + (sext simm11 <<< 1))))

/-! The two halves of BL and BLX (48:R1103): the value between them is in R14. -/

/-- The first half (48:R1103). -/
def execTBlPrefix (off11 : BitVec 11) (s : State) : Outcome :=
  finish (.ok ((s.setReg 14#4 (s.readPc + (sext off11 <<< 12))).advance))

/-- The second half of BL (48:R1103); a target that is not aligned is refused (46:R1000). -/
def execTBlSuffix (off11 : BitVec 11) (s : State) : Outcome :=
  finish do
    let target := s.reg 14#4 + (zext off11 <<< 1)
    refuseIf (bit target 0) .branchTarget
    pure ((s.setReg 14#4 (s.nextPc ||| 1#32)).branch target)

/-- The second half of BLX (48:R1103). -/
def execTBlxSuffix (off11 : BitVec 10) (s : State) : Outcome :=
  finish (.ok (((s.setReg 14#4 (s.nextPc ||| 1#32)).setThumb false).branch (align4 (s.reg 14#4 + words off11))))

/-- A second half of BLX with bit 0 set (48:R1127). -/
def execTUndefBlx (_raw : BitVec 10) (s : State) : Outcome :=
  finish (undefined s)

end Sys2Proof.Machine
end

