-- ==== Sys2Proof/Machine/Vfp.lean ====
section
/-! DEFINITION. The meanings of the VFP11's instructions (49). A base word is the instruction's word with condition AL, single
precision and register fields of 0 (49:R1131). -/

namespace Sys2Proof.Machine

open Sys2Proof

/-! ### Arithmetic (49:R1140 to R1152) -/

/-- FMACS (49:R1144). -/
def execFmacs (cond : Cond) (dBit : Bool) (fn fd : BitVec 4) (nBit mBit : Bool) (fm : BitVec 4)
    (s : State) : Outcome :=
  finish (vfpThree cond single 0xEE000A00#32 (macOp single false false)
    (sReg fd dBit) (sReg fn nBit) (sReg fm mBit) s)

/-- FMACD (49:R1144). -/
def execFmacd (cond : Cond) (fn fd fm : BitVec 4) (s : State) : Outcome :=
  finish (vfpThree cond double 0xEE000A00#32 (macOp double false false)
    (dReg fd) (dReg fn) (dReg fm) s)

/-- FNMACS (49:R1145). -/
def execFnmacs (cond : Cond) (dBit : Bool) (fn fd : BitVec 4) (nBit mBit : Bool) (fm : BitVec 4)
    (s : State) : Outcome :=
  finish (vfpThree cond single 0xEE000A40#32 (macOp single false true)
    (sReg fd dBit) (sReg fn nBit) (sReg fm mBit) s)

/-- FNMACD (49:R1145). -/
def execFnmacd (cond : Cond) (fn fd fm : BitVec 4) (s : State) : Outcome :=
  finish (vfpThree cond double 0xEE000A40#32 (macOp double false true)
    (dReg fd) (dReg fn) (dReg fm) s)

/-- FMSCS (49:R1146). -/
def execFmscs (cond : Cond) (dBit : Bool) (fn fd : BitVec 4) (nBit mBit : Bool) (fm : BitVec 4)
    (s : State) : Outcome :=
  finish (vfpThree cond single 0xEE100A00#32 (macOp single true false)
    (sReg fd dBit) (sReg fn nBit) (sReg fm mBit) s)

/-- FMSCD (49:R1146). -/
def execFmscd (cond : Cond) (fn fd fm : BitVec 4) (s : State) : Outcome :=
  finish (vfpThree cond double 0xEE100A00#32 (macOp double true false)
    (dReg fd) (dReg fn) (dReg fm) s)

/-- FNMSCS (49:R1147). -/
def execFnmscs (cond : Cond) (dBit : Bool) (fn fd : BitVec 4) (nBit mBit : Bool) (fm : BitVec 4)
    (s : State) : Outcome :=
  finish (vfpThree cond single 0xEE100A40#32 (macOp single true true)
    (sReg fd dBit) (sReg fn nBit) (sReg fm mBit) s)

/-- FNMSCD (49:R1147). -/
def execFnmscd (cond : Cond) (fn fd fm : BitVec 4) (s : State) : Outcome :=
  finish (vfpThree cond double 0xEE100A40#32 (macOp double true true)
    (dReg fd) (dReg fn) (dReg fm) s)

/-- FMULS (49:R1142). -/
def execFmuls (cond : Cond) (dBit : Bool) (fn fd : BitVec 4) (nBit mBit : Bool) (fm : BitVec 4)
    (s : State) : Outcome :=
  finish (vfpThree cond single 0xEE200A00#32 (fun fpscr _ n m => mulOp single fpscr n m) (sReg fd dBit)
    (sReg fn nBit) (sReg fm mBit) s)

/-- FMULD (49:R1142). -/
def execFmuld (cond : Cond) (fn fd fm : BitVec 4) (s : State) : Outcome :=
  finish (vfpThree cond double 0xEE200A00#32 (fun fpscr _ n m => mulOp double fpscr n m) (dReg fd) (dReg fn)
    (dReg fm) s)

/-- FNMULS (49:R1143). -/
def execFnmuls (cond : Cond) (dBit : Bool) (fn fd : BitVec 4) (nBit mBit : Bool) (fm : BitVec 4)
    (s : State) : Outcome :=
  finish (vfpThree cond single 0xEE200A40#32 (fun fpscr _ n m => nmulOp single fpscr n m) (sReg fd dBit)
    (sReg fn nBit) (sReg fm mBit) s)

/-- FNMULD (49:R1143). -/
def execFnmuld (cond : Cond) (fn fd fm : BitVec 4) (s : State) : Outcome :=
  finish (vfpThree cond double 0xEE200A40#32 (fun fpscr _ n m => nmulOp double fpscr n m) (dReg fd) (dReg fn)
    (dReg fm) s)

/-- FADDS (49:R1140). -/
def execFadds (cond : Cond) (dBit : Bool) (fn fd : BitVec 4) (nBit mBit : Bool) (fm : BitVec 4)
    (s : State) : Outcome :=
  finish (vfpThree cond single 0xEE300A00#32 (fun fpscr _ n m => addOp single false fpscr n m) (sReg fd dBit)
    (sReg fn nBit) (sReg fm mBit) s)

/-- FADDD (49:R1140). -/
def execFaddd (cond : Cond) (fn fd fm : BitVec 4) (s : State) : Outcome :=
  finish (vfpThree cond double 0xEE300A00#32 (fun fpscr _ n m => addOp double false fpscr n m) (dReg fd)
    (dReg fn) (dReg fm) s)

/-- FSUBS (49:R1141). -/
def execFsubs (cond : Cond) (dBit : Bool) (fn fd : BitVec 4) (nBit mBit : Bool) (fm : BitVec 4)
    (s : State) : Outcome :=
  finish (vfpThree cond single 0xEE300A40#32 (fun fpscr _ n m => addOp single true fpscr n m) (sReg fd dBit)
    (sReg fn nBit) (sReg fm mBit) s)

/-- FSUBD (49:R1141). -/
def execFsubd (cond : Cond) (fn fd fm : BitVec 4) (s : State) : Outcome :=
  finish (vfpThree cond double 0xEE300A40#32 (fun fpscr _ n m => addOp double true fpscr n m) (dReg fd)
    (dReg fn) (dReg fm) s)

/-- FDIVS (49:R1148). -/
def execFdivs (cond : Cond) (dBit : Bool) (fn fd : BitVec 4) (nBit mBit : Bool) (fm : BitVec 4)
    (s : State) : Outcome :=
  finish (vfpThree cond single 0xEE800A00#32 (fun fpscr _ n m => divOp single fpscr n m) (sReg fd dBit)
    (sReg fn nBit) (sReg fm mBit) s)

/-- FDIVD (49:R1148). -/
def execFdivd (cond : Cond) (fn fd fm : BitVec 4) (s : State) : Outcome :=
  finish (vfpThree cond double 0xEE800A00#32 (fun fpscr _ n m => divOp double fpscr n m) (dReg fd) (dReg fn)
    (dReg fm) s)

/-- FCPYS (49:R1152). -/
def execFcpys (cond : Cond) (dBit : Bool) (fd : BitVec 4) (mBit : Bool) (fm : BitVec 4) (s : State) : Outcome :=
  finish (vfpTwo cond single 0xEEB00A40#32 (fun _ m => .done m 0#32) (sReg fd dBit) (sReg fm mBit) s)

/-- FCPYD (49:R1152). -/
def execFcpyd (cond : Cond) (fd fm : BitVec 4) (s : State) : Outcome :=
  finish (vfpTwo cond double 0xEEB00A40#32 (fun _ m => .done m 0#32) (dReg fd) (dReg fm) s)

/-- FABSS (49:R1150). -/
def execFabss (cond : Cond) (dBit : Bool) (fd : BitVec 4) (mBit : Bool) (fm : BitVec 4) (s : State) : Outcome :=
  finish (vfpTwo cond single 0xEEB00AC0#32 (fun _ m => .done (absBits single m) 0#32) (sReg fd dBit) (sReg fm mBit) s)

/-- FABSD (49:R1150). -/
def execFabsd (cond : Cond) (fd fm : BitVec 4) (s : State) : Outcome :=
  finish (vfpTwo cond double 0xEEB00AC0#32 (fun _ m => .done (absBits double m) 0#32) (dReg fd) (dReg fm) s)

/-- FNEGS (49:R1151). -/
def execFnegs (cond : Cond) (dBit : Bool) (fd : BitVec 4) (mBit : Bool) (fm : BitVec 4) (s : State) : Outcome :=
  finish (vfpTwo cond single 0xEEB10A40#32 (fun _ m => .done (negBits single m) 0#32) (sReg fd dBit) (sReg fm mBit) s)

/-- FNEGD (49:R1151). -/
def execFnegd (cond : Cond) (fd fm : BitVec 4) (s : State) : Outcome :=
  finish (vfpTwo cond double 0xEEB10A40#32 (fun _ m => .done (negBits double m) 0#32) (dReg fd) (dReg fm) s)

/-- FSQRTS (49:R1149). -/
def execFsqrts (cond : Cond) (dBit : Bool) (fd : BitVec 4) (mBit : Bool) (fm : BitVec 4) (s : State) : Outcome :=
  finish (vfpTwo cond single 0xEEB10AC0#32 (fun fpscr m => sqrtOp single fpscr m) (sReg fd dBit) (sReg fm mBit) s)

/-- FSQRTD (49:R1149). -/
def execFsqrtd (cond : Cond) (fd fm : BitVec 4) (s : State) : Outcome :=
  finish (vfpTwo cond double 0xEEB10AC0#32 (fun fpscr m => sqrtOp double fpscr m) (dReg fd) (dReg fm) s)

/-! ### Comparisons and conversions (49:R1153 to R1164) -/

/-- FCMPS (49:R1153). -/
def execFcmps (cond : Cond) (dBit : Bool) (fd : BitVec 4) (mBit : Bool) (fm : BitVec 4) (s : State) : Outcome :=
  finish (vfpCompare cond single 0xEEB40A40#32 false (sReg fd dBit) (sReg fm mBit) s)

/-- FCMPD (49:R1153). -/
def execFcmpd (cond : Cond) (fd fm : BitVec 4) (s : State) : Outcome :=
  finish (vfpCompare cond double 0xEEB40A40#32 false (dReg fd) (dReg fm) s)

/-- FCMPES (49:R1154). -/
def execFcmpes (cond : Cond) (dBit : Bool) (fd : BitVec 4) (mBit : Bool) (fm : BitVec 4) (s : State) : Outcome :=
  finish (vfpCompare cond single 0xEEB40AC0#32 true (sReg fd dBit) (sReg fm mBit) s)

/-- FCMPED (49:R1154). -/
def execFcmped (cond : Cond) (fd fm : BitVec 4) (s : State) : Outcome :=
  finish (vfpCompare cond double 0xEEB40AC0#32 true (dReg fd) (dReg fm) s)

/-- FCMPZS (49:R1155). -/
def execFcmpzs (cond : Cond) (dBit : Bool) (fd : BitVec 4) (s : State) : Outcome :=
  finish (vfpCompareZero cond single 0xEEB50A40#32 false (sReg fd dBit) s)

/-- FCMPZD (49:R1155). -/
def execFcmpzd (cond : Cond) (fd : BitVec 4) (s : State) : Outcome :=
  finish (vfpCompareZero cond double 0xEEB50A40#32 false (dReg fd) s)

/-- FCMPEZS (49:R1156). -/
def execFcmpezs (cond : Cond) (dBit : Bool) (fd : BitVec 4) (s : State) : Outcome :=
  finish (vfpCompareZero cond single 0xEEB50AC0#32 true (sReg fd dBit) s)

/-- FCMPEZD (49:R1156). -/
def execFcmpezd (cond : Cond) (fd : BitVec 4) (s : State) : Outcome :=
  finish (vfpCompareZero cond double 0xEEB50AC0#32 true (dReg fd) s)

/-- FCVTDS (49:R1157). -/
def execFcvtds (cond : Cond) (fd : BitVec 4) (mBit : Bool) (fm : BitVec 4) (s : State) : Outcome :=
  finish (vfpConvert cond single single double 0xEEB70AC0#32 (fun fpscr m => widenOp fpscr m) (dReg fd)
    (sReg fm mBit) s)

/-- FCVTSD (49:R1158). -/
def execFcvtsd (cond : Cond) (dBit : Bool) (fd fm : BitVec 4) (s : State) : Outcome :=
  finish (vfpConvert cond double double single 0xEEB70AC0#32 narrowOp (sReg fd dBit)
    (dReg fm) s)

/-- FUITOS (49:R1159). -/
def execFuitos (cond : Cond) (dBit : Bool) (fd : BitVec 4) (mBit : Bool) (fm : BitVec 4) (s : State) : Outcome :=
  finish (vfpConvert cond single single single 0xEEB80A40#32 (fun fpscr m => fromIntOp single false fpscr m)
    (sReg fd dBit) (sReg fm mBit) s)

/-- FUITOD (49:R1159). -/
def execFuitod (cond : Cond) (fd : BitVec 4) (mBit : Bool) (fm : BitVec 4) (s : State) : Outcome :=
  finish (vfpConvert cond double single double 0xEEB80A40#32 (fun fpscr m => fromIntOp double false fpscr m)
    (dReg fd) (sReg fm mBit) s)

/-- FSITOS (49:R1160). -/
def execFsitos (cond : Cond) (dBit : Bool) (fd : BitVec 4) (mBit : Bool) (fm : BitVec 4) (s : State) : Outcome :=
  finish (vfpConvert cond single single single 0xEEB80AC0#32 (fun fpscr m => fromIntOp single true fpscr m)
    (sReg fd dBit) (sReg fm mBit) s)

/-- FSITOD (49:R1160). -/
def execFsitod (cond : Cond) (fd : BitVec 4) (mBit : Bool) (fm : BitVec 4) (s : State) : Outcome :=
  finish (vfpConvert cond double single double 0xEEB80AC0#32 (fun fpscr m => fromIntOp double true fpscr m)
    (dReg fd) (sReg fm mBit) s)

/-- FTOUIS (49:R1161). -/
def execFtouis (cond : Cond) (dBit : Bool) (fd : BitVec 4) (mBit : Bool) (fm : BitVec 4) (s : State) : Outcome :=
  finish (vfpConvert cond single single single 0xEEBC0A40#32 (fun fpscr m => toIntOp single false false fpscr m)
    (sReg fd dBit) (sReg fm mBit) s)

/-- FTOUID (49:R1161). -/
def execFtouid (cond : Cond) (dBit : Bool) (fd fm : BitVec 4) (s : State) : Outcome :=
  finish (vfpConvert cond double double single 0xEEBC0A40#32 (fun fpscr m => toIntOp double false false fpscr m)
    (sReg fd dBit) (dReg fm) s)

/-- FTOUIZS (49:R1162). -/
def execFtouizs (cond : Cond) (dBit : Bool) (fd : BitVec 4) (mBit : Bool) (fm : BitVec 4) (s : State) : Outcome :=
  finish (vfpConvert cond single single single 0xEEBC0AC0#32 (fun fpscr m => toIntOp single false true fpscr m)
    (sReg fd dBit) (sReg fm mBit) s)

/-- FTOUIZD (49:R1162). -/
def execFtouizd (cond : Cond) (dBit : Bool) (fd fm : BitVec 4) (s : State) : Outcome :=
  finish (vfpConvert cond double double single 0xEEBC0AC0#32 (fun fpscr m => toIntOp double false true fpscr m)
    (sReg fd dBit) (dReg fm) s)

/-- FTOSIS (49:R1163). -/
def execFtosis (cond : Cond) (dBit : Bool) (fd : BitVec 4) (mBit : Bool) (fm : BitVec 4) (s : State) : Outcome :=
  finish (vfpConvert cond single single single 0xEEBD0A40#32 (fun fpscr m => toIntOp single true false fpscr m)
    (sReg fd dBit) (sReg fm mBit) s)

/-- FTOSID (49:R1163). -/
def execFtosid (cond : Cond) (dBit : Bool) (fd fm : BitVec 4) (s : State) : Outcome :=
  finish (vfpConvert cond double double single 0xEEBD0A40#32 (fun fpscr m => toIntOp double true false fpscr m)
    (sReg fd dBit) (dReg fm) s)

/-- FTOSIZS (49:R1164). -/
def execFtosizs (cond : Cond) (dBit : Bool) (fd : BitVec 4) (mBit : Bool) (fm : BitVec 4) (s : State) : Outcome :=
  finish (vfpConvert cond single single single 0xEEBD0AC0#32 (fun fpscr m => toIntOp single true true fpscr m)
    (sReg fd dBit) (sReg fm mBit) s)

/-- FTOSIZD (49:R1164). -/
def execFtosizd (cond : Cond) (dBit : Bool) (fd fm : BitVec 4) (s : State) : Outcome :=
  finish (vfpConvert cond double double single 0xEEBD0AC0#32 (fun fpscr m => toIntOp double true true fpscr m)
    (sReg fd dBit) (dReg fm) s)

/-! ### Loads and stores (49:R1170 to R1173) -/

/-- FLDS (49:R1170). -/
def execFlds (cond : Cond) (u dBit : Bool) (rn : Reg) (fd : BitVec 4) (off8 : BitVec 8) (s : State) : Outcome :=
  finish (vfpLoadOne cond single u rn (sReg fd dBit) off8 s)

/-- FLDD (49:R1170). -/
def execFldd (cond : Cond) (u : Bool) (rn : Reg) (fd : BitVec 4) (off8 : BitVec 8) (s : State) : Outcome :=
  finish (vfpLoadOne cond double u rn (dReg fd) off8 s)

/-- FSTS (49:R1171). -/
def execFsts (cond : Cond) (u dBit : Bool) (rn : Reg) (fd : BitVec 4) (off8 : BitVec 8) (s : State) : Outcome :=
  finish (vfpStoreOne cond single u rn (sReg fd dBit) off8 s)

/-- FSTD (49:R1171). -/
def execFstd (cond : Cond) (u : Bool) (rn : Reg) (fd : BitVec 4) (off8 : BitVec 8) (s : State) : Outcome :=
  finish (vfpStoreOne cond double u rn (dReg fd) off8 s)

/-- FLDMS, increment after (49:R1172). -/
def execFldmsIa (cond : Cond) (dBit : Bool) (rn : Reg) (fd : BitVec 4) (off8 : BitVec 8) (s : State) : Outcome :=
  finish (vfpLoadMany cond single true false rn (sReg fd dBit) off8 s)

/-- FLDMD and FLDMX, increment after (49:R1172). -/
def execFldmdxIa (cond : Cond) (rn : Reg) (fd : BitVec 4) (off8 : BitVec 8) (s : State) : Outcome :=
  finish (vfpLoadMany cond double true false rn (dReg fd) off8 s)

/-- FLDMS, increment after with writeback (49:R1172). -/
def execFldmsIaW (cond : Cond) (dBit : Bool) (rn : Reg) (fd : BitVec 4) (off8 : BitVec 8) (s : State) : Outcome :=
  finish (vfpLoadMany cond single true true rn (sReg fd dBit) off8 s)

/-- FLDMD and FLDMX, increment after with writeback (49:R1172). -/
def execFldmdxIaW (cond : Cond) (rn : Reg) (fd : BitVec 4) (off8 : BitVec 8) (s : State) : Outcome :=
  finish (vfpLoadMany cond double true true rn (dReg fd) off8 s)

/-- FLDMS, decrement before with writeback (49:R1172). -/
def execFldmsDbW (cond : Cond) (dBit : Bool) (rn : Reg) (fd : BitVec 4) (off8 : BitVec 8) (s : State) : Outcome :=
  finish (vfpLoadMany cond single false true rn (sReg fd dBit) off8 s)

/-- FLDMD and FLDMX, decrement before with writeback (49:R1172). -/
def execFldmdxDbW (cond : Cond) (rn : Reg) (fd : BitVec 4) (off8 : BitVec 8) (s : State) : Outcome :=
  finish (vfpLoadMany cond double false true rn (dReg fd) off8 s)

/-- FSTMS, increment after (49:R1173). -/
def execFstmsIa (cond : Cond) (dBit : Bool) (rn : Reg) (fd : BitVec 4) (off8 : BitVec 8) (s : State) : Outcome :=
  finish (vfpStoreMany cond single true false rn (sReg fd dBit) off8 s)

/-- FSTMD and FSTMX, increment after (49:R1173). -/
def execFstmdxIa (cond : Cond) (rn : Reg) (fd : BitVec 4) (off8 : BitVec 8) (s : State) : Outcome :=
  finish (vfpStoreMany cond double true false rn (dReg fd) off8 s)

/-- FSTMS, increment after with writeback (49:R1173). -/
def execFstmsIaW (cond : Cond) (dBit : Bool) (rn : Reg) (fd : BitVec 4) (off8 : BitVec 8) (s : State) : Outcome :=
  finish (vfpStoreMany cond single true true rn (sReg fd dBit) off8 s)

/-- FSTMD and FSTMX, increment after with writeback (49:R1173). -/
def execFstmdxIaW (cond : Cond) (rn : Reg) (fd : BitVec 4) (off8 : BitVec 8) (s : State) : Outcome :=
  finish (vfpStoreMany cond double true true rn (dReg fd) off8 s)

/-- FSTMS, decrement before with writeback (49:R1173). -/
def execFstmsDbW (cond : Cond) (dBit : Bool) (rn : Reg) (fd : BitVec 4) (off8 : BitVec 8) (s : State) : Outcome :=
  finish (vfpStoreMany cond single false true rn (sReg fd dBit) off8 s)

/-- FSTMD and FSTMX, decrement before with writeback (49:R1173). -/
def execFstmdxDbW (cond : Cond) (rn : Reg) (fd : BitVec 4) (off8 : BitVec 8) (s : State) : Outcome :=
  finish (vfpStoreMany cond double false true rn (dReg fd) off8 s)

/-! ### Register transfers (49:R1174 to R1183) -/

/-- FMSR (49:R1174). -/
def execFmsr (cond : Cond) (fn : BitVec 4) (rd : Reg) (nBit : Bool) (s : State) : Outcome :=
  finish <| vfpInstruction cond 10 s fun s => do
    noPc [rd]
    pure (s.setSr (sReg fn nBit) (s.reg rd)).advance

/-- FMRS (49:R1175). -/
def execFmrs (cond : Cond) (fn : BitVec 4) (rd : Reg) (nBit : Bool) (s : State) : Outcome :=
  finish <| vfpInstruction cond 10 s fun s => do
    noPc [rd]
    pure (s.setReg rd (s.sr (sReg fn nBit))).advance

/-- FMDLR (49:R1176). -/
def execFmdlr (cond : Cond) (fn : BitVec 4) (rd : Reg) (s : State) : Outcome :=
  finish <| vfpInstruction cond 11 s fun s => do
    noPc [rd]
    pure (s.setSr (2 * dReg fn) (s.reg rd)).advance

/-- FMDHR (49:R1177). -/
def execFmdhr (cond : Cond) (fn : BitVec 4) (rd : Reg) (s : State) : Outcome :=
  finish <| vfpInstruction cond 11 s fun s => do
    noPc [rd]
    pure (s.setSr (2 * dReg fn + 1) (s.reg rd)).advance

/-- FMRDL (49:R1178). -/
def execFmrdl (cond : Cond) (fn : BitVec 4) (rd : Reg) (s : State) : Outcome :=
  finish <| vfpInstruction cond 11 s fun s => do
    noPc [rd]
    pure (s.setReg rd (s.sr (2 * dReg fn))).advance

/-- FMRDH (49:R1179). -/
def execFmrdh (cond : Cond) (fn : BitVec 4) (rd : Reg) (s : State) : Outcome :=
  finish <| vfpInstruction cond 11 s fun s => do
    noPc [rd]
    pure (s.setReg rd (s.sr (2 * dReg fn + 1))).advance

/-- FMDRR (49:R1180). -/
def execFmdrr (cond : Cond) (rn rd : Reg) (dm : BitVec 4) (s : State) : Outcome :=
  finish <| vfpInstruction cond 11 s fun s => do
    noPc [rd, rn]
    pure ((s.setSr (2 * dReg dm + 1) (s.reg rn)).setSr (2 * dReg dm) (s.reg rd)).advance

/-- FMRRD (49:R1181). -/
def execFmrrd (cond : Cond) (rn rd : Reg) (dm : BitVec 4) (s : State) : Outcome :=
  finish <| vfpInstruction cond 11 s fun s => do
    noPc [rd, rn]
    refuseIf (rd == rn) .registerField
    pure ((s.setReg rn (s.sr (2 * dReg dm + 1))).setReg rd (s.sr (2 * dReg dm))).advance

/-- FMSRR (49:R1182). -/
def execFmsrr (cond : Cond) (rn rd : Reg) (mBit : Bool) (sm : BitVec 4) (s : State) : Outcome :=
  finish <| vfpInstruction cond 10 s fun s => do
    noPc [rd, rn]
    refuseIf (sReg sm mBit == 31) .vfpRegisters
    pure ((s.setSr (sReg sm mBit) (s.reg rd)).setSr (sReg sm mBit + 1) (s.reg rn)).advance

/-- FMRRS (49:R1183). -/
def execFmrrs (cond : Cond) (rn rd : Reg) (mBit : Bool) (sm : BitVec 4) (s : State) : Outcome :=
  finish <| vfpInstruction cond 10 s fun s => do
    noPc [rd, rn]
    refuseIf (rd == rn) .registerField
    refuseIf (sReg sm mBit == 31) .vfpRegisters
    pure ((s.setReg rd (s.sr (sReg sm mBit))).setReg rn (s.sr (sReg sm mBit + 1))).advance

/-! ### System registers (49:R1184 to R1186) -/

/-- FMXR (49:R1184). -/
def execFmxr (cond : Cond) (reg : BitVec 4) (rd : Reg) (s : State) : Outcome :=
  finish <| conditional cond false s do
    let (r, s) ← selectVfpReg reg s
    noPc [rd]
    pure (writeVfpReg r (s.reg rd) s).advance

/-- FMRX (49:R1185). -/
def execFmrx (cond : Cond) (reg : BitVec 4) (rd : Reg) (s : State) : Outcome :=
  finish <| conditional cond false s do
    let (r, s) ← selectVfpReg reg s
    noPc [rd]
    let (v, s) := readVfpReg r s
    pure (s.setReg rd v).advance

/-- FMSTAT (49:R1186). -/
def execFmstat (cond : Cond) (s : State) : Outcome :=
  finish <| conditional cond false s do
    let (r, s) ← selectVfpReg 1#4 s
    let (v, s) := readVfpReg r s
    pure { s with cpsr := mergeBits s.cpsr v 0xF0000000#32 }.advance

end Sys2Proof.Machine
end

