-- ==== Sys2Proof/Machine/Dispatch.lean ====
section
/-! DEFINITION. The dispatch: one arm for each constructor of Instr, one call of its meaning. -/

namespace Sys2Proof.Machine

open Sys2Proof

/-- The meaning of an instruction in a state (00:R20). -/
def exec (i : Instr) (s : State) : Host.Outcome State Fault Refusal :=
  match i with
  | .pldImm u rn off12 => Sys2Proof.Machine.execPldImm u rn off12 s
  | .pldReg u rn shiftImm shift rm => Sys2Proof.Machine.execPldReg u rn shiftImm shift rm s
  | .rfe p u w rn => Sys2Proof.Machine.execRfe p u w rn s
  | .srs p u w mode => Sys2Proof.Machine.execSrs p u w mode s
  | .clrex => Sys2Proof.Machine.execClrex s
  | .cps imod mmod aBit iBit fBit mode => Sys2Proof.Machine.execCps imod mmod aBit iBit fBit mode s
  | .setend eBit => Sys2Proof.Machine.execSetend eBit s
  | .blx1 h simm24 => Sys2Proof.Machine.execBlx1 h simm24 s
  | .cdp2 opc1 cRn cRd cpNum opc2 cRm => Sys2Proof.Machine.execCdp2 opc1 cRn cRd cpNum opc2 cRm s
  | .mcr2 opc1 cRn rd cpNum opc2 cRm => Sys2Proof.Machine.execMcr2 opc1 cRn rd cpNum opc2 cRm s
  | .mrc2 opc1 cRn rd cpNum opc2 cRm => Sys2Proof.Machine.execMrc2 opc1 cRn rd cpNum opc2 cRm s
  | .mcrr2 rn rd cpNum opc cRm => Sys2Proof.Machine.execMcrr2 rn rd cpNum opc cRm s
  | .mrrc2 rn rd cpNum opc cRm => Sys2Proof.Machine.execMrrc2 rn rd cpNum opc cRm s
  | .undefCop2 l raw => Sys2Proof.Machine.execUndefCop2 l raw s
  | .ldc2 p u nBit w rn cRd cpNum off8 => Sys2Proof.Machine.execLdc2 p u nBit w rn cRd cpNum off8 s
  | .stc2 p u nBit w rn cRd cpNum off8 => Sys2Proof.Machine.execStc2 p u nBit w rn cRd cpNum off8 s
  | .undefUncond raw => Sys2Proof.Machine.execUndefUncond raw s
  | .andImm cond sBit rn rd rot imm8 => Sys2Proof.Machine.execAndImm cond sBit rn rd rot imm8 s
  | .andReg cond sBit rn rd shiftImm shift rm => Sys2Proof.Machine.execAndReg cond sBit rn rd shiftImm shift rm s
  | .andRegShift cond sBit rn rd rs shift rm => Sys2Proof.Machine.execAndRegShift cond sBit rn rd rs shift rm s
  | .eorImm cond sBit rn rd rot imm8 => Sys2Proof.Machine.execEorImm cond sBit rn rd rot imm8 s
  | .eorReg cond sBit rn rd shiftImm shift rm => Sys2Proof.Machine.execEorReg cond sBit rn rd shiftImm shift rm s
  | .eorRegShift cond sBit rn rd rs shift rm => Sys2Proof.Machine.execEorRegShift cond sBit rn rd rs shift rm s
  | .subImm cond sBit rn rd rot imm8 => Sys2Proof.Machine.execSubImm cond sBit rn rd rot imm8 s
  | .subReg cond sBit rn rd shiftImm shift rm => Sys2Proof.Machine.execSubReg cond sBit rn rd shiftImm shift rm s
  | .subRegShift cond sBit rn rd rs shift rm => Sys2Proof.Machine.execSubRegShift cond sBit rn rd rs shift rm s
  | .rsbImm cond sBit rn rd rot imm8 => Sys2Proof.Machine.execRsbImm cond sBit rn rd rot imm8 s
  | .rsbReg cond sBit rn rd shiftImm shift rm => Sys2Proof.Machine.execRsbReg cond sBit rn rd shiftImm shift rm s
  | .rsbRegShift cond sBit rn rd rs shift rm => Sys2Proof.Machine.execRsbRegShift cond sBit rn rd rs shift rm s
  | .addImm cond sBit rn rd rot imm8 => Sys2Proof.Machine.execAddImm cond sBit rn rd rot imm8 s
  | .addReg cond sBit rn rd shiftImm shift rm => Sys2Proof.Machine.execAddReg cond sBit rn rd shiftImm shift rm s
  | .addRegShift cond sBit rn rd rs shift rm => Sys2Proof.Machine.execAddRegShift cond sBit rn rd rs shift rm s
  | .adcImm cond sBit rn rd rot imm8 => Sys2Proof.Machine.execAdcImm cond sBit rn rd rot imm8 s
  | .adcReg cond sBit rn rd shiftImm shift rm => Sys2Proof.Machine.execAdcReg cond sBit rn rd shiftImm shift rm s
  | .adcRegShift cond sBit rn rd rs shift rm => Sys2Proof.Machine.execAdcRegShift cond sBit rn rd rs shift rm s
  | .sbcImm cond sBit rn rd rot imm8 => Sys2Proof.Machine.execSbcImm cond sBit rn rd rot imm8 s
  | .sbcReg cond sBit rn rd shiftImm shift rm => Sys2Proof.Machine.execSbcReg cond sBit rn rd shiftImm shift rm s
  | .sbcRegShift cond sBit rn rd rs shift rm => Sys2Proof.Machine.execSbcRegShift cond sBit rn rd rs shift rm s
  | .rscImm cond sBit rn rd rot imm8 => Sys2Proof.Machine.execRscImm cond sBit rn rd rot imm8 s
  | .rscReg cond sBit rn rd shiftImm shift rm => Sys2Proof.Machine.execRscReg cond sBit rn rd shiftImm shift rm s
  | .rscRegShift cond sBit rn rd rs shift rm => Sys2Proof.Machine.execRscRegShift cond sBit rn rd rs shift rm s
  | .orrImm cond sBit rn rd rot imm8 => Sys2Proof.Machine.execOrrImm cond sBit rn rd rot imm8 s
  | .orrReg cond sBit rn rd shiftImm shift rm => Sys2Proof.Machine.execOrrReg cond sBit rn rd shiftImm shift rm s
  | .orrRegShift cond sBit rn rd rs shift rm => Sys2Proof.Machine.execOrrRegShift cond sBit rn rd rs shift rm s
  | .bicImm cond sBit rn rd rot imm8 => Sys2Proof.Machine.execBicImm cond sBit rn rd rot imm8 s
  | .bicReg cond sBit rn rd shiftImm shift rm => Sys2Proof.Machine.execBicReg cond sBit rn rd shiftImm shift rm s
  | .bicRegShift cond sBit rn rd rs shift rm => Sys2Proof.Machine.execBicRegShift cond sBit rn rd rs shift rm s
  | .cpy cond rd rm => Sys2Proof.Machine.execCpy cond rd rm s
  | .movImm cond sBit rd rot imm8 => Sys2Proof.Machine.execMovImm cond sBit rd rot imm8 s
  | .movReg cond sBit rd shiftImm shift rm => Sys2Proof.Machine.execMovReg cond sBit rd shiftImm shift rm s
  | .movRegShift cond sBit rd rs shift rm => Sys2Proof.Machine.execMovRegShift cond sBit rd rs shift rm s
  | .mvnImm cond sBit rd rot imm8 => Sys2Proof.Machine.execMvnImm cond sBit rd rot imm8 s
  | .mvnReg cond sBit rd shiftImm shift rm => Sys2Proof.Machine.execMvnReg cond sBit rd shiftImm shift rm s
  | .mvnRegShift cond sBit rd rs shift rm => Sys2Proof.Machine.execMvnRegShift cond sBit rd rs shift rm s
  | .tstImm cond rn rot imm8 => Sys2Proof.Machine.execTstImm cond rn rot imm8 s
  | .tstReg cond rn shiftImm shift rm => Sys2Proof.Machine.execTstReg cond rn shiftImm shift rm s
  | .tstRegShift cond rn rs shift rm => Sys2Proof.Machine.execTstRegShift cond rn rs shift rm s
  | .teqImm cond rn rot imm8 => Sys2Proof.Machine.execTeqImm cond rn rot imm8 s
  | .teqReg cond rn shiftImm shift rm => Sys2Proof.Machine.execTeqReg cond rn shiftImm shift rm s
  | .teqRegShift cond rn rs shift rm => Sys2Proof.Machine.execTeqRegShift cond rn rs shift rm s
  | .cmpImm cond rn rot imm8 => Sys2Proof.Machine.execCmpImm cond rn rot imm8 s
  | .cmpReg cond rn shiftImm shift rm => Sys2Proof.Machine.execCmpReg cond rn shiftImm shift rm s
  | .cmpRegShift cond rn rs shift rm => Sys2Proof.Machine.execCmpRegShift cond rn rs shift rm s
  | .cmnImm cond rn rot imm8 => Sys2Proof.Machine.execCmnImm cond rn rot imm8 s
  | .cmnReg cond rn shiftImm shift rm => Sys2Proof.Machine.execCmnReg cond rn shiftImm shift rm s
  | .cmnRegShift cond rn rs shift rm => Sys2Proof.Machine.execCmnRegShift cond rn rs shift rm s
  | .clz cond rd rm => Sys2Proof.Machine.execClz cond rd rm s
  | .mul cond sBit rd rs rm => Sys2Proof.Machine.execMul cond sBit rd rs rm s
  | .mla cond sBit rd rn rs rm => Sys2Proof.Machine.execMla cond sBit rd rn rs rm s
  | .umaal cond rdHi rdLo rs rm => Sys2Proof.Machine.execUmaal cond rdHi rdLo rs rm s
  | .umull cond sBit rdHi rdLo rs rm => Sys2Proof.Machine.execUmull cond sBit rdHi rdLo rs rm s
  | .umlal cond sBit rdHi rdLo rs rm => Sys2Proof.Machine.execUmlal cond sBit rdHi rdLo rs rm s
  | .smull cond sBit rdHi rdLo rs rm => Sys2Proof.Machine.execSmull cond sBit rdHi rdLo rs rm s
  | .smlal cond sBit rdHi rdLo rs rm => Sys2Proof.Machine.execSmlal cond sBit rdHi rdLo rs rm s
  | .qadd cond rn rd rm => Sys2Proof.Machine.execQadd cond rn rd rm s
  | .qsub cond rn rd rm => Sys2Proof.Machine.execQsub cond rn rd rm s
  | .qdadd cond rn rd rm => Sys2Proof.Machine.execQdadd cond rn rd rm s
  | .qdsub cond rn rd rm => Sys2Proof.Machine.execQdsub cond rn rd rm s
  | .smlaXY cond rd rn rs y x rm => Sys2Proof.Machine.execSmlaXY cond rd rn rs y x rm s
  | .smlaWY cond rd rn rs y rm => Sys2Proof.Machine.execSmlaWY cond rd rn rs y rm s
  | .smulWY cond rd rs y rm => Sys2Proof.Machine.execSmulWY cond rd rs y rm s
  | .smlalXY cond rdHi rdLo rs y x rm => Sys2Proof.Machine.execSmlalXY cond rdHi rdLo rs y x rm s
  | .smulXY cond rd rs y x rm => Sys2Proof.Machine.execSmulXY cond rd rs y x rm s
  | .sadd16 cond rn rd rm => Sys2Proof.Machine.execSadd16 cond rn rd rm s
  | .qadd16 cond rn rd rm => Sys2Proof.Machine.execQadd16 cond rn rd rm s
  | .shadd16 cond rn rd rm => Sys2Proof.Machine.execShadd16 cond rn rd rm s
  | .uadd16 cond rn rd rm => Sys2Proof.Machine.execUadd16 cond rn rd rm s
  | .uqadd16 cond rn rd rm => Sys2Proof.Machine.execUqadd16 cond rn rd rm s
  | .uhadd16 cond rn rd rm => Sys2Proof.Machine.execUhadd16 cond rn rd rm s
  | .saddsubx cond rn rd rm => Sys2Proof.Machine.execSaddsubx cond rn rd rm s
  | .qaddsubx cond rn rd rm => Sys2Proof.Machine.execQaddsubx cond rn rd rm s
  | .shaddsubx cond rn rd rm => Sys2Proof.Machine.execShaddsubx cond rn rd rm s
  | .uaddsubx cond rn rd rm => Sys2Proof.Machine.execUaddsubx cond rn rd rm s
  | .uqaddsubx cond rn rd rm => Sys2Proof.Machine.execUqaddsubx cond rn rd rm s
  | .uhaddsubx cond rn rd rm => Sys2Proof.Machine.execUhaddsubx cond rn rd rm s
  | .ssubaddx cond rn rd rm => Sys2Proof.Machine.execSsubaddx cond rn rd rm s
  | .qsubaddx cond rn rd rm => Sys2Proof.Machine.execQsubaddx cond rn rd rm s
  | .shsubaddx cond rn rd rm => Sys2Proof.Machine.execShsubaddx cond rn rd rm s
  | .usubaddx cond rn rd rm => Sys2Proof.Machine.execUsubaddx cond rn rd rm s
  | .uqsubaddx cond rn rd rm => Sys2Proof.Machine.execUqsubaddx cond rn rd rm s
  | .uhsubaddx cond rn rd rm => Sys2Proof.Machine.execUhsubaddx cond rn rd rm s
  | .ssub16 cond rn rd rm => Sys2Proof.Machine.execSsub16 cond rn rd rm s
  | .qsub16 cond rn rd rm => Sys2Proof.Machine.execQsub16 cond rn rd rm s
  | .shsub16 cond rn rd rm => Sys2Proof.Machine.execShsub16 cond rn rd rm s
  | .usub16 cond rn rd rm => Sys2Proof.Machine.execUsub16 cond rn rd rm s
  | .uqsub16 cond rn rd rm => Sys2Proof.Machine.execUqsub16 cond rn rd rm s
  | .uhsub16 cond rn rd rm => Sys2Proof.Machine.execUhsub16 cond rn rd rm s
  | .sadd8 cond rn rd rm => Sys2Proof.Machine.execSadd8 cond rn rd rm s
  | .qadd8 cond rn rd rm => Sys2Proof.Machine.execQadd8 cond rn rd rm s
  | .shadd8 cond rn rd rm => Sys2Proof.Machine.execShadd8 cond rn rd rm s
  | .uadd8 cond rn rd rm => Sys2Proof.Machine.execUadd8 cond rn rd rm s
  | .uqadd8 cond rn rd rm => Sys2Proof.Machine.execUqadd8 cond rn rd rm s
  | .uhadd8 cond rn rd rm => Sys2Proof.Machine.execUhadd8 cond rn rd rm s
  | .ssub8 cond rn rd rm => Sys2Proof.Machine.execSsub8 cond rn rd rm s
  | .qsub8 cond rn rd rm => Sys2Proof.Machine.execQsub8 cond rn rd rm s
  | .shsub8 cond rn rd rm => Sys2Proof.Machine.execShsub8 cond rn rd rm s
  | .usub8 cond rn rd rm => Sys2Proof.Machine.execUsub8 cond rn rd rm s
  | .uqsub8 cond rn rd rm => Sys2Proof.Machine.execUqsub8 cond rn rd rm s
  | .uhsub8 cond rn rd rm => Sys2Proof.Machine.execUhsub8 cond rn rd rm s
  | .usad8 cond rd rs rm => Sys2Proof.Machine.execUsad8 cond rd rs rm s
  | .usada8 cond rd rn rs rm => Sys2Proof.Machine.execUsada8 cond rd rn rs rm s
  | .sxtb16 cond rd rotate rm => Sys2Proof.Machine.execSxtb16 cond rd rotate rm s
  | .sxtab16 cond rn rd rotate rm => Sys2Proof.Machine.execSxtab16 cond rn rd rotate rm s
  | .sxtb cond rd rotate rm => Sys2Proof.Machine.execSxtb cond rd rotate rm s
  | .sxtab cond rn rd rotate rm => Sys2Proof.Machine.execSxtab cond rn rd rotate rm s
  | .sxth cond rd rotate rm => Sys2Proof.Machine.execSxth cond rd rotate rm s
  | .sxtah cond rn rd rotate rm => Sys2Proof.Machine.execSxtah cond rn rd rotate rm s
  | .uxtb16 cond rd rotate rm => Sys2Proof.Machine.execUxtb16 cond rd rotate rm s
  | .uxtab16 cond rn rd rotate rm => Sys2Proof.Machine.execUxtab16 cond rn rd rotate rm s
  | .uxtb cond rd rotate rm => Sys2Proof.Machine.execUxtb cond rd rotate rm s
  | .uxtab cond rn rd rotate rm => Sys2Proof.Machine.execUxtab cond rn rd rotate rm s
  | .uxth cond rd rotate rm => Sys2Proof.Machine.execUxth cond rd rotate rm s
  | .uxtah cond rn rd rotate rm => Sys2Proof.Machine.execUxtah cond rn rd rotate rm s
  | .smuad cond rd rs rm => Sys2Proof.Machine.execSmuad cond rd rs rm s
  | .smuadx cond rd rs rm => Sys2Proof.Machine.execSmuadx cond rd rs rm s
  | .smusd cond rd rs rm => Sys2Proof.Machine.execSmusd cond rd rs rm s
  | .smusdx cond rd rs rm => Sys2Proof.Machine.execSmusdx cond rd rs rm s
  | .smlad cond rd rn rs rm => Sys2Proof.Machine.execSmlad cond rd rn rs rm s
  | .smladx cond rd rn rs rm => Sys2Proof.Machine.execSmladx cond rd rn rs rm s
  | .smlsd cond rd rn rs rm => Sys2Proof.Machine.execSmlsd cond rd rn rs rm s
  | .smlsdx cond rd rn rs rm => Sys2Proof.Machine.execSmlsdx cond rd rn rs rm s
  | .smlald cond rdHi rdLo rs rm => Sys2Proof.Machine.execSmlald cond rdHi rdLo rs rm s
  | .smlaldx cond rdHi rdLo rs rm => Sys2Proof.Machine.execSmlaldx cond rdHi rdLo rs rm s
  | .smlsld cond rdHi rdLo rs rm => Sys2Proof.Machine.execSmlsld cond rdHi rdLo rs rm s
  | .smlsldx cond rdHi rdLo rs rm => Sys2Proof.Machine.execSmlsldx cond rdHi rdLo rs rm s
  | .smmul cond rd rs rm => Sys2Proof.Machine.execSmmul cond rd rs rm s
  | .smmulr cond rd rs rm => Sys2Proof.Machine.execSmmulr cond rd rs rm s
  | .smmla cond rd rn rs rm => Sys2Proof.Machine.execSmmla cond rd rn rs rm s
  | .smmlar cond rd rn rs rm => Sys2Proof.Machine.execSmmlar cond rd rn rs rm s
  | .smmls cond rd rn rs rm => Sys2Proof.Machine.execSmmls cond rd rn rs rm s
  | .smmlsr cond rd rn rs rm => Sys2Proof.Machine.execSmmlsr cond rd rn rs rm s
  | .ssat cond satImm rd shiftImm sh rm => Sys2Proof.Machine.execSsat cond satImm rd shiftImm sh rm s
  | .usat cond satImm rd shiftImm sh rm => Sys2Proof.Machine.execUsat cond satImm rd shiftImm sh rm s
  | .ssat16 cond satImm rd rm => Sys2Proof.Machine.execSsat16 cond satImm rd rm s
  | .usat16 cond satImm rd rm => Sys2Proof.Machine.execUsat16 cond satImm rd rm s
  | .sel cond rn rd rm => Sys2Proof.Machine.execSel cond rn rd rm s
  | .pkhbt cond rn rd shiftImm rm => Sys2Proof.Machine.execPkhbt cond rn rd shiftImm rm s
  | .pkhtb cond rn rd shiftImm rm => Sys2Proof.Machine.execPkhtb cond rn rd shiftImm rm s
  | .rev cond rd rm => Sys2Proof.Machine.execRev cond rd rm s
  | .rev16 cond rd rm => Sys2Proof.Machine.execRev16 cond rd rm s
  | .revsh cond rd rm => Sys2Proof.Machine.execRevsh cond rd rm s
  | .ldrtImm cond u rn rd off12 => Sys2Proof.Machine.execLdrtImm cond u rn rd off12 s
  | .ldrtReg cond u rn rd shiftImm shift rm => Sys2Proof.Machine.execLdrtReg cond u rn rd shiftImm shift rm s
  | .ldrbtImm cond u rn rd off12 => Sys2Proof.Machine.execLdrbtImm cond u rn rd off12 s
  | .ldrbtReg cond u rn rd shiftImm shift rm => Sys2Proof.Machine.execLdrbtReg cond u rn rd shiftImm shift rm s
  | .strtImm cond u rn rd off12 => Sys2Proof.Machine.execStrtImm cond u rn rd off12 s
  | .strtReg cond u rn rd shiftImm shift rm => Sys2Proof.Machine.execStrtReg cond u rn rd shiftImm shift rm s
  | .strbtImm cond u rn rd off12 => Sys2Proof.Machine.execStrbtImm cond u rn rd off12 s
  | .strbtReg cond u rn rd shiftImm shift rm => Sys2Proof.Machine.execStrbtReg cond u rn rd shiftImm shift rm s
  | .ldrImm cond p u w rn rd off12 => Sys2Proof.Machine.execLdrImm cond p u w rn rd off12 s
  | .ldrReg cond p u w rn rd shiftImm shift rm => Sys2Proof.Machine.execLdrReg cond p u w rn rd shiftImm shift rm s
  | .ldrbImm cond p u w rn rd off12 => Sys2Proof.Machine.execLdrbImm cond p u w rn rd off12 s
  | .ldrbReg cond p u w rn rd shiftImm shift rm => Sys2Proof.Machine.execLdrbReg cond p u w rn rd shiftImm shift rm s
  | .strImm cond p u w rn rd off12 => Sys2Proof.Machine.execStrImm cond p u w rn rd off12 s
  | .strReg cond p u w rn rd shiftImm shift rm => Sys2Proof.Machine.execStrReg cond p u w rn rd shiftImm shift rm s
  | .strbImm cond p u w rn rd off12 => Sys2Proof.Machine.execStrbImm cond p u w rn rd off12 s
  | .strbReg cond p u w rn rd shiftImm shift rm => Sys2Proof.Machine.execStrbReg cond p u w rn rd shiftImm shift rm s
  | .strhImm cond p u w rn rd immH immL => Sys2Proof.Machine.execStrhImm cond p u w rn rd immH immL s
  | .strhReg cond p u w rn rd rm => Sys2Proof.Machine.execStrhReg cond p u w rn rd rm s
  | .ldrdImm cond p u w rn rd immH immL => Sys2Proof.Machine.execLdrdImm cond p u w rn rd immH immL s
  | .ldrdReg cond p u w rn rd rm => Sys2Proof.Machine.execLdrdReg cond p u w rn rd rm s
  | .strdImm cond p u w rn rd immH immL => Sys2Proof.Machine.execStrdImm cond p u w rn rd immH immL s
  | .strdReg cond p u w rn rd rm => Sys2Proof.Machine.execStrdReg cond p u w rn rd rm s
  | .ldrhImm cond p u w rn rd immH immL => Sys2Proof.Machine.execLdrhImm cond p u w rn rd immH immL s
  | .ldrhReg cond p u w rn rd rm => Sys2Proof.Machine.execLdrhReg cond p u w rn rd rm s
  | .ldrsbImm cond p u w rn rd immH immL => Sys2Proof.Machine.execLdrsbImm cond p u w rn rd immH immL s
  | .ldrsbReg cond p u w rn rd rm => Sys2Proof.Machine.execLdrsbReg cond p u w rn rd rm s
  | .ldrshImm cond p u w rn rd immH immL => Sys2Proof.Machine.execLdrshImm cond p u w rn rd immH immL s
  | .ldrshReg cond p u w rn rd rm => Sys2Proof.Machine.execLdrshReg cond p u w rn rd rm s
  | .ldm1 cond p u w rn regs => Sys2Proof.Machine.execLdm1 cond p u w rn regs s
  | .ldm2 cond p u rn regs => Sys2Proof.Machine.execLdm2 cond p u rn regs s
  | .ldm3 cond p u w rn regs => Sys2Proof.Machine.execLdm3 cond p u w rn regs s
  | .stm1 cond p u w rn regs => Sys2Proof.Machine.execStm1 cond p u w rn regs s
  | .stm2 cond p u rn regs => Sys2Proof.Machine.execStm2 cond p u rn regs s
  | .swp cond rn rd rm => Sys2Proof.Machine.execSwp cond rn rd rm s
  | .swpb cond rn rd rm => Sys2Proof.Machine.execSwpb cond rn rd rm s
  | .strex cond rn rd rm => Sys2Proof.Machine.execStrex cond rn rd rm s
  | .ldrex cond rn rd => Sys2Proof.Machine.execLdrex cond rn rd s
  | .strexd cond rn rd rm => Sys2Proof.Machine.execStrexd cond rn rd rm s
  | .ldrexd cond rn rd => Sys2Proof.Machine.execLdrexd cond rn rd s
  | .strexb cond rn rd rm => Sys2Proof.Machine.execStrexb cond rn rd rm s
  | .ldrexb cond rn rd => Sys2Proof.Machine.execLdrexb cond rn rd s
  | .strexh cond rn rd rm => Sys2Proof.Machine.execStrexh cond rn rd rm s
  | .ldrexh cond rn rd => Sys2Proof.Machine.execLdrexh cond rn rd s
  | .mrs cond rBit rd => Sys2Proof.Machine.execMrs cond rBit rd s
  | .msrReg cond rBit fieldMask rm => Sys2Proof.Machine.execMsrReg cond rBit fieldMask rm s
  | .nop cond hint => Sys2Proof.Machine.execNop cond hint s
  | .msrImm cond rBit fieldMask rot imm8 => Sys2Proof.Machine.execMsrImm cond rBit fieldMask rot imm8 s
  | .b cond simm24 => Sys2Proof.Machine.execB cond simm24 s
  | .bl cond simm24 => Sys2Proof.Machine.execBl cond simm24 s
  | .bx cond rm => Sys2Proof.Machine.execBx cond rm s
  | .bxj cond rm => Sys2Proof.Machine.execBxj cond rm s
  | .blx2 cond rm => Sys2Proof.Machine.execBlx2 cond rm s
  | .bkpt immHi immLo => Sys2Proof.Machine.execBkpt immHi immLo s
  | .smc cond immHi immLo => Sys2Proof.Machine.execSmc cond immHi immLo s
  | .svc cond imm24 => Sys2Proof.Machine.execSvc cond imm24 s
  | .undefArch cond anyHi anyLo => Sys2Proof.Machine.execUndefArch cond anyHi anyLo s
  | .fmacs cond dBit fn fd nBit mBit fm => Sys2Proof.Machine.execFmacs cond dBit fn fd nBit mBit fm s
  | .fmacd cond fn fd fm => Sys2Proof.Machine.execFmacd cond fn fd fm s
  | .fnmacs cond dBit fn fd nBit mBit fm => Sys2Proof.Machine.execFnmacs cond dBit fn fd nBit mBit fm s
  | .fnmacd cond fn fd fm => Sys2Proof.Machine.execFnmacd cond fn fd fm s
  | .fmscs cond dBit fn fd nBit mBit fm => Sys2Proof.Machine.execFmscs cond dBit fn fd nBit mBit fm s
  | .fmscd cond fn fd fm => Sys2Proof.Machine.execFmscd cond fn fd fm s
  | .fnmscs cond dBit fn fd nBit mBit fm => Sys2Proof.Machine.execFnmscs cond dBit fn fd nBit mBit fm s
  | .fnmscd cond fn fd fm => Sys2Proof.Machine.execFnmscd cond fn fd fm s
  | .fmuls cond dBit fn fd nBit mBit fm => Sys2Proof.Machine.execFmuls cond dBit fn fd nBit mBit fm s
  | .fmuld cond fn fd fm => Sys2Proof.Machine.execFmuld cond fn fd fm s
  | .fnmuls cond dBit fn fd nBit mBit fm => Sys2Proof.Machine.execFnmuls cond dBit fn fd nBit mBit fm s
  | .fnmuld cond fn fd fm => Sys2Proof.Machine.execFnmuld cond fn fd fm s
  | .fadds cond dBit fn fd nBit mBit fm => Sys2Proof.Machine.execFadds cond dBit fn fd nBit mBit fm s
  | .faddd cond fn fd fm => Sys2Proof.Machine.execFaddd cond fn fd fm s
  | .fsubs cond dBit fn fd nBit mBit fm => Sys2Proof.Machine.execFsubs cond dBit fn fd nBit mBit fm s
  | .fsubd cond fn fd fm => Sys2Proof.Machine.execFsubd cond fn fd fm s
  | .fdivs cond dBit fn fd nBit mBit fm => Sys2Proof.Machine.execFdivs cond dBit fn fd nBit mBit fm s
  | .fdivd cond fn fd fm => Sys2Proof.Machine.execFdivd cond fn fd fm s
  | .fcpys cond dBit fd mBit fm => Sys2Proof.Machine.execFcpys cond dBit fd mBit fm s
  | .fcpyd cond fd fm => Sys2Proof.Machine.execFcpyd cond fd fm s
  | .fabss cond dBit fd mBit fm => Sys2Proof.Machine.execFabss cond dBit fd mBit fm s
  | .fabsd cond fd fm => Sys2Proof.Machine.execFabsd cond fd fm s
  | .fnegs cond dBit fd mBit fm => Sys2Proof.Machine.execFnegs cond dBit fd mBit fm s
  | .fnegd cond fd fm => Sys2Proof.Machine.execFnegd cond fd fm s
  | .fsqrts cond dBit fd mBit fm => Sys2Proof.Machine.execFsqrts cond dBit fd mBit fm s
  | .fsqrtd cond fd fm => Sys2Proof.Machine.execFsqrtd cond fd fm s
  | .fcmps cond dBit fd mBit fm => Sys2Proof.Machine.execFcmps cond dBit fd mBit fm s
  | .fcmpd cond fd fm => Sys2Proof.Machine.execFcmpd cond fd fm s
  | .fcmpes cond dBit fd mBit fm => Sys2Proof.Machine.execFcmpes cond dBit fd mBit fm s
  | .fcmped cond fd fm => Sys2Proof.Machine.execFcmped cond fd fm s
  | .fcmpzs cond dBit fd => Sys2Proof.Machine.execFcmpzs cond dBit fd s
  | .fcmpzd cond fd => Sys2Proof.Machine.execFcmpzd cond fd s
  | .fcmpezs cond dBit fd => Sys2Proof.Machine.execFcmpezs cond dBit fd s
  | .fcmpezd cond fd => Sys2Proof.Machine.execFcmpezd cond fd s
  | .fcvtds cond fd mBit fm => Sys2Proof.Machine.execFcvtds cond fd mBit fm s
  | .fcvtsd cond dBit fd fm => Sys2Proof.Machine.execFcvtsd cond dBit fd fm s
  | .fuitos cond dBit fd mBit fm => Sys2Proof.Machine.execFuitos cond dBit fd mBit fm s
  | .fuitod cond fd mBit fm => Sys2Proof.Machine.execFuitod cond fd mBit fm s
  | .fsitos cond dBit fd mBit fm => Sys2Proof.Machine.execFsitos cond dBit fd mBit fm s
  | .fsitod cond fd mBit fm => Sys2Proof.Machine.execFsitod cond fd mBit fm s
  | .ftouis cond dBit fd mBit fm => Sys2Proof.Machine.execFtouis cond dBit fd mBit fm s
  | .ftouid cond dBit fd fm => Sys2Proof.Machine.execFtouid cond dBit fd fm s
  | .ftouizs cond dBit fd mBit fm => Sys2Proof.Machine.execFtouizs cond dBit fd mBit fm s
  | .ftouizd cond dBit fd fm => Sys2Proof.Machine.execFtouizd cond dBit fd fm s
  | .ftosis cond dBit fd mBit fm => Sys2Proof.Machine.execFtosis cond dBit fd mBit fm s
  | .ftosid cond dBit fd fm => Sys2Proof.Machine.execFtosid cond dBit fd fm s
  | .ftosizs cond dBit fd mBit fm => Sys2Proof.Machine.execFtosizs cond dBit fd mBit fm s
  | .ftosizd cond dBit fd fm => Sys2Proof.Machine.execFtosizd cond dBit fd fm s
  | .flds cond u dBit rn fd off8 => Sys2Proof.Machine.execFlds cond u dBit rn fd off8 s
  | .fldd cond u rn fd off8 => Sys2Proof.Machine.execFldd cond u rn fd off8 s
  | .fsts cond u dBit rn fd off8 => Sys2Proof.Machine.execFsts cond u dBit rn fd off8 s
  | .fstd cond u rn fd off8 => Sys2Proof.Machine.execFstd cond u rn fd off8 s
  | .fldmsIa cond dBit rn fd off8 => Sys2Proof.Machine.execFldmsIa cond dBit rn fd off8 s
  | .fldmdxIa cond rn fd off8 => Sys2Proof.Machine.execFldmdxIa cond rn fd off8 s
  | .fldmsIaW cond dBit rn fd off8 => Sys2Proof.Machine.execFldmsIaW cond dBit rn fd off8 s
  | .fldmdxIaW cond rn fd off8 => Sys2Proof.Machine.execFldmdxIaW cond rn fd off8 s
  | .fldmsDbW cond dBit rn fd off8 => Sys2Proof.Machine.execFldmsDbW cond dBit rn fd off8 s
  | .fldmdxDbW cond rn fd off8 => Sys2Proof.Machine.execFldmdxDbW cond rn fd off8 s
  | .fstmsIa cond dBit rn fd off8 => Sys2Proof.Machine.execFstmsIa cond dBit rn fd off8 s
  | .fstmdxIa cond rn fd off8 => Sys2Proof.Machine.execFstmdxIa cond rn fd off8 s
  | .fstmsIaW cond dBit rn fd off8 => Sys2Proof.Machine.execFstmsIaW cond dBit rn fd off8 s
  | .fstmdxIaW cond rn fd off8 => Sys2Proof.Machine.execFstmdxIaW cond rn fd off8 s
  | .fstmsDbW cond dBit rn fd off8 => Sys2Proof.Machine.execFstmsDbW cond dBit rn fd off8 s
  | .fstmdxDbW cond rn fd off8 => Sys2Proof.Machine.execFstmdxDbW cond rn fd off8 s
  | .fmsr cond fn rd nBit => Sys2Proof.Machine.execFmsr cond fn rd nBit s
  | .fmrs cond fn rd nBit => Sys2Proof.Machine.execFmrs cond fn rd nBit s
  | .fmdlr cond fn rd => Sys2Proof.Machine.execFmdlr cond fn rd s
  | .fmrdl cond fn rd => Sys2Proof.Machine.execFmrdl cond fn rd s
  | .fmdhr cond fn rd => Sys2Proof.Machine.execFmdhr cond fn rd s
  | .fmrdh cond fn rd => Sys2Proof.Machine.execFmrdh cond fn rd s
  | .fmxr cond reg rd => Sys2Proof.Machine.execFmxr cond reg rd s
  | .fmstat cond => Sys2Proof.Machine.execFmstat cond s
  | .fmrx cond reg rd => Sys2Proof.Machine.execFmrx cond reg rd s
  | .fmdrr cond rn rd dm => Sys2Proof.Machine.execFmdrr cond rn rd dm s
  | .fmrrd cond rn rd dm => Sys2Proof.Machine.execFmrrd cond rn rd dm s
  | .fmsrr cond rn rd mBit sm => Sys2Proof.Machine.execFmsrr cond rn rd mBit sm s
  | .fmrrs cond rn rd mBit sm => Sys2Proof.Machine.execFmrrs cond rn rd mBit sm s
  | .cdp cond opc1 cRn cRd cpNum opc2 cRm => Sys2Proof.Machine.execCdp cond opc1 cRn cRd cpNum opc2 cRm s
  | .mcr cond opc1 cRn rd cpNum opc2 cRm => Sys2Proof.Machine.execMcr cond opc1 cRn rd cpNum opc2 cRm s
  | .mrc cond opc1 cRn rd cpNum opc2 cRm => Sys2Proof.Machine.execMrc cond opc1 cRn rd cpNum opc2 cRm s
  | .mcrr cond rn rd cpNum opc cRm => Sys2Proof.Machine.execMcrr cond rn rd cpNum opc cRm s
  | .mrrc cond rn rd cpNum opc cRm => Sys2Proof.Machine.execMrrc cond rn rd cpNum opc cRm s
  | .undefCop cond l raw => Sys2Proof.Machine.execUndefCop cond l raw s
  | .ldc cond p u nBit w rn cRd cpNum off8 => Sys2Proof.Machine.execLdc cond p u nBit w rn cRd cpNum off8 s
  | .stc cond p u nBit w rn cRd cpNum off8 => Sys2Proof.Machine.execStc cond p u nBit w rn cRd cpNum off8 s
  | .tLslImm imm5 rm rd => Sys2Proof.Machine.execTLslImm imm5 rm rd s
  | .tLsrImm imm5 rm rd => Sys2Proof.Machine.execTLsrImm imm5 rm rd s
  | .tAsrImm imm5 rm rd => Sys2Proof.Machine.execTAsrImm imm5 rm rd s
  | .tAddReg3 rm rn rd => Sys2Proof.Machine.execTAddReg3 rm rn rd s
  | .tSubReg3 rm rn rd => Sys2Proof.Machine.execTSubReg3 rm rn rd s
  | .tMovLow rm rd => Sys2Proof.Machine.execTMovLow rm rd s
  | .tAddImm3 imm3 rn rd => Sys2Proof.Machine.execTAddImm3 imm3 rn rd s
  | .tSubImm3 imm3 rn rd => Sys2Proof.Machine.execTSubImm3 imm3 rn rd s
  | .tMovImm8 rd imm8 => Sys2Proof.Machine.execTMovImm8 rd imm8 s
  | .tCmpImm8 rn imm8 => Sys2Proof.Machine.execTCmpImm8 rn imm8 s
  | .tAddImm8 rd imm8 => Sys2Proof.Machine.execTAddImm8 rd imm8 s
  | .tSubImm8 rd imm8 => Sys2Proof.Machine.execTSubImm8 rd imm8 s
  | .tAndReg rm rd => Sys2Proof.Machine.execTAndReg rm rd s
  | .tEorReg rm rd => Sys2Proof.Machine.execTEorReg rm rd s
  | .tLslReg rm rd => Sys2Proof.Machine.execTLslReg rm rd s
  | .tLsrReg rm rd => Sys2Proof.Machine.execTLsrReg rm rd s
  | .tAsrReg rm rd => Sys2Proof.Machine.execTAsrReg rm rd s
  | .tAdcReg rm rd => Sys2Proof.Machine.execTAdcReg rm rd s
  | .tSbcReg rm rd => Sys2Proof.Machine.execTSbcReg rm rd s
  | .tRorReg rm rd => Sys2Proof.Machine.execTRorReg rm rd s
  | .tTstReg rm rd => Sys2Proof.Machine.execTTstReg rm rd s
  | .tNegReg rm rd => Sys2Proof.Machine.execTNegReg rm rd s
  | .tCmpReg rm rd => Sys2Proof.Machine.execTCmpReg rm rd s
  | .tCmnReg rm rd => Sys2Proof.Machine.execTCmnReg rm rd s
  | .tOrrReg rm rd => Sys2Proof.Machine.execTOrrReg rm rd s
  | .tMulReg rm rd => Sys2Proof.Machine.execTMulReg rm rd s
  | .tBicReg rm rd => Sys2Proof.Machine.execTBicReg rm rd s
  | .tMvnReg rm rd => Sys2Proof.Machine.execTMvnReg rm rd s
  | .tAddHigh h1 h2 rm rd => Sys2Proof.Machine.execTAddHigh h1 h2 rm rd s
  | .tCmpHigh h1 h2 rm rn => Sys2Proof.Machine.execTCmpHigh h1 h2 rm rn s
  | .tMovHigh h1 h2 rm rd => Sys2Proof.Machine.execTMovHigh h1 h2 rm rd s
  | .tBx h2 rm => Sys2Proof.Machine.execTBx h2 rm s
  | .tBlx2 h2 rm => Sys2Proof.Machine.execTBlx2 h2 rm s
  | .tLdrPc rd imm8 => Sys2Proof.Machine.execTLdrPc rd imm8 s
  | .tStrReg rm rn rd => Sys2Proof.Machine.execTStrReg rm rn rd s
  | .tStrhReg rm rn rd => Sys2Proof.Machine.execTStrhReg rm rn rd s
  | .tStrbReg rm rn rd => Sys2Proof.Machine.execTStrbReg rm rn rd s
  | .tLdrsbReg rm rn rd => Sys2Proof.Machine.execTLdrsbReg rm rn rd s
  | .tLdrReg rm rn rd => Sys2Proof.Machine.execTLdrReg rm rn rd s
  | .tLdrhReg rm rn rd => Sys2Proof.Machine.execTLdrhReg rm rn rd s
  | .tLdrbReg rm rn rd => Sys2Proof.Machine.execTLdrbReg rm rn rd s
  | .tLdrshReg rm rn rd => Sys2Proof.Machine.execTLdrshReg rm rn rd s
  | .tStrImm imm5 rn rd => Sys2Proof.Machine.execTStrImm imm5 rn rd s
  | .tLdrImm imm5 rn rd => Sys2Proof.Machine.execTLdrImm imm5 rn rd s
  | .tStrbImm imm5 rn rd => Sys2Proof.Machine.execTStrbImm imm5 rn rd s
  | .tLdrbImm imm5 rn rd => Sys2Proof.Machine.execTLdrbImm imm5 rn rd s
  | .tStrhImm imm5 rn rd => Sys2Proof.Machine.execTStrhImm imm5 rn rd s
  | .tLdrhImm imm5 rn rd => Sys2Proof.Machine.execTLdrhImm imm5 rn rd s
  | .tStrSp rd imm8 => Sys2Proof.Machine.execTStrSp rd imm8 s
  | .tLdrSp rd imm8 => Sys2Proof.Machine.execTLdrSp rd imm8 s
  | .tAddPc rd imm8 => Sys2Proof.Machine.execTAddPc rd imm8 s
  | .tAddSpImm rd imm8 => Sys2Proof.Machine.execTAddSpImm rd imm8 s
  | .tAddToSp imm7 => Sys2Proof.Machine.execTAddToSp imm7 s
  | .tSubFromSp imm7 => Sys2Proof.Machine.execTSubFromSp imm7 s
  | .tSxth rm rd => Sys2Proof.Machine.execTSxth rm rd s
  | .tSxtb rm rd => Sys2Proof.Machine.execTSxtb rm rd s
  | .tUxth rm rd => Sys2Proof.Machine.execTUxth rm rd s
  | .tUxtb rm rd => Sys2Proof.Machine.execTUxtb rm rd s
  | .tPush rBit regs => Sys2Proof.Machine.execTPush rBit regs s
  | .tSetend eBit => Sys2Proof.Machine.execTSetend eBit s
  | .tCps imod aBit iBit fBit => Sys2Proof.Machine.execTCps imod aBit iBit fBit s
  | .tRev rm rd => Sys2Proof.Machine.execTRev rm rd s
  | .tRev16 rm rd => Sys2Proof.Machine.execTRev16 rm rd s
  | .tRevsh rm rd => Sys2Proof.Machine.execTRevsh rm rd s
  | .tPop rBit regs => Sys2Proof.Machine.execTPop rBit regs s
  | .tBkpt imm8 => Sys2Proof.Machine.execTBkpt imm8 s
  | .tStmia rn regs => Sys2Proof.Machine.execTStmia rn regs s
  | .tLdmia rn regs => Sys2Proof.Machine.execTLdmia rn regs s
  | .tUndef raw => Sys2Proof.Machine.execTUndef raw s
  | .tSvc imm8 => Sys2Proof.Machine.execTSvc imm8 s
  | .tBCond cond simm8 => Sys2Proof.Machine.execTBCond cond simm8 s
  | .tB simm11 => Sys2Proof.Machine.execTB simm11 s
  | .tBlxSuffix off11 => Sys2Proof.Machine.execTBlxSuffix off11 s
  | .tUndefBlx raw => Sys2Proof.Machine.execTUndefBlx raw s
  | .tBlPrefix off11 => Sys2Proof.Machine.execTBlPrefix off11 s
  | .tBlSuffix off11 => Sys2Proof.Machine.execTBlSuffix off11 s

end Sys2Proof.Machine
end

