-- ==== Sys2Proof/Machine/Trace.lean ====
section
/-! DEFINITION. What the trace interface port shows of an instruction (26:R1621 to R1632), and which external coprocessor is enabled
(25:R1573, R1574): both are read off the instruction's word (log 56). -/

namespace Sys2Proof.Machine

open Sys2Proof

/-! ### What an instruction is (26:R1623) -/

/-- A condition field that is not 1111. -/
def isConditional (w : Word) : Bool := bits w 28 4 != 15#4

/-- Is an ARM word a load, a store or a coprocessor register transfer, and no preload? -/
def armData (w : Word) : Bool :=
  match (bits w 25 3).toNat with
  | 0 => isConditional w && bit w 7 && bit w 4 && (bits w 5 2 != 0#2 || bit w 24)
  | 2 => isConditional w
  | 3 => isConditional w && !bit w 4
  | 4 | 6 => true
  | 7 => !bit w 24 && bit w 4
  | _ => false

/-- The same for a Thumb halfword. -/
def thumbData (w : Word) : Bool :=
  match (bits w 12 4).toNat with
  | 4 => bit w 11
  | 5 | 6 | 7 | 8 | 9 | 12 => true
  | 11 => bit w 10 && bits w 9 1 == 0#1
  | _ => false

/-- Does an ARM word write the PC by something other than an immediate branch? -/
def armIndirect (w : Word) : Bool :=
  let toPc := bits w 12 4 == 15#4
  match (bits w 25 3).toNat with
  | 0 => isConditional w &&
      ([0x012FFF10#32, 0x012FFF20#32, 0x012FFF30#32].contains (w &&& 0x0FFFFFF0#32) ||
        (!(bit w 7 && bit w 4) && bits w 23 2 != 2#2 && toPc))
  | 1 => isConditional w && bits w 23 2 != 2#2 && toPc
  | 2 => isConditional w && bit w 20 && toPc
  | 3 => isConditional w && bit w 20 && toPc && !bit w 4
  | 4 => bit w 20 && (bit w 15 || !isConditional w)
  | _ => false

/-- The same for a Thumb halfword. -/
def thumbIndirect (w : Word) : Bool :=
  w &&& 0xFF00#32 == 0x4700#32 || w &&& 0xFF87#32 == 0x4487#32 || w &&& 0xFF87#32 == 0x4687#32 || w &&& 0xFF00#32 == 0xBD00#32

/-- Does an ARM word write the Context ID Register? (26:R1630) -/
def writesContextId (w : Word) : Bool := isConditional w && w &&& 0x0FFF0FFF#32 == 0x0E0D0F30#32

/-- Is an ARM word an access to the ETM's registers? (26:R1630) -/
def accessesEtm (w : Word) : Bool := w &&& 0x0FEF0F10#32 == 0x0E200E10#32

/-- Does the instruction fail its condition? -/
def failsCondition (s : State) (thumb : Bool) (w : Word) : Bool :=
  if thumb then
    bits w 12 4 == 13#4 && bits w 8 4 != 14#4 && bits w 8 4 != 15#4 && !condHolds (Cond.ofBits (bits w 8 4)) s.cpsr
  else isConditional w && !condHolds (Cond.ofBits (bits w 28 4)) s.cpsr

/-- Is an ARM word or a Thumb halfword a load of several words that ends with the PC: LDM or POP? -/
def loadsPcLast (thumb : Bool) (w : Word) : Bool :=
  if thumb then w &&& 0xFF00#32 == 0xBD00#32 else isConditional w && bits w 25 3 == 4#3 && bit w 20 && bit w 15

/-- Is an ARM word `MCR p15,0,<Rd>,c7,<CRm>,<Op2>` with this CRm and Op2? -/
def isC7 (crm : BitVec 4) (op2 : BitVec 3) (w : Word) : Bool :=
  isConditional w && w &&& 0x0FFF0F10#32 == 0x0E070F10#32 && bits w 0 4 == crm && bits w 5 3 == op2

/-- The target of a B, if this is one: the branches that may be folded (70:R1332). -/
def foldedTarget (s : State) (w : Word) : Option Word :=
  if s.thumb then
    if bits w 12 4 == 13#4 && bits w 9 3 != 7#3 then some (s.pc + 4#32 + (bits w 0 8 ++ 0#1 : BitVec 9).signExtend 32)
    else if bits w 11 5 == 28#5 then some (s.pc + 4#32 + (bits w 0 11 ++ 0#1 : BitVec 12).signExtend 32)
    else none
  else if isConditional w && bits w 24 4 == 10#4 then some (s.pc + 8#32 + (bits w 0 24 ++ 0#2 : BitVec 26).signExtend 32)
  else none

/-- Is branch folding on: Z set, and BFD clear (12:R150, R155)? -/
def foldsBranches (s : State) : Bool := s.controlBit 11 && !bit s.cp15.auxControl 29

/-! ### The interfaces -/

/-- How far the addresses of the instruction interface lie after the instruction: 8, 4 or 0 (26:R1622). -/
def traceOffset (s : State) : Word := if s.thumb then 4#32 else if s.jazelle then 0#32 else 8#32

/-- ETMIA and ETMIARET of the branch at the pc where it is folded, with its prediction: the predicted instruction, and the one to return to
(26:R1622). DEDUCED: both have the offset of ETMIA, so that the rule's two formulas give the same ETMIABP (log 56). -/
def phantomAddresses (s : State) (target : Word) (taken : Bool) : Word × Word :=
  let next := s.pc + (if s.thumb then 2#32 else 4#32) + traceOffset s
  let target := target + traceOffset s
  if taken then (target, next) else (next, target)

/-- What the instruction interface shows of the instruction at the pc (26:R1622, R1623, R1625). Whether a branch is folded, and how it was
predicted, are free choices. -/
def tracedInstruction (s : State) (w : Word) : TracedInstruction :=
  let free := Config.freePin s.freeCtr 1
  let phantom := if foldsBranches s && bit free 0 then (foldedTarget s w).map (phantomAddresses s · (bit free 1)) else none
  { address := (phantom.map (·.1)).getD (s.pc + traceOffset s)
    thumb := s.thumb
    jazelle := s.jazelle
    failed := failsCondition s s.thumb w
    indirect := if s.thumb then thumbIndirect w else armIndirect w
    contextId := !s.thumb && writesContextId w
    data := if s.thumb then thumbData w else armData w
    nonSecure := s.nsState
    prohibited := !s.nonInvasivePermitted
    loadsPc := loadsPcLast s.thumb w
    phantom := phantom.map (·.2) }

/-- The transaction of an ARM word on the ETM coprocessor interface, if it makes one (26:R1629 to R1632): a write drives the register's
value. -/
def etmTransfer (s : State) (w : Word) : Option EtmTransfer :=
  if (accessesEtm w || writesContextId w) && !failsCondition s false w then
    let write := !bit w 20
    some { write := write
           address := bits w 21 3 ++ bits w 16 4 ++ bits w 0 4 ++ BitVec.ofBool (writesContextId w) ++ bits w 5 3
           value := if write then s.reg (bits w 12 4) else 0#32
           nonSecure := s.nsState
           prohibited := !s.nonInvasivePermitted }
  else none

/-- The external coprocessor that an ARM word addresses, if it is attached (25:R1574). -/
def addressedCoprocessor (s : State) (w : Word) : Option (BitVec 4) :=
  let n := bits w 8 4
  if (bits w 25 3 == 6#3 || (bits w 25 3 == 7#3 && !bit w 24)) && attached n s then some n else none

/-- The coprocessor register transfer that an ARM word makes, as a data access: the words that it moves (26:R1626, R1627). An MRC to R15 moves
the flags, and other bits that are any value. -/
def registerTransfer (before : State) (w : Word) (s : State) : Option DataAccess :=
  let read := bit w 20
  let value (r : Reg) : Word :=
    if !read then before.reg r
    else if r = 15#4 then mergeBits ((Config.freePin s.freeCtr 3).setWidth 32) s.cpsr 0xF0000000#32
    else s.reg r
  let words : List Word :=
    if bits w 24 4 == 14#4 && bit w 4 then [value (bits w 12 4)]
    else if bits w 21 7 == 0b1100010#7 then [value (bits w 12 4), value (bits w 16 4)]
    else []
  if words.isEmpty then none
  else some { cprt := true, address := 0#32, rotation := 0#2, swizzle := false, write := !read, bytes := words.flatMap (toBytesLE 4)
              unaligned := false, aborted := false, failed := false }

/-- What the trace port shows after an instruction `w` that was executed as an ARM instruction or not, and that an exception has ended
or not. An exception other than that of SVC and SMC has cancelled the instruction that it ends (26:R1623; DEDUCED: log 56). -/
def tracedAfter (before : State) (arm : Bool) (w : Word) (ended : Option Exc) (s : State) : Trace :=
  let completes := arm && ended.isNone && !failsCondition before false w
  { s.trace with
    instruction := if before.halted then none else some (tracedInstruction before w)
    cancelled := if before.halted then s.trace.cancelled else !(ended.isNone || ended == some .svc || ended == some .smc)
    data :=
      if before.halted then []
      else if completes && s.pins.etmpwrup then s.trace.data ++ (registerTransfer before w s).toList
      else s.trace.data
    barrier := completes && (isC7 10#4 4#3 w || isC7 10#4 5#3 w)
    flush := completes && isC7 5#4 4#3 w
    transfer := if arm && ended.isNone then etmTransfer before w else none }

/-- The state after an instruction that `before` has executed, with what the ports show of it. -/
def traceWord (before : State) (w : Word) (s : State) : State :=
  let arm := !before.thumb || before.halted
  { s with
    trace := tracedAfter before arm w s.trace.exception s
    acpEnabled := (if arm then addressedCoprocessor before w else none).or s.acpEnabled }

/-- Before a step: the ports show nothing of an instruction. -/
def State.untraced (s : State) : State :=
  { s with trace := { s.trace with
      instruction := none, placeholder := false, data := [], barrier := false, flush := false, transfer := none } }

/-- Before an instruction: nor of an exception (26:R1623); tracing is on where it is not prohibited (26:R1624). -/
def State.unexcepted (s : State) : State :=
  { s with trace := { s.trace with exception := none, imprecise := false, cancelled := false, quiet := !s.nonInvasivePermitted } }

end Sys2Proof.Machine
end

