-- ==== Sys2Proof/Machine/DebugUnit.lean ====
section
/-! DEFINITION. Debug state as the debugger makes it: entering it, leaving it, and the instructions of the Instruction Transfer Register
(15:R401, R406 to R412, R431). Dbgtap.lean has the DBGTAP that does this. -/

namespace Sys2Proof.Machine

open Sys2Proof

/-! ### Debug state (15:R401, R411) -/

/-- A Halt request, or EDBGRQ: Debug state entry where debug is permitted, with or without a debug-mode (15:R401). -/
def haltRequest (moe : BitVec 4) (s : State) : State :=
  if s.debugPermitted && !s.halted then enterDebugState moe s else s

/-- A Restart: DSCR[1] is cleared, and the processor is on its way out of Debug state (15:R411). -/
def restartRequest (s : State) : State :=
  if s.halted then { s with dbg := { s.dbg with dscr := setBit s.dbg.dscr 1 false } } else s

/-- The exit from Debug state: execution resumes at the PC that the debugger has written, aligned for the state that J and T select; where
it has not, at any address (15:R409, R411). -/
def leaveDebugState (s : State) : State :=
  let (target, s) := if s.dbg.pcKnown = .written then (s.pc, s) else drawWord s
  let d := s.dbg
  { s with
    pc := alignFor s.thumb s.jazelle target
    dbg := { d with dscr := setBit (setBit (setBit d.dscr 0 false) 1 true) 19 false, pcKnown := .entry } }.syncFetch

/-! ### The Instruction Transfer Register (15:R406, R409, R431) -/

/-- The outcome of an instruction as a result. -/
def ofOutcome : Outcome → Result State
  | .next s => .ok s
  | .fault r => .error (.fault r)
  | .refused r => .error (.refuse r)

/-- A result in which an exception that has been taken is the state that it has left. -/
def conclude (r : Result State) : Result State := ofOutcome (finish r)

/-- Executing what a word or halfword decodes to (30:R704). A word of no row is Undefined where its condition passes and does
nothing where it fails (30:R702). BKPT with a condition other than AL is Unpredictable (46:R1013). -/
def executeDecoded (d : Decoded) (s : State) : Result State :=
  match d with
  | .instr i => ofOutcome (exec i s)
  | .unpredictable m => .error (.refuse (if m = "BKPT" then .bkptCondition else .sbzSbo m))
  | .undefined cond => conclude (conditional cond false s (undefined s))
  | .tooFewBytes => conclude (undefined s)

/-- Is this an MSR, which may change the CPSR in Debug state? (15:R407) -/
def isMsr : Decoded → Bool
  | .instr (.msrReg ..) => true
  | .instr (.msrImm ..) => true
  | _ => false

/-- Has an instruction put the processor into a mode or state where debug is not permitted: is it not, after a change of what the permission
depends on but for the pins? (15:R395, R406) -/
def leavesDebug (s s' : State) : Bool :=
  !s'.debugPermitted && (s'.mode != s.mode || s'.nsState != s.nsState || bit s'.cp15.sder 0 != bit s.cp15.sder 0)

/-- The state with another exception on the trace port. -/
def State.withTraced (s : State) (e : Option Exc) : State := { s with trace := { s.trace with exception := e } }

/-- Executing the ITR's word as an ARM instruction. One that puts the processor where debug is not permitted is ignored (15:R406); one that
changes the CPSR and is no MSR is refused (15:R407, 93). It draws anew what is unknown of the PC (15:R409). Its own exception hides its
transaction on the trace port, not one that the port shows from before (26:R1630). -/
noncomputable def executeItr (s : State) : Result State := do
  let before := { s with freeCtr := s.freeCtr + 1 }
  let d := decodeArm s.dbg.itr
  let s' ← executeDecoded d (before.withTraced none)
  if !isMsr d && s'.cpsr != s.cpsr then .error (.refuse .debugState)
  else if leavesDebug s s' then pure before
  else pure ((traceWord before s.dbg.itr s').withTraced s.trace.exception)

end Sys2Proof.Machine
end

