-- ==== Sys2Proof/Machine/Dbgtap.lean ====
section
/-! DEFINITION. The Debug Test Access Port (15:R420 to R432): its state machine, its instruction and data registers, the scan chains, and
what they do to the debug unit (log 24). -/

namespace Sys2Proof.Machine

open Sys2Proof

/-! ### The DBGTAPSM (15:R420) -/

/-- The next state for a level of DBGTMS. PRESUMED: the arcs of IEEE 1149.1, which the figure has lost (log 24). -/
def TapState.next (tms : Bool) : TapState → TapState
  | .testLogicReset => if tms then .testLogicReset else .runTestIdle
  | .runTestIdle => if tms then .selectDr else .runTestIdle
  | .selectDr => if tms then .selectIr else .captureDr
  | .captureDr => if tms then .exit1Dr else .shiftDr
  | .shiftDr => if tms then .exit1Dr else .shiftDr
  | .exit1Dr => if tms then .updateDr else .pauseDr
  | .pauseDr => if tms then .exit2Dr else .pauseDr
  | .exit2Dr => if tms then .updateDr else .shiftDr
  | .updateDr => if tms then .selectDr else .runTestIdle
  | .selectIr => if tms then .testLogicReset else .captureIr
  | .captureIr => if tms then .exit1Ir else .shiftIr
  | .shiftIr => if tms then .exit1Ir else .shiftIr
  | .exit1Ir => if tms then .updateIr else .pauseIr
  | .pauseIr => if tms then .exit2Ir else .pauseIr
  | .exit2Ir => if tms then .updateIr else .shiftIr
  | .updateIr => if tms then .selectDr else .runTestIdle

/-! ### Instructions and data registers (15:R422 to R425) -/

/-- The public instructions. -/
inductive TapInstr where
  | extest | scanN | restart | halt | intest | itrSel | idCode | bypass
  deriving DecidableEq, Repr

/-- The current instruction: every unused code is Bypass (15:R422). -/
def Tap.instr (t : Tap) : TapInstr :=
  match t.ir.toNat with
  | 0b00000 => .extest
  | 0b00010 => .scanN
  | 0b00100 => .restart
  | 0b01000 => .halt
  | 0b01100 => .intest
  | 0b11101 => .itrSel
  | 0b11110 => .idCode
  | _ => .bypass

/-- The data register between DBGTDI and DBGTDO. Restart and Halt connect the bypass register (log 24). -/
inductive TapData where
  | bypass
  | idCode
  | screg
  /-- A scan chain, that EXTEST, or ITRsel, can write. -/
  | chain (number : Nat) (extest : Bool)
  deriving DecidableEq, Repr

/-- The data register that the current instruction selects (15:R422). -/
def Tap.data (t : Tap) : TapData :=
  match t.instr with
  | .extest => .chain t.screg.toNat true
  | .intest => .chain t.screg.toNat false
  | .itrSel => .chain 4 true
  | .scanN => .screg
  | .idCode => .idCode
  | .restart | .halt | .bypass => .bypass

/-- How many bits a data register has; a scan chain that is not described has none (15:R423 to R432). -/
def TapData.length : TapData → Nat
  | .bypass => 1
  | .idCode => 32
  | .screg => 5
  | .chain n _ =>
    match n with
    | 0 => 40
    | 1 => 32
    | 4 => 33
    | 5 => 34
    | 6 => 40
    | 7 => 40
    | _ => 0

/-- The device ID code (15:R423). -/
def deviceId (p : Pins) : Word := p.dbgversion ++ 0x7B76#16 ++ p.dbgmanid ++ 1#1

/-- InstCompl as a scan chain captures it: with DSCR[13] = 0 it is always set (15:R431, R432). -/
def instCompleted (s : State) : Bool := s.dbg.instCompl || !bit s.dbg.dscr 13

/-- The sample of the PC: of the instruction last committed for execution, or any value if there is none yet (15:R429). -/
def samplePc (s : State) : Word × State :=
  if s.halted || !s.nonInvasivePermitted then (0xFFFFFFFF#32, s)
  else
    match s.committed with
    | none => drawWord s
    | some c =>
      (if c.thumb then (c.addr + 4#32) ||| 1#32 else if c.jazelle then align4 c.addr ||| 2#32 else align4 (c.addr + 8#32), s)

/-! ### Scan chain 7 (15:R428, R429) -/

/-- The registers of scan chain 7. -/
inductive ScanReg where
  | null
  | pcSample
  | debugRegister (r : DebugReg)
  deriving DecidableEq, Repr

/-- The register of a scan chain 7 address (Table 14-2 in 15:R428). None: reserved. -/
def scanReg (n : BitVec 7) : Option ScanReg :=
  match n.toNat with
  | 0 => some .null
  | 7 => some (.debugRegister .vcr)
  | 8 => some .pcSample
  | k =>
    if 64 ≤ k then (debugReg (bits (zext n) 4 3) (bits (zext n) 0 4)).map .debugRegister else none

/-- The completion of a request: a read gives the reply, a write of the PC sample does nothing. -/
def serveScan (q : ScanRequest) (s : State) : State :=
  let reply (v : Word) (s : State) : State := { s with dbg := { s.dbg with tap := { s.dbg.tap with reply := v } } }
  match scanReg q.number with
  | none | some .null => s
  | some .pcSample =>
    if q.write then s
    else
      let (v, s) := samplePc s
      reply v s
  | some (.debugRegister r) =>
    if q.write then writeDebugReg r q.value s
    else
      let (v, s) := readDebugReg r s
      reply v s

/-! ### Capture-DR, Shift-DR, Update-DR -/

/-- Loading the shift section of the data register. -/
def Tap.load (t : Tap) (v : BitVec 40) : Tap := { t with dr := v }

/-- The state with another DBGTAP. -/
def State.setTap (s : State) (t : Tap) : State := { s with dbg := { s.dbg with tap := t } }

/-- Capture-DR of a scan chain (15:R424 to R432). DESIGN CHOICE, unsafe: scan chain 7 captures Address 0, and the Data of the last read
even after a write; DSCR[6] is shown as it is also where DSCR[13] = 0 makes it Unpredictable; scan chain 6, with no ETM, captures 0
(log 71). -/
def captureChain (n : Nat) (extest : Bool) (s : State) : Result State :=
  let d := s.dbg
  let t := d.tap
  match n with
  | 0 => .ok (s.setTap (t.load (0x41#8 ++ debugId s)))
  | 1 =>
    let d' := if extest then d else { d with dscr := d.dscr &&& ~~~0x000001C0#32 }
    .ok { s with dbg := { d' with tap := t.load (s.readDscr.setWidth 40) } }
  | 4 =>
    let (any, s) := drawWord s
    let ready := instCompleted s
    .ok (s.setTap { t.load (((BitVec.ofBool ready ++ any : BitVec 33)).setWidth 40) with ready := ready })
  | 5 =>
    let ready := instCompleted s
    let empty := !bit d.dscr 30
    let top := if extest then empty else bit d.dscr 29
    let d' := if extest then d else { d with dscr := setBit d.dscr 29 false }
    let v : BitVec 34 := BitVec.ofBool top ++ BitVec.ofBool ready ++ d.wdtr
    .ok { s with dbg := { d' with tap := { t.load (v.setWidth 40) with ready := ready, nRetry := empty } } }
  | 6 => .ok (s.setTap (t.load 0#40))
  | 7 =>
    let ready := t.pending.isNone
    let v : BitVec 40 := if ready then 0#7 ++ t.reply ++ 1#1 else 0#40
    .ok (s.setTap { t.load v with ready := ready })
  | _ => .error (.refuse .scanChainReserved)

/-- Capture-DR. -/
def captureDr (s : State) : Result State :=
  let t := s.dbg.tap
  match t.data with
  | .bypass => .ok (s.setTap (t.load 0#40))
  | .idCode => .ok (s.setTap (t.load ((deviceId s.pins).setWidth 40)))
  | .screg => .ok (s.setTap (t.load 0b10000#40))
  | .chain n extest => captureChain n extest s

/-- One bit through a shift section of `n` bits: the lowest goes out, DBGTDI comes in at the top. -/
def shiftIn {w : Nat} (n : Nat) (v : BitVec w) (tdi : Bool) : BitVec w :=
  (v >>> 1) &&& ~~~(BitVec.twoPow w (n - 1)) ||| (if tdi then BitVec.twoPow w (n - 1) else 0#w)

/-- Is a write of the rDTR by EXTEST let through? (15:R380, R432) -/
def rdtrWritable (s : State) : Bool :=
  !bit s.dbg.dscr 30 && (if bit s.dbg.dscr 13 then s.dbg.tap.ready else s.dbg.tap.nRetry)

/-- Update-DR of a scan chain (15:R425 to R432). -/
def updateChain (n : Nat) (extest : Bool) (s : State) : Result State :=
  let d := s.dbg
  let t := d.tap
  let low : Word := t.dr.setWidth 32
  match n with
  | 1 => .ok (if extest then { s with dbg := { d with dscr := mergeBits d.dscr low dscrExternalMask } } else s)
  | 4 => .ok (if extest && t.ready then { s with dbg := { d with itr := low } } else s)
  | 5 =>
    .ok (if extest && rdtrWritable s then { s with dbg := { d with rdtr := low, dscr := setBit d.dscr 30 true } } else s)
  | 7 =>
    let q : ScanRequest := { number := t.dr.extractLsb' 33 7, write := t.dr.getLsbD 0, value := t.dr.extractLsb' 1 32 }
    if !t.ready then .ok s
    else
      match scanReg q.number with
      | none => .error (.refuse .scanChainReserved)
      | some .null => .ok s
      | some _ => .ok (s.setTap { t with pending := some q })
  | _ => .ok s

/-- Update-DR. -/
def updateDr (s : State) : Result State :=
  let t := s.dbg.tap
  match t.data with
  | .bypass | .idCode => .ok s
  | .screg => .ok (s.setTap { t with screg := t.dr.setWidth 5 })
  | .chain n extest => updateChain n extest s

/-! ### Run-Test/Idle and one clock -/

/-- May the ITR be issued? (15:R431) DESIGN CHOICE, unsafe: not while InstCompl is LOW, even if Ready was captured HIGH; and the
Ready that counts is what the last Capture-DR of scan chain 4, 5 or 7 has captured, of chain 7 its ReqCompl (log 71). -/
def mayIssue (s : State) : Bool :=
  s.halted && bit s.dbg.dscr 13 && !bit s.dbg.dscr 6 && s.dbg.tap.ready && s.dbg.instCompl &&
    match s.dbg.tap.data with
    | .chain n _ => n == 4 || n == 5
    | .bypass | .idCode | .screg => false

/-- Issuing the ITR: InstCompl goes LOW (15:R431). -/
noncomputable def issueItr (s : State) : Result State := do
  let s ← executeItr s
  pure { s with dbg := { s.dbg with instCompl := false } }

/-- What going through Run-Test/Idle does (15:R422, R431). -/
noncomputable def enterIdle (s : State) : Result State :=
  match s.dbg.tap.instr with
  | .halt => .ok { s with dbg := { s.dbg with haltPending := true } }
  | .restart => .ok (restartRequest s)
  | .extest | .intest | .itrSel => if mayIssue s then issueItr s else .ok s
  | .scanN | .idCode | .bypass => .ok s

/-- What a clock does in a state of the DBGTAPSM, before it moves (15:R420 to R425). -/
def tapAction (tdi : Bool) (s : State) : Result State :=
  let t := s.dbg.tap
  match t.state with
  | .testLogicReset => .ok (s.setTap { Tap.reset with pending := t.pending, reply := t.reply })
  | .captureDr => captureDr s
  | .shiftDr => .ok (s.setTap { t with dr := shiftIn t.data.length t.dr tdi, tdo := t.dr.getLsbD 0 })
  | .updateDr => updateDr s
  | .captureIr => .ok (s.setTap { t with irShift := 0b00001#5 })
  | .shiftIr => .ok (s.setTap { t with irShift := shiftIn 5 t.irShift tdi, tdo := t.irShift.getLsbD 0 })
  | .updateIr => .ok (s.setTap { t with ir := t.irShift })
  | .runTestIdle | .selectDr | .exit1Dr | .pauseDr | .exit2Dr | .selectIr | .exit1Ir | .pauseIr | .exit2Ir => .ok s

/-- One clock of the DBGTAP. -/
noncomputable def tapClock (tms tdi : Bool) (s : State) : Result State := do
  let before := s.dbg.tap.state
  let s ← tapAction tdi s
  let after := before.next tms
  let s := s.setTap { s.dbg.tap with state := after }
  if after = .runTestIdle && before != .runTestIdle then enterIdle s else pure s

/-- What the debugger drives during one step (15:R420, R421). -/
noncomputable def tapInput (i : TapInput) (s : State) : Result State :=
  match i with
  | .idle => .ok s
  | .clock tms tdi => tapClock tms tdi s
  | .reset => .ok (s.setTap { Tap.reset with pending := s.dbg.tap.pending, reply := s.dbg.tap.reply })

/-- The request of scan chain 7, and the instruction of the ITR, are complete at some time (15:R428, R431; log 24). -/
def tapProgress (s : State) : State :=
  let s := match s.dbg.tap.pending with
    | none => s
    | some q =>
      let (done, s) := drawBit s
      if done then serveScan q (s.setTap { s.dbg.tap with pending := none }) else s
  if s.dbg.instCompl then s
  else
    let (done, s) := drawBit s
    { s with dbg := { s.dbg with instCompl := done } }

/-- The DBGTAP during one step: the debugger's next input, if it has one. -/
noncomputable def tapStep (s : State) : Result State :=
  let s := tapProgress s
  match s.dbg.requests with
  | [] => .ok s
  | i :: rest => tapInput i { s with dbg := { s.dbg with requests := rest } }

end Sys2Proof.Machine
end

