-- ==== Sys2Proof/Machine/Outputs.lean ====
section
/-! DEFINITION. The output pins that the spec gives as functions of the state (10:R64, 14:R309, R328, 15:R416, 24:R1541, 26:R1640
to R1650), and the interrupt inputs as the processor meets them (25:R1587, 60:R1230). -/

namespace Sys2Proof.Machine

open Sys2Proof

/-! ### Outputs -/

/-- One transfer of the data trace: its address and its value, which come to the pins one transfer after another (26:R1626, R1627). -/
structure DataTransfer where
  /-- ETMDA[31:3]. -/
  etmda : BitVec 29
  /-- ETMDACTL. -/
  etmdactl : BitVec 18
  /-- ETMDD. -/
  etmdd : BitVec 64
  /-- ETMDDCTL. -/
  etmddctl : BitVec 4
  deriving DecidableEq, Repr

/-- The levels of the output pins. -/
structure Outputs where
  /-- In Standby, with the clocks stopped: no DMA channel is Running or Queued, and an ETM has accepted it (24:R1541, 26:R1651). -/
  standbywfi : Bool
  /-- WFIPENDING: a Wait For Interrupt waits to be accepted (26:R1651; log 56). -/
  wfipending : Bool
  /-- Debug acknowledge (15:R416). -/
  dbgack : Bool
  /-- DSCR[9] (15:R416). -/
  dbgnopwrdwn : Bool
  /-- Level of nDMAIRQ: LOW is active (14:R309). -/
  ndmairq : Bool
  /-- Level of nDMASIRQ. -/
  ndmasirq : Bool
  /-- Level of nDMAEXTERRIRQ. -/
  ndmaexterrirq : Bool
  /-- Level of nPMUIRQ (14:R328). -/
  npmuirq : Bool
  /-- The B bit (26:R1641). -/
  cfgbigend : Bool
  /-- SECMONBUS (10:R64). -/
  secmonbus : Word
  /-- IRQACK (25:R1587). -/
  irqack : Bool
  /-- COMMRX (26:R1650; log 56). -/
  commrx : Bool
  /-- COMMTX. -/
  commtx : Bool
  /-- Level of nVALRESET: LOW is active (14:R332). -/
  nvalreset : Bool
  /-- Level of nVALIRQ. -/
  nvalirq : Bool
  /-- Level of nVALFIQ. -/
  nvalfiq : Bool
  /-- Level of VALEDBGRQ, HIGH as its name says (14:R332; log 30). -/
  valedbgrq : Bool
  /-- DBGTDO (15:R420). -/
  dbgtdo : Bool
  /-- Level of DBGnTDOEN: LOW while DBGTDO is driven (26:R1650; log 24). -/
  dbgntdoen : Bool
  /-- ETMIA (26:R1622). -/
  etmia : Word
  /-- ETMIACTL (26:R1623). -/
  etmiactl : BitVec 18
  /-- ETMIARET (26:R1622). -/
  etmiaret : Word
  /-- The data trace of the step, in transfers in their order (26:R1626, R1627; log 56). -/
  etmdata : List DataTransfer
  /-- ETMIASECCTL (26:R1625). -/
  etmiasecctl : BitVec 2
  /-- ETMCPENABLE, and with it ETMCPCOMMIT (26:R1629). -/
  etmcpenable : Bool
  /-- ETMCPWRITE. -/
  etmcpwrite : Bool
  /-- ETMCPADDRESS (26:R1631). -/
  etmcpaddress : BitVec 15
  /-- ETMCPWDATA. -/
  etmcpwdata : Word
  /-- ETMCPSECCTL (26:R1632). -/
  etmcpsecctl : BitVec 2
  /-- EVNTBUS (26:R1634). -/
  evntbus : BitVec 20
  /-- ACPPRIV: the core is in a privileged mode (25:R1573). -/
  acppriv : Bool
  /-- ACPENABLE: coprocessors 0 to 9, 12 and 13 (25:R1574). -/
  acpenable : BitVec 12
  deriving DecidableEq, Repr

/-- Does a DMA channel of this world ask for an interrupt? (14:R309) -/
def dmaInterrupts (s : State) (nonSecure : Bool) : Bool :=
  s.cp15.dma.toList.any fun c => c.interrupt && c.nonSecure == nonSecure

/-- Has a page table walk of the DMA had an external abort? (14:R309) -/
def dmaWalkAborted (s : State) : Bool := s.cp15.dma.toList.any (·.walkAbort)

/-- The CPSR as the writeback stage shows it: 0 from a reset until an instruction has been committed (10:R64, 26:R1620; log 56). -/
def State.writebackCpsr (s : State) : Word := if s.committed.isSome then s.cpsr else 0#32

/-! ### The trace port and the coprocessor port (26:R1621 to R1634, R1648; log 56) -/

/-- IAExInt (26:R1623). -/
def exceptionCode (k : Exc) (imprecise : Bool) : BitVec 3 :=
  match k with
  | .irq => 0b001#3
  | .fiq => 0b101#3
  | .dataAbort => if imprecise then 0b000#3 else 0b110#3
  | .undef | .svc | .smc | .prefetchAbort => 0b000#3

/-- The instruction that the interface shows: the one of the step, or the placeholder before an exception (26:R1624), of which the spec gives
no address. -/
def shownInstruction (s : State) : Option TracedInstruction :=
  if s.trace.placeholder then
    some { address := (Config.freePin s.freeCtr 2).setWidth 32, thumb := s.thumb, jazelle := false, failed := false, indirect := false
           contextId := false, data := false, nonSecure := s.nsState, prohibited := !s.nonInvasivePermitted, loadsPc := false
           phantom := none }
  else s.trace.instruction

/-- The exception fields of ETMIACTL (26:R1623). The slots that a cancelled instruction leaves outstanding are killed, since in order no
other slot is outstanding (DEDUCED: log 56). -/
def exceptionControl (s : State) (k : Exc) : BitVec 18 :=
  let data := s.trace.instruction.any (·.data)
  BitVec.ofBool (s.trace.cancelled && data) ++ BitVec.ofBool (k == .dataAbort) ++
    BitVec.ofBool (s.trace.cancelled || s.trace.placeholder) ++ exceptionCode k s.trace.imprecise ++ 1#1 ++ 0#11

/-- The instruction fields of ETMIACTL (26:R1623); a branch phantom is no normal instruction. -/
def instructionControl (s : State) (i : TracedInstruction) : BitVec 18 :=
  let normal := i.phantom.isNone
  0#7 ++ BitVec.ofBool (i.data && s.trace.exception == some .undef) ++ BitVec.ofBool i.data ++ BitVec.ofBool i.contextId ++
    BitVec.ofBool i.indirect ++ BitVec.ofBool (!normal && i.failed) ++ BitVec.ofBool (normal && i.failed) ++ BitVec.ofBool i.jazelle ++
    BitVec.ofBool i.thumb ++ BitVec.ofBool (!normal) ++ BitVec.ofBool normal ++ BitVec.ofBool s.pins.etmpwrup

/-- ETMIACTL (26:R1623). -/
def iaControl (s : State) : BitVec 18 :=
  ((s.trace.exception.map (exceptionControl s)).getD 0#18) ||| ((shownInstruction s).map (instructionControl s)).getD 0#18

/-- The two bits of a secure control bus: trace prohibited, Non-secure. -/
def secureControl (prohibited nonSecure : Bool) : BitVec 2 := BitVec.ofBool prohibited ++ BitVec.ofBool nonSecure

/-- EVNTBUS: 0 unless PMNC.X is set, and in Debug state (14:R324, R327); else the events of the cycle, which are any value but for its
reserved bit 6 (14:R325). -/
def eventBus (s : State) : BitVec 20 :=
  if bit s.cp15.pmnc 11 && !s.halted then (Config.freePin s.freeCtr 0).setWidth 20 &&& ~~~0x00040#20 else 0#20

/-- The bytes of an access that lie in one doubleword, with their lanes. -/
def lanesOf (x : DataAccess) (doubleword : Nat) : List (Nat × Byte) :=
  x.bytes.zipIdx.filterMap fun (b, i) =>
    let a := x.address.toNat + i
    if a / 8 = doubleword then some (a % 8, b) else none

/-- The doublewords of an access, at rising addresses. -/
def doublewords (x : DataAccess) : List Nat :=
  if x.bytes.isEmpty then []
  else
    let first := x.address.toNat / 8
    (List.range ((x.address.toNat + x.bytes.length - 1) / 8 + 1 - first)).map (first + ·)

/-- The accesses as they come to the port: a load of several words that ends with the PC loads the PC first (26:R1626). -/
def portOrder (loadsPc : Bool) (xs : List DataAccess) : List DataAccess :=
  if loadsPc then
    xs.flatMap fun x =>
      let n := x.bytes.length - 4
      [{ x with address := x.address + BitVec.ofNat 32 n, bytes := x.bytes.drop n }, { x with bytes := x.bytes.take n }]
  else xs

/-- The transfer of one doubleword of an access. The slot is any but 00; what is valid on the first transfer of an unaligned access alone, and
the byte lanes that are not selected, are any value. -/
def transferOf (s : State) (x : DataAccess) (doubleword : Nat) (index : Nat) (first lastAccess lastWord : Bool) : DataTransfer :=
  let free := Config.freePin s.freeCtr (2 * index + 4)
  let slot : BitVec 2 := if free.extractLsb' 0 2 = 0#2 then 1#2 else free.extractLsb' 0 2
  let lanes := lanesOf x doubleword
  let split := x.unaligned && !(first && lastWord)
  let known := first || !split
  let or (b : Bool) (i : Nat) : BitVec 1 := BitVec.ofBool (if known then b else bit free i)
  let select : BitVec 8 := lanes.foldl (fun m (i, _) => m ||| BitVec.twoPow 8 i) 0#8
  let data : BitVec 64 := lanes.foldl (fun d (i, b) =>
    (d &&& ~~~((0xFF#64) <<< (8 * i))) ||| (b.setWidth 64 <<< (8 * i))) (Config.freePin s.freeCtr (2 * index + 5))
  { etmda := BitVec.ofNat 29 doubleword
    etmdactl := or first 2 ++ BitVec.ofBool (lastAccess && (lastWord || split)) ++ BitVec.ofBool x.cprt ++ or x.swizzle 3 ++
      (if known then x.rotation else free.extractLsb' 4 2) ++ BitVec.ofBool (split && first) ++ select ++ or x.write 6 ++ slot
    etmdd := data
    etmddctl := BitVec.ofBool x.aborted ++ BitVec.ofBool x.failed ++ slot }

/-- The data trace of the last step (26:R1626, R1627; log 56). -/
def dataTrace (s : State) : List DataTransfer :=
  let accesses := portOrder (s.trace.instruction.any (·.loadsPc)) s.trace.data
  let parts : List (DataAccess × Nat × Bool × Bool × Bool) := accesses.zipIdx.flatMap fun (x, k) =>
    let ds := doublewords x
    ds.zipIdx.map fun (d, j) => (x, d, j == 0, k + 1 == accesses.length, j + 1 == ds.length)
  parts.zipIdx.map fun ((x, d, first, lastAccess, lastWord), n) => transferOf s x d n first lastAccess lastWord

/-- The bits of SECMONBUS that mirror the trace port, where the ETM is powered up or the performance counters are enabled (10:R64). The
slots are those of the last transfer. -/
def secmonTrace (s : State) : Word :=
  if s.pins.etmpwrup || bit s.cp15.pmnc 0 then
    let control := iaControl s
    let transfer := (dataTrace s).getLast?
    (ofBit (bit control 11) <<< 24) ||| (ofBit (bit control 9) <<< 23) |||
      ((transfer.map fun x => x.etmddctl.extractLsb' 0 2 |>.setWidth 32).getD 0#32 <<< 3) |||
      ((transfer.map fun x => x.etmdactl.extractLsb' 0 2 |>.setWidth 32).getD 0#32 <<< 1) ||| ofBit (bit control 0)
  else 0#32

/-- SECMONBUS (Table 2-2 in 10:R64). DESIGN CHOICE, unsafe: a barrier and a Prefetch Flush are shown after the step that has done them (log
56). -/
def secmonbus (s : State) : Word :=
  let c := s.cp15
  let control := c.control false
  let cpsr := s.writebackCpsr
  secmonTrace s ||| (ofBit s.trace.barrier <<< 22) ||| (ofBit s.trace.flush <<< 21) |||
  (ofBit (bit c.itcmRegion[1] 0) <<< 20) ||| (ofBit (bit c.itcmRegion[0] 0) <<< 19) |||
  (ofBit (bit c.dtcmRegion[1] 0) <<< 18) ||| (ofBit (bit c.dtcmRegion[0] 0) <<< 17) |||
  (ofBit (bit c.nsacr 18) <<< 16) ||| (ofBit (bit control 12) <<< 15) ||| (ofBit (bit control 2) <<< 14) |||
  (ofBit (bit control 0) <<< 13) ||| (ofBit c.nsBit <<< 12) ||| (ofBit (bit cpsr 8) <<< 11) |||
  (ofBit (bit cpsr 7) <<< 10) ||| (ofBit (bit cpsr 6) <<< 9) ||| (zext (bits cpsr 0 4) <<< 5)

/-- The line of ACPENABLE of a coprocessor: 0 to 9, then 12 and 13 (25:R1574). -/
def acpLine (n : BitVec 4) : BitVec 12 := 1#12 <<< (if n.toNat < 10 then n.toNat else n.toNat - 2)

/-- The clocks may stop in Standby: the DMA has run to completion, and an ETM accepts it (24:R1541, 26:R1651). -/
def clocksStop (s : State) : Bool := !s.cp15.dma.toList.any (·.busy) && !s.pins.netmwfiready

/-- The output pins. -/
def State.outputs (s : State) : Outputs :=
  { standbywfi := s.standby && clocksStop s
    wfipending := s.standby && !clocksStop s
    dbgack := s.halted || bit s.dbg.dscr 10
    dbgnopwrdwn := bit s.dbg.dscr 9
    ndmairq := !dmaInterrupts s true
    ndmasirq := !dmaInterrupts s false
    ndmaexterrirq := !dmaWalkAborted s
    npmuirq := s.cp15.pmuIrq == 0#3
    cfgbigend := bit s.cp15.controlShared 7
    secmonbus := secmonbus s
    irqack := s.irqack
    commrx := bit s.dbg.dscr 30
    commtx := s.committed.isSome && !bit s.dbg.dscr 29
    nvalreset := !bit s.cp15.valWrapped 0
    nvalirq := !bit s.cp15.valWrapped 1
    nvalfiq := !bit s.cp15.valWrapped 2
    valedbgrq := bit s.cp15.valWrapped 3
    dbgtdo := s.dbg.tap.tdo
    dbgntdoen := !(s.dbg.tap.state == .shiftDr || s.dbg.tap.state == .shiftIr)
    etmia := ((shownInstruction s).map (·.address)).getD 0#32
    etmiactl := iaControl s
    etmiaret := ((shownInstruction s).bind (·.phantom)).getD 0#32
    etmdata := dataTrace s
    etmiasecctl := ((shownInstruction s).map fun i => secureControl i.prohibited i.nonSecure).getD 0#2
    etmcpenable := s.trace.transfer.isSome
    etmcpwrite := s.trace.transfer.any (·.write)
    etmcpaddress := (s.trace.transfer.map (·.address)).getD 0#15
    etmcpwdata := (s.trace.transfer.map (·.value)).getD 0#32
    etmcpsecctl := (s.trace.transfer.map fun x => secureControl x.prohibited x.nonSecure).getD 0#2
    evntbus := eventBus s
    acppriv := s.committed.isSome && s.privileged
    acpenable := (s.acpEnabled.map acpLine).getD 0#12 }

/-! ### Interrupts (60:R1201, R1222, R1223, R1230) -/

/-- Are both interrupt inputs ignored: by DSCR[11] (15:R380), or since the last handshake of the VIC port is not finished, with
IRQADDRV still HIGH and VE set (25:R1587, R1589)? -/
def interruptsIgnored (s : State) : Bool := bit s.dbg.dscr 11 || (s.pins.irqaddrv && s.controlBit 24)

/-- Is an FIQ requested? -/
def fiqRequested (s : State) : Bool := !s.pins.nfiq && !interruptsIgnored s

/-- Is an IRQ requested? -/
def irqRequested (s : State) : Bool := !s.pins.nirq && !interruptsIgnored s

/-- The interrupt that is taken before the next instruction, if any: FIQ before IRQ (60:R1251). -/
def interruptTaken (s : State) : Option Exc :=
  if fiqRequested s && !bit s.cpsr 6 then some .fiq
  else if irqRequested s && !bit s.cpsr 7 then some .irq
  else none

/-- Taking an interrupt: the link value is the next instruction's address and 4, in every state (60:R1250). -/
def takeInterrupt (k : Exc) (s : State) : State := takeException k false (s.pc + 4#32) s

end Sys2Proof.Machine
end

