-- ==== Sys2Proof/Machine/Reset.lean ====
section
/-! DEFINITION. A reset through the pins (24:R1534 to R1539, 60:R1221, 70:R1300 to R1306): what is reset, what keeps its value, and
what has any value afterwards (log 40). `State.reset` in State.lean is the state at the start of a run. -/

namespace Sys2Proof.Machine

open Sys2Proof

/-- Free words. -/
def drawWords : Nat → State → List Word × State
  | 0, s => ([], s)
  | n + 1, s =>
    let (w, s) := drawWord s
    let (ws, s) := drawWords n s
    (w :: ws, s)

/-- A vector of the words of a list. -/
def vectorOf (n : Nat) (ws : List Word) : Vector Word n := Vector.ofFn fun i => ws.getD i.val 0#32

/-- The general registers, the SPSRs and the flags are indeterminate (70:R1302). -/
def resetCore (s : State) : State :=
  let (regs, s) := drawWords 32 s
  let (spsrs, s) := drawWords 6 s
  let (flags, s) := drawWord s
  { s with
    regs := vectorOf 32 regs
    spsrs := vectorOf 6 (spsrs.map (· &&& psrMask))
    cpsr := mergeBits (resetCpsr s.pins.bigendinit s.pins.ubitinit) flags 0xF80F0000#32
    pc := resetPc s.pins.vinithi }

/-- The address and Context ID registers of a DMA channel have no reset value (14:R304, R310). -/
def resetChannel (s : State) : DmaChannel × State :=
  let (a, s) := drawWord s
  let (b, s) := drawWord s
  let (c, s) := drawWord s
  let (d, s) := drawWord s
  ({ DmaChannel.reset with intStart := a, extStart := b, intEnd := c, contextId := d }, s)

/-- A TLB lockdown entry: any contents, not valid (14:R335). -/
def resetLocked : Nat → State → List TlbEntry × State
  | 0, s => ([], s)
  | n + 1, s =>
    let (a, s) := drawWord s
    let (b, s) := drawWord s
    let (c, s) := drawWord s
    let (d, s) := drawWord s
    let (es, s) := resetLocked n s
    ({ va := a &&& 0xFFFFF2FF#32, pa := setBit (b &&& 0xFFFFF3CF#32) 0 false, attr := c &&& 0xFE0007FF#32, rs := bits d 0 2 } :: es, s)

/-- CP15 (70:R1301): the Master Valid registers are 0, so that no cache line is valid (70:R1305). The last interrupt addresses have no reset value. -/
def resetCp15 (s : State) : State :=
  let (c0, s) := resetChannel s
  let (c1, s) := resetChannel s
  let (locked, s) := resetLocked 8 s
  let (irqS, s) := drawWord s
  let (irqN, s) := drawWord s
  let c := Cp15.reset s.impl s.pins
  { s with cp15 := { c with
      dma := #v[c0, c1]
      tlbLocked := Vector.ofFn fun i => locked.getD i.val TlbEntry.reset
      secure := { c.secure with lastIrqAddr := irqS }
      nonSecure := { c.nonSecure with lastIrqAddr := irqN } } }

/-- CP14 after a power-on reset: what Table 13-2 to Table 13-20 give no value for is any value (15:R378). It resets the DBGTAP too
(26:R1640; log 40). -/
def resetDebug (s : State) : State :=
  let (w, s) := drawWords 19 s
  let at' (i : Nat) : Word := w.getD i 0#32
  let bcr (i : Fin 6) : Word := at' (6 + i.val) &&& bcrMask i &&& ~~~0x00600001#32
  { s with dbg := { s.dbg with
      dscr := resetDscr, rdtr := at' 0, wdtr := at' 1, wfar := 0, vcr := 0
      bvr := Vector.ofFn fun i : Fin 6 => at' (12 + i.val) &&& bvrMask i
      bcr := Vector.ofFn bcr
      wvr := #v[at' 2 &&& wvrMask, at' 3 &&& wvrMask]
      wcr := #v[at' 4 &&& wcrMask &&& ~~~1#32, at' 5 &&& wcrMask &&& ~~~1#32]
      dsccr := 0, dsmcr := 0, itr := at' 18, instCompl := true, haltPending := false, pcKnown := .entry, tap := Tap.reset } }

/-- A processor reset leaves Debug state and keeps the rest of CP14 (15:R378, R410, R411; 70:R1303). -/
def abandonDebugState (s : State) : State :=
  { s with dbg := { s.dbg with
      dscr := setBit (setBit (setBit s.dbg.dscr 0 false) 1 true) 19 false, instCompl := true, pcKnown := .entry } }

/-- The VFP11 after its own reset (16:R470). -/
def resetVfp (s : State) : State :=
  let (regs, s) := drawWords 32 s
  let (inst2, s) := drawWord s
  { s with vfp := { regs := vectorOf 32 regs, fpscr := 0, fpexc := 0, fpinst := resetFpinst, fpinst2 := inst2 } }

/-! ### The RAMs (24:R1544 to R1546, 70:R1302) -/

/-- The cells of `n` bytes from `a` on with the free values from the `k`-th on, in the canonical form. -/
def freeCells (a : Nat) : Nat → Nat → List Host.Cell
  | 0, _ => []
  | n + 1, k =>
    let b : Byte := (Config.freeWord k).setWidth 8
    let rest := freeCells (a + 1) n (k + 1)
    if b = unlisted then rest else (a, b) :: rest

/-- Any contents of a TCM of this many bytes. -/
def drawRam (n : Nat) (s : State) : List Host.Cell × State := (freeCells 0 n s.freeCtr, { s with freeCtr := s.freeCtr + n })

/-- Any contents of the RAMs of the Instruction and Data TCMs. -/
def drawTcms (s : State) : State :=
  let i := 1024 * tcmBankKB s.impl.itcmKB
  let d := 1024 * tcmBankKB s.impl.dtcmKB
  let (i0, s) := drawRam i s
  let (i1, s) := drawRam i s
  let (d0, s) := drawRam d s
  let (d1, s) := drawRam d s
  { s with itcm := #v[i0, i1], dtcm := #v[d0, d1] }

/-- Any contents of a slot of a cache. -/
def drawLine (set way : Nat) (s : State) : CacheLine × State :=
  let (tag, s) := drawWord s
  let (flags, s) := drawWord s
  let (data, s) := drawWords 8 s
  let bytes := data.flatMap (toBytesLE 4)
  ({ set := set, way := way, tag := lineAddress tag, ns := bit flags 0
     data := Vector.ofFn fun i => bytes.getD i.val 0#8, dirtyLow := bit flags 1, dirtyHigh := bit flags 2 }, s)

/-- Any contents of some slots of a cache, each with a line or without. -/
def drawLines : List (Nat × Nat) → State → List CacheLine × State
  | [], s => ([], s)
  | (set, way) :: rest, s =>
    let (held, s) := drawBit s
    let (l, s) := drawLine set way s
    let (ls, s) := drawLines rest s
    (if held then l :: ls else ls, s)

/-- The slots of a cache. -/
def cacheSlots (s : State) (k : CacheSide) : List (Nat × Nat) :=
  (List.range (cacheSets s k)).flatMap fun set => (List.range 4).map fun way => (set, way)

/-- Any contents of both caches' RAMs, none of it valid until the Master Valid registers say so (14:R334). -/
def drawCaches (s : State) : State :=
  let (d, s) := drawLines (cacheSlots s .data) s
  let (i, s) := drawLines (cacheSlots s .instruction) s
  { s with dcache := d, icache := i }

/-- The RAMs of the core at a reset: a power-on reset finds any contents, unless the RAM clamps, held up to it or still, have kept them in
Dormant mode; a processor reset keeps them (24:R1544 to R1546). Memory outside the processor keeps its bytes. -/
def resetRams (s : State) : State := if s.pins.nporeset || s.pins.ramclamp || s.clamped then s else drawCaches (drawTcms s)

/-- What is in progress is abandoned (70:R1300, R1305; log 40). -/
def abandonAll (s : State) : State :=
  { s with
    standby := false, irqack := false, writeBuffer := [], inflight := [], pendingAbort := none, watchHit := none, committed := none
    trace := Trace.none, acpEnabled := none, clamped := s.clamped || s.pins.ramclamp
    localMon := none, stale := [], oldMap := [], oldFetch := [] }

/-- The state while nRESETIN is LOW; with nPORESETIN LOW too it is a power-on reset (24:R1535). -/
def applyReset (s : State) : State :=
  let s := resetCp15 (resetCore (resetRams (abandonAll (loseBuffered (drainSome s)))))
  if s.pins.nporeset then abandonDebugState s else resetDebug s

end Sys2Proof.Machine
end

