-- ==== Sys2Proof/Machine/CoreStep.lean ====
section
/-! DEFINITION. What one step consists of (60:R1201, R1251, 00:R9): the reset pins, the DBGTAP, the core (Debug state, Standby, the end of a
vectored interrupt's entry, the debug requests, the interrupts, the fetch and its aborts, the debug events, a pending imprecise abort,
the instruction, the watchpoints), the DMA and the counters; and the placing of an instruction for `withFetchWord`. -/

namespace Sys2Proof.Machine

open Sys2Proof

/-! ### One instruction -/

/-- The end of an instruction: a watchpoint that it has hit is acted on (15:R399). Where the instruction has ended in an exception, the event
is that of the next step, before another instruction, since there is at most one entry in a step (60:R1201, R1240). -/
def afterInstruction (s : State) : State :=
  match s.watchHit with
  | some h => if s.trace.exception.isSome then s else watchpointEvent h s
  | none => s

/-- What fetched bytes decode to. With J and T both set every instruction is Undefined (10:R43, 30:R703). -/
noncomputable def decodeFetched (s : State) (bytes : List Byte) : Decoded :=
  if s.jazelle && s.thumb then .undefined .al else decodeBytes s.thumb bytes

/-- The instruction at the pc is committed for execution: what the ports show of it and of no exception (15:R429, 26:R1623). -/
def State.committing (s : State) : State :=
  { s.unexcepted with committed := some { addr := s.pc, thumb := s.thumb, jazelle := s.jazelle } }

/-- The instruction at the pc is committed for execution and executed. -/
noncomputable def executeFetched (bytes : List Byte) (s : State) : Result State := do
  let before := s.committing
  let s ← executeDecoded (decodeFetched before bytes) before
  pure (afterInstruction (traceWord before (ofBytesLE (bytes.take before.fetchSize)) s))

/-- Fetching and executing one instruction, or what comes in its place: the Prefetch Abort of the fetch, a debug event, a
pending imprecise abort (60:R1251). -/
noncomputable def runInstruction (s : State) : Result State := do
  let (bytes, s) ← fetch s
  match ← fetchDebugEvent s (s.mva s.fetchAddress) s.fetchSize with
  | some s => pure s
  | none =>
    match s.pendingAbort with
    | some p => if bit s.cpsr 8 then executeFetched bytes s else pure (takeImpreciseAbort p s)
    | none => executeFetched bytes s

/-! ### The core between instructions -/

/-- Does the debugger ask for Debug state, and is it permitted: by EDBGRQ or by the Halt instruction? (15:R401) -/
def haltAsked (s : State) : Bool := (s.pins.edbgrq || s.dbg.haltPending) && s.debugPermitted

/-- Entering Debug state by EDBGRQ or by the Halt instruction (15:R381). DESIGN CHOICE, unsafe: with both pending the method of entry is
Halt (log 71). -/
def serveHalt (s : State) : State := haltRequest (if s.dbg.haltPending then 0b0000#4 else 0b0100#4) s

/-- Does an event end Standby: an interrupt or an imprecise abort, masked or not, the DMA's error output, or a debug request?
(24:R1541, R1542, 60:R1234) -/
def wakes (s : State) : Bool :=
  fiqRequested s || irqRequested s || s.pendingAbort.isSome || dmaWalkAborted s || haltAsked s

/-- What comes before the next instruction, or that instruction: a debug request, FIQ, IRQ (60:R1201, 15:R401). -/
noncomputable def coreGoesOn (s : State) : Result State :=
  if haltAsked s then .ok (serveHalt s)
  else
    match interruptTaken s with
    | some k => .ok (takeInterrupt k s)
    | none => runInstruction s

/-- The running core. It waits for the end of a vectored interrupt's entry (25:R1587); Jazelle state is out of scope (10:R43, 00:R8). DESIGN
CHOICE, unsafe: a watchpoint that an instruction hit before it ended in an exception comes first of all (15:R399; log 71). -/
noncomputable def coreRuns (s : State) : Result State :=
  if s.irqack then .ok (sampleVector s)
  else if s.jazelle && !s.thumb then .error (.refuse .jazelleState)
  else
    match s.watchHit with
    | some h => .ok (watchpointEvent h s)
    | none => coreGoesOn s

/-- A core in Debug state: once DSCR[1] is clear it leaves at some time (15:R411; log 24). -/
def coreHalted (s : State) : State :=
  if bit s.dbg.dscr 1 then s
  else
    let (leaves, s) := drawBit s
    if leaves then leaveDebugState s else s

/-- The core halted in Debug state, waiting in Standby, or running. -/
noncomputable def coreActs (s : State) : Result State :=
  if s.halted then .ok (coreHalted s)
  else if s.standby then (if wakes s then coreRuns { s with standby := false } else .ok s)
  else coreRuns s

/-- A Halt request that has been served or ignored (15:R401). -/
def withdrawHalt (s : State) : State := { s with dbg := { s.dbg with haltPending := false } }

/-- The core in one step: external aborts may reach it, and it acts; a Halt request is then served or ignored, unless the core waits
for the end of an interrupt's entry (60:R1243, 15:R401). -/
noncomputable def coreStep (s : State) : Result State :=
  if !validMode s.mode then .error (.fault .badMode)
  else do
    let t ← conclude (coreActs (deliverAborts s))
    pure (if s.irqack then t else withdrawHalt t)

/-! ### The whole step -/

/-- What goes on beside the core: the DMA, and the counters. -/
def background (s : State) : Result State := do
  let s ← dmaStep s
  pure (countStep s)

/-- The VFP11's own reset pin (24:R1539). -/
def vfpPin (s : State) : State := if s.pins.nvfpreset then s else resetVfp s

/-- The state at the start of a step: the trace port shows no instruction yet, and RAMCLAMP is noted, as a reset after it needs it
(26:R1623, 24:R1546). -/
def State.begun (s : State) : State := { s.untraced with clamped := s.pins.ramclamp }

/-- The whole step: a reset, or the DBGTAP, the core, and what goes on beside it (24:R1535, 00:R9). -/
noncomputable def machineStep (s : State) : Result State :=
  if s.pins.nreset then
    if s.pins.nporeset then do
      let s ← tapStep (vfpPin s.begun)
      let s ← coreStep s
      background s
    else .error (.refuse .resetPins)
  else .ok (applyReset (vfpPin s))

/-! ### Placing an instruction (log 20) -/

/-- Writing bytes into cells, as a loader does. -/
def placeBytes (cells : List Host.Cell) : List (Nat × Byte) → List Host.Cell
  | [] => cells
  | (a, b) :: rest => placeBytes (writeCell cells a b) rest

/-- Where the next fetch takes its instruction: the place, the address in it, the physical address, the byte order. -/
def fetchPlace (s : State) : Place × Nat × Word × Bool :=
  let r := fetchRequest s.cp15 s.mode s
  let be32 := bit (s.cp15.control r.ns) 7
  match translate s.cp15 false r s with
  | .ok (t, _) => (t.place, t.offset, t.pa, be32)
  | .error _ =>
    let (p, o) := locate s.cp15 s.bus r.ns true r.mva
    (p, o, r.mva, be32)

/-- Storing the bytes of an instruction where the next fetch takes them; the caches and the write buffer hold nothing of their line. -/
def placeInstruction (s : State) (nbits w : Nat) : State :=
  let s := { s.setThumb (nbits == 16) with oldFetch := [] }
  let (p, o, pa, be32) := fetchPlace s
  let addresses := fetchBytes be32 s.thumb o
  let s := s.drainTo (·.inLine p o)
  let s := s.setCells p (placeBytes (s.cells p) (addresses.zip (bytesOfNat 4 w)))
  { s with
    icache := s.icache.filter fun l => l.tag != lineAddress pa
    dcache := s.dcache.filter fun l => l.tag != lineAddress pa
    stale := s.stale.filter fun b => !(b.place == p && addresses.contains b.addr) }

end Sys2Proof.Machine
end

