-- ==== Sys2Proof/Machine/Step.lean ====
section
/-! DEFINITION. One step of the machine, and the placing of an instruction where the next step fetches it. What the step does is in
CoreStep.lean and the files that it imports. -/

namespace Sys2Proof.Machine

open Sys2Proof

/-- One step: a reset, or the DBGTAP, the core, the DMA and the counters (00:R9, 60:R1201, R1251). -/
noncomputable def step (s : State) : Host.Outcome State Fault Refusal := finish (machineStep s)

/-- The state with an instruction of `nbits` bits stored where the next step fetches, as a loader followed by an IMB would
leave it: CPSR.T says whether it is a Thumb halfword (30:R680; log 20). -/
def State.withFetchWord (s : State) (nbits w : Nat) : State := placeInstruction s nbits w

end Sys2Proof.Machine
end

