-- ==== Sys2Proof/Safety.lean ====
section
/-! DEFINITION. What counts as a good state and a safe step, and the terms that the statements use: formulas of the spec's rules
written apart from the model's own operations, and the shapes of results. -/

namespace Sys2Proof.Machine

open Sys2Proof

/-! ### Good states -/

/-- The bits of a PSR that are not reserved are all that is set (10:R53). -/
def cleanPsr (p : Word) : Prop := p &&& ~~~psrMask = 0#32

/-- The state is well formed: the memories are in canonical form, CPSR.M is one of the eight modes (10:R50), the reserved bits
of the CPSR and the SPSRs are 0 (10:R53). -/
def State.wf (s : State) : Prop :=
  s.memoryWf = true ∧ validMode s.mode = true ∧ cleanPsr s.cpsr ∧ ∀ i : Fin 6, cleanPsr s.spsrs[i]

/-- A step that neither faults nor is refused. -/
def goesOn (s : State) : Prop := ∃ s', step s = .next s'

/-- Memory as an instruction sees it in the plainest setting: no watchpoints (DBGEN LOW), the MMU and TEX remap off, so that data is
Strongly Ordered, no BE-32, a bus without errors, no region for the peripheral port, no TCM enabled, every earlier access complete, no
ETM powered up; the memories in canonical form. CPSR.E is free. -/
structure State.plainMemory (s : State) : Prop where
  /-- DBGEN is LOW. -/
  noDebug : s.pins.dbgen = false
  /-- Not in Debug state with DSCCR[2] = 0, where stores act as if the cache were on. -/
  noForcing : debugWriteThrough s = false
  /-- The canonical form. -/
  form : s.memoryWf = true
  /-- M = 0. -/
  mmuOff : s.controlBit 0 = false
  /-- B = 0. -/
  notBe32 : s.controlBit 7 = false
  /-- TR = 0. -/
  noRemap : s.controlBit 28 = false
  /-- Every transfer is answered without an error, from one storage. -/
  quietBus : s.bus = []
  /-- No remapping to the peripheral port. -/
  noPort : (s.cp15.bank s.nsState).periphRemap = 0#32
  /-- No write is in the write buffer, no external abort on its way. -/
  complete : s.outstanding = false
  /-- No TCM is enabled. -/
  tcmsOff : ∀ i : Fin 2, bit s.cp15.dtcmRegion[i] 0 = false ∧ bit s.cp15.itcmRegion[i] 0 = false
  /-- ETMPWRUP is LOW: the accesses are not traced (log 56). -/
  noEtm : s.pins.etmpwrup = false

/-- The setting of the statements about translation: the MMU on with one table for all addresses and XP = 1, no Force AP, no remapping,
S = R = 0, the Data Cache and the TCMs off, little-endian data, a bus without errors, nothing on its way, no debug, no ETM powered up, and
TLBs that hold nothing and lock nothing down. -/
structure State.freshMmu (s : State) : Prop where
  /-- DBGEN is LOW. -/
  noDebug : s.pins.dbgen = false
  /-- Not in Debug state. -/
  running : s.halted = false
  /-- The canonical form. -/
  form : s.memoryWf = true
  /-- M = 1, C = 0, B = 0, S = 0, R = 0, XP = 1, TR = 0, FA = 0. -/
  control : s.controlBit 0 = true ∧ s.controlBit 2 = false ∧ s.controlBit 7 = false ∧ s.controlBit 8 = false ∧
    s.controlBit 9 = false ∧ s.controlBit 23 = true ∧ s.controlBit 28 = false ∧ s.controlBit 29 = false
  /-- E = 0. -/
  little : bit s.cpsr 9 = false
  /-- Every transfer is answered without an error, from one storage. -/
  quietBus : s.bus = []
  /-- No remapping to the peripheral port. -/
  noPort : (s.cp15.bank s.nsState).periphRemap = 0#32
  /-- No write is in the write buffer, no external abort on its way. -/
  complete : s.outstanding = false
  /-- No TCM is enabled. -/
  tcmsOff : ∀ i : Fin 2, bit s.cp15.dtcmRegion[i] 0 = false ∧ bit s.cp15.itcmRegion[i] 0 = false
  /-- One table, and walks are enabled. -/
  oneTable : (s.cp15.bank s.nsState).ttbcr = 0#32
  /-- Walks load the main region of the TLB. -/
  noLock : bit s.cp15.tlbLockdown 0 = false
  /-- The TLBs hold nothing. -/
  noEntry : s.cp15.dMicroTlb = [] ∧ s.cp15.tlbMain = [] ∧ ∀ i : Fin 8, bit s.cp15.tlbLocked[i].pa 0 = false
  /-- ETMPWRUP is LOW: the accesses are not traced (log 56). -/
  noEtm : s.pins.etmpwrup = false

/-- Nothing comes from outside and nothing is in progress but instructions: no reset, no debugger, no external debug request, no abort on
its way, no entry of a vectored interrupt to be completed, no watchpoint hit to be acted on, no Standby; the mode is one of the eight. -/
structure State.settled (s : State) : Prop where
  /-- nRESETIN is HIGH. -/
  noReset : s.pins.nreset = true
  /-- nPORESETIN is HIGH. -/
  noPowerOn : s.pins.nporeset = true
  /-- nVFPRESETIN is HIGH. -/
  noVfpReset : s.pins.nvfpreset = true
  /-- The debugger drives nothing. -/
  noInput : s.dbg.requests = []
  /-- No request of scan chain 7 is in progress. -/
  noScan : s.dbg.tap.pending = none
  /-- No instruction of the ITR is in progress. -/
  noItr : s.dbg.instCompl = true
  /-- No Halt instruction has been given. -/
  noHalt : s.dbg.haltPending = false
  /-- EDBGRQ is LOW. -/
  noRequest : s.pins.edbgrq = false
  /-- No external abort is on its way. -/
  noAbort : s.inflight = []
  /-- IRQACK is LOW. -/
  noEntry : s.irqack = false
  /-- No watchpoint hit is pending. -/
  noWatch : s.watchHit = none
  /-- The processor is not in Standby. -/
  awake : s.standby = false
  /-- CPSR.M is a mode (10:R50). -/
  mode : validMode s.mode = true

end Sys2Proof.Machine

namespace Sys2Proof

/-! ### The condition field (30:R683) -/

/-- The condition of an instruction, if its encoding has one. -/
def Instr.condition : Instr → Option Cond
  | .pldImm .. => none
  | .pldReg .. => none
  | .rfe .. => none
  | .srs .. => none
  | .clrex => none
  | .cps .. => none
  | .setend .. => none
  | .blx1 .. => none
  | .cdp2 .. => none
  | .mcr2 .. => none
  | .mrc2 .. => none
  | .mcrr2 .. => none
  | .mrrc2 .. => none
  | .undefCop2 .. => none
  | .ldc2 .. => none
  | .stc2 .. => none
  | .undefUncond .. => none
  | .andImm c .. => some c
  | .andReg c .. => some c
  | .andRegShift c .. => some c
  | .eorImm c .. => some c
  | .eorReg c .. => some c
  | .eorRegShift c .. => some c
  | .subImm c .. => some c
  | .subReg c .. => some c
  | .subRegShift c .. => some c
  | .rsbImm c .. => some c
  | .rsbReg c .. => some c
  | .rsbRegShift c .. => some c
  | .addImm c .. => some c
  | .addReg c .. => some c
  | .addRegShift c .. => some c
  | .adcImm c .. => some c
  | .adcReg c .. => some c
  | .adcRegShift c .. => some c
  | .sbcImm c .. => some c
  | .sbcReg c .. => some c
  | .sbcRegShift c .. => some c
  | .rscImm c .. => some c
  | .rscReg c .. => some c
  | .rscRegShift c .. => some c
  | .orrImm c .. => some c
  | .orrReg c .. => some c
  | .orrRegShift c .. => some c
  | .bicImm c .. => some c
  | .bicReg c .. => some c
  | .bicRegShift c .. => some c
  | .cpy c .. => some c
  | .movImm c .. => some c
  | .movReg c .. => some c
  | .movRegShift c .. => some c
  | .mvnImm c .. => some c
  | .mvnReg c .. => some c
  | .mvnRegShift c .. => some c
  | .tstImm c .. => some c
  | .tstReg c .. => some c
  | .tstRegShift c .. => some c
  | .teqImm c .. => some c
  | .teqReg c .. => some c
  | .teqRegShift c .. => some c
  | .cmpImm c .. => some c
  | .cmpReg c .. => some c
  | .cmpRegShift c .. => some c
  | .cmnImm c .. => some c
  | .cmnReg c .. => some c
  | .cmnRegShift c .. => some c
  | .clz c .. => some c
  | .mul c .. => some c
  | .mla c .. => some c
  | .umaal c .. => some c
  | .umull c .. => some c
  | .umlal c .. => some c
  | .smull c .. => some c
  | .smlal c .. => some c
  | .qadd c .. => some c
  | .qsub c .. => some c
  | .qdadd c .. => some c
  | .qdsub c .. => some c
  | .smlaXY c .. => some c
  | .smlaWY c .. => some c
  | .smulWY c .. => some c
  | .smlalXY c .. => some c
  | .smulXY c .. => some c
  | .sadd16 c .. => some c
  | .qadd16 c .. => some c
  | .shadd16 c .. => some c
  | .uadd16 c .. => some c
  | .uqadd16 c .. => some c
  | .uhadd16 c .. => some c
  | .saddsubx c .. => some c
  | .qaddsubx c .. => some c
  | .shaddsubx c .. => some c
  | .uaddsubx c .. => some c
  | .uqaddsubx c .. => some c
  | .uhaddsubx c .. => some c
  | .ssubaddx c .. => some c
  | .qsubaddx c .. => some c
  | .shsubaddx c .. => some c
  | .usubaddx c .. => some c
  | .uqsubaddx c .. => some c
  | .uhsubaddx c .. => some c
  | .ssub16 c .. => some c
  | .qsub16 c .. => some c
  | .shsub16 c .. => some c
  | .usub16 c .. => some c
  | .uqsub16 c .. => some c
  | .uhsub16 c .. => some c
  | .sadd8 c .. => some c
  | .qadd8 c .. => some c
  | .shadd8 c .. => some c
  | .uadd8 c .. => some c
  | .uqadd8 c .. => some c
  | .uhadd8 c .. => some c
  | .ssub8 c .. => some c
  | .qsub8 c .. => some c
  | .shsub8 c .. => some c
  | .usub8 c .. => some c
  | .uqsub8 c .. => some c
  | .uhsub8 c .. => some c
  | .usad8 c .. => some c
  | .usada8 c .. => some c
  | .sxtb16 c .. => some c
  | .sxtab16 c .. => some c
  | .sxtb c .. => some c
  | .sxtab c .. => some c
  | .sxth c .. => some c
  | .sxtah c .. => some c
  | .uxtb16 c .. => some c
  | .uxtab16 c .. => some c
  | .uxtb c .. => some c
  | .uxtab c .. => some c
  | .uxth c .. => some c
  | .uxtah c .. => some c
  | .smuad c .. => some c
  | .smuadx c .. => some c
  | .smusd c .. => some c
  | .smusdx c .. => some c
  | .smlad c .. => some c
  | .smladx c .. => some c
  | .smlsd c .. => some c
  | .smlsdx c .. => some c
  | .smlald c .. => some c
  | .smlaldx c .. => some c
  | .smlsld c .. => some c
  | .smlsldx c .. => some c
  | .smmul c .. => some c
  | .smmulr c .. => some c
  | .smmla c .. => some c
  | .smmlar c .. => some c
  | .smmls c .. => some c
  | .smmlsr c .. => some c
  | .ssat c .. => some c
  | .usat c .. => some c
  | .ssat16 c .. => some c
  | .usat16 c .. => some c
  | .sel c .. => some c
  | .pkhbt c .. => some c
  | .pkhtb c .. => some c
  | .rev c .. => some c
  | .rev16 c .. => some c
  | .revsh c .. => some c
  | .ldrtImm c .. => some c
  | .ldrtReg c .. => some c
  | .ldrbtImm c .. => some c
  | .ldrbtReg c .. => some c
  | .strtImm c .. => some c
  | .strtReg c .. => some c
  | .strbtImm c .. => some c
  | .strbtReg c .. => some c
  | .ldrImm c .. => some c
  | .ldrReg c .. => some c
  | .ldrbImm c .. => some c
  | .ldrbReg c .. => some c
  | .strImm c .. => some c
  | .strReg c .. => some c
  | .strbImm c .. => some c
  | .strbReg c .. => some c
  | .strhImm c .. => some c
  | .strhReg c .. => some c
  | .ldrdImm c .. => some c
  | .ldrdReg c .. => some c
  | .strdImm c .. => some c
  | .strdReg c .. => some c
  | .ldrhImm c .. => some c
  | .ldrhReg c .. => some c
  | .ldrsbImm c .. => some c
  | .ldrsbReg c .. => some c
  | .ldrshImm c .. => some c
  | .ldrshReg c .. => some c
  | .ldm1 c .. => some c
  | .ldm2 c .. => some c
  | .ldm3 c .. => some c
  | .stm1 c .. => some c
  | .stm2 c .. => some c
  | .swp c .. => some c
  | .swpb c .. => some c
  | .strex c .. => some c
  | .ldrex c .. => some c
  | .strexd c .. => some c
  | .ldrexd c .. => some c
  | .strexb c .. => some c
  | .ldrexb c .. => some c
  | .strexh c .. => some c
  | .ldrexh c .. => some c
  | .mrs c .. => some c
  | .msrReg c .. => some c
  | .nop c .. => some c
  | .msrImm c .. => some c
  | .b c .. => some c
  | .bl c .. => some c
  | .bx c .. => some c
  | .bxj c .. => some c
  | .blx2 c .. => some c
  | .bkpt .. => none
  | .smc c .. => some c
  | .svc c .. => some c
  | .undefArch c .. => some c
  | .fmacs c .. => some c
  | .fmacd c .. => some c
  | .fnmacs c .. => some c
  | .fnmacd c .. => some c
  | .fmscs c .. => some c
  | .fmscd c .. => some c
  | .fnmscs c .. => some c
  | .fnmscd c .. => some c
  | .fmuls c .. => some c
  | .fmuld c .. => some c
  | .fnmuls c .. => some c
  | .fnmuld c .. => some c
  | .fadds c .. => some c
  | .faddd c .. => some c
  | .fsubs c .. => some c
  | .fsubd c .. => some c
  | .fdivs c .. => some c
  | .fdivd c .. => some c
  | .fcpys c .. => some c
  | .fcpyd c .. => some c
  | .fabss c .. => some c
  | .fabsd c .. => some c
  | .fnegs c .. => some c
  | .fnegd c .. => some c
  | .fsqrts c .. => some c
  | .fsqrtd c .. => some c
  | .fcmps c .. => some c
  | .fcmpd c .. => some c
  | .fcmpes c .. => some c
  | .fcmped c .. => some c
  | .fcmpzs c .. => some c
  | .fcmpzd c .. => some c
  | .fcmpezs c .. => some c
  | .fcmpezd c .. => some c
  | .fcvtds c .. => some c
  | .fcvtsd c .. => some c
  | .fuitos c .. => some c
  | .fuitod c .. => some c
  | .fsitos c .. => some c
  | .fsitod c .. => some c
  | .ftouis c .. => some c
  | .ftouid c .. => some c
  | .ftouizs c .. => some c
  | .ftouizd c .. => some c
  | .ftosis c .. => some c
  | .ftosid c .. => some c
  | .ftosizs c .. => some c
  | .ftosizd c .. => some c
  | .flds c .. => some c
  | .fldd c .. => some c
  | .fsts c .. => some c
  | .fstd c .. => some c
  | .fldmsIa c .. => some c
  | .fldmdxIa c .. => some c
  | .fldmsIaW c .. => some c
  | .fldmdxIaW c .. => some c
  | .fldmsDbW c .. => some c
  | .fldmdxDbW c .. => some c
  | .fstmsIa c .. => some c
  | .fstmdxIa c .. => some c
  | .fstmsIaW c .. => some c
  | .fstmdxIaW c .. => some c
  | .fstmsDbW c .. => some c
  | .fstmdxDbW c .. => some c
  | .fmsr c .. => some c
  | .fmrs c .. => some c
  | .fmdlr c .. => some c
  | .fmrdl c .. => some c
  | .fmdhr c .. => some c
  | .fmrdh c .. => some c
  | .fmxr c .. => some c
  | .fmstat c .. => some c
  | .fmrx c .. => some c
  | .fmdrr c .. => some c
  | .fmrrd c .. => some c
  | .fmsrr c .. => some c
  | .fmrrs c .. => some c
  | .cdp c .. => some c
  | .mcr c .. => some c
  | .mrc c .. => some c
  | .mcrr c .. => some c
  | .mrrc c .. => some c
  | .undefCop c .. => some c
  | .ldc c .. => some c
  | .stc c .. => some c
  | .tLslImm .. => none
  | .tLsrImm .. => none
  | .tAsrImm .. => none
  | .tAddReg3 .. => none
  | .tSubReg3 .. => none
  | .tMovLow .. => none
  | .tAddImm3 .. => none
  | .tSubImm3 .. => none
  | .tMovImm8 .. => none
  | .tCmpImm8 .. => none
  | .tAddImm8 .. => none
  | .tSubImm8 .. => none
  | .tAndReg .. => none
  | .tEorReg .. => none
  | .tLslReg .. => none
  | .tLsrReg .. => none
  | .tAsrReg .. => none
  | .tAdcReg .. => none
  | .tSbcReg .. => none
  | .tRorReg .. => none
  | .tTstReg .. => none
  | .tNegReg .. => none
  | .tCmpReg .. => none
  | .tCmnReg .. => none
  | .tOrrReg .. => none
  | .tMulReg .. => none
  | .tBicReg .. => none
  | .tMvnReg .. => none
  | .tAddHigh .. => none
  | .tCmpHigh .. => none
  | .tMovHigh .. => none
  | .tBx .. => none
  | .tBlx2 .. => none
  | .tLdrPc .. => none
  | .tStrReg .. => none
  | .tStrhReg .. => none
  | .tStrbReg .. => none
  | .tLdrsbReg .. => none
  | .tLdrReg .. => none
  | .tLdrhReg .. => none
  | .tLdrbReg .. => none
  | .tLdrshReg .. => none
  | .tStrImm .. => none
  | .tLdrImm .. => none
  | .tStrbImm .. => none
  | .tLdrbImm .. => none
  | .tStrhImm .. => none
  | .tLdrhImm .. => none
  | .tStrSp .. => none
  | .tLdrSp .. => none
  | .tAddPc .. => none
  | .tAddSpImm .. => none
  | .tAddToSp .. => none
  | .tSubFromSp .. => none
  | .tSxth .. => none
  | .tSxtb .. => none
  | .tUxth .. => none
  | .tUxtb .. => none
  | .tPush .. => none
  | .tSetend .. => none
  | .tCps .. => none
  | .tRev .. => none
  | .tRev16 .. => none
  | .tRevsh .. => none
  | .tPop .. => none
  | .tBkpt .. => none
  | .tStmia .. => none
  | .tLdmia .. => none
  | .tUndef .. => none
  | .tSvc .. => none
  | .tBCond c .. => some c
  | .tB .. => none
  | .tBlxSuffix .. => none
  | .tUndefBlx .. => none
  | .tBlPrefix .. => none
  | .tBlSuffix .. => none

end Sys2Proof

namespace Sys2Proof.Machine

open Sys2Proof

/-! ### Results -/

/-- The PC after an instruction that does not branch: the next instruction, or in Debug state the same PC (10:R37, 15:R409). -/
def State.pcAfter (s : State) : Word := if s.halted then s.pc else s.nextPc

/-- The state after an instruction that writes nothing but the PC. -/
def State.stepped (s : State) : State := { s with pc := s.pcAfter }

/-- The state after an instruction that writes one register of the current mode and the PC. -/
def State.wrote (s : State) (rd : Reg) (v : Word) : State :=
  { s with regs := s.regs.set (bankedReg s.mode rd) v, pc := s.pcAfter }

/-- A PSR with N and Z replaced. -/
def withNZ (psr : Word) (n z : Bool) : Word := (BitVec.ofBool n ++ BitVec.ofBool z : BitVec 2) ++ psr.extractLsb' 0 30

/-- A PSR with N, Z, C and V replaced. -/
def withNZCV (psr : Word) (n z c v : Bool) : Word :=
  (BitVec.ofBool n ++ BitVec.ofBool z ++ BitVec.ofBool c ++ BitVec.ofBool v : BitVec 4) ++ psr.extractLsb' 0 28

/-- A PSR with Q set where an operation has saturated or overflowed (10:R42). -/
def withQ (psr : Word) (sat : Bool) : Word := if sat then psr ||| 0x08000000#32 else psr

/-- A PSR with GE[3:0] replaced (10:R44). -/
def withGE (psr : Word) (ge : BitVec 4) : Word := psr.extractLsb' 20 12 ++ (ge ++ psr.extractLsb' 0 16 : BitVec 20)

/-- A register instruction: where its condition holds, it writes `value` to `rd`, `psr` to the CPSR and the PC, and nothing else;
with R15 in one of its register fields it is refused by name (log 39). -/
def registerResult (i : Instr) (c : Cond) (fields : List Reg) (rd : Reg) (value psr : State → Word) : Prop :=
  ∀ s : State, condHolds c s.cpsr = true →
    (15#4 ∈ fields → exec i s = .refused .registerField) ∧
    (15#4 ∉ fields → exec i s = .next { s.wrote rd (value s) with cpsr := psr s })

/-- The same for a 64-bit value in a pair of registers, which may not be one register. -/
def pairResult (i : Instr) (c : Cond) (hi lo rs rm : Reg) (value : State → DWord) (psr : State → Word) : Prop :=
  ∀ s : State, condHolds c s.cpsr = true →
    (15#4 ∈ [hi, lo, rs, rm] ∨ hi = lo → exec i s = .refused .registerField) ∧
    (15#4 ∉ [hi, lo, rs, rm] ∧ hi ≠ lo → exec i s = .next { s with
      regs := (s.regs.set (bankedReg s.mode hi) ((value s).extractLsb' 32 32)).set (bankedReg s.mode lo)
        ((value s).extractLsb' 0 32)
      cpsr := psr s
      pc := s.pcAfter })

/-- A Thumb instruction that writes one low register, perhaps the flags, and the PC. -/
def thumbResult (i : Instr) (rd : LowReg) (value psr : State → Word) : Prop :=
  ∀ s : State, exec i s = .next { s.wrote (lowReg rd) (value s) with cpsr := psr s }

/-! ### Data processing (40) -/

/-- The operations with a destination. -/
inductive Alu where
  | and | eor | sub | rsb | add | adc | sbc | rsc | orr | mov | bic | mvn
  deriving DecidableEq, Repr

/-- Their forms with an immediate; MOV and MVN have no Rn. -/
def Alu.imm (op : Alu) (c : Cond) (sBit : Bool) (rn rd : Reg) (rot : BitVec 4) (imm8 : BitVec 8) : Instr :=
  match op with
  | .and => .andImm c sBit rn rd rot imm8
  | .eor => .eorImm c sBit rn rd rot imm8
  | .sub => .subImm c sBit rn rd rot imm8
  | .rsb => .rsbImm c sBit rn rd rot imm8
  | .add => .addImm c sBit rn rd rot imm8
  | .adc => .adcImm c sBit rn rd rot imm8
  | .sbc => .sbcImm c sBit rn rd rot imm8
  | .rsc => .rscImm c sBit rn rd rot imm8
  | .orr => .orrImm c sBit rn rd rot imm8
  | .mov => .movImm c sBit rd rot imm8
  | .bic => .bicImm c sBit rn rd rot imm8
  | .mvn => .mvnImm c sBit rd rot imm8

/-- Their forms with a register shifted by an immediate. -/
def Alu.reg (op : Alu) (c : Cond) (sBit : Bool) (rn rd : Reg) (n : BitVec 5) (sh : Shift) (rm : Reg) : Instr :=
  match op with
  | .and => .andReg c sBit rn rd n sh rm
  | .eor => .eorReg c sBit rn rd n sh rm
  | .sub => .subReg c sBit rn rd n sh rm
  | .rsb => .rsbReg c sBit rn rd n sh rm
  | .add => .addReg c sBit rn rd n sh rm
  | .adc => .adcReg c sBit rn rd n sh rm
  | .sbc => .sbcReg c sBit rn rd n sh rm
  | .rsc => .rscReg c sBit rn rd n sh rm
  | .orr => .orrReg c sBit rn rd n sh rm
  | .mov => .movReg c sBit rd n sh rm
  | .bic => .bicReg c sBit rn rd n sh rm
  | .mvn => .mvnReg c sBit rd n sh rm

/-- Their forms with a register shifted by a register. -/
def Alu.regShift (op : Alu) (c : Cond) (sBit : Bool) (rn rd rs : Reg) (sh : Shift) (rm : Reg) : Instr :=
  match op with
  | .and => .andRegShift c sBit rn rd rs sh rm
  | .eor => .eorRegShift c sBit rn rd rs sh rm
  | .sub => .subRegShift c sBit rn rd rs sh rm
  | .rsb => .rsbRegShift c sBit rn rd rs sh rm
  | .add => .addRegShift c sBit rn rd rs sh rm
  | .adc => .adcRegShift c sBit rn rd rs sh rm
  | .sbc => .sbcRegShift c sBit rn rd rs sh rm
  | .rsc => .rscRegShift c sBit rn rd rs sh rm
  | .orr => .orrRegShift c sBit rn rd rs sh rm
  | .mov => .movRegShift c sBit rd rs sh rm
  | .bic => .bicRegShift c sBit rn rd rs sh rm
  | .mvn => .mvnRegShift c sBit rd rs sh rm

/-- The register fields of the forms with a register shift. -/
def Alu.shiftFields (op : Alu) (rn rd rs rm : Reg) : List Reg :=
  match op with
  | .mov | .mvn => [rd, rs, rm]
  | .and | .eor | .sub | .rsb | .add | .adc | .sbc | .rsc | .orr | .bic => [rd, rn, rs, rm]

/-- The result, of R[n], operand 2 and the C flag (40:R745 to R756). -/
def Alu.value (op : Alu) (a b : Word) (c : Bool) : Word :=
  match op with
  | .and => a &&& b
  | .eor => a ^^^ b
  | .sub => a - b
  | .rsb => b - a
  | .add => a + b
  | .adc => a + b + (if c then 1#32 else 0#32)
  | .sbc => a - b - (if c then 0#32 else 1#32)
  | .rsc => b - a - (if c then 0#32 else 1#32)
  | .orr => a ||| b
  | .mov => b
  | .bic => a &&& ~~~b
  | .mvn => ~~~b

/-- The carry out: of an addition, no borrow of a subtraction, or the shifter's (40:R742, R744). -/
def Alu.carry (op : Alu) (a b : Word) (c sc : Bool) : Bool :=
  match op with
  | .sub => decide (b.toNat ≤ a.toNat)
  | .rsb => decide (a.toNat ≤ b.toNat)
  | .add => decide (2 ^ 32 ≤ a.toNat + b.toNat)
  | .adc => decide (2 ^ 32 ≤ a.toNat + b.toNat + c.toNat)
  | .sbc => decide (b.toNat + (!c).toNat ≤ a.toNat)
  | .rsc => decide (a.toNat + (!c).toNat ≤ b.toNat)
  | .and | .eor | .orr | .mov | .bic | .mvn => sc

/-- The overflow: the exact signed result is not the one delivered; a logical operation keeps V (40:R742, R744). -/
def Alu.overflow (op : Alu) (a b : Word) (c v : Bool) : Bool :=
  match op with
  | .sub => decide (a.toInt - b.toInt ≠ (op.value a b c).toInt)
  | .rsb => decide (b.toInt - a.toInt ≠ (op.value a b c).toInt)
  | .add => decide (a.toInt + b.toInt ≠ (op.value a b c).toInt)
  | .adc => decide (a.toInt + b.toInt + c.toNat ≠ (op.value a b c).toInt)
  | .sbc => decide (a.toInt - b.toInt - (!c).toNat ≠ (op.value a b c).toInt)
  | .rsc => decide (b.toInt - a.toInt - (!c).toNat ≠ (op.value a b c).toInt)
  | .and | .eor | .orr | .mov | .bic | .mvn => v

/-- The CPSR with the flags that the operation sets. -/
def Alu.flags (op : Alu) (a b : Word) (sc : Bool) (psr : Word) : Word :=
  let c := bit psr 29
  let r := op.value a b c
  withNZCV psr r.msb (r == 0#32) (op.carry a b c sc) (op.overflow a b c (bit psr 28))

/-! ### Multiplies and media (41) -/

/-- The top or the bottom halfword. -/
def halfOf (v : Word) (top : Bool) : Half := if top then v.extractLsb' 16 16 else v.extractLsb' 0 16

/-- A byte of a word. -/
def byteIn (v : Word) (i : Nat) : Byte := v.extractLsb' (8 * i) 8

/-- An integer limited to `n` signed bits. -/
def clampSigned (n : Nat) (x : Int) : Int := max (-(2 ^ (n - 1))) (min (2 ^ (n - 1) - 1) x)

/-- An integer limited to `n` unsigned bits. -/
def clampUnsigned (n : Nat) (x : Int) : Int := max 0 (min (2 ^ n - 1) x)

/-- The operations of the parallel instructions. -/
inductive ParOp where
  | add16 | addsubx | subaddx | sub16 | add8 | sub8
  deriving DecidableEq, Repr

/-- The 36 parallel instructions. -/
def Par.instr (k : Par) (op : ParOp) (c : Cond) (rn rd rm : Reg) : Instr :=
  match k, op with
  | .s, .add16 => .sadd16 c rn rd rm
  | .s, .addsubx => .saddsubx c rn rd rm
  | .s, .subaddx => .ssubaddx c rn rd rm
  | .s, .sub16 => .ssub16 c rn rd rm
  | .s, .add8 => .sadd8 c rn rd rm
  | .s, .sub8 => .ssub8 c rn rd rm
  | .u, .add16 => .uadd16 c rn rd rm
  | .u, .addsubx => .uaddsubx c rn rd rm
  | .u, .subaddx => .usubaddx c rn rd rm
  | .u, .sub16 => .usub16 c rn rd rm
  | .u, .add8 => .uadd8 c rn rd rm
  | .u, .sub8 => .usub8 c rn rd rm
  | .q, .add16 => .qadd16 c rn rd rm
  | .q, .addsubx => .qaddsubx c rn rd rm
  | .q, .subaddx => .qsubaddx c rn rd rm
  | .q, .sub16 => .qsub16 c rn rd rm
  | .q, .add8 => .qadd8 c rn rd rm
  | .q, .sub8 => .qsub8 c rn rd rm
  | .uq, .add16 => .uqadd16 c rn rd rm
  | .uq, .addsubx => .uqaddsubx c rn rd rm
  | .uq, .subaddx => .uqsubaddx c rn rd rm
  | .uq, .sub16 => .uqsub16 c rn rd rm
  | .uq, .add8 => .uqadd8 c rn rd rm
  | .uq, .sub8 => .uqsub8 c rn rd rm
  | .sh, .add16 => .shadd16 c rn rd rm
  | .sh, .addsubx => .shaddsubx c rn rd rm
  | .sh, .subaddx => .shsubaddx c rn rd rm
  | .sh, .sub16 => .shsub16 c rn rd rm
  | .sh, .add8 => .shadd8 c rn rd rm
  | .sh, .sub8 => .shsub8 c rn rd rm
  | .uh, .add16 => .uhadd16 c rn rd rm
  | .uh, .addsubx => .uhaddsubx c rn rd rm
  | .uh, .subaddx => .uhsubaddx c rn rd rm
  | .uh, .sub16 => .uhsub16 c rn rd rm
  | .uh, .add8 => .uhadd8 c rn rd rm
  | .uh, .sub8 => .uhsub8 c rn rd rm

/-- One lane of a parallel instruction: modulo, limited, or halved in one bit more (41:R808). -/
def Par.lane (k : Par) (add : Bool) {w : Nat} (x y : BitVec w) : BitVec w :=
  match k with
  | .s | .u => if add then x + y else x - y
  | .q => BitVec.ofInt w (clampSigned w (if add then x.toInt + y.toInt else x.toInt - y.toInt))
  | .uq => BitVec.ofInt w (clampUnsigned w (if add then (x.toNat : Int) + y.toNat else (x.toNat : Int) - y.toNat))
  | .sh =>
    (if add then x.signExtend (w + 1) + y.signExtend (w + 1) else x.signExtend (w + 1) - y.signExtend (w + 1)).extractLsb' 1 w
  | .uh =>
    (if add then x.setWidth (w + 1) + y.setWidth (w + 1) else x.setWidth (w + 1) - y.setWidth (w + 1)).extractLsb' 1 w

/-- The GE bit of a lane, for the prefixes S and U: the exact signed result is not negative, the addition carries, the
subtraction does not borrow (41:R808). -/
def Par.laneGE (k : Par) (add : Bool) {w : Nat} (x y : BitVec w) : Bool :=
  if k.isSigned then
    !(if add then x.signExtend (w + 1) + y.signExtend (w + 1) else x.signExtend (w + 1) - y.signExtend (w + 1)).msb
  else if add then (x.setWidth (w + 1) + y.setWidth (w + 1)).msb
  else y.ule x

/-- The result of a parallel instruction. -/
def Par.value (k : Par) (op : ParOp) (a b : Word) : Word :=
  let two (top bottom : Half) : Word := top ++ bottom
  let byte (add : Bool) (i : Nat) : Byte := k.lane add (byteIn a i) (byteIn b i)
  match op with
  | .add16 => two (k.lane true (halfOf a true) (halfOf b true)) (k.lane true (halfOf a false) (halfOf b false))
  | .addsubx => two (k.lane true (halfOf a true) (halfOf b false)) (k.lane false (halfOf a false) (halfOf b true))
  | .subaddx => two (k.lane false (halfOf a true) (halfOf b false)) (k.lane true (halfOf a false) (halfOf b true))
  | .sub16 => two (k.lane false (halfOf a true) (halfOf b true)) (k.lane false (halfOf a false) (halfOf b false))
  | .add8 => (byte true 3 ++ byte true 2 ++ byte true 1 ++ byte true 0 : BitVec 32)
  | .sub8 => (byte false 3 ++ byte false 2 ++ byte false 1 ++ byte false 0 : BitVec 32)

/-- GE[3:0] of a parallel instruction with prefix S or U. -/
def Par.geValue (k : Par) (op : ParOp) (a b : Word) : BitVec 4 :=
  let g (x : Bool) : BitVec 1 := BitVec.ofBool x
  let two (top bottom : Bool) : BitVec 4 := g top ++ g top ++ g bottom ++ g bottom
  let byte (add : Bool) (i : Nat) : BitVec 1 := g (k.laneGE add (byteIn a i) (byteIn b i))
  match op with
  | .add16 => two (k.laneGE true (halfOf a true) (halfOf b true)) (k.laneGE true (halfOf a false) (halfOf b false))
  | .addsubx => two (k.laneGE true (halfOf a true) (halfOf b false)) (k.laneGE false (halfOf a false) (halfOf b true))
  | .subaddx => two (k.laneGE false (halfOf a true) (halfOf b false)) (k.laneGE true (halfOf a false) (halfOf b true))
  | .sub16 => two (k.laneGE false (halfOf a true) (halfOf b true)) (k.laneGE false (halfOf a false) (halfOf b false))
  | .add8 => byte true 3 ++ byte true 2 ++ byte true 1 ++ byte true 0
  | .sub8 => byte false 3 ++ byte false 2 ++ byte false 1 ++ byte false 0

/-! ### Memory in the plain setting -/

/-- The byte `i` bytes above a virtual address. -/
def State.memByte (s : State) (va : Word) (i : Nat) : Byte := s.byteAt .external ((s.mva va).toNat + i)

/-- The halfword at an aligned virtual address, in the byte order that CPSR.E selects (20:R508). -/
def State.memHalf (s : State) (va : Word) : Half :=
  if bit s.cpsr 9 then s.memByte va 0 ++ s.memByte va 1 else s.memByte va 1 ++ s.memByte va 0

/-- The word at an aligned virtual address (20:R508). -/
def State.memWord (s : State) (va : Word) : Word :=
  if bit s.cpsr 9 then s.memByte va 0 ++ s.memByte va 1 ++ s.memByte va 2 ++ s.memByte va 3
  else s.memByte va 3 ++ s.memByte va 2 ++ s.memByte va 1 ++ s.memByte va 0

/-- The `n` low bytes of a word in the order in which a store puts them at rising addresses (20:R509). -/
def State.storeOrder (s : State) (n : Nat) (v : Word) : List Byte :=
  (List.range n).map fun i => byteIn v (if bit s.cpsr 9 then n - 1 - i else i)

/-- The little-endian word at a physical address. -/
def State.physWord (s : State) (pa : Word) : Word :=
  s.byteAt .external (pa.toNat + 3) ++ s.byteAt .external (pa.toNat + 2) ++ s.byteAt .external (pa.toNat + 1) ++
    s.byteAt .external pa.toNat

/-- May a client access memory with these permissions, where S = R = 0? (21:R612) -/
def clientMay (apx : Bool) (ap : BitVec 2) (privileged write : Bool) : Bool :=
  match apx, ap.toNat with
  | false, 0 => false
  | false, 1 => privileged
  | false, 2 => privileged || !write
  | false, _ => true
  | true, 0 => false
  | true, 1 => privileged && !write
  | true, _ => !write

/-- In `t` these bytes lie at a virtual address, and every other byte of the external memory is that of `s`. -/
def bytesStored (s t : State) (va : Word) (bytes : List Byte) : Prop :=
  ∀ a : Nat, t.byteAt .external a =
    if (s.mva va).toNat ≤ a ∧ a < (s.mva va).toNat + bytes.length then bytes.getD (a - (s.mva va).toNat) 0#8
    else s.byteAt .external a

/-- Base plus or minus offset (42:R860). -/
def offsetAddress (u : Bool) (base offset : Word) : Word := if u then base + offset else base - offset

/-- The address of an access: the base where the form is post-indexed (42:R860, R861). -/
def accessAddress (p u : Bool) (base offset : Word) : Word := if p then offsetAddress u base offset else base

/-- The registers after a base update, where the form has one (42:R860, R861). -/
def State.baseUpdated (s : State) (p u w : Bool) (rn : Reg) (offset : Word) : Vector Word 32 :=
  if p && !w then s.regs else s.regs.set (bankedReg s.mode rn) (offsetAddress u (s.reg rn) offset)

/-- A load of one register: in the plain setting, at an aligned address, it writes the loaded value and perhaps the base, and
nothing else. `legal` says that the form is allowed (42:R860, R861). -/
def loadResult (i : Instr) (c : Cond) (p u w : Bool) (rn rd : Reg) (offset : State → Word) (size : Nat) (legal : Prop)
    (value : State → Word → Word) : Prop :=
  ∀ s : State, condHolds c s.cpsr = true → s.plainMemory → rd ≠ 15#4 → legal →
    (p = false ∨ w = true → rn ≠ 15#4 ∧ rn ≠ rd) → (accessAddress p u (s.reg rn) (offset s)).toNat % size = 0 →
    exec i s = .next { s with
      regs := (s.baseUpdated p u w rn (offset s)).set (bankedReg s.mode rd) (value s (accessAddress p u (s.reg rn) (offset s)))
      pc := s.pcAfter }

/-- A store of one register: in the plain setting, at an aligned address, it writes `size` bytes of memory and perhaps the base,
and nothing else of the spec's state (`stale` is the model's record of the store, log 16). -/
def storeResult (i : Instr) (c : Cond) (p u w : Bool) (rn rd : Reg) (offset : State → Word) (size : Nat) (legal : Prop) : Prop :=
  ∀ s : State, condHolds c s.cpsr = true → s.plainMemory → legal →
    (p = false ∨ w = true → rn ≠ 15#4 ∧ rn ≠ rd) → (accessAddress p u (s.reg rn) (offset s)).toNat % size = 0 →
    ∃ t, exec i s = .next t ∧
      bytesStored s t (accessAddress p u (s.reg rn) (offset s)) (s.storeOrder size (storeValue s rd)) ∧
      t = { s with
        mem := t.mem
        stale := t.stale
        regs := s.baseUpdated p u w rn (offset s)
        pc := s.pcAfter }

/-- A register offset is neither R15 nor an updated base (42:R860). -/
def legalOffset (p w : Bool) (rn rm : Reg) : Prop := rm ≠ 15#4 ∧ (p = false ∨ w = true → rm ≠ rn)

/-- Addressing mode 3 has no form with P = 0 and W = 1 (42:R861). -/
def legalMode3 (p w : Bool) : Prop := p = true ∨ w = false

/-- A Thumb load of one low register. -/
def thumbLoadResult (i : Instr) (rd : LowReg) (address : State → Word) (size : Nat) (value : State → Word → Word) : Prop :=
  ∀ s : State, s.plainMemory → (address s).toNat % size = 0 → exec i s = .next (s.wrote (lowReg rd) (value s (address s)))

/-- A Thumb store of one low register. -/
def thumbStoreResult (i : Instr) (rd : LowReg) (address : State → Word) (size : Nat) : Prop :=
  ∀ s : State, s.plainMemory → (address s).toNat % size = 0 →
    ∃ t, exec i s = .next t ∧ bytesStored s t (address s) (s.storeOrder size (s.reg (lowReg rd))) ∧
      t = { s with mem := t.mem, stale := t.stale, pc := s.pcAfter }

/-! ### Blocks (43) -/

/-- How many registers of a list are numbered below `r`. -/
def below (list : BitVec 16) (r : Reg) : Nat := ((List.range r.toNat).filter fun k => bit list k).length

/-- How many registers a list has. -/
def listSize (list : BitVec 16) : Nat := ((List.range 16).filter fun k => bit list k).length

/-- The address of a listed register's word: the lowest register's is the lowest (43:R910). -/
def slotAddress (p u : Bool) (base : Word) (list : BitVec 16) (r : Reg) : Word :=
  blockStart p u base (listSize list) + BitVec.ofNat 32 (4 * below list r)

/-- In `t` the listed registers' words have been stored from `start` up, and every other byte of the external memory is that of
`s`. The word that a store of R15 leaves is not stated (log 22). -/
def blockStored (s t : State) (list : BitVec 16) (address : Reg → Word) (value : Reg → Word) : Prop :=
  (∀ r : Reg, bit list r.toNat = true → r ≠ 15#4 → ∀ k < 4,
    t.byteAt .external ((s.mva (address r)).toNat + k) = (s.storeOrder 4 (value r)).getD k 0#8) ∧
  ∀ a : Nat, (∀ r : Reg, bit list r.toNat = true →
      ¬((s.mva (address r)).toNat ≤ a ∧ a < (s.mva (address r)).toNat + 4)) →
    t.byteAt .external a = s.byteAt .external a

/-- In `t` these words lie at their virtual addresses, and every other byte of the external memory is that of `s`. -/
def wordsStored (s t : State) (l : List (Word × Word)) : Prop :=
  (∀ x ∈ l, ∀ k < 4, t.byteAt .external ((s.mva x.1).toNat + k) = (s.storeOrder 4 x.2).getD k 0#8) ∧
  ∀ a : Nat, (∀ x ∈ l, ¬((s.mva x.1).toNat ≤ a ∧ a < (s.mva x.1).toNat + 4)) → t.byteAt .external a = s.byteAt .external a

/-- In `t` the registers of a mode are those that `value` gives, and every register that the mode does not reach is that of
`s`. -/
def modeRegs (s t : State) (mode : BitVec 5) (value : Reg → Word) : Prop :=
  (∀ r : Reg, r ≠ 15#4 → t.regIn mode r = value r) ∧
  ∀ j : Fin 32, (∀ r : Reg, r ≠ 15#4 → bankedReg mode r ≠ j) → t.regs[j] = s.regs[j]

/-! ### Status writes of the two worlds (10:R52) -/

/-- The bits that a privileged write of `v` to the CPSR changes, of those in `m`: in the Non-secure world A and F as the SCR lets it, and no
mode bit where the value asks for Secure Monitor mode (10:R52). -/
def State.statusMask (s : State) (m v : Word) : Word :=
  let m := if s.nsState && !bit s.cp15.scr 5 then m &&& ~~~0x100#32 else m
  let m := if s.nsState && !bit s.cp15.scr 4 then m &&& ~~~0x40#32 else m
  if s.nsState && v.extractLsb' 0 5 == 0b10110#5 then m &&& ~~~0x1F#32 else m

/-- A word with the bits in `m` replaced. -/
def merged (old v m : Word) : Word := (old &&& ~~~m) ||| (v &&& m)

/-- The CPSR after a return from an exception to a saved status. -/
def State.returned (s : State) (saved : Word) : Word := merged s.cpsr saved (s.statusMask psrMask saved)

/-! ### Exceptions (60) -/

/-- Where execution goes on after a return to a CPSR: the target aligned for the state that J and T select (10:R35, R56). -/
def resumeAddress (psr target : Word) : Word :=
  if bit psr 5 then target.extractLsb' 1 31 ++ 0#1 else if bit psr 24 then target else target.extractLsb' 2 30 ++ 0#2

/-- In which mode an exception is taken (60:R1203). -/
def entryMode (s : State) (k : Exc) (ext : Bool) : BitVec 5 :=
  match k with
  | .undef => 0b11011#5
  | .svc => 0b10011#5
  | .smc => 0b10110#5
  | .prefetchAbort => if ext && bit s.cp15.scr 3 then 0b10110#5 else 0b10111#5
  | .dataAbort => if ext && bit s.cp15.scr 3 then 0b10110#5 else 0b10111#5
  | .irq => if bit s.cp15.scr 1 then 0b10110#5 else 0b10010#5
  | .fiq => if bit s.cp15.scr 2 then 0b10110#5 else 0b10001#5

/-- The address of an exception's handler out of Secure Monitor mode, for an exception that is no vectored IRQ (60:R1210). -/
def plainVector (c : Cp15) (ns : Bool) (offset : Word) : Word :=
  (if bit (c.control ns) 13 then 0xFFFF0000#32 else (c.bank ns).vbar) + offset

/-- An instruction whose effect is the Undefined Instruction exception (60:R1211). -/
def raisesUndefined (i : Instr) (s : State) : Prop := exec i s = .next (takeException .undef false s.nextPc s)

/-! ### Coprocessors (11 to 15, 47) -/

/-- A system register number: Opcode_1, CRn, CRm, Opcode_2. -/
abbrev SysReg := BitVec 3 × BitVec 4 × BitVec 4 × BitVec 3

/-- The copies of the banked registers that an access of the core reaches: those that SCR.NS selects (11:R107). -/
def State.selected (s : State) : Cp15Bank := if bit s.cp15.scr 0 then s.cp15.nonSecure else s.cp15.secure

/-- CP15 with those copies replaced. -/
def State.withSelected (s : State) (b : Cp15Bank) : Cp15 :=
  if bit s.cp15.scr 0 then { s.cp15 with nonSecure := b } else { s.cp15 with secure := b }

/-- The DMA channel that the DMA Channel Number Register selects (14:R296). -/
def State.channelNumber (s : State) : Fin 2 := if bit s.cp15.dmaSelect 0 then 1 else 0

/-- Its registers. -/
def State.channel (s : State) : DmaChannel := s.cp15.dma[s.channelNumber]

/-- CP15 with that channel replaced. -/
def State.withChannel (s : State) (c : DmaChannel) : Cp15 := { s.cp15 with dma := s.cp15.dma.set s.channelNumber c }

/-- Is that channel Queued or Running? (14:R306) -/
def State.channelBusy (s : State) : Bool := s.channel.status.extractLsb' 0 2 ∈ [1#2, 2#2]

/-- A status register of the DMA: a bit for each channel (14:R292). -/
def dmaBits (p : DmaChannel → Bool) (s : State) : Word := (BitVec.ofBool (p s.cp15.dma[1]) ++ BitVec.ofBool (p s.cp15.dma[0])).setWidth 32

/-- The TCM that the Secure TCM Selection Register selects, of each side (13:R265). -/
def State.tcmNumber (s : State) : Fin 2 := if bit s.cp15.secure.tcmSelect 0 then 1 else 0

/-- The counters that the overflow flags in a word belong to: Count Registers 1, 0, Cycle Counter (14:R324). -/
def flagged (w : Word) : BitVec 3 := BitVec.ofBool (bit w 9) ++ BitVec.ofBool (bit w 8) ++ BitVec.ofBool (bit w 10)

/-- CP15 registers that a privileged mode of the Secure world reads, and what it reads (11 to 14). -/
def cp15Reads : List (SysReg × (State → Word)) :=
  [((0, 0, 1, 0), fun _ => 0x00000111#32), ((0, 0, 1, 1), fun _ => 0x00000011#32), ((0, 0, 1, 2), fun _ => 0x00000033#32),
   ((0, 0, 1, 3), fun _ => 0x00000000#32), ((0, 0, 1, 4), fun _ => 0x01130003#32), ((0, 0, 1, 5), fun _ => 0x10030302#32),
   ((0, 0, 1, 6), fun _ => 0x01222100#32), ((0, 0, 1, 7), fun _ => 0x00000000#32), ((0, 0, 2, 0), fun _ => 0x00140011#32),
   ((0, 0, 2, 1), fun _ => 0x12002111#32), ((0, 0, 2, 2), fun _ => 0x11231121#32), ((0, 0, 2, 3), fun _ => 0x01102131#32),
   ((0, 0, 2, 4), fun _ => 0x00001141#32), ((0, 0, 2, 5), fun _ => 0x00000000#32),
   ((0, 1, 0, 0), fun s => s.selected.control ||| s.cp15.controlShared ||| 0x78#32), ((0, 1, 0, 1), fun s => s.cp15.auxControl),
   ((0, 1, 1, 0), fun s => s.cp15.scr), ((0, 1, 1, 1), fun s => s.cp15.sder), ((0, 1, 1, 2), fun s => s.cp15.nsacr),
   ((0, 2, 0, 0), fun s => s.selected.ttbr0), ((0, 2, 0, 1), fun s => s.selected.ttbr1), ((0, 2, 0, 2), fun s => s.selected.ttbcr),
   ((0, 3, 0, 0), fun s => s.selected.dacr), ((0, 5, 0, 0), fun s => s.selected.dfsr), ((0, 5, 0, 1), fun s => s.selected.ifsr),
   ((0, 6, 0, 0), fun s => s.selected.far), ((0, 6, 0, 1), fun s => s.dbg.wfar), ((0, 6, 0, 2), fun s => s.selected.ifar),
   ((0, 7, 4, 0), fun s => s.selected.par), ((0, 9, 0, 0), fun s => s.cp15.dLockdown), ((0, 9, 0, 1), fun s => s.cp15.iLockdown),
   ((0, 9, 2, 0), fun s => s.selected.tcmSelect), ((0, 10, 0, 0), fun s => s.cp15.tlbLockdown),
   ((0, 10, 2, 0), fun s => s.selected.primaryRemap), ((0, 10, 2, 1), fun s => s.selected.normalRemap),
   ((0, 11, 1, 0), fun s => s.cp15.dmaUser), ((0, 11, 2, 0), fun s => s.cp15.dmaSelect),
   ((0, 12, 0, 0), fun s => s.selected.vbar), ((0, 12, 0, 1), fun s => s.cp15.mvbar),
   ((0, 13, 0, 0), fun s => s.selected.fcse), ((0, 13, 0, 1), fun s => s.selected.contextId),
   ((0, 13, 0, 2), fun s => s.selected.tpidUserRw), ((0, 13, 0, 3), fun s => s.selected.tpidUserRo),
   ((0, 13, 0, 4), fun s => s.selected.tpidPriv), ((0, 15, 2, 4), fun s => s.selected.periphRemap)]

/-- The same for the units beside the core: TCMs, Cache Behavior Override, DMA, validation, performance monitor, TLB lockdown (13, 14). -/
def cp15UnitReads : List (SysReg × (State → Word)) :=
  [((0, 9, 1, 2), fun s => (BitVec.ofBool s.cp15.dtcmNsAccess[s.tcmNumber]).setWidth 32),
   ((0, 9, 1, 3), fun s => (BitVec.ofBool s.cp15.itcmNsAccess[s.tcmNumber]).setWidth 32),
   ((0, 9, 8, 0), fun s => s.cp15.cacheBehavior &&& 0x3F#32),
   ((0, 11, 0, 1), dmaBits (·.status.extractLsb' 0 2 == 1#2)), ((0, 11, 0, 2), dmaBits (·.status.extractLsb' 0 2 == 2#2)),
   ((0, 11, 0, 3), dmaBits (·.interrupt)), ((0, 11, 4, 0), fun s => s.channel.control),
   ((0, 11, 5, 0), fun s => s.channel.intStart), ((0, 11, 6, 0), fun s => s.channel.extStart),
   ((0, 11, 7, 0), fun s => s.channel.intEnd), ((0, 11, 8, 0), fun s => s.channel.status),
   ((0, 11, 15, 0), fun s => s.channel.contextId),
   ((0, 15, 9, 0), fun s => (BitVec.ofBool s.cp15.validation).setWidth 32), ((0, 15, 12, 0), fun s => s.cp15.pmnc),
   ((0, 15, 12, 1), fun s => s.cp15.ccnt), ((0, 15, 12, 2), fun s => s.cp15.pmn0), ((0, 15, 12, 3), fun s => s.cp15.pmn1),
   ((5, 15, 4, 2), fun s => s.cp15.tlbIndex.setWidth 32)]

/-- The same for registers that depend on the parameters, at their default values (log 1): caches of 16 KB, two TCMs of 8 KB on each side,
no external coprocessor. -/
def cp15DefaultReads : List (SysReg × (State → Word)) :=
  [((0, 0, 0, 0), fun _ => 0x410FB767#32), ((0, 0, 0, 1), fun _ => 0x1D152152#32), ((0, 0, 0, 2), fun _ => 0x00020002#32),
   ((0, 1, 0, 2), fun s => s.cp15.cpacr &&& 0x00F00000#32), ((0, 11, 0, 0), fun _ => 3#32),
   ((0, 9, 1, 0), fun s => s.cp15.dtcmRegion[s.tcmNumber]), ((0, 9, 1, 1), fun s => s.cp15.itcmRegion[s.tcmNumber])]

/-- CP15 registers that a privileged mode of the Secure world writes with CP15SDISABLE LOW, and CP15 after the write: the
implemented bits of the value, in one register (12 to 14). -/
def cp15Writes : List (SysReg × (State → Word → Cp15)) :=
  [((0, 1, 0, 1), fun s v => { s.cp15 with auxControl := v &&& 0xF000007F#32 }),
   ((0, 1, 1, 0), fun s v => { s.cp15 with scr := v &&& 0x3F#32 }),
   ((0, 1, 1, 1), fun s v => { s.cp15 with sder := v &&& 3#32 }),
   ((0, 1, 1, 2), fun s v => { s.cp15 with nsacr := v &&& 0x00073FFF#32 }),
   ((0, 2, 0, 0), fun s v => s.withSelected { s.selected with ttbr0 := v &&& 0xFFFFFF9B#32 }),
   ((0, 2, 0, 1), fun s v => s.withSelected { s.selected with ttbr1 := v &&& 0xFFFFC01B#32 }),
   ((0, 2, 0, 2), fun s v => s.withSelected { s.selected with ttbcr := v &&& 0x37#32 }),
   ((0, 3, 0, 0), fun s v => s.withSelected { s.selected with dacr := v }),
   ((0, 5, 0, 0), fun s v => s.withSelected { s.selected with dfsr := v &&& 0x1CFF#32 }),
   ((0, 5, 0, 1), fun s v => s.withSelected { s.selected with ifsr := v &&& 0x100F#32 }),
   ((0, 6, 0, 0), fun s v => s.withSelected { s.selected with far := v }),
   ((0, 6, 0, 2), fun s v => s.withSelected { s.selected with ifar := v }),
   ((0, 9, 0, 0), fun s v => { s.cp15 with dLockdown := v ||| 0xFFFFFFF0#32 }),
   ((0, 9, 0, 1), fun s v => { s.cp15 with iLockdown := v ||| 0xFFFFFFF0#32 }),
   ((0, 10, 0, 0), fun s v => { s.cp15 with tlbLockdown := v &&& 0x1C000001#32 }),
   ((0, 10, 2, 0), fun s v => s.withSelected { s.selected with primaryRemap := v &&& 0x000FFFFF#32 }),
   ((0, 10, 2, 1), fun s v => s.withSelected { s.selected with normalRemap := v }),
   ((0, 11, 1, 0), fun s v => { s.cp15 with dmaUser := v &&& 3#32 }),
   ((0, 11, 2, 0), fun s v => { s.cp15 with dmaSelect := v &&& 1#32 }),
   ((0, 12, 0, 0), fun s v => s.withSelected { s.selected with vbar := v &&& 0xFFFFFFE0#32 }),
   ((0, 12, 0, 1), fun s v => { s.cp15 with mvbar := v &&& 0xFFFFFFE0#32 }),
   ((0, 13, 0, 0), fun s v => s.withSelected { s.selected with fcse := v &&& 0xFE000000#32 }),
   ((0, 13, 0, 1), fun s v => s.withSelected { s.selected with contextId := v }),
   ((0, 13, 0, 2), fun s v => s.withSelected { s.selected with tpidUserRw := v }),
   ((0, 13, 0, 3), fun s v => s.withSelected { s.selected with tpidUserRo := v }),
   ((0, 13, 0, 4), fun s v => s.withSelected { s.selected with tpidPriv := v }),
   ((0, 15, 2, 4), fun s v => s.withSelected { s.selected with periphRemap := v &&& 0xFFFFF01F#32 })]

/-- The same for the units beside the core. -/
def cp15UnitWrites : List (SysReg × (State → Word → Cp15)) :=
  [((0, 9, 8, 0), fun s v => { s.cp15 with cacheBehavior := merged s.cp15.cacheBehavior v 0x3F#32 }),
   ((0, 11, 7, 0), fun s v => s.withChannel { s.channel with intEnd := v }),
   ((0, 15, 9, 0), fun s v => { s.cp15 with validation := bit v 0 }),
   ((0, 15, 12, 0), fun s v => { s.cp15 with
     pmnc := (v &&& 0x0FFFF879#32) ||| (s.cp15.pmnc &&& 0x700#32 &&& ~~~v)
     ccnt := if bit v 2 then 0#32 else s.cp15.ccnt
     pmn0 := if bit v 1 then 0#32 else s.cp15.pmn0
     pmn1 := if bit v 1 then 0#32 else s.cp15.pmn1
     pmuIrq := if bit v 0 then s.cp15.pmuIrq &&& ~~~flagged v else s.cp15.pmuIrq
     valWrapped := s.cp15.valWrapped &&& ~~~(flagged (s.cp15.pmnc &&& v)).setWidth 4 }),
   ((0, 15, 12, 1), fun s v => { s.cp15 with ccnt := v }), ((0, 15, 12, 2), fun s v => { s.cp15 with pmn0 := v }),
   ((0, 15, 12, 3), fun s v => { s.cp15 with pmn1 := v }),
   ((5, 15, 4, 2), fun s v => { s.cp15 with tlbIndex := v.extractLsb' 0 3 })]

/-- The same for registers that depend on the parameters, at their default values. -/
def cp15DefaultWrites : List (SysReg × (State → Word → Cp15)) :=
  [((0, 1, 0, 2), fun s v => { s.cp15 with cpacr := merged s.cp15.cpacr v 0x00F00000#32 }),
   ((0, 9, 1, 2), fun s v => { s.cp15 with dtcmNsAccess := s.cp15.dtcmNsAccess.set s.tcmNumber (bit v 0) }),
   ((0, 9, 1, 3), fun s v => { s.cp15 with itcmNsAccess := s.cp15.itcmNsAccess.set s.tcmNumber (bit v 0) }),
   ((0, 9, 2, 0), fun s v => s.withSelected { s.selected with
     tcmSelect := if v.extractLsb' 1 1 = 0#1 then v &&& 1#32 else s.selected.tcmSelect })]

/-- How many bytes of addresses an entry of the TLB covers (21:R602). -/
def TlbEntry.span (e : TlbEntry) : Nat :=
  match (e.pa.extractLsb' 6 2).toNat with
  | 0 => 2 ^ 24
  | 1 => 2 ^ 12
  | 2 => 2 ^ 16
  | _ => 2 ^ 20

/-- Does an entry of a world hold the translation of the page at an address, for an ASID or for all of them? (13:R254) -/
def TlbEntry.holds (e : TlbEntry) (ns : Bool) (address : Word) (asid : BitVec 8) : Bool :=
  bit e.pa 0 && bit e.pa 8 == ns && address.toNat / e.span == e.va.toNat / e.span &&
    (bit e.va 9 || e.va.extractLsb' 0 8 == asid)

/-! ### VFP (16, 49) -/

/-- S registers by number. -/
abbrev SingleReg := Fin 32

/-- The number of a single-precision register: the field over its extra bit (16:R456). -/
def sNum (field : BitVec 4) (extra : Bool) : SingleReg := Fin.ofNat 32 (2 * field.toNat + extra.toNat)

/-- The S register that holds the low word of a double-precision register (16:R453). -/
def dLow (field : BitVec 4) : SingleReg := Fin.ofNat 32 (2 * field.toNat)

/-- The S register that holds the high word of a double-precision register (16:R453). -/
def dHigh (field : BitVec 4) : SingleReg := Fin.ofNat 32 (2 * field.toNat + 1)

/-- A double-precision register. -/
def State.dValue (s : State) (field : BitVec 4) : DWord := s.vfp.regs[dHigh field] ++ s.vfp.regs[dLow field]

/-- The state after an instruction that writes S registers, sets flags of the FPSCR and goes on. -/
def State.wroteS (s : State) (regs : List (SingleReg × Word)) (flags : Word) : State :=
  { s with
    vfp := { s.vfp with
      regs := regs.foldl (fun v x => v.set x.1 x.2) s.vfp.regs
      fpscr := s.vfp.fpscr ||| flags }
    pc := s.pcAfter }

/-- The words of a double-precision result. -/
def dWords (field : BitVec 4) (v : DWord) : List (SingleReg × Word) := [(dLow field, v.extractLsb' 0 32), (dHigh field, v.extractLsb' 32 32)]

/-- The VFP11 may be used: coprocessors 10 and 11 are enabled for every mode and world, nothing older may still hold, EN is set
and EX is not (16:R451, R452). -/
def State.vfpReady (s : State) : Prop :=
  bits s.cp15.cpacr 20 4 = 0b1111#4 ∧ bits s.cp15.nsacr 10 2 = 0b11#2 ∧ s.oldFetch = [] ∧
    bit s.vfp.fpexc 30 = true ∧ bit s.vfp.fpexc 31 = false

/-- RunFast mode with no vectors: FZ and DN set, every exception enable 0, LEN and STRIDE 0 (16:R474). -/
def runFast (fpscr : Word) : Prop := fpscr &&& 0x03379F00#32 = 0x03000000#32

/-- The value of a finite single or double precision number. -/
def Format.ratValue (f : Format) (v : DWord) : ℚ :=
  let x := f.unpack v
  (if x.neg then -1 else 1) * (2 ^ f.frac + x.frac : ℚ) * 2 ^ (f.minExp + ((x.biased : Int) - 1))

/-- A normal number: its exponent field is neither 0 nor all ones. -/
def Format.isNormal (f : Format) (v : DWord) : Prop := 0 < (f.unpack v).biased ∧ (f.unpack v).biased < f.maxExp

end Sys2Proof.Machine
end

