-- ==== Sys2Proof/Certificates/Slice0/Obligations.lean ====
section
/-! DEFINITION. The statements for the provers. The terms they use are those of the model and of Safety.lean; where a result is
stated, its formula is written from the rule and apart from the operation of the model that computes it. -/

open Sys2Proof Sys2Proof.Machine

/-! ### Encoding -/

/-- Decode and encode agree on the Thumb instructions (48:R1070 to R1128, 30:R704, R710). -/
def Obligations.ThumbDecodeOfEncode : Prop :=
  ∀ (i : Instr) (h : Half), i.wf = true → encode i = .thumb h → decodeThumb h = .instr i

/-- Decode and encode agree on the ARM instructions whose word has a condition and bit 27 clear: data processing, multiplies,
status, media, loads and stores of one register, exclusives (30:R682 to R693, R698, R704). -/
def Obligations.ArmDataDecodeOfEncode : Prop :=
  ∀ (i : Instr) (w : Word), i.wf = true → encode i = .arm w → w.extractLsb' 28 4 ≠ 15#4 → bit w 27 = false →
    decodeArm w = .instr i

/-- Decode and encode agree on the other ARM instructions: blocks, branches, coprocessors, VFP, SVC, and the unconditional
space (30:R695 to R700, R704). -/
def Obligations.ArmBlockBranchCoprocessorDecodeOfEncode : Prop :=
  ∀ (i : Instr) (w : Word), i.wf = true → encode i = .arm w → (w.extractLsb' 28 4 = 15#4 ∨ bit w 27 = true) →
    decodeArm w = .instr i

/-- Words written out from the spec's encodings decode to the instructions they stand for: ADD, MUL, SADD16, LDR, LDREX, LDM (1),
MSR, B, SVC, MCR, FADDS, FLDD, CPS; in Thumb state ADD, LDR, PUSH, the first half of BL. -/
def Obligations.WrittenWordsDecode : Prop :=
  decodeTableWord 32 0xE0912103 = some (.addReg .al true 1#4 2#4 2#5 .lsl 3#4) ∧
  decodeTableWord 32 0x10030291 = some (.mul .ne false 3#4 2#4 1#4) ∧
  decodeTableWord 32 0xE6121F13 = some (.sadd16 .al 2#4 1#4 3#4) ∧
  decodeTableWord 32 0xE5B21004 = some (.ldrImm .al true true true 2#4 1#4 4#12) ∧
  decodeTableWord 32 0xE1921F9F = some (.ldrex .al 2#4 1#4) ∧
  decodeTableWord 32 0xE8B20031 = some (.ldm1 .al false true true 2#4 0x0031#16) ∧
  decodeTableWord 32 0xE129F001 = some (.msrReg .al false 9#4 1#4) ∧
  decodeTableWord 32 0x0AFFFFFE = some (.b .eq 0xFFFFFE#24) ∧
  decodeTableWord 32 0xEF123456 = some (.svc .al 0x123456#24) ∧
  decodeTableWord 32 0xEE021F30 = some (.mcr .al 0#3 2#4 1#4 15#4 1#3 0#4) ∧
  decodeTableWord 32 0xEE710AA2 = some (.fadds .al true 1#4 0#4 true true 2#4) ∧
  decodeTableWord 32 0xED923B02 = some (.fldd .al true 2#4 3#4 2#8) ∧
  decodeTableWord 32 0xF10E0093 = some (.cps 0b11#2 true false true false 0x13#5) ∧
  decodeTableWord 16 0x188B = some (.tAddReg3 2#3 1#3 3#3) ∧
  decodeTableWord 16 0x6893 = some (.tLdrImm 2#5 2#3 3#3) ∧
  decodeTableWord 16 0xB530 = some (.tPush true 0x30#8) ∧
  decodeTableWord 16 0xF7FF = some (.tBlPrefix 0x7FF#11)

/-! ### The machine -/

/-- A step runs the decoded instruction: with no reset, no debugger input, no interrupt and no debug permission, in a running core, when
the bytes that the fetch gives decode to an instruction, the step is that instruction's exec from the state after the fetch, in which
it is recorded as committed for execution, shown on the trace port, and followed by the DMA and the counters, or its stop. A step begins
with the trace port showing nothing and RAMCLAMP noted (`begun`). In the plain memory setting, with the
Instruction Cache off, no dirty line in the Data Cache and nothing that a fetch may see with an old value, those bytes are the bytes at the pc, and the state is as
before the fetch (30:R680, R704, 60:R1201, 00:R9). The premises on the state after the fetch, and on `watchHit` after the instruction,
hold wherever DBGEN is LOW, J is 0 and no watchpoint was there before. -/
def Obligations.StepRunsTheDecodedInstruction : Prop :=
  ∀ (s : State) (i : Instr),
    s.settled → s.halted = false → s.pins.nirq = true → s.pins.nfiq = true → bit s.cpsr 24 = false → s.pins.dbgen = false →
    let runs (f : State) (bytes : List Byte) : Prop :=
      let b := f.committing
      let shown (t : State) : State := traceWord b (ofBytesLE (bytes.take f.fetchSize)) t
      (∀ r, exec i b = .refused r → step s = .refused r) ∧ (∀ r, exec i b = .fault r → step s = .fault r) ∧
      (∀ t, exec i b = .next t → t.watchHit = none → step s = finish (background (withdrawHalt (shown t))))
    (∀ (bytes : List Byte) (f : State), fetch s.begun = .ok (bytes, f) → (f.pendingAbort = none ∨ bit f.cpsr 8 = true) →
      f.pins.dbgen = false → bit f.cpsr 24 = false → decodeBytes f.thumb bytes = .instr i → runs f bytes) ∧
    (s.plainMemory → s.controlBit 12 = false → s.stale = [] → (∀ l ∈ s.dcache, l.dirty = false) → s.oldFetch = [] → (s.pendingAbort = none ∨ bit s.cpsr 8 = true) →
      s.pc.toNat % (if s.thumb then 2 else 4) = 0 → decodeBytes s.thumb ((List.range 4).map (s.memByte s.pc)) = .instr i →
      runs s.begun ((List.range 4).map (s.memByte s.pc)))

/-- Between instructions an FIQ that is not masked is taken before an IRQ, an IRQ that is not masked before the next instruction;
in Debug state neither is (60:R1222, R1223, R1251; 15:R410). With IRQACK asserted the core takes the handler's address of a vectored
interrupt when IRQADDRV is HIGH, and waits while it is LOW (25:R1587, R1589); that it waits step by step and lets nothing else
in is the model's choice (DESIGN CHOICE: log 54). -/
def Obligations.InterruptsInPriorityOrder : Prop :=
  ∀ s : State,
    s.settled → (bit s.cpsr 24 = true → bit s.cpsr 5 = true) →
    (s.halted = true → bit s.dbg.dscr 1 = true → step s = finish (background s.begun)) ∧
    (s.halted = false → bit s.dbg.dscr 11 = false → s.pins.irqaddrv = false →
      (s.pins.nfiq = false → bit s.cpsr 6 = false → step s = finish (background (takeException .fiq false (s.pc + 4#32) s.begun))) ∧
      ((s.pins.nfiq = true ∨ bit s.cpsr 6 = true) → s.pins.nirq = false → bit s.cpsr 7 = false →
        step s = finish (background (takeException .irq false (s.pc + 4#32) s.begun)))) ∧
    (∀ v : State, v = { s with irqack := true, pins := v.pins } → v.pins = { s.pins with irqaddrv := v.pins.irqaddrv } →
      s.halted = false →
      let address : Word := s.pins.irqaddr.extractLsb' 2 30 ++ 0#2
      (v.pins.irqaddrv = false → step v = finish (background v.begun)) ∧
      (v.pins.irqaddrv = true → step v = finish (background { v.begun with
        irqack := false
        pc := address
        cp15 := s.cp15.setBank s.nsState { s.cp15.bank s.nsState with lastIrqAddr := address } })))

/-- What reset leaves, as the spec gives it: Supervisor mode with interrupts and imprecise aborts masked, ARM state, the pc at the
reset vector, the Control Register at 0x00050078, the MMU and caches off, the Secure world, the Auxiliary Control Register,
the remap registers, the DSCR, FPSCR, FPEXC and FPINST (10:R90, 12:R152, R155, R160, 13:R273, R274, 15:R380, 16:R470). That the local
monitor is Open is the decision 92:D24, since 44:R940 does not say it, and it is the model's choice. The reset state has the forms that
every step keeps. -/
def Obligations.ResetValuesOfTheSpec : Prop :=
  State.reset.cpsr &&& 0x010001FF#32 = 0x000001D3#32 ∧ State.reset.mode = 0b10011#5 ∧ State.reset.thumb = false ∧
  State.reset.pc = 0#32 ∧ State.reset.nsState = false ∧
  State.reset.cp15.control false = 0x00050078#32 ∧ State.reset.cp15.control true = 0x00050078#32 ∧
  State.reset.cp15.auxControl = 0x00000007#32 ∧ State.reset.cp15.cpacr = 0#32 ∧ State.reset.cp15.scr = 0#32 ∧
  State.reset.cp15.nsacr = 0#32 ∧
  State.reset.cp15.secure.primaryRemap = 0x00098AA4#32 ∧ State.reset.cp15.secure.normalRemap = 0x44E048E0#32 ∧
  State.reset.dbg.dscr = 0x00000002#32 ∧ State.reset.dbg.vcr = 0#32 ∧
  State.reset.vfp.fpscr = 0#32 ∧ State.reset.vfp.fpexc = 0#32 ∧ State.reset.vfp.fpinst = 0xEE000A00#32 ∧
  State.reset.localMon = none ∧ State.reset.standby = false ∧ State.reset.wf

/-- From any state, while nRESETIN is LOW with nPORESETIN HIGH, a step resets the core: the mode, the masks, the state bits, the
pc from VINITHI, bits of both copies of the Control Register from the pins, the SCR, no standby, no Debug state, the local monitor
open, no cache line valid, no access or interrupt entry in progress; the TCMs, the cache RAMs, the breakpoints and
the pins as before, and the memory too where the write buffer is empty (24:R1535, 60:R1221, 10:R90, 12:R152, 14:R334, 15:R378). What the
spec leaves open here is the model's choice: the TCMs and the cache RAMs kept over a processor reset, which 24:R1545 says of Dormant mode
only, and what was on its way dropped (DESIGN CHOICE: log 40), V in both copies (92:D6), and the local monitor Open (92:D24). -/
def Obligations.ResetPinResetsTheCore : Prop :=
  ∀ s : State, s.pins.nreset = false → s.pins.nporeset = true →
    ∃ t, step s = .next t ∧
      t.mode = 0b10011#5 ∧ t.thumb = false ∧ bit t.cpsr 24 = false ∧ bit t.cpsr 6 = true ∧ bit t.cpsr 7 = true ∧
      bit t.cpsr 8 = true ∧
      t.pc = (if s.pins.vinithi then 0xFFFF0000#32 else 0#32) ∧
      (∀ ns, bit (t.cp15.control ns) 0 = false ∧ bit (t.cp15.control ns) 2 = false ∧ bit (t.cp15.control ns) 12 = false ∧
        bit (t.cp15.control ns) 13 = s.pins.vinithi ∧ bit (t.cp15.control ns) 22 = s.pins.ubitinit) ∧
      t.cp15.scr = 0#32 ∧ t.standby = false ∧ t.halted = false ∧ t.localMon = none ∧
      (∀ i : Fin 8, t.cp15.dMasterValid[i] = 0#32 ∧ t.cp15.iMasterValid[i] = 0#32) ∧ t.inflight = [] ∧ t.irqack = false ∧
      t.writeBuffer = [] ∧ (s.writeBuffer = [] → t.mem = s.mem ∧ t.memNs = s.memNs ∧ t.itcm = s.itcm ∧ t.dtcm = s.dtcm) ∧
      t.dcache = s.dcache ∧ t.icache = s.icache ∧
      t.dbg.bvr = s.dbg.bvr ∧ t.dbg.bcr = s.dbg.bcr ∧ t.pins = s.pins

/-! ### Invariants and rules of the whole machine -/

/-- Every step keeps the canonical form of the memories: it decides that equal memories are equal data (20:R500; log 2). -/
def Obligations.StepKeepsMemoryForm : Prop :=
  ∀ s t : State, s.memoryWf = true → step s = .next t → t.memoryWf = true

/-- Every step keeps CPSR.M one of the eight modes and the reserved bits of the CPSR and of every SPSR at 0 (10:R50, R53). -/
def Obligations.StepKeepsStatusForm : Prop :=
  ∀ s t : State, (validMode s.mode = true ∧ cleanPsr s.cpsr ∧ ∀ i : Fin 6, cleanPsr s.spsrs[i]) → step s = .next t →
    validMode t.mode = true ∧ cleanPsr t.cpsr ∧ ∀ i : Fin 6, cleanPsr t.spsrs[i]

/-- With the MMU on and empty TLBs, in either world and any mode, LDR and STR of a word that the table maps by a section: the descriptor at
the table's entry for the address decides. An invalid one is a section translation fault; else the domain of the section is looked up in
the DACR: no access is a domain fault, and a client without permission a permission fault, each a precise Data Abort with its status and
the address, that changes no other register and no memory. A manager, and a client with permission, reaches the address in the section,
and nothing but the TLBs is changed beside. Stated for Strongly Ordered and Noncacheable Normal sections (21:R606, R611, R612, R616, R617,
R619, R635, R637, R640, 60:R1219, R1220). -/
def Obligations.SectionTranslation : Prop :=
  ∀ (c : Cond) (u : Bool) (rn rd : Reg) (off12 : BitVec 12) (s : State),
    condHolds c s.cpsr = true → s.freshMmu → rd ≠ 15#4 →
    let va := offsetAddress u (s.reg rn) (off12.setWidth 32)
    let mva := s.mva va
    let table := (s.cp15.bank s.nsState).ttbr0
    let d := s.physWord (table.extractLsb' 14 18 ++ mva.extractLsb' 20 12 ++ 0#2)
    let domain : BitVec 4 := d.extractLsb' 5 4
    let access : BitVec 2 := (s.cp15.bank s.nsState).dacr.extractLsb' (2 * domain.toNat) 2
    let pa : Word := d.extractLsb' 20 12 ++ mva.extractLsb' 0 20
    let load : Instr := .ldrImm c true u false rn rd off12
    let store : Instr := .strImm c true u false rn rd off12
    let aborts (i : Instr) (mask status : Word) : Prop :=
      ∃ t, exec i s = .next t ∧ t.mode = 0b10111#5 ∧ t.regIn 0b10111#5 14#4 = s.pc + 8#32 ∧ t.spsrs[3] = s.cpsr &&& psrMask ∧
        (t.cp15.bank s.nsState).far = mva ∧ (t.cp15.bank s.nsState).dfsr &&& mask = status ∧
        t.pc = plainVector s.cp15 s.nsState 0x10#32 ∧ (∀ j : Fin 32, j ≠ 25 → t.regs[j] = s.regs[j]) ∧
        t.mem = s.mem ∧ t.memNs = s.memNs ∧ t.itcm = s.itcm ∧ t.dtcm = s.dtcm ∧ t.writeBuffer = s.writeBuffer
    let may (write : Bool) : Bool := clientMay (bit d 15) (d.extractLsb' 10 2) (s.mode != 0b10000#5) write
    let tlbs (t : State) : Cp15 := { s.cp15 with tlbMain := t.cp15.tlbMain, dMicroTlb := t.cp15.dMicroTlb }
    let fault (code : Word) : Word := code ||| (domain.setWidth 32 <<< 4)
    va.toNat % 4 = 0 →
    (d.extractLsb' 0 2 = 0#2 → aborts load 0x1C0F#32 0x005#32 ∧ aborts store 0x1C0F#32 0x805#32) ∧
    (d.extractLsb' 0 2 = 2#2 → bit d 18 = false →
      (access = 0#2 → aborts load 0x1CFF#32 (fault 0x009#32) ∧ aborts store 0x1CFF#32 (fault 0x809#32)) ∧
      (access = 1#2 → may false = false → aborts load 0x1CFF#32 (fault 0x00D#32)) ∧
      (access = 1#2 → may true = false → aborts store 0x1CFF#32 (fault 0x80D#32)) ∧
      (d.extractLsb' 2 2 = 0#2 → d.extractLsb' 12 3 ∈ [0#3, 1#3] →
        (access = 3#2 ∨ (access = 1#2 ∧ may false = true) →
          ∃ t, exec load s = .next t ∧ t = { s.wrote rd (s.physWord pa) with cp15 := tlbs t }) ∧
        (access = 3#2 ∨ (access = 1#2 ∧ may true = true) →
          ∃ t, exec store s = .next t ∧ t.physWord pa = s.reg rd ∧
            (∀ a : Nat, a < pa.toNat ∨ pa.toNat + 4 ≤ a → t.byteAt .external a = s.byteAt .external a) ∧
            t = { s.stepped with mem := t.mem, stale := t.stale, writeBuffer := t.writeBuffer, cp15 := tlbs t })))

/-- No instruction leaves User mode but by taking an exception: after an instruction executed in User mode the mode is User, or
the state is the entry of an exception that saves this User mode CPSR (10:R50, R55; 60:R1206). -/
def Obligations.UserModeIsLeftByExceptionsOnly : Prop :=
  ∀ (i : Instr) (s t : State), s.mode = 0b10000#5 → s.halted = false → exec i s = .next t →
    t.mode = 0b10000#5 ∨
    ∃ (k : Exc) (ext : Bool) (ret : Word) (u : State), k ∈ [Exc.undef, .svc, .prefetchAbort, .dataAbort] ∧ u.cpsr = s.cpsr ∧
      t = takeException k ext ret u

/-- No instruction executed in the Non-secure world writes the registers that rule the worlds, the Secure copies of the settings
of memory, or the bits of the Control Register that only the Secure world modifies (11:R107, 12:R150, R154, R160, R163, R164,
14:R313). -/
def Obligations.NonSecureWorldKeepsSecureSettings : Prop :=
  ∀ (i : Instr) (s t : State), s.nsState = true → exec i s = .next t →
    t.cp15.scr = s.cp15.scr ∧ t.cp15.sder = s.cp15.sder ∧ t.cp15.nsacr = s.cp15.nsacr ∧ t.cp15.mvbar = s.cp15.mvbar ∧
    t.cp15.auxControl = s.cp15.auxControl ∧
    t.cp15.controlShared &&& 0x0020C080#32 = s.cp15.controlShared &&& 0x0020C080#32 ∧
    t.cp15.secure.control = s.cp15.secure.control ∧ t.cp15.secure.ttbr0 = s.cp15.secure.ttbr0 ∧
    t.cp15.secure.ttbr1 = s.cp15.secure.ttbr1 ∧ t.cp15.secure.ttbcr = s.cp15.secure.ttbcr ∧
    t.cp15.secure.dacr = s.cp15.secure.dacr ∧ t.cp15.secure.vbar = s.cp15.secure.vbar ∧
    t.cp15.secure.fcse = s.cp15.secure.fcse ∧ t.cp15.secure.contextId = s.cp15.secure.contextId ∧
    t.cp15.secure.primaryRemap = s.cp15.secure.primaryRemap ∧ t.cp15.secure.normalRemap = s.cp15.secure.normalRemap ∧
    t.cp15.secure.periphRemap = s.cp15.secure.periphRemap

/-- The flags that each of the fifteen condition codes tests; and an instruction whose condition fails does nothing but go on to the next
one, in Debug state nothing but that no more may be known of the PC. What the codes test is marked "from general knowledge, not in source" in
the spec's table (30:R683, 15:R409). -/
def Obligations.FailedConditionOnlyAdvances : Prop :=
  (∀ psr : Word,
    let holds (code : BitVec 4) : Bool := condHolds (Cond.ofBits code) psr
    let n := bit psr 31
    let z := bit psr 30
    let c := bit psr 29
    let v := bit psr 28
    (holds 0b0000#4 = true ↔ z = true) ∧ (holds 0b0001#4 = true ↔ z = false) ∧ (holds 0b0010#4 = true ↔ c = true) ∧
    (holds 0b0011#4 = true ↔ c = false) ∧ (holds 0b0100#4 = true ↔ n = true) ∧ (holds 0b0101#4 = true ↔ n = false) ∧
    (holds 0b0110#4 = true ↔ v = true) ∧ (holds 0b0111#4 = true ↔ v = false) ∧
    (holds 0b1000#4 = true ↔ c = true ∧ z = false) ∧ (holds 0b1001#4 = true ↔ c = false ∨ z = true) ∧
    (holds 0b1010#4 = true ↔ n = v) ∧ (holds 0b1011#4 = true ↔ n ≠ v) ∧
    (holds 0b1100#4 = true ↔ z = false ∧ n = v) ∧ (holds 0b1101#4 = true ↔ z = true ∨ n ≠ v) ∧ holds 0b1110#4 = true) ∧
  ∀ (i : Instr) (c : Cond) (s : State), i.condition = some c → condHolds c s.cpsr = false →
    (s.halted = false → exec i s = .next s.stepped) ∧
    (s.halted = true → ∃ k : DebugPc, exec i s = .next { s with dbg := { s.dbg with pcKnown := k } })

/-- Which registers the modes share: two register numbers in two modes denote one register exactly where they are the same number
and it is not banked between those modes; User and System modes have no SPSR, and each other mode has one of its own (10:R32,
R33). -/
def Obligations.RegisterBanks : Prop :=
  ∀ (m m' : BitVec 5) (r r' : Reg), validMode m = true → validMode m' = true → r ≠ 15#4 → r' ≠ 15#4 →
    (bankedReg m r = bankedReg m' r' ↔
      r = r' ∧ (r < 8#4 ∨ (r < 13#4 ∧ (m = 0b10001#5 ↔ m' = 0b10001#5)) ∨ m = m' ∨
        ((m = 0b10000#5 ∨ m = 0b11111#5) ∧ (m' = 0b10000#5 ∨ m' = 0b11111#5)))) ∧
    (spsrIndex m = none ↔ m = 0b10000#5 ∨ m = 0b11111#5) ∧ (spsrIndex m = spsrIndex m' ↔ m = m' ∨
      ((m = 0b10000#5 ∨ m = 0b11111#5) ∧ (m' = 0b10000#5 ∨ m' = 0b11111#5)))

/-! ### Data processing -/

/-- The shifter, by the amount and in numbers: LSL, LSR, ASR, ROR by 1 to 31, by 32, by more; by 0; and RRX. An immediate shift field other
than 0 is the amount; 0 means no shift for LSL, 32 for LSR and ASR, and RRX for ROR (40:R741, 30:R687, R688). -/
def Obligations.ShifterResults : Prop :=
  ∀ (v : Word) (n : Nat) (c : Bool),
    (∀ op ∈ [ShiftOp.lsl, .lsr, .asr, .ror], shiftC v op 0 c = (v, c)) ∧
    (1 ≤ n → n ≤ 31 →
      (shiftC v .lsl n c).1.toNat = v.toNat * 2 ^ n % 2 ^ 32 ∧
      ((shiftC v .lsl n c).2 = true ↔ v.toNat / 2 ^ (32 - n) % 2 = 1) ∧
      (shiftC v .lsr n c).1.toNat = v.toNat / 2 ^ n ∧
      ((shiftC v .lsr n c).2 = true ↔ v.toNat / 2 ^ (n - 1) % 2 = 1) ∧
      (shiftC v .asr n c).1.toInt = v.toInt / 2 ^ n ∧
      ((shiftC v .asr n c).2 = true ↔ v.toNat / 2 ^ (n - 1) % 2 = 1) ∧
      (shiftC v .ror n c).1.toNat = v.toNat / 2 ^ n + v.toNat % 2 ^ n * 2 ^ (32 - n) ∧
      ((shiftC v .ror n c).2 = true ↔ v.toNat / 2 ^ (n - 1) % 2 = 1)) ∧
    shiftC v .lsl 32 c = (0#32, v.getLsbD 0) ∧ shiftC v .lsr 32 c = (0#32, v.msb) ∧
    (33 ≤ n → shiftC v .lsl n c = (0#32, false) ∧ shiftC v .lsr n c = (0#32, false)) ∧
    (32 ≤ n → shiftC v .asr n c = (if v.msb then 0xFFFFFFFF#32 else 0#32, v.msb)) ∧
    (1 ≤ n → n % 32 = 0 → shiftC v .ror n c = (v, v.msb)) ∧
    (33 ≤ n → n % 32 ≠ 0 → shiftC v .ror n c = shiftC v .ror (n % 32) c) ∧
    (shiftC v .rrx n c).1 = BitVec.ofBool c ++ v.extractLsb' 1 31 ∧ (shiftC v .rrx n c).2 = v.getLsbD 0 ∧
    (∀ k : BitVec 5, k ≠ 0#5 →
      shiftedBy v .lsl k c = shiftC v .lsl k.toNat c ∧ shiftedBy v .lsr k c = shiftC v .lsr k.toNat c ∧
      shiftedBy v .asr k c = shiftC v .asr k.toNat c ∧ shiftedBy v .ror k c = shiftC v .ror k.toNat c) ∧
    shiftedBy v .lsl 0#5 c = (v, c) ∧ shiftedBy v .lsr 0#5 c = (0#32, v.msb) ∧
    shiftedBy v .asr 0#5 c = (if v.msb then 0xFFFFFFFF#32 else 0#32, v.msb) ∧
    shiftedBy v .ror 0#5 c = (BitVec.ofBool c ++ v.extractLsb' 1 31, v.getLsbD 0)

/-- AND, EOR, SUB, RSB, ADD, ADC, SBC, RSC, ORR, MOV, BIC, MVN in all three forms, and CPY, with a destination other than R15: the
register gets the result, with S set the flags are those of the rule, and nothing else changes but the PC. The form with a
register shift is refused with R15 in any field (40:R742 to R757, 10:R36). -/
def Obligations.DataProcessingResults : Prop :=
  ∀ (op : Alu) (c : Cond) (sBit : Bool) (rn rd : Reg) (s : State), condHolds c s.cpsr = true →
    (∀ (rot : BitVec 4) (imm8 : BitVec 8), rd ≠ 15#4 →
      let b : Word := (imm8.setWidth 32).rotateRight (2 * rot.toNat)
      let sc := if rot = 0#4 then bit s.cpsr 29 else b.msb
      exec (op.imm c sBit rn rd rot imm8) s = .next { s.wrote rd (op.value (s.reg rn) b (bit s.cpsr 29)) with
        cpsr := if sBit then op.flags (s.reg rn) b sc s.cpsr else s.cpsr }) ∧
    (∀ (n : BitVec 5) (sh : Shift) (rm : Reg), rd ≠ 15#4 →
      let b := (shiftedBy (s.reg rm) sh n (bit s.cpsr 29)).1
      let sc := (shiftedBy (s.reg rm) sh n (bit s.cpsr 29)).2
      exec (op.reg c sBit rn rd n sh rm) s = .next { s.wrote rd (op.value (s.reg rn) b (bit s.cpsr 29)) with
        cpsr := if sBit then op.flags (s.reg rn) b sc s.cpsr else s.cpsr }) ∧
    (∀ (rs : Reg) (sh : Shift) (rm : Reg),
      (15#4 ∈ op.shiftFields rn rd rs rm → exec (op.regShift c sBit rn rd rs sh rm) s = .refused .registerField) ∧
      (15#4 ∉ op.shiftFields rn rd rs rm →
        let x := shiftC (s.reg rm) (regShift sh) ((s.reg rs).toNat % 256) (bit s.cpsr 29)
        exec (op.regShift c sBit rn rd rs sh rm) s = .next { s.wrote rd (op.value (s.reg rn) x.1 (bit s.cpsr 29)) with
          cpsr := if sBit then op.flags (s.reg rn) x.1 x.2 s.cpsr else s.cpsr })) ∧
    (∀ rm : Reg, rd ≠ 15#4 → exec (.cpy c rd rm) s = .next (s.wrote rd (s.reg rm)))

/-- With R15 as the destination and S clear, the data-processing instructions and CPY branch to the result with bits [1:0] cleared,
and change nothing but the PC. With S set, in a privileged mode that has an SPSR, they return from the exception:
the SPSR becomes the CPSR, in the Non-secure world but for A and F where the SCR keeps them and for a change to Secure Monitor mode, the pc
is the result aligned for the state that J and T then select, and fetches see what was written; in
User and System mode they are refused (40:R743, 10:R35, R37, R52, R54, R56, 70:R1321). -/
def Obligations.DataProcessingIntoPc : Prop :=
  ∀ (op : Alu) (c : Cond) (rn : Reg) (s : State), condHolds c s.cpsr = true → s.halted = false →
    let claim (i : Bool → Instr) (b : Word) : Prop :=
      let r := op.value (s.reg rn) b (bit s.cpsr 29)
      exec (i false) s = .next { s with pc := r.extractLsb' 2 30 ++ 0#2 } ∧
      (s.mode = 0b10000#5 ∨ s.mode = 0b11111#5 → exec (i true) s = .refused .noSpsr) ∧
      (∀ k : Fin 6, spsrIndex s.mode = some k → validMode ((s.returned s.spsrs[k]).extractLsb' 0 5) = true →
        exec (i true) s = .next { State.syncFetch { s with cpsr := s.returned s.spsrs[k] } with
          pc := resumeAddress s.spsrs[k] r })
    (∀ (rot : BitVec 4) (imm8 : BitVec 8),
      claim (fun sBit => op.imm c sBit rn 15#4 rot imm8) ((imm8.setWidth 32).rotateRight (2 * rot.toNat))) ∧
    (∀ (n : BitVec 5) (sh : Shift) (rm : Reg),
      claim (fun sBit => op.reg c sBit rn 15#4 n sh rm) (shiftedBy (s.reg rm) sh n (bit s.cpsr 29)).1) ∧
    (∀ rm : Reg, exec (.cpy c 15#4 rm) s = .next { s with pc := (s.reg rm).extractLsb' 2 30 ++ 0#2 })

/-- TST, TEQ, CMP and CMN write the flags of AND, EOR, SUB and ADD, and nothing else but the PC. CLZ writes the number of zero bits above
the highest one bit, 32 for 0 (40:R758 to R762). -/
def Obligations.ComparisonsAndLeadingZeros : Prop :=
  ∀ (c : Cond) (rn : Reg) (s : State), condHolds c s.cpsr = true →
    (∀ rd rm : Reg, (15#4 ∈ [rd, rm] → exec (.clz c rd rm) s = .refused .registerField) ∧
      (15#4 ∉ [rd, rm] → ∃ n ≤ 32, exec (.clz c rd rm) s = .next (s.wrote rd (BitVec.ofNat 32 n)) ∧
        (s.reg rm).toNat < 2 ^ (32 - n) ∧ (n < 32 → 2 ^ (31 - n) ≤ (s.reg rm).toNat))) ∧
    (∀ (rot : BitVec 4) (imm8 : BitVec 8),
      let b : Word := (imm8.setWidth 32).rotateRight (2 * rot.toNat)
      let sc := if rot = 0#4 then bit s.cpsr 29 else b.msb
      let out (op : Alu) : Outcome := .next { s.stepped with cpsr := op.flags (s.reg rn) b sc s.cpsr }
      exec (.tstImm c rn rot imm8) s = out .and ∧ exec (.teqImm c rn rot imm8) s = out .eor ∧
      exec (.cmpImm c rn rot imm8) s = out .sub ∧ exec (.cmnImm c rn rot imm8) s = out .add) ∧
    (∀ (n : BitVec 5) (sh : Shift) (rm : Reg),
      let x := shiftedBy (s.reg rm) sh n (bit s.cpsr 29)
      let out (op : Alu) : Outcome := .next { s.stepped with cpsr := op.flags (s.reg rn) x.1 x.2 s.cpsr }
      exec (.tstReg c rn n sh rm) s = out .and ∧ exec (.teqReg c rn n sh rm) s = out .eor ∧
      exec (.cmpReg c rn n sh rm) s = out .sub ∧ exec (.cmnReg c rn n sh rm) s = out .add) ∧
    (∀ (rs : Reg) (sh : Shift) (rm : Reg),
      (15#4 ∈ [rn, rs, rm] →
        exec (.tstRegShift c rn rs sh rm) s = .refused .registerField ∧
        exec (.teqRegShift c rn rs sh rm) s = .refused .registerField ∧
        exec (.cmpRegShift c rn rs sh rm) s = .refused .registerField ∧
        exec (.cmnRegShift c rn rs sh rm) s = .refused .registerField) ∧
      (15#4 ∉ [rn, rs, rm] →
        let x := shiftC (s.reg rm) (regShift sh) ((s.reg rs).toNat % 256) (bit s.cpsr 29)
        let out (op : Alu) : Outcome := .next { s.stepped with cpsr := op.flags (s.reg rn) x.1 x.2 s.cpsr }
        exec (.tstRegShift c rn rs sh rm) s = out .and ∧ exec (.teqRegShift c rn rs sh rm) s = out .eor ∧
        exec (.cmpRegShift c rn rs sh rm) s = out .sub ∧ exec (.cmnRegShift c rn rs sh rm) s = out .add))

/-! ### Multiplies and media -/

/-- MUL, MLA, UMULL, UMLAL, SMULL, SMLAL and UMAAL: the low 32 bits or the 64-bit product, with its accumulator, and with S set N
and Z of the result; C and V stay (41:R792 to R798). -/
def Obligations.MultiplyResults : Prop :=
  ∀ (c : Cond) (sBit : Bool) (rd rn rs rm hi lo : Reg),
    let u (s : State) (r : Reg) : DWord := (s.reg r).setWidth 64
    let i (s : State) (r : Reg) : DWord := (s.reg r).signExtend 64
    let acc (s : State) : DWord := s.reg hi ++ s.reg lo
    let nz32 (v : State → Word) (s : State) : Word := if sBit then withNZ s.cpsr (v s).msb (v s == 0#32) else s.cpsr
    let nz64 (v : State → DWord) (s : State) : Word := if sBit then withNZ s.cpsr (v s).msb (v s == 0#64) else s.cpsr
    let mul (s : State) : Word := s.reg rm * s.reg rs
    let mla (s : State) : Word := s.reg rm * s.reg rs + s.reg rn
    let umull (s : State) : DWord := u s rm * u s rs
    let umlal (s : State) : DWord := u s rm * u s rs + acc s
    let smull (s : State) : DWord := i s rm * i s rs
    let smlal (s : State) : DWord := i s rm * i s rs + acc s
    registerResult (.mul c sBit rd rs rm) c [rd, rs, rm] rd mul (nz32 mul) ∧
    registerResult (.mla c sBit rd rn rs rm) c [rd, rn, rs, rm] rd mla (nz32 mla) ∧
    pairResult (.umull c sBit hi lo rs rm) c hi lo rs rm umull (nz64 umull) ∧
    pairResult (.umlal c sBit hi lo rs rm) c hi lo rs rm umlal (nz64 umlal) ∧
    pairResult (.smull c sBit hi lo rs rm) c hi lo rs rm smull (nz64 smull) ∧
    pairResult (.smlal c sBit hi lo rs rm) c hi lo rs rm smlal (nz64 smlal) ∧
    pairResult (.umaal c hi lo rs rm) c hi lo rs rm (fun s => u s rm * u s rs + u s lo + u s hi) (·.cpsr)

/-- QADD, QSUB, QDADD and QDSUB: the sum or difference, with the second operand doubled and limited first in the D forms, limited to
32 signed bits; Q is set where a limit has acted, and is not cleared. SMULxy, SMLAxy, SMULWy, SMLAWy and SMLALxy: signed products of
halfwords, or bits [47:16] of a word by a halfword; an accumulation that leaves the signed 32-bit range sets Q and wraps (41:R799 to R807,
10:R42). -/
def Obligations.SaturatingAndHalfwordMultiplyResults : Prop :=
  ∀ (c : Cond) (rd rn rs rm hi lo : Reg) (x y : Bool),
    let a (s : State) : Int := (s.reg rm).toInt
    let b (s : State) : Int := (s.reg rn).toInt
    let d (s : State) : Int := clampSigned 32 (2 * b s)
    let shape (i : Instr) (x : State → Int) (first : State → Bool) : Prop :=
      registerResult i c [rd, rn, rm] rd (fun s => BitVec.ofInt 32 (clampSigned 32 (x s)))
        (fun s => withQ s.cpsr (first s || clampSigned 32 (x s) != x s))
    shape (.qadd c rn rd rm) (fun s => a s + b s) (fun _ => false) ∧
    shape (.qsub c rn rd rm) (fun s => a s - b s) (fun _ => false) ∧
    shape (.qdadd c rn rd rm) (fun s => a s + d s) (fun s => d s != 2 * b s) ∧
    shape (.qdsub c rn rd rm) (fun s => a s - d s) (fun s => d s != 2 * b s) ∧
    let p (s : State) : Word := (halfOf (s.reg rm) x).signExtend 32 * (halfOf (s.reg rs) y).signExtend 32
    let q (s : State) : Word := ((s.reg rm).signExtend 48 * (halfOf (s.reg rs) y).signExtend 48).extractLsb' 16 32
    let leaves (v : State → Word) (s : State) : Bool := (v s).toInt + (s.reg rn).toInt != (v s + s.reg rn).toInt
    registerResult (.smulXY c rd rs y x rm) c [rd, rs, rm] rd p (·.cpsr) ∧
    registerResult (.smlaXY c rd rn rs y x rm) c [rd, rn, rs, rm] rd (fun s => p s + s.reg rn)
      (fun s => withQ s.cpsr (leaves p s)) ∧
    registerResult (.smulWY c rd rs y rm) c [rd, rs, rm] rd q (·.cpsr) ∧
    registerResult (.smlaWY c rd rn rs y rm) c [rd, rn, rs, rm] rd (fun s => q s + s.reg rn)
      (fun s => withQ s.cpsr (leaves q s)) ∧
    pairResult (.smlalXY c hi lo rs y x rm) c hi lo rs rm
      (fun s => (s.reg hi ++ s.reg lo : DWord) + (p s).signExtend 64) (·.cpsr)

/-- SMUAD, SMUSD, SMLAD, SMLSD, SMLALD, SMLSLD and their X forms: the sum or difference of the two halfword products, with the
halves of Rs exchanged in the X forms, plus an accumulator; Q where the exact sum leaves the signed 32-bit range. SMMUL, SMMLA,
SMMLS and their R forms: bits [63:32] of the 64-bit sum, with 0x80000000 added in the R forms (41:R825 to R842). -/
def Obligations.DualAndMostSignificantMultiplyResults : Prop :=
  ∀ (c : Cond) (rd rn rs rm hi lo : Reg),
    let half (s : State) (r : Reg) (top : Bool) : Int := (halfOf (s.reg r) top).toInt
    let sum (x : Bool) (s : State) : Int := half s rm false * half s rs x + half s rm true * half s rs (!x)
    let dif (x : Bool) (s : State) : Int := half s rm false * half s rs x - half s rm true * half s rs (!x)
    let q (e : State → Int) (s : State) : Word := withQ s.cpsr (decide (e s < -2 ^ 31 ∨ 2 ^ 31 ≤ e s))
    let plus (e : State → Int) (s : State) : Int := e s + (s.reg rn).toInt
    let one (i : Instr) (fields : List Reg) (e : State → Int) : Prop :=
      registerResult i c fields rd (fun s => BitVec.ofInt 32 (e s)) (q e)
    let noQ (i : Instr) (e : State → Int) : Prop :=
      registerResult i c [rd, rs, rm] rd (fun s => BitVec.ofInt 32 (e s)) (·.cpsr)
    let long (i : Instr) (e : State → Int) : Prop :=
      pairResult i c hi lo rs rm (fun s => (s.reg hi ++ s.reg lo : DWord) + BitVec.ofInt 64 (e s)) (·.cpsr)
    let wide (s : State) (r : Reg) : DWord := (s.reg r).signExtend 64
    let top (v : DWord) : Word := v.extractLsb' 32 32
    let acc (s : State) : DWord := s.reg rn ++ 0#32
    one (.smuad c rd rs rm) [rd, rs, rm] (sum false) ∧ one (.smuadx c rd rs rm) [rd, rs, rm] (sum true) ∧
    noQ (.smusd c rd rs rm) (dif false) ∧ noQ (.smusdx c rd rs rm) (dif true) ∧
    one (.smlad c rd rn rs rm) [rd, rn, rs, rm] (plus (sum false)) ∧
    one (.smladx c rd rn rs rm) [rd, rn, rs, rm] (plus (sum true)) ∧
    one (.smlsd c rd rn rs rm) [rd, rn, rs, rm] (plus (dif false)) ∧
    one (.smlsdx c rd rn rs rm) [rd, rn, rs, rm] (plus (dif true)) ∧
    long (.smlald c hi lo rs rm) (sum false) ∧ long (.smlaldx c hi lo rs rm) (sum true) ∧
    long (.smlsld c hi lo rs rm) (dif false) ∧ long (.smlsldx c hi lo rs rm) (dif true) ∧
    registerResult (.smmul c rd rs rm) c [rd, rs, rm] rd (fun s => top (wide s rm * wide s rs)) (·.cpsr) ∧
    registerResult (.smmulr c rd rs rm) c [rd, rs, rm] rd (fun s => top (wide s rm * wide s rs + 0x80000000#64)) (·.cpsr) ∧
    registerResult (.smmla c rd rn rs rm) c [rd, rn, rs, rm] rd
      (fun s => top (acc s + wide s rm * wide s rs)) (·.cpsr) ∧
    registerResult (.smmlar c rd rn rs rm) c [rd, rn, rs, rm] rd
      (fun s => top (acc s + wide s rm * wide s rs + 0x80000000#64)) (·.cpsr) ∧
    registerResult (.smmls c rd rn rs rm) c [rd, rn, rs, rm] rd
      (fun s => top (acc s - wide s rm * wide s rs)) (·.cpsr) ∧
    registerResult (.smmlsr c rd rn rs rm) c [rd, rn, rs, rm] rd
      (fun s => top (acc s - wide s rm * wide s rs + 0x80000000#64)) (·.cpsr)

/-- The 36 parallel additions and subtractions: the lanes of the result, and GE[3:0] for the prefixes S and U alone (41:R808,
R1700 to R1735, 10:R44). -/
def Obligations.ParallelAddSubtractResults : Prop :=
  ∀ (k : Par) (op : ParOp) (c : Cond) (rn rd rm : Reg),
    registerResult (k.instr op c rn rd rm) c [rn, rd, rm] rd (fun s => k.value op (s.reg rn) (s.reg rm))
      (fun s => if k = .s ∨ k = .u then withGE s.cpsr (k.geValue op (s.reg rn) (s.reg rm)) else s.cpsr)

/-- SXTB, SXTH, SXTB16, UXTB, UXTH, UXTB16 and the forms that add to Rn: Rm rotated by bytes, a part of it extended; the forms with
16 add each halfword by itself (41:R811 to R823). -/
def Obligations.ExtensionResults : Prop :=
  ∀ (c : Cond) (rn rd : Reg) (rot : BitVec 2) (rm : Reg),
    let v (s : State) : Word := (s.reg rm).rotateRight (8 * rot.toNat)
    let one (i : Instr) (e : State → Word) : Prop := registerResult i c [rd, rm] rd e (·.cpsr)
    let add (i : Instr) (e : State → Word) : Prop := registerResult i c [rd, rn, rm] rd (fun s => s.reg rn + e s) (·.cpsr)
    let add16 (i : Instr) (e : State → Word) : Prop := registerResult i c [rd, rn, rm] rd
      (fun s => (halfOf (s.reg rn) true + halfOf (e s) true) ++ (halfOf (s.reg rn) false + halfOf (e s) false)) (·.cpsr)
    let sb (s : State) : Word := (byteIn (v s) 0).signExtend 32
    let ub (s : State) : Word := (byteIn (v s) 0).setWidth 32
    let sh (s : State) : Word := (halfOf (v s) false).signExtend 32
    let uh (s : State) : Word := (halfOf (v s) false).setWidth 32
    let sb16 (s : State) : Word := (byteIn (v s) 2).signExtend 16 ++ (byteIn (v s) 0).signExtend 16
    let ub16 (s : State) : Word := (byteIn (v s) 2).setWidth 16 ++ (byteIn (v s) 0).setWidth 16
    one (.sxtb c rd rot rm) sb ∧ one (.uxtb c rd rot rm) ub ∧ one (.sxth c rd rot rm) sh ∧ one (.uxth c rd rot rm) uh ∧
    one (.sxtb16 c rd rot rm) sb16 ∧ one (.uxtb16 c rd rot rm) ub16 ∧
    add (.sxtab c rn rd rot rm) sb ∧ add (.uxtab c rn rd rot rm) ub ∧ add (.sxtah c rn rd rot rm) sh ∧
    add (.uxtah c rn rd rot rm) uh ∧ add16 (.sxtab16 c rn rd rot rm) sb16 ∧ add16 (.uxtab16 c rn rd rot rm) ub16

/-- SSAT, USAT, SSAT16 and USAT16 limit to the range that the immediate gives and set Q where they limit; USAD8 and USADA8 sum
absolute differences of bytes; SEL selects bytes by GE; PKHBT and PKHTB pack halfwords; REV, REV16 and REVSH reverse bytes
(41:R809, R810, R843 to R852). -/
def Obligations.SaturateSelectPackReverseResults : Prop :=
  ∀ (c : Cond) (rn rd rs rm : Reg) (sat5 : BitVec 5) (sat4 : BitVec 4) (n : BitVec 5) (sh : Bool),
    let operand (s : State) : Int :=
      if sh then (s.reg rm).toInt / 2 ^ (if n = 0#5 then 32 else n.toNat) else (s.reg rm <<< n.toNat).toInt
    let limited (i : Instr) (f : Int → Int) : Prop :=
      registerResult i c [rd, rm] rd (fun s => BitVec.ofInt 32 (f (operand s)))
        (fun s => withQ s.cpsr (f (operand s) != operand s))
    let halves (i : Instr) (f : Int → Int) : Prop :=
      let h (s : State) (top : Bool) : Int := (halfOf (s.reg rm) top).toInt
      registerResult i c [rd, rm] rd (fun s => BitVec.ofInt 16 (f (h s true)) ++ BitVec.ofInt 16 (f (h s false)))
        (fun s => withQ s.cpsr (f (h s true) != h s true || f (h s false) != h s false))
    let difference (s : State) (k : Nat) : Nat :=
      max (byteIn (s.reg rm) k).toNat (byteIn (s.reg rs) k).toNat - min (byteIn (s.reg rm) k).toNat (byteIn (s.reg rs) k).toNat
    let total (s : State) : Word := BitVec.ofNat 32 (difference s 0 + difference s 1 + difference s 2 + difference s 3)
    let plain (i : Instr) (fields : List Reg) (e : State → Word) : Prop := registerResult i c fields rd e (·.cpsr)
    let b (s : State) (k : Nat) : Byte := byteIn (s.reg rm) k
    let pick (s : State) (k : Nat) : Byte := if bit s.cpsr (16 + k) then byteIn (s.reg rn) k else byteIn (s.reg rm) k
    limited (.ssat c sat5 rd n sh rm) (clampSigned (sat5.toNat + 1)) ∧
    limited (.usat c sat5 rd n sh rm) (clampUnsigned sat5.toNat) ∧
    halves (.ssat16 c sat4 rd rm) (clampSigned (sat4.toNat + 1)) ∧
    halves (.usat16 c sat4 rd rm) (clampUnsigned sat4.toNat) ∧
    plain (.usad8 c rd rs rm) [rd, rs, rm] total ∧
    plain (.usada8 c rd rn rs rm) [rd, rn, rs, rm] (fun s => s.reg rn + total s) ∧
    plain (.sel c rn rd rm) [rd, rn, rm] (fun s => pick s 3 ++ pick s 2 ++ pick s 1 ++ pick s 0) ∧
    plain (.pkhbt c rn rd n rm) [rd, rn, rm] (fun s => halfOf (s.reg rm <<< n.toNat) true ++ halfOf (s.reg rn) false) ∧
    plain (.pkhtb c rn rd n rm) [rd, rn, rm] (fun s => halfOf (s.reg rn) true ++
      halfOf ((s.reg rm).sshiftRight (if n = 0#5 then 32 else n.toNat)) false) ∧
    plain (.rev c rd rm) [rd, rm] (fun s => b s 0 ++ b s 1 ++ b s 2 ++ b s 3) ∧
    plain (.rev16 c rd rm) [rd, rm] (fun s => b s 2 ++ b s 3 ++ b s 0 ++ b s 1) ∧
    plain (.revsh c rd rm) [rd, rm] (fun s => (b s 0 ++ b s 1).signExtend 32)

/-! ### Loads and stores of one register -/

/-- LDR, LDRB, LDRH, LDRSB, LDRSH, LDRT and LDRBT in every addressing form, with a destination other than R15, in the plain memory
setting at an aligned address: the destination gets the bytes of memory in the byte order of CPSR.E, extended; the base is
updated where the form says so; nothing else changes (42:R860, R861, R862, R866, R868 to R873, 20:R508). -/
def Obligations.LoadResults : Prop :=
  ∀ (c : Cond) (p u w : Bool) (rn rd rm : Reg) (off12 : BitVec 12) (n : BitVec 5) (sh : Shift) (immH immL : BitVec 4),
    let imm (_ : State) : Word := off12.setWidth 32
    let scaled (s : State) : Word := (shiftedBy (s.reg rm) sh n (bit s.cpsr 29)).1
    let split (_ : State) : Word := (immH ++ immL : BitVec 8).setWidth 32
    let index (s : State) : Word := s.reg rm
    let word (s : State) (a : Word) : Word := s.memWord a
    let byte (s : State) (a : Word) : Word := (s.memByte a 0).setWidth 32
    let sbyte (s : State) (a : Word) : Word := (s.memByte a 0).signExtend 32
    let half (s : State) (a : Word) : Word := (s.memHalf a).setWidth 32
    let shalf (s : State) (a : Word) : Word := (s.memHalf a).signExtend 32
    loadResult (.ldrImm c p u w rn rd off12) c p u w rn rd imm 4 True word ∧
    loadResult (.ldrbImm c p u w rn rd off12) c p u w rn rd imm 1 True byte ∧
    loadResult (.ldrtImm c u rn rd off12) c false u true rn rd imm 4 True word ∧
    loadResult (.ldrbtImm c u rn rd off12) c false u true rn rd imm 1 True byte ∧
    loadResult (.ldrReg c p u w rn rd n sh rm) c p u w rn rd scaled 4 (legalOffset p w rn rm) word ∧
    loadResult (.ldrbReg c p u w rn rd n sh rm) c p u w rn rd scaled 1 (legalOffset p w rn rm) byte ∧
    loadResult (.ldrtReg c u rn rd n sh rm) c false u true rn rd scaled 4 (legalOffset false true rn rm) word ∧
    loadResult (.ldrbtReg c u rn rd n sh rm) c false u true rn rd scaled 1 (legalOffset false true rn rm) byte ∧
    loadResult (.ldrhImm c p u w rn rd immH immL) c p u w rn rd split 2 (legalMode3 p w) half ∧
    loadResult (.ldrsbImm c p u w rn rd immH immL) c p u w rn rd split 1 (legalMode3 p w) sbyte ∧
    loadResult (.ldrshImm c p u w rn rd immH immL) c p u w rn rd split 2 (legalMode3 p w) shalf ∧
    loadResult (.ldrhReg c p u w rn rd rm) c p u w rn rd index 2 (legalMode3 p w ∧ legalOffset p w rn rm) half ∧
    loadResult (.ldrsbReg c p u w rn rd rm) c p u w rn rd index 1 (legalMode3 p w ∧ legalOffset p w rn rm) sbyte ∧
    loadResult (.ldrshReg c p u w rn rd rm) c p u w rn rd index 2 (legalMode3 p w ∧ legalOffset p w rn rm) shalf

/-- STR, STRB, STRH, STRT and STRBT in every addressing form, in the plain memory setting at an aligned address: the bytes of the
register lie at the address in the byte order of CPSR.E, every other byte of memory is as before, the base is updated where the
form says so, and nothing else changes. What STR and STRT store for R15 is `storeValue` (DESIGN CHOICE: log 22) (42:R860, R861,
R875 to R879, 20:R509). -/
def Obligations.StoreResults : Prop :=
  ∀ (c : Cond) (p u w : Bool) (rn rd rm : Reg) (off12 : BitVec 12) (n : BitVec 5) (sh : Shift) (immH immL : BitVec 4),
    let imm (_ : State) : Word := off12.setWidth 32
    let scaled (s : State) : Word := (shiftedBy (s.reg rm) sh n (bit s.cpsr 29)).1
    let split (_ : State) : Word := (immH ++ immL : BitVec 8).setWidth 32
    let index (s : State) : Word := s.reg rm
    let plain : Prop := rd ≠ 15#4
    storeResult (.strImm c p u w rn rd off12) c p u w rn rd imm 4 True ∧
    storeResult (.strbImm c p u w rn rd off12) c p u w rn rd imm 1 plain ∧
    storeResult (.strtImm c u rn rd off12) c false u true rn rd imm 4 True ∧
    storeResult (.strbtImm c u rn rd off12) c false u true rn rd imm 1 plain ∧
    storeResult (.strReg c p u w rn rd n sh rm) c p u w rn rd scaled 4 (legalOffset p w rn rm) ∧
    storeResult (.strbReg c p u w rn rd n sh rm) c p u w rn rd scaled 1 (plain ∧ legalOffset p w rn rm) ∧
    storeResult (.strtReg c u rn rd n sh rm) c false u true rn rd scaled 4 (legalOffset false true rn rm) ∧
    storeResult (.strbtReg c u rn rd n sh rm) c false u true rn rd scaled 1 (plain ∧ legalOffset false true rn rm) ∧
    storeResult (.strhImm c p u w rn rd immH immL) c p u w rn rd split 2 (plain ∧ legalMode3 p w) ∧
    storeResult (.strhReg c p u w rn rd rm) c p u w rn rd index 2 (plain ∧ legalMode3 p w ∧ legalOffset p w rn rm)

/-- LDR with R15 as the destination branches to the loaded word: with L4 = 1 without a change of state, with L4 = 0 bit 0 becomes T;
a word with bits [1:0] = 10 is then refused (42:R867). -/
def Obligations.LoadIntoPcResults : Prop :=
  ∀ (c : Cond) (p u w : Bool) (rn rm : Reg) (off12 : BitVec 12) (n : BitVec 5) (sh : Shift) (s : State),
    condHolds c s.cpsr = true → s.plainMemory → s.halted = false → s.thumb = false → (p = false ∨ w = true → rn ≠ 15#4) →
    let claim (i : Instr) (offset : Word) : Prop :=
      (accessAddress p u (s.reg rn) offset).toNat % 4 = 0 →
      let v := s.memWord (accessAddress p u (s.reg rn) offset)
      let t : State := { s with regs := s.baseUpdated p u w rn offset }
      (s.controlBit 15 = true → exec i s = .next { t with pc := v.extractLsb' 2 30 ++ 0#2 }) ∧
      (s.controlBit 15 = false → bit v 0 = true →
        exec i s = .next { t with cpsr := s.cpsr ||| 0x20#32, pc := v.extractLsb' 1 31 ++ 0#1 }) ∧
      (s.controlBit 15 = false → bit v 0 = false → bit v 1 = false → exec i s = .next { t with pc := v }) ∧
      (s.controlBit 15 = false → bit v 0 = false → bit v 1 = true → exec i s = .refused .branchTarget)
    claim (.ldrImm c p u w rn 15#4 off12) (off12.setWidth 32) ∧
    (legalOffset p w rn rm → claim (.ldrReg c p u w rn 15#4 n sh rm) (shiftedBy (s.reg rm) sh n (bit s.cpsr 29)).1)

/-- LDRD and STRD transfer an even register and the next one, at the address and 4 above it, in the plain memory setting at an
8-aligned address; an odd register is an Undefined instruction, and R14 is refused (42:R874, R880). -/
def Obligations.DoublewordTransfers : Prop :=
  ∀ (c : Cond) (p u w : Bool) (rn rd rm : Reg) (immH immL : BitVec 4) (s : State), condHolds c s.cpsr = true →
    let split : Word := (immH ++ immL : BitVec 8).setWidth 32
    (bit rd 0 = true →
      raisesUndefined (.ldrdImm c p u w rn rd immH immL) s ∧ raisesUndefined (.ldrdReg c p u w rn rd rm) s ∧
      raisesUndefined (.strdImm c p u w rn rd immH immL) s ∧ raisesUndefined (.strdReg c p u w rn rd rm) s) ∧
    (rd = 14#4 →
      exec (.ldrdImm c p u w rn rd immH immL) s = .refused .registerField ∧
      exec (.ldrdReg c p u w rn rd rm) s = .refused .registerField ∧
      exec (.strdImm c p u w rn rd immH immL) s = .refused .registerField ∧
      exec (.strdReg c p u w rn rd rm) s = .refused .registerField) ∧
    (s.plainMemory → bit rd 0 = false → rd ≠ 14#4 → legalMode3 p w →
      let load (i : Instr) (offset : Word) : Prop :=
        let a := accessAddress p u (s.reg rn) offset
        a.toNat % 8 = 0 → (p = false ∨ w = true → rn ≠ 15#4 ∧ rn ≠ rd ∧ rn ≠ rd + 1#4) →
        exec i s = .next { s with
          regs := ((s.baseUpdated p u w rn offset).set (bankedReg s.mode rd) (s.memWord a)).set (bankedReg s.mode (rd + 1#4))
            (s.memWord (a + 4#32))
          pc := s.pcAfter }
      let store (i : Instr) (offset : Word) : Prop :=
        let a := accessAddress p u (s.reg rn) offset
        a.toNat % 8 = 0 → (p = false ∨ w = true → rn ≠ 15#4 ∧ rn ≠ rd) →
        ∃ t, exec i s = .next t ∧ wordsStored s t [(a, s.reg rd), (a + 4#32, s.reg (rd + 1#4))] ∧
          t = { s with mem := t.mem, stale := t.stale, regs := s.baseUpdated p u w rn offset, pc := s.pcAfter }
      load (.ldrdImm c p u w rn rd immH immL) split ∧
      (legalOffset p w rn rm → rm ≠ rd → rm ≠ rd + 1#4 → load (.ldrdReg c p u w rn rd rm) (s.reg rm)) ∧
      store (.strdImm c p u w rn rd immH immL) split ∧
      (legalOffset p w rn rm → store (.strdReg c p u w rn rd rm) (s.reg rm)))

/-- The register fields and forms that the addressing modes do not allow are refused by name, for every load and store of one register
and of a doubleword: R15 as the register of a load or store of less than a word or with User permission, but for STRT; a base that is
updated and is R15 or a transferred register; R15, or an updated base, as the offset register, and for LDRD a loaded register; and in
addressing mode 3 the form with P = 0 and W = 1 (42:R860, R861, R868, R874; log 39). -/
def Obligations.AddressingFormRefusals : Prop :=
  ∀ (c : Cond) (p u w : Bool) (rn rd rm : Reg) (off12 : BitVec 12) (n : BitVec 5) (sh : Shift) (immH immL : BitVec 4) (s : State),
    condHolds c s.cpsr = true →
    let badField (is : List Instr) : Prop := ∀ i ∈ is, exec i s = .refused .registerField
    let badBase (is : List Instr) : Prop := ∀ i ∈ is, exec i s = .refused .writeback
    let updates : Prop := p = false ∨ w = true
    let narrow (r m : Reg) : List Instr := [.ldrbImm c p u w rn r off12, .ldrbReg c p u w rn r n sh m,
      .ldrhImm c p u w rn r immH immL, .ldrhReg c p u w rn r m, .ldrsbImm c p u w rn r immH immL, .ldrsbReg c p u w rn r m,
      .ldrshImm c p u w rn r immH immL, .ldrshReg c p u w rn r m]
    let user (r m : Reg) : List Instr := [.ldrtImm c u rn r off12, .ldrtReg c u rn r n sh m, .ldrbtImm c u rn r off12,
      .ldrbtReg c u rn r n sh m]
    let stores (r m : Reg) : List Instr := [.strbImm c p u w rn r off12, .strbReg c p u w rn r n sh m,
      .strhImm c p u w rn r immH immL, .strhReg c p u w rn r m]
    badField (narrow 15#4 rm ++ user 15#4 rm) ∧
    ((updates → rn ≠ 15#4) → badField (stores 15#4 rm)) ∧
    (rn ≠ 15#4 → badField [.strbtImm c u rn 15#4 off12, .strbtReg c u rn 15#4 n sh rm]) ∧
    (updates → rn = 15#4 ∨ rn = rd →
      badBase ([.ldrImm c p u w rn rd off12, .ldrReg c p u w rn rd n sh rm, .strImm c p u w rn rd off12,
        .strReg c p u w rn rd n sh rm] ++ stores rd rm) ∧ (rd ≠ 15#4 → badBase (narrow rd rm))) ∧
    (rn = 15#4 ∨ rn = rd →
      badBase [.strtImm c u rn rd off12, .strtReg c u rn rd n sh rm, .strbtImm c u rn rd off12, .strbtReg c u rn rd n sh rm] ∧
      (rd ≠ 15#4 → badBase (user rd rm))) ∧
    ((updates → rn ≠ 15#4 ∧ rn ≠ rd) →
      badField [.ldrReg c p u w rn rd n sh 15#4, .ldrbReg c p u w rn rd n sh 15#4, .strReg c p u w rn rd n sh 15#4,
        .strbReg c p u w rn rd n sh 15#4] ∧
      (legalMode3 p w → badField [.ldrhReg c p u w rn rd 15#4, .ldrsbReg c p u w rn rd 15#4, .ldrshReg c p u w rn rd 15#4,
        .strhReg c p u w rn rd 15#4])) ∧
    (rn ≠ 15#4 → rn ≠ rd →
      badField [.ldrtReg c u rn rd n sh 15#4, .ldrbtReg c u rn rd n sh 15#4, .strtReg c u rn rd n sh 15#4,
        .strbtReg c u rn rd n sh 15#4] ∧
      badBase [.strtReg c u rn rd n sh rn] ∧
      (rd ≠ 15#4 → badBase [.ldrtReg c u rn rd n sh rn, .ldrbtReg c u rn rd n sh rn, .strbtReg c u rn rd n sh rn]) ∧
      (updates → badBase [.ldrReg c p u w rn rd n sh rn, .strReg c p u w rn rd n sh rn] ∧
        (rd ≠ 15#4 → badBase [.ldrbReg c p u w rn rd n sh rn, .strbReg c p u w rn rd n sh rn]) ∧
        (rd ≠ 15#4 → legalMode3 p w → badBase [.ldrhReg c p u w rn rd rn, .ldrsbReg c p u w rn rd rn,
          .ldrshReg c p u w rn rd rn, .strhReg c p u w rn rd rn]))) ∧
    (rd ≠ 15#4 → badBase [.ldrhImm c false u true rn rd immH immL, .ldrhReg c false u true rn rd rm,
      .ldrsbImm c false u true rn rd immH immL, .ldrsbReg c false u true rn rd rm, .ldrshImm c false u true rn rd immH immL,
      .ldrshReg c false u true rn rd rm, .strhImm c false u true rn rd immH immL, .strhReg c false u true rn rd rm]) ∧
    (bit rd 0 = false → rd ≠ 14#4 →
      badBase [.ldrdImm c false u true rn rd immH immL, .ldrdReg c false u true rn rd rm, .strdImm c false u true rn rd immH immL,
        .strdReg c false u true rn rd rm] ∧
      (legalMode3 p w →
        (updates → rn = 15#4 ∨ rn = rd → badBase [.ldrdImm c p u w rn rd immH immL, .ldrdReg c p u w rn rd rm,
          .strdImm c p u w rn rd immH immL, .strdReg c p u w rn rd rm]) ∧
        (updates → rn = rd + 1#4 → badBase [.ldrdImm c p u w rn rd immH immL, .ldrdReg c p u w rn rd rm]) ∧
        ((updates → rn ≠ 15#4 ∧ rn ≠ rd ∧ rn ≠ rd + 1#4) →
          badField [.ldrdReg c p u w rn rd 15#4, .strdReg c p u w rn rd 15#4, .ldrdReg c p u w rn rd rd,
            .ldrdReg c p u w rn rd (rd + 1#4)] ∧
          (updates → badBase [.ldrdReg c p u w rn rd rn, .strdReg c p u w rn rd rn]))))

/-- A misaligned access that the rule calls an Alignment fault takes a precise Data Abort before it reaches memory: the DFSR has the
Alignment status and the direction, the FAR the MVA, R14_abt the instruction's address and 8, SPSR_abt the CPSR; no other register
and no memory changes, the base among them. LDR, STR, LDRH, STRH with A = 1; LDREX and SWP with A = 1 or U = 1 (20:R513, R514, R518,
21:R637, R640, 12:R173, 60:R1219, R1220). -/
def Obligations.MisalignedAccessesAbort : Prop :=
  ∀ (c : Cond) (p u w : Bool) (rn rd rm : Reg) (off12 : BitVec 12) (immH immL : BitVec 4) (s : State),
    condHolds c s.cpsr = true → s.halted = false → bit s.cpsr 9 = false → rd ≠ 15#4 → rn ≠ 15#4 → rm ≠ 15#4 → rn ≠ rd → rn ≠ rm →
    let aborts (i : Instr) (va : Word) (status : Word) : Prop :=
      ∃ t, exec i s = .next t ∧ t.mode = 0b10111#5 ∧ t.regIn 0b10111#5 14#4 = s.pc + 8#32 ∧ t.spsrs[3] = s.cpsr &&& psrMask ∧
        (t.cp15.bank s.nsState).far = s.mva va ∧ (t.cp15.bank s.nsState).dfsr &&& 0x1C0F#32 = status ∧
        t.pc = plainVector s.cp15 s.nsState 0x10#32 ∧
        (∀ j : Fin 32, j ≠ 25 → t.regs[j] = s.regs[j]) ∧ t.mem = s.mem ∧ t.memNs = s.memNs ∧ t.dcache = s.dcache ∧
        t.itcm = s.itcm ∧ t.dtcm = s.dtcm
    let word : Word := accessAddress p u (s.reg rn) (off12.setWidth 32)
    let half : Word := accessAddress p u (s.reg rn) ((immH ++ immL : BitVec 8).setWidth 32)
    (s.controlBit 1 = true → word.toNat % 4 ≠ 0 →
      aborts (.ldrImm c p u w rn rd off12) word 0x001#32 ∧ aborts (.strImm c p u w rn rd off12) word 0x801#32) ∧
    (s.controlBit 1 = true → half.toNat % 2 ≠ 0 → legalMode3 p w →
      aborts (.ldrhImm c p u w rn rd immH immL) half 0x001#32 ∧ aborts (.strhImm c p u w rn rd immH immL) half 0x801#32) ∧
    (s.controlBit 1 = true ∨ s.controlBit 22 = true → (s.reg rn).toNat % 4 ≠ 0 →
      aborts (.ldrex c rn rd) (s.reg rn) 0x001#32 ∧ aborts (.swp c rn rd rm) (s.reg rn) 0x001#32)

/-- Accesses at any address with A = 0. With U = 0 a load of a word gives the word of the aligned address, rotated right by 8 times the
misalignment; a store of a word, a halfword and a block of words use the aligned address, and the base of a block is still updated from
the unaligned one. With U = 1 a word and a halfword are the bytes from the address up, in a line or over the end of one (20:R508, R509, R514,
R519, R520, 42:R866, R870, R875, R877, 43:R911, R914, R917). The setting has the MMU off, where data memory is Strongly Ordered; that an
unaligned access runs there is the model's choice (DESIGN CHOICE: log 44). For stores over the end of a line and blocks the FCSE PID is 0. -/
def Obligations.UnalignedAccesses : Prop :=
  ∀ (c : Cond) (p u w : Bool) (rn rd : Reg) (off12 : BitVec 12) (immH immL : BitVec 4) (list : BitVec 16) (s : State),
    condHolds c s.cpsr = true → s.plainMemory → rd ≠ 15#4 → s.controlBit 1 = false →
    let a := offsetAddress u (s.reg rn) (off12.setWidth 32)
    let h := offsetAddress u (s.reg rn) ((immH ++ immL : BitVec 8).setWidth 32)
    let even (x : Word) : Word := x.extractLsb' 1 31 ++ 0#1
    let low (x : Word) : Word := x.extractLsb' 2 30 ++ 0#2
    let ldr : Instr := .ldrImm c true u false rn rd off12
    let str : Instr := .strImm c true u false rn rd off12
    let ldrh : Instr := .ldrhImm c true u false rn rd immH immL
    let ldrsh : Instr := .ldrshImm c true u false rn rd immH immL
    let strh : Instr := .strhImm c true u false rn rd immH immL
    let stores (i : Instr) (x : Word) (n : Nat) : Prop :=
      ∃ t, exec i s = .next t ∧ bytesStored s t x (s.storeOrder n (s.reg rd)) ∧
        t = { s with mem := t.mem, stale := t.stale, pc := s.pcAfter }
    (s.controlBit 22 = false →
      exec ldr s = .next (s.wrote rd ((s.memWord (low a)).rotateRight (8 * (a.toNat % 4)))) ∧ stores str (low a) 4 ∧
      exec ldrh s = .next (s.wrote rd ((s.memHalf (even h)).setWidth 32)) ∧
      exec ldrsh s = .next (s.wrote rd ((s.memHalf (even h)).signExtend 32)) ∧ stores strh (even h) 2 ∧
      (list ≠ 0#16 → rn ≠ 15#4 →
        ((w = true → bit list rn.toNat = false) → bit list 15 = false →
          ∃ t, exec (.ldm1 c p u w rn list) s = .next t ∧
            modeRegs s t s.mode (fun r =>
              if bit list r.toNat then s.memWord (low (slotAddress p u (s.reg rn) list r))
              else if w && r == rn then blockEnd u (s.reg rn) (listSize list) else s.regIn s.mode r) ∧
            t = { s with regs := t.regs, pc := s.pcAfter }) ∧
        ((s.cp15.bank s.nsState).fcse = 0#32 → (w = true → bit list rn.toNat = true → below list rn = 0) →
          ∃ t, exec (.stm1 c p u w rn list) s = .next t ∧
            blockStored s t list (fun r => low (slotAddress p u (s.reg rn) list r)) s.reg ∧
            t = { s with
              mem := t.mem
              stale := t.stale
              regs := if w then s.regs.set (bankedReg s.mode rn) (blockEnd u (s.reg rn) (listSize list)) else s.regs
              pc := s.pcAfter }))) ∧
    (s.controlBit 22 = true →
      let byte (x : Word) (k : Nat) : Byte := s.memByte (x + BitVec.ofNat 32 k) 0
      let half : BitVec 16 := if bit s.cpsr 9 then byte h 0 ++ byte h 1 else byte h 1 ++ byte h 0
      let word : Word :=
        if bit s.cpsr 9 then byte a 0 ++ byte a 1 ++ byte a 2 ++ byte a 3 else byte a 3 ++ byte a 2 ++ byte a 1 ++ byte a 0
      let storesBytes (i : Instr) (x : Word) (n : Nat) : Prop :=
        ∃ t, exec i s = .next t ∧
          (∀ k < n, t.byteAt .external (s.mva (x + BitVec.ofNat 32 k)).toNat = (s.storeOrder n (s.reg rd)).getD k 0#8) ∧
          (∀ b : Nat, (∀ k < n, b ≠ (s.mva (x + BitVec.ofNat 32 k)).toNat) → t.byteAt .external b = s.byteAt .external b) ∧
          t = { s with mem := t.mem, stale := t.stale, pc := s.pcAfter }
      exec ldr s = .next (s.wrote rd word) ∧ exec ldrh s = .next (s.wrote rd (half.setWidth 32)) ∧
      exec ldrsh s = .next (s.wrote rd (half.signExtend 32)) ∧
      ((s.cp15.bank s.nsState).fcse = 0#32 ∨ a.toNat % 32 ≤ 28 → storesBytes str a 4) ∧
      ((s.cp15.bank s.nsState).fcse = 0#32 ∨ h.toNat % 32 ≤ 30 → storesBytes strh h 2))

/-- SWP and SWPB load from the address in Rn into Rd and store the old value of Rm there; equal registers and R15 are refused
(44:R954, R955). -/
def Obligations.SwapResults : Prop :=
  ∀ (c : Cond) (rn rd rm : Reg) (s : State), condHolds c s.cpsr = true →
    (15#4 ∈ [rn, rd, rm] ∨ rn = rd ∨ rn = rm →
      exec (.swp c rn rd rm) s = .refused .registerField ∧ exec (.swpb c rn rd rm) s = .refused .registerField) ∧
    (s.plainMemory → 15#4 ∉ [rn, rd, rm] → rn ≠ rd → rn ≠ rm →
      let a := s.reg rn
      let after (t : State) (v : Word) : State :=
        { s with mem := t.mem, stale := t.stale, regs := s.regs.set (bankedReg s.mode rd) v, pc := s.pcAfter }
      (a.toNat % 4 = 0 → ∃ t, exec (.swp c rn rd rm) s = .next t ∧ bytesStored s t a (s.storeOrder 4 (s.reg rm)) ∧
        t = after t (s.memWord a)) ∧
      (∃ t, exec (.swpb c rn rd rm) s = .next t ∧ bytesStored s t a (s.storeOrder 1 (s.reg rm)) ∧
        t = after t ((s.memByte a 0).setWidth 32)))

/-- LDREX, LDREXB, LDREXH and LDREXD load and tag the local monitor with the address and size. STREX, STREXB, STREXH and STREXD store
and give 0 where both monitors hold that tag, and give 1 and store nothing where one of them does not; either way the local
monitor is open afterwards (44:R940 to R951, 23:R1475, R1476). Three clauses are the model's choice: that a tag of another address or size does
not let a store pass (92:D24), that the global monitor is this processor's tag alone (DESIGN CHOICE: log 23), and that LDREXD and STREXD of
an odd register, as of R14, are refused (DESIGN CHOICE: log 48). The setting has the MMU off, where all data memory is Shared: a load
tags the global monitor too, and a store that passes leaves it without a tag. -/
def Obligations.ExclusiveAccessResults : Prop :=
  ∀ (c : Cond) (rn rd rm : Reg) (s : State), condHolds c s.cpsr = true → s.plainMemory → rn ≠ 15#4 →
    let a := s.reg rn
    let tag (size : Nat) : Tag := { addr := s.mva a, size := size, ns := s.nsState }
    let loaded (i : Instr) (size : Nat) (regs : Vector Word 32) : Prop :=
      a.toNat % size = 0 → ∃ t, exec i s = .next t ∧
        t = { s with regs := regs, localMon := some (tag size), globalMon := some (tag size), pc := s.pcAfter }
    let passes (i : Instr) (size : Nat) (words : List (Word × Word)) (bytes : List Byte) : Prop :=
      a.toNat % size = 0 → s.localMon = some (tag size) → s.globalMon = some (tag size) →
        ∃ t, exec i s = .next t ∧ (size = 8 → wordsStored s t words) ∧ (size < 8 → bytesStored s t a bytes) ∧
          t = { s with
            mem := t.mem
            stale := t.stale
            regs := s.regs.set (bankedReg s.mode rd) 0#32
            localMon := none
            globalMon := none
            pc := s.pcAfter }
    let fails (i : Instr) (size : Nat) : Prop :=
      a.toNat % size = 0 → s.localMon ≠ some (tag size) ∨ s.globalMon ≠ some (tag size) →
        exec i s = .next { s.wrote rd 1#32 with localMon := none }
    let set (r : Reg) (v : Word) (regs : Vector Word 32) : Vector Word 32 := regs.set (bankedReg s.mode r) v
    (rd ≠ 15#4 →
      loaded (.ldrex c rn rd) 4 (set rd (s.memWord a) s.regs) ∧
      loaded (.ldrexh c rn rd) 2 (set rd ((s.memHalf a).setWidth 32) s.regs) ∧
      loaded (.ldrexb c rn rd) 1 (set rd ((s.memByte a 0).setWidth 32) s.regs)) ∧
    (bit rd 0 = true ∨ rd = 14#4 → exec (.ldrexd c rn rd) s = .refused .registerField) ∧
    (bit rm 0 = true ∨ rm = 14#4 → exec (.strexd c rn rd rm) s = .refused .registerField) ∧
    (bit rd 0 = false → rd ≠ 14#4 →
      loaded (.ldrexd c rn rd) 8 (set (rd + 1#4) (s.memWord (a + 4#32)) (set rd (s.memWord a) s.regs))) ∧
    (rd ≠ 15#4 → rm ≠ 15#4 → rd ≠ rn → rd ≠ rm →
      (passes (.strex c rn rd rm) 4 [] (s.storeOrder 4 (s.reg rm)) ∧ fails (.strex c rn rd rm) 4) ∧
      (passes (.strexh c rn rd rm) 2 [] (s.storeOrder 2 (s.reg rm)) ∧ fails (.strexh c rn rd rm) 2) ∧
      (passes (.strexb c rn rd rm) 1 [] (s.storeOrder 1 (s.reg rm)) ∧ fails (.strexb c rn rd rm) 1) ∧
      (bit rm 0 = false → rm ≠ 14#4 → rd ≠ rm + 1#4 →
        passes (.strexd c rn rd rm) 8 [(a, s.reg rm), (a + 4#32, s.reg (rm + 1#4))] [] ∧ fails (.strexd c rn rd rm) 8))

/-! ### Blocks -/

/-- LDM (1) loads the listed registers from rising addresses and writes the base where W is set; with R15 listed it branches as LDR
does. LDM (2) loads the User registers from a mode with an SPSR. Nothing else changes. An empty list, R15 as the base, an updated base in
the list, and LDM (2) in User and System mode are refused. The lowest address and the updated base are, for `n` registers: IA base and base +
4n, IB base + 4 and base + 4n, DA base - 4n + 4 and base - 4n, DB base - 4n and base - 4n (43:R910, R913, R914, R915). -/
def Obligations.LoadMultipleResults : Prop :=
  ∀ (c : Cond) (p u w : Bool) (rn : Reg) (list : BitVec 16) (s : State), condHolds c s.cpsr = true →
    (list = 0#16 → exec (.ldm1 c p u w rn list) s = .refused .registerList) ∧
    (list ≠ 0#16 → rn = 15#4 → exec (.ldm1 c p u w rn list) s = .refused .registerField) ∧
    (rn ≠ 15#4 → bit list rn.toNat = true → exec (.ldm1 c p u true rn list) s = .refused .registerList) ∧
    exec (.ldm2 c p u rn 0#15) s = .refused .registerList ∧
    (∀ l : BitVec 15, l ≠ 0#15 → exec (.ldm2 c p u 15#4 l) s = .refused .registerField ∧
      (rn ≠ 15#4 → s.mode = 0b10000#5 ∨ s.mode = 0b11111#5 → exec (.ldm2 c p u rn l) s = .refused .noSpsr)) ∧
    (∀ (b : Word) (n : Nat),
      let len := BitVec.ofNat 32 (4 * n)
      blockStart false true b n = b ∧ blockStart true true b n = b + 4#32 ∧ blockStart false false b n = b - len + 4#32 ∧
      blockStart true false b n = b - len ∧ blockEnd true b n = b + len ∧ blockEnd false b n = b - len) ∧
    (s.plainMemory → s.halted = false → s.thumb = false → list ≠ 0#16 → rn ≠ 15#4 → (s.reg rn).toNat % 4 = 0 →
      let value (update : Bool) (old : Reg → Word) (r : Reg) : Word :=
        if bit list r.toNat then s.memWord (slotAddress p u (s.reg rn) list r)
        else if update && r == rn then blockEnd u (s.reg rn) (listSize list) else old r
      let v := s.memWord (slotAddress p u (s.reg rn) list 15#4)
      ((w = true → bit list rn.toNat = false) → bit list 15 = false →
        ∃ t, exec (.ldm1 c p u w rn list) s = .next t ∧ modeRegs s t s.mode (value w (s.regIn s.mode)) ∧
          t = { s with regs := t.regs, pc := s.pc + 4#32 }) ∧
      ((w = true → bit list rn.toNat = false) → bit list 15 = true → (s.controlBit 15 = true ∨ bit v 0 = true ∨ bit v 1 = false) →
        ∃ t, exec (.ldm1 c p u w rn list) s = .next t ∧ modeRegs s t s.mode (value w (s.regIn s.mode)) ∧
          t = { s with
            regs := t.regs
            cpsr := if s.controlBit 15 = false ∧ bit v 0 = true then s.cpsr ||| 0x20#32 else s.cpsr
            pc := if s.controlBit 15 = false ∧ bit v 0 = true then v.extractLsb' 1 31 ++ 0#1 else v.extractLsb' 2 30 ++ 0#2 }) ∧
      (bit list 15 = false → (spsrIndex s.mode).isSome = true →
        ∃ t, exec (.ldm2 c p u rn (list.setWidth 15)) s = .next t ∧
          modeRegs s t 0b10000#5 (value false (s.regIn 0b10000#5)) ∧ t = { s with regs := t.regs, pc := s.pc + 4#32 }))

/-- STM (1) stores the listed registers at rising addresses and writes the base where W is set; STM (2) stores the User registers
from a mode with an SPSR. Every byte outside the words is as before, and nothing else changes. An empty list, R15 as the base, an
updated base in the list but not lowest, and STM (2) in User and System mode are refused. The addresses are those of LDM; here they are said
of two registers, R1 and R2. The word for R15 is not stated (log 22). The FCSE PID is 0 (43:R910, R913, R917, R918). -/
def Obligations.StoreMultipleResults : Prop :=
  ∀ (c : Cond) (p u w : Bool) (rn : Reg) (list : BitVec 16) (s : State), condHolds c s.cpsr = true →
    (list = 0#16 → exec (.stm1 c p u w rn list) s = .refused .registerList) ∧
    (list ≠ 0#16 → rn = 15#4 → exec (.stm1 c p u w rn list) s = .refused .registerField) ∧
    (rn ≠ 15#4 → bit list rn.toNat = true → below list rn ≠ 0 → exec (.stm1 c p u true rn list) s = .refused .registerList) ∧
    exec (.stm2 c p u rn 0#16) s = .refused .registerList ∧
    (list ≠ 0#16 → exec (.stm2 c p u 15#4 list) s = .refused .registerField ∧
      (rn ≠ 15#4 → s.mode = 0b10000#5 ∨ s.mode = 0b11111#5 → exec (.stm2 c p u rn list) s = .refused .noSpsr)) ∧
    (∀ b : Word,
      let slot (p u : Bool) (r : Reg) : Word := slotAddress p u b 6#16 r
      slot false true 1#4 = b ∧ slot false true 2#4 = b + 4#32 ∧ slot true true 1#4 = b + 4#32 ∧ slot true true 2#4 = b + 8#32 ∧
      slot false false 1#4 = b - 4#32 ∧ slot false false 2#4 = b ∧ slot true false 1#4 = b - 8#32 ∧ slot true false 2#4 = b - 4#32) ∧
    (s.plainMemory → (s.cp15.bank s.nsState).fcse = 0#32 → list ≠ 0#16 → rn ≠ 15#4 → (s.reg rn).toNat % 4 = 0 →
      ((w = true → bit list rn.toNat = true → below list rn = 0) →
        ∃ t, exec (.stm1 c p u w rn list) s = .next t ∧ blockStored s t list (slotAddress p u (s.reg rn) list) s.reg ∧
          t = { s with
            mem := t.mem
            stale := t.stale
            regs := if w then s.regs.set (bankedReg s.mode rn) (blockEnd u (s.reg rn) (listSize list)) else s.regs
            pc := s.pcAfter }) ∧
      ((spsrIndex s.mode).isSome = true →
        ∃ t, exec (.stm2 c p u rn list) s = .next t ∧
          blockStored s t list (slotAddress p u (s.reg rn) list) (s.regIn 0b10000#5) ∧
          t = { s with mem := t.mem, stale := t.stale, pc := s.pcAfter }))

/-- The returns from an exception that load: RFE loads the pc and the CPSR from two words, LDM (3) loads registers and the pc and takes
the CPSR from the SPSR, in a mode that has an SPSR; in the Non-secure world A and F stay where the SCR keeps them, and the mode where the
saved one is Secure Monitor mode; the pc is aligned for the state that J and T then select. SRS
stores R14 and the SPSR on the stack of the mode it names. RFE and SRS in User and System mode are refused (43:R916, R919, R920, 10:R35,
R52, R55, R56). -/
def Obligations.ReturnAndStoreReturnState : Prop :=
  ∀ (c : Cond) (p u w : Bool) (rn : Reg) (list : BitVec 16) (mode : BitVec 5) (s : State),
    s.plainMemory → s.halted = false →
    (s.mode = 0b10000#5 ∨ s.mode = 0b11111#5 → (rn ≠ 15#4 → exec (.rfe p u w rn) s = .refused .noSpsr) ∧
      (validMode mode = true → (s.nsState = true → mode ≠ 0b10110#5) → exec (.srs p u w mode) s = .refused .noSpsr)) ∧
    ((spsrIndex s.mode).isSome = true → rn ≠ 15#4 → (s.reg rn).toNat % 4 = 0 →
      let start := blockStart p u (s.reg rn) 2
      let target := s.memWord start
      let saved := s.memWord (start + 4#32)
      validMode ((s.returned saved).extractLsb' 0 5) = true →
      exec (.rfe p u w rn) s = .next { State.syncFetch { s with
          regs := if w then s.regs.set (bankedReg s.mode rn) (blockEnd u (s.reg rn) 2) else s.regs
          cpsr := s.returned saved } with
        pc := resumeAddress saved target }) ∧
    (∀ k : Fin 6, condHolds c s.cpsr = true → spsrIndex s.mode = some k →
      validMode ((s.returned s.spsrs[k]).extractLsb' 0 5) = true → rn ≠ 15#4 → bit list 15 = true →
      (w = true → bit list rn.toNat = false) → (s.reg rn).toNat % 4 = 0 →
      let target := s.memWord (slotAddress p u (s.reg rn) list 15#4)
      ∃ t, exec (.ldm3 c p u w rn (list.setWidth 15)) s = .next t ∧
        modeRegs s t s.mode (fun r =>
          if bit list r.toNat then s.memWord (slotAddress p u (s.reg rn) list r)
          else if w && r == rn then blockEnd u (s.reg rn) (listSize list) else s.regIn s.mode r) ∧
        t = { State.syncFetch { s with cpsr := s.returned s.spsrs[k] } with
          regs := t.regs
          pc := resumeAddress s.spsrs[k] target }) ∧
    (∀ k : Fin 6, spsrIndex s.mode = some k → validMode mode = true → (s.nsState = true → mode ≠ 0b10110#5) →
      (s.cp15.bank s.nsState).fcse = 0#32 → (s.regIn mode 13#4).toNat % 4 = 0 →
      let start := blockStart p u (s.regIn mode 13#4) 2
      ∃ t, exec (.srs p u w mode) s = .next t ∧
        wordsStored s t [(start, s.reg 14#4), (start + 4#32, s.spsrs[k])] ∧
        t = { s with
          mem := t.mem
          stale := t.stale
          regs := if w then s.regs.set (bankedReg mode 13#4) (blockEnd u (s.regIn mode 13#4) 2) else s.regs
          pc := s.pcAfter })

/-! ### Hints, status registers, branches -/

/-- PLD, NOP with every hint, CLREX and SETEND: NOP only goes on to the next instruction, CLREX opens the local monitor, SETEND writes
CPSR.E. PLD goes on too, without an abort, and writes no memory of its own: in the Secure world with the MMU and the Data Cache on it may
fill a line in the set of the address (DESIGN CHOICE: log 12); then at most one dirty line of that set goes, and memory gets no byte but
dirty ones of that line; the other valid lines stay. Otherwise PLD changes nothing else (42:R881, 45:R975, R985, 44:R953, 48:R1114). PLD
with R15 as the offset register is refused. -/
def Obligations.HintsAndSetend : Prop :=
  ∀ (c : Cond) (u e : Bool) (rn rm : Reg) (off12 : BitVec 12) (n : BitVec 5) (sh : Shift) (hint : BitVec 8) (s : State),
    let withE : Word := (s.cpsr &&& 0xFFFFFDFF#32) ||| (if e then 0x200#32 else 0#32)
    let preloads (i : Instr) (va : Word) : Prop :=
      (s.nsState = true ∨ s.controlBit 0 = false ∨ s.controlBit 2 = false → exec i s = .next s.stepped) ∧
      ∃ t, exec i s = .next t ∧
        t = { s.stepped with
          mem := t.mem, memNs := t.memNs, dcache := t.dcache, stale := t.stale, writeBuffer := t.writeBuffer
          inflight := t.inflight, freeCtr := t.freeCtr
          cp15 := { s.cp15 with
            tlbMain := t.cp15.tlbMain, tlbLocked := t.cp15.tlbLocked, tlbLockdown := t.cp15.tlbLockdown
            dMicroTlb := t.cp15.dMicroTlb, dMasterValid := t.cp15.dMasterValid } } ∧
        (∀ l ∈ t.dcache, l ∈ s.dcache ∨ (l.set = cacheIndex s .data va ∧ l.dirty = false)) ∧
        (∀ l ∈ s.dcache, lineValid s .data l = true → l ∈ t.dcache ∨ l.set = cacheIndex s .data va) ∧
        (s.memoryWf = true → (∀ p a, t.byteAt p a = s.byteAt p a) ∨
          ∃ l ∈ s.dcache, lineValid s .data l = true ∧ l.set = cacheIndex s .data va ∧ l.dirty = true ∧ l ∉ t.dcache ∧
            ∀ p a, t.byteAt p a = s.byteAt p a ∨
              (p = levelTwoPlace s.bus l.ns l.tag ∧ l.tag.toNat ≤ a ∧ a < l.tag.toNat + 32 ∧
                l.dirtyAt (a - l.tag.toNat) = true ∧ t.byteAt p a = l.byteAt (a - l.tag.toNat)))
    preloads (.pldImm u rn off12) (offsetAddress u (s.reg rn) (off12.setWidth 32)) ∧
    (rm ≠ 15#4 →
      preloads (.pldReg u rn n sh rm) (offsetAddress u (s.reg rn) (shiftedBy (s.reg rm) sh n (bit s.cpsr 29)).1)) ∧
    exec (.pldReg u rn n sh 15#4) s = .refused .registerField ∧
    exec (.nop c hint) s = .next s.stepped ∧
    exec .clrex s = .next { s.stepped with localMon := none } ∧
    exec (.setend e) s = .next { s.stepped with cpsr := withE } ∧
    exec (.tSetend e) s = .next { s.stepped with cpsr := withE }

/-- MRS reads the CPSR or the SPSR. MSR writes the fields selected: in User mode only the flags, Q, GE and E of the CPSR, in a
privileged mode the masks and the mode too, but never T, J or a reserved bit; a value that is no mode is
refused; the SPSR of a mode that has none is refused. CPS changes masks and mode, or either alone, in a privileged mode and nothing in User
mode. In the
Non-secure world A and F are written where the SCR lets it alone, and a change to Secure Monitor mode leaves the mode
(10:R50, R52, R54, R55, 45:R970 to R974, 48:R1113). -/
def Obligations.StatusRegisterAccess : Prop :=
  ∀ (c : Cond) (rd rm : Reg) (mask rot : BitVec 4) (imm8 : BitVec 8) (s : State), condHolds c s.cpsr = true → s.halted = false →
    let field (k : Nat) (m : Word) : Word := if bit mask k then m else 0#32
    let userMask : Word := field 3 0xF8000000#32 ||| field 2 0x000F0000#32 ||| field 1 0x00000200#32
    let fullMask : Word := field 3 0xF8000000#32 ||| field 2 0x000F0000#32 ||| field 1 0x00000300#32 ||| field 0 0x000000DF#32
    let spsrBits : Word := field 3 0xFF000000#32 ||| field 2 0x00FF0000#32 ||| field 1 0x0000FF00#32 ||| field 0 0x000000FF#32
    let imm : Word := (imm8.setWidth 32).rotateRight (2 * rot.toNat)
    (rd ≠ 15#4 → exec (.mrs c false rd) s = .next (s.wrote rd (s.cpsr &&& psrMask)) ∧
      (∀ k : Fin 6, spsrIndex s.mode = some k → exec (.mrs c true rd) s = .next (s.wrote rd s.spsrs[k])) ∧
      (spsrIndex s.mode = none → exec (.mrs c true rd) s = .refused .noSpsr)) ∧
    (∀ i v, ((i = .msrReg c false mask rm ∧ rm ≠ 15#4 ∧ v = s.reg rm) ∨ (i = .msrImm c false mask rot imm8 ∧ v = imm)) →
      (s.mode = 0b10000#5 → exec i s = .next { s.stepped with cpsr := merged s.cpsr v userMask }) ∧
      (s.mode ≠ 0b10000#5 → validMode s.mode = true →
        let after := merged s.cpsr v (s.statusMask fullMask v)
        (validMode (after.extractLsb' 0 5) = true → ∃ t, exec i s = .next t ∧
          t = { s.stepped with cpsr := after, oldFetch := t.oldFetch }) ∧
        (validMode (after.extractLsb' 0 5) = false → exec i s = .refused .reservedMode))) ∧
    (∀ i v, ((i = .msrReg c true mask rm ∧ rm ≠ 15#4 ∧ v = s.reg rm) ∨ (i = .msrImm c true mask rot imm8 ∧ v = imm)) →
      (∀ k : Fin 6, spsrIndex s.mode = some k → exec i s = .next { s.stepped with
        spsrs := s.spsrs.set k (merged s.spsrs[k] v spsrBits &&& psrMask) }) ∧
      (spsrIndex s.mode = none → exec i s = .refused .noSpsr)) ∧
    (∀ (a i f disable : Bool) (mode : BitVec 5), (a = true ∨ i = true ∨ f = true) → validMode mode = true →
      let masks : Word := (if a then 0x100#32 else 0#32) ||| (if i then 0x80#32 else 0#32) ||| (if f then 0x40#32 else 0#32)
      let masked : Word := if disable then s.cpsr ||| masks else s.cpsr &&& ~~~masks
      (s.mode = 0b10000#5 →
        exec (.cps (1#1 ++ BitVec.ofBool disable) true a i f mode) s = .next s.stepped ∧
        exec (.tCps disable a i f) s = .next s.stepped) ∧
      (s.mode ≠ 0b10000#5 → validMode s.mode = true →
        let value : Word := masked.extractLsb' 5 27 ++ mode
        let kept : Word := merged s.cpsr masked (s.statusMask 0x1C0#32 masked)
        (∃ t, exec (.cps (1#1 ++ BitVec.ofBool disable) true a i f mode) s = .next t ∧
          t = { s.stepped with cpsr := merged s.cpsr value (s.statusMask 0x1DF#32 value), oldFetch := t.oldFetch }) ∧
        exec (.cps (1#1 ++ BitVec.ofBool disable) false a i f 0#5) s = .next { s.stepped with cpsr := kept } ∧
        exec (.tCps disable a i f) s = .next { s.stepped with cpsr := kept })) ∧
    (∀ mode : BitVec 5, validMode mode = true →
      let i : Instr := .cps 0b00#2 true false false false mode
      let value : Word := s.cpsr.extractLsb' 5 27 ++ mode
      (s.mode = 0b10000#5 → exec i s = .next s.stepped) ∧
      (s.mode ≠ 0b10000#5 → validMode s.mode = true → ∃ t, exec i s = .next t ∧
        t = { s.stepped with cpsr := merged s.cpsr value (s.statusMask 0x1F#32 value), oldFetch := t.oldFetch }))

/-- B, BL, BLX with an offset, BX, BXJ and BLX with a register, in ARM state: the targets, the link register, T. A target in a register
with bits [1:0] = 10 is refused, and so is BLX of R15. BXJ acts as BX (DESIGN CHOICE: log 28) (46:R1000 to R1006, 30:R688). -/
def Obligations.BranchResults : Prop :=
  ∀ (c : Cond) (h : Bool) (off : BitVec 24) (rm : Reg) (s : State), condHolds c s.cpsr = true → s.halted = false →
    s.thumb = false →
    let target : Word := s.pc + 8#32 + (off ++ 0#2 : BitVec 26).signExtend 32
    let linked : Vector Word 32 := s.regs.set (bankedReg s.mode 14#4) (s.pc + 4#32)
    let v := s.reg rm
    exec (.b c off) s = .next { s with pc := target } ∧
    exec (.bl c off) s = .next { s with regs := linked, pc := target } ∧
    exec (.blx1 h off) s = .next { s with
      regs := linked, cpsr := s.cpsr ||| 0x20#32, pc := target + (if h then 2#32 else 0#32) } ∧
    (bit v 0 = true →
      exec (.bx c rm) s = .next { s with cpsr := s.cpsr ||| 0x20#32, pc := v.extractLsb' 1 31 ++ 0#1 } ∧
      exec (.bxj c rm) s = .next { s with cpsr := s.cpsr ||| 0x20#32, pc := v.extractLsb' 1 31 ++ 0#1 } ∧
      (rm ≠ 15#4 → exec (.blx2 c rm) s = .next { s with
        regs := linked, cpsr := s.cpsr ||| 0x20#32, pc := v.extractLsb' 1 31 ++ 0#1 })) ∧
    (bit v 0 = false → bit v 1 = false →
      exec (.bx c rm) s = .next { s with pc := v } ∧ exec (.bxj c rm) s = .next { s with pc := v } ∧
      (rm ≠ 15#4 → exec (.blx2 c rm) s = .next { s with regs := linked, pc := v })) ∧
    (bit v 0 = false → bit v 1 = true →
      exec (.bx c rm) s = .refused .branchTarget ∧ exec (.bxj c rm) s = .refused .branchTarget ∧
      (rm ≠ 15#4 → exec (.blx2 c rm) s = .refused .branchTarget)) ∧
    exec (.blx2 c 15#4) s = .refused .registerField

/-! ### Exceptions -/

/-- Taking an exception, for every kind and every state outside Debug state: the mode of the handler, the link register and the SPSR
of that mode, ARM state, the masks, the data byte order, the other bits of the CPSR kept, the vector, or IRQACK for a vectored IRQ, SCR.NS
cleared on an entry from Secure Monitor mode; every other register, the memories, the other SPSRs are as before (60:R1200, R1203 to R1206,
R1210, R1264, 25:R1587). Two clauses are choices: the saved status has the bits that a PSR implements (92:D4; log 55), and the entry is a
pipeline flush, so that no old setting is left for fetches (log 17). -/
def Obligations.ExceptionEntry : Prop :=
  ∀ (k : Exc) (ext : Bool) (ret : Word) (s : State), s.halted = false →
    let t := takeException k ext ret s
    let m := entryMode s k ext
    let monitor : Bool := m == 0b10110#5
    let ns : Bool := s.nsState && !monitor
    let c := t.cp15
    t.mode = m ∧ t.regIn m 14#4 = ret ∧
    (∀ j : Fin 6, spsrIndex m = some j → t.spsrs[j] = s.cpsr &&& psrMask) ∧
    (∀ j : Fin 6, spsrIndex m ≠ some j → t.spsrs[j] = s.spsrs[j]) ∧
    (∀ j : Fin 32, j ≠ bankedReg m 14#4 → t.regs[j] = s.regs[j]) ∧
    t.thumb = false ∧ bit t.cpsr 24 = false ∧ bit t.cpsr 7 = true ∧
    bit t.cpsr 6 = (bit s.cpsr 6 || monitor || (k == .fiq && (!ns || bit s.cp15.scr 4))) ∧
    bit t.cpsr 8 = (bit s.cpsr 8 || monitor ||
      ((k == .prefetchAbort || k == .dataAbort || k == .irq || k == .fiq) && (!ns || bit s.cp15.scr 5))) ∧
    bit t.cpsr 9 = bit (s.cp15.control ns) 25 ∧
    t.cpsr &&& 0xFEFFFC00#32 = s.cpsr &&& 0xFEFFFC00#32 ∧
    t.pc = (if monitor then s.cp15.mvbar + k.offset
      else if k = .irq ∧ bit (s.cp15.control ns) 24 = true then s.pins.irqaddr.extractLsb' 2 30 ++ 0#2
      else plainVector s.cp15 ns k.offset) ∧
    c.scr = (if s.mode = 0b10110#5 then s.cp15.scr &&& ~~~1#32 else s.cp15.scr) ∧
    t.irqack = (k == .irq && !monitor && bit (s.cp15.control ns) 24) ∧
    t.mem = s.mem ∧ t.memNs = s.memNs ∧ t.dcache = s.dcache ∧ t.itcm = s.itcm ∧ t.dtcm = s.dtcm ∧ t.vfp = s.vfp ∧
    t.dbg = s.dbg ∧ t.localMon = s.localMon ∧ t.oldFetch = []

/-- The instructions whose effect is an exception, outside Debug state: SVC, SMC in a privileged mode, BKPT with no debug permitted
(the IFSR says debug event), and, as Undefined instructions, the Undefined spaces, SMC in User mode, and, where no external coprocessor
is attached, the coprocessor instructions that no coprocessor accepts (46:R1010, R1012, R1013, 30:R700, R702,
47:R1041 to R1044, R1046, R1047, R1051, 48:R1118, R1119, R1127). Three clauses are choices: that BKPT leaves the IFAR as it is (92:D39;
log 27), that the forms with 2 of CP15 are Undefined (92:D5), and that CDP and MRRC of CP14 and CP15 are (log 37). -/
def Obligations.ExceptionInstructions : Prop :=
  ∀ (c : Cond) (l : Bool) (r12 : BitVec 12) (r4 a1 a2 a3 a4 : BitVec 4) (o1 o2 : BitVec 3) (r8 : BitVec 8) (r10 : BitVec 10)
    (r20 : BitVec 20) (r24 : BitVec 24) (r28 : BitVec 28) (p u nb w : Bool) (s : State),
    condHolds c s.cpsr = true → s.halted = false →
    let svc : Outcome := .next (takeException .svc false s.nextPc s)
    let debugEvent : State := { s with cp15 := s.cp15.setBank s.nsState { s.cp15.bank s.nsState with ifsr := 0x2#32 } }
    let bkpt : Outcome := .next (takeException .prefetchAbort false (s.pc + 4#32) debugEvent)
    exec (.svc c r24) s = svc ∧ exec (.tSvc r8) s = svc ∧
    (s.mode ≠ 0b10000#5 → exec (.smc c r12 r4) s = .next (takeException .smc false s.nextPc s)) ∧
    (s.mode = 0b10000#5 → raisesUndefined (.smc c r12 r4) s) ∧
    (s.pins.dbgen = false → exec (.bkpt r12 r4) s = bkpt ∧ exec (.tBkpt r8) s = bkpt) ∧
    raisesUndefined (.undefArch c r12 r4) s ∧ raisesUndefined (.undefCop c l r20) s ∧ raisesUndefined (.undefCop2 l r20) s ∧
    raisesUndefined (.undefUncond r28) s ∧ raisesUndefined (.tUndef r8) s ∧ raisesUndefined (.tUndefBlx r10) s ∧
    (a3.toNat ∉ s.impl.extCoprocessors ∨ a3 ∈ [10#4, 11#4, 14#4, 15#4] →
      raisesUndefined (.cdp c a1 a2 a4 a3 o1 r4) s ∧ raisesUndefined (.mrrc c a1 a2 a3 a4 r4) s ∧
      raisesUndefined (.cdp2 a1 a2 a4 a3 o1 r4) s ∧ raisesUndefined (.mcrr2 a1 a2 a3 a4 r4) s ∧
      raisesUndefined (.mrrc2 a1 a2 a3 a4 r4) s ∧
      (a3 ≠ 14#4 → raisesUndefined (.mcr2 o1 a1 a2 a3 o2 r4) s ∧ raisesUndefined (.mrc2 o1 a1 a2 a3 o2 r4) s) ∧
      (a3 ≠ 14#4 ∨ a2 ≠ 5#4 ∨ nb = true →
        raisesUndefined (.ldc2 p u nb w a1 a2 a3 r8) s ∧ raisesUndefined (.stc2 p u nb w a1 a2 a3 r8) s) ∧
      (a3 ≠ 14#4 → a3 ≠ 15#4 →
        raisesUndefined (.mcr c o1 a1 a2 a3 o2 r4) s ∧ raisesUndefined (.mrc c o1 a1 a2 a3 o2 r4) s ∧
        raisesUndefined (.mcrr c a1 a2 a3 a4 r4) s) ∧
      (a3 ≠ 14#4 ∨ a2 ≠ 5#4 ∨ nb = true →
        raisesUndefined (.ldc c p u nb w a1 a2 a3 r8) s ∧ raisesUndefined (.stc c p u nb w a1 a2 a3 r8) s))

/-- The coprocessor instructions for an external coprocessor that is attached and that the CPACR and the NSACR let the program use: the
coprocessor accepts the instruction or bounces it, which is then Undefined, as it likes. Of an accepted one the core sees: for CDP, MCR
and MCRR nothing; for MRC a value, or with R15 flags; for MRRC two values; for LDC words read and for STC up to thirty words written,
with the base update. Whether it accepts is one free choice, what it gives are free values (25:R1572, R1577, 47:R1043, R1047 to R1052; DESIGN
CHOICE: log 37). -/
def Obligations.ExternalCoprocessorInstructions : Prop :=
  ∀ (c : Cond) (r4 a1 a2 cp a4 : BitVec 4) (o1 o2 : BitVec 3) (off8 : BitVec 8) (p u nb w : Bool) (s : State),
    condHolds c s.cpsr = true → s.halted = false → s.oldFetch = [] → cp.toNat ∈ s.impl.extCoprocessors →
    cp ∉ [10#4, 11#4, 14#4, 15#4] → bits s.cp15.cpacr (2 * cp.toNat) 2 = 0b11#2 →
    (s.nsState = true → bit s.cp15.nsacr cp.toNat = true) →
    let bounced : State := takeException .undef false s.nextPc { s with freeCtr := s.freeCtr + 1 }
    let answers (i : Instr) (t : State) : Prop := exec i s = .next (if Config.freeBit s.freeCtr then t else bounced)
    let drawn (k : Nat) (t : State) : State := { t with freeCtr := s.freeCtr + k }
    let given (k : Nat) : Word := Config.freeWord (s.freeCtr + k)
    let flags (v : Word) : State := { s.stepped with cpsr := v.extractLsb' 28 4 ++ s.cpsr.extractLsb' 0 28 }
    let both (v x : Word) : State :=
      { s.stepped with regs := (s.regs.set (bankedReg s.mode a2) v).set (bankedReg s.mode a1) x }
    (∀ i ∈ [Instr.cdp c a1 a2 a4 cp o1 r4, .cdp2 a1 a2 a4 cp o1 r4], answers i (drawn 1 s.stepped)) ∧
    (a2 ≠ 15#4 → (∀ i ∈ [Instr.mcr c o1 a1 a2 cp o2 r4, .mcr2 o1 a1 a2 cp o2 r4], answers i (drawn 1 s.stepped)) ∧
      ∀ i ∈ [Instr.mrc c o1 a1 a2 cp o2 r4, .mrc2 o1 a1 a2 cp o2 r4], answers i (drawn 2 (s.wrote a2 (given 1)))) ∧
    (a2 = 15#4 → ∀ i ∈ [Instr.mrc c o1 a1 a2 cp o2 r4, .mrc2 o1 a1 a2 cp o2 r4], answers i (drawn 2 (flags (given 1)))) ∧
    (a1 ≠ 15#4 → a2 ≠ 15#4 → (∀ i ∈ [Instr.mcrr c a1 a2 cp a4 r4, .mcrr2 a1 a2 cp a4 r4], answers i (drawn 1 s.stepped)) ∧
      (a1 ≠ a2 → ∀ i ∈ [Instr.mrrc c a1 a2 cp a4 r4, .mrrc2 a1 a2 cp a4 r4], answers i (drawn 3 (both (given 1) (given 2))))) ∧
    (s.plainMemory → (w = true → a1 ≠ 15#4) → (accessAddress p u (s.reg a1) (off8.setWidth 32 <<< 2)).toNat % 4 = 0 →
      let a := accessAddress p u (s.reg a1) (off8.setWidth 32 <<< 2)
      let regs : Vector Word 32 := if w then s.baseUpdated true u true a1 (off8.setWidth 32 <<< 2) else s.regs
      (∀ i ∈ [Instr.ldc c p u nb w a1 a2 cp off8, .ldc2 p u nb w a1 a2 cp off8], answers i (drawn 2 { s.stepped with regs := regs })) ∧
      ∀ i ∈ [Instr.stc c p u nb w a1 a2 cp off8, .stc2 p u nb w a1 a2 cp off8], ∃ t, answers i t ∧
        (∀ x : Nat, (∀ k < 30, ¬((s.mva (a + BitVec.ofNat 32 (4 * k))).toNat ≤ x ∧
            x < (s.mva (a + BitVec.ofNat 32 (4 * k))).toNat + 4)) → t.byteAt .external x = s.byteAt .external x) ∧
        t = { s.stepped with regs := regs, mem := t.mem, stale := t.stale, freeCtr := t.freeCtr })

/-! ### Coprocessors 14 and 15 -/

/-- MRC from CP15 in a privileged mode of the Secure world, outside Debug state: Rd gets the register's value, or with R15 the flags
its top four bits, and nothing else changes: identification, control, translation, faults, lockdown, TCMs, DMA, processes, the performance
monitor. Main ID, Cache Type, TCM Status, Coprocessor Access Control, the TCM Region Registers and the DMA's Present register are stated for
the default parameters (log 1) (11:R107, R110, R112 to R130, 12, 13, 14, 47:R1049). Three rows are choices: bit 24 of the Cache Type
Register (DEDUCED: log 42), c6,c0,1 as another name of the WFAR (92:D7), and C and P of the Performance Monitor Control Register read as 0
(92:D4; log 55). -/
def Obligations.SystemControlReads : Prop :=
  ∀ (c : Cond) (rd : Reg) (s : State), condHolds c s.cpsr = true → s.halted = false → s.mode ≠ 0b10000#5 → s.nsState = false →
    ∀ row ∈ cp15Reads ++ cp15UnitReads ++ (if s.impl = {} then cp15DefaultReads else []),
      let i : Instr := .mrc c row.1.1 row.1.2.1 rd 15#4 row.1.2.2.2 row.1.2.2.1
      (rd ≠ 15#4 → exec i s = .next (s.wrote rd (row.2 s))) ∧
      (rd = 15#4 → exec i s = .next { s.stepped with cpsr := (row.2 s).extractLsb' 28 4 ++ s.cpsr.extractLsb' 0 28 })

/-- MCR to CP15 in a privileged mode of the Secure world, outside Debug state, with CP15SDISABLE LOW: the one register gets the
implemented bits of Rd and nothing else of the spec's state changes; fetches may go on with the old settings until the next
flush (`oldFetch`, log 17), a DMA channel in operation with the old mappings (`oldMap`, log 34). The Control Register's bits are
written in its banked copy and in the bits that exist once. Coprocessor Access Control and the TCM registers are stated for the default
parameters (log 1). A write of a Control, Context ID or Start Address Register of a DMA channel that is Queued or Running has no effect, or is
refused for the Start Addresses; a write of a TCM Region Register while a channel is Running is refused (11:R107, R110, 12, 13, 14,
47:R1048, 93). Choices: bit 2 of TTBR0 and TTBR1 is not stored (DEDUCED: log 50), the ignored bits of a TCM's base are stored (DESIGN CHOICE:
log 70), the interrupt of a counter is cleared by the E bit that is being written (DESIGN CHOICE: log 29). -/
def Obligations.SystemControlWrites : Prop :=
  ∀ (c : Cond) (rd : Reg) (s : State), condHolds c s.cpsr = true → s.halted = false → s.mode ≠ 0b10000#5 → s.nsState = false →
    s.pins.cp15sdisable = false → rd ≠ 15#4 →
    let v := s.reg rd
    let writes (r : SysReg) (after : Cp15) : Prop :=
      ∃ t, exec (.mcr c r.1 r.2.1 rd 15#4 r.2.2.2 r.2.2.1) s = .next t ∧
        t = { s.stepped with cp15 := after, oldFetch := t.oldFetch, oldMap := t.oldMap }
    let refused (r : SysReg) (why : Refusal) : Prop := exec (.mcr c r.1 r.2.1 rd 15#4 r.2.2.2 r.2.2.1) s = .refused why
    (∀ row ∈ cp15Writes ++ cp15UnitWrites ++ (if s.impl = {} then cp15DefaultWrites else []), writes row.1 (row.2 s v)) ∧
    (s.channelBusy = false →
      writes (0, 11, 4, 0) (s.withChannel { s.channel with control := (v &&& 0xF40FFF03#32) ||| 0x08000000#32 }) ∧
      writes (0, 11, 5, 0) (s.withChannel { s.channel with intStart := v }) ∧
      writes (0, 11, 6, 0) (s.withChannel { s.channel with extStart := v }) ∧
      writes (0, 11, 15, 0) (s.withChannel { s.channel with contextId := v })) ∧
    (s.channelBusy = true →
      writes (0, 11, 4, 0) s.cp15 ∧ writes (0, 11, 15, 0) s.cp15 ∧
      refused (0, 11, 5, 0) .dmaUnpredictable ∧ refused (0, 11, 6, 0) .dmaUnpredictable) ∧
    (let running : Prop := s.cp15.dma[0].status.extractLsb' 0 2 = 2#2 ∨ s.cp15.dma[1].status.extractLsb' 0 2 = 2#2
     let k := s.tcmNumber
     (running → refused (0, 9, 1, 0) .tcmRegionDuringDma ∧ refused (0, 9, 1, 1) .tcmRegionDuringDma) ∧
     (¬running → s.impl = {} →
      writes (0, 9, 1, 0) { s.cp15 with dtcmRegion := s.cp15.dtcmRegion.set k (merged s.cp15.dtcmRegion[k] v 0xFFFFF001#32) } ∧
      writes (0, 9, 1, 1) { s.cp15 with itcmRegion := s.cp15.itcmRegion.set k (merged s.cp15.itcmRegion[k] v 0xFFFFF001#32) })) ∧
    ∃ t, exec (.mcr c 0#3 1#4 rd 15#4 0#3 0#4) s = .next t ∧
      t = { s.stepped with
        cp15 := { s.withSelected { s.selected with control := s.reg rd &&& 0x33C03B07#32 } with
          controlShared := (s.cp15.controlShared &&& ~~~0x0025C080#32) ||| (s.reg rd &&& 0x0025C080#32) }
        oldFetch := t.oldFetch, oldMap := t.oldMap }

/-- CP15 operations: after a barrier no access is outstanding, and nothing but what was on its way has changed; a Data Synchronization
Barrier, and it alone, is the step of the IMB sequence that counts for the bytes written before it (`synced`: log 16); Flush Prefetch Buffer
makes fetches see the bytes whose sequence is complete (`settled`: log 16); Wait For Interrupt enters Standby after a barrier; the TLB
operations drop the entries of the current world that they name, all but the locked ones, by address and ASID, or by ASID, and empty the
MicroTLBs, and write nothing else that the spec gives the machine; and with the MMU off the range operations of MCRR do to each line from the Start Address to the End Address, by bits [31:5], what the operation on one line does
(`maintain`, stated of one line in DataCacheLineMaintenance), and nothing else: the Invalidate ranges drop lines and write no memory, that of the Instruction Cache marks the written bytes in its lines for
the IMB sequence. The range of Clean Data Cache runs in User mode too; all outside Debug state (13:R220 to R223, R234, R248 to R256,
11:R111, 20:R533, 21:R601). -/
def Obligations.SystemControlOperations : Prop :=
  ∀ (c : Cond) (rn rd : Reg) (s : State), condHolds c s.cpsr = true → s.halted = false → rd ≠ 15#4 →
    let barrier (i : Instr) (after : State) : Prop :=
      (s.outstanding = false → exec i s = .next after) ∧
      ∃ t, exec i s = .next t ∧ t.outstanding = false ∧
        t = { after with inflight := [], writeBuffer := [], pendingAbort := t.pendingAbort, freeCtr := t.freeCtr }
    let synced : List StaleByte := s.stale.map fun b => { b with synced := true }
    let first := (s.reg rn).toNat / 32
    let last := (s.reg rd).toNat / 32
    let one (op : LineOp) (u : State) (k : Nat) : State :=
      let mva := s.mva (BitVec.ofNat 32 (32 * (first + k)))
      let t := maintain op (fun l => l.set == cacheIndex u op.side mva && l.tag == mva.extractLsb' 5 27 ++ 0#5 && l.ns == s.nsState) u
      let inLine (b : StaleByte) : Bool := b.place == levelTwoPlace s.bus s.nsState mva && b.addr / 32 == mva.toNat / 32
      if op = .invalidateInstruction then
        { t with stale := t.stale.map fun b => { b with invalidated := b.invalidated || (b.synced && inLine b) } }
      else t
    let all (op : LineOp) : State := (List.range (last + 1 - first)).foldl (one op) s
    let lines (crm : BitVec 4) (op : LineOp) : Prop := exec (.mcrr c rn rd 15#4 0#4 crm) s = .next { all op with pc := s.pcAfter }
    barrier (.mcr c 0#3 7#4 rd 15#4 4#3 10#4) { s.stepped with stale := synced } ∧
    barrier (.mcr c 0#3 7#4 rd 15#4 5#3 10#4) s.stepped ∧
    exec (.mcr c 0#3 7#4 rd 15#4 4#3 5#4) s =
      .next { s.stepped with oldFetch := [], stale := s.stale.filter fun b => !b.settled } ∧
    (s.mode ≠ 0b10000#5 → barrier (.mcr c 0#3 7#4 rd 15#4 4#3 0#4) { s.stepped with stale := synced, standby := true }) ∧
    (rn ≠ 15#4 → bit s.cp15.auxControl 5 = false → s.controlBit 0 = false →
      lines 12#4 .cleanData ∧
      (s.mode ≠ 0b10000#5 → lines 5#4 .invalidateInstruction ∧ lines 6#4 .invalidateData ∧ lines 14#4 .cleanInvalidateData ∧
        all .invalidateInstruction =
          { s with icache := (all .invalidateInstruction).icache, stale := (all .invalidateInstruction).stale } ∧
        (∀ l ∈ (all .invalidateInstruction).icache, l ∈ s.icache) ∧
        all .invalidateData = { s with dcache := (all .invalidateData).dcache } ∧
        (∀ l ∈ (all .invalidateData).dcache, l ∈ s.dcache))) ∧
    (s.mode ≠ 0b10000#5 → ∀ crm ∈ [5#4, 6#4, 7#4],
      let v := s.reg rd
      let drops (op : BitVec 3) (gone : TlbEntry → Bool) (locked : Vector TlbEntry 8) : Prop :=
        ∃ t, exec (.mcr c 0#3 8#4 rd 15#4 op crm) s = .next t ∧
          t = { s.stepped with
            cp15 := { s.cp15 with
              tlbMain := s.cp15.tlbMain.filter fun e => !gone e
              tlbLocked := locked
              iMicroTlb := [], dMicroTlb := [], dmaMicroTlb := [] }
            oldFetch := t.oldFetch, oldMap := t.oldMap, stale := t.stale } ∧
          (op = 0#3 → t.oldFetch = []) ∧ (op ≠ 0#3 → t.stale = s.stale)
      let cleared (gone : TlbEntry → Bool) : Vector TlbEntry 8 :=
        s.cp15.tlbLocked.map fun e => if gone e then { e with pa := e.pa &&& 0xFFFFFFFE#32 } else e
      let byAddress (e : TlbEntry) : Bool := e.holds s.nsState v (v.extractLsb' 0 8)
      let byAsid (e : TlbEntry) : Bool := bit e.pa 8 == s.nsState && !bit e.va 9 && e.va.extractLsb' 0 8 == v.extractLsb' 0 8
      drops 0#3 (fun e => bit e.pa 8 == s.nsState) s.cp15.tlbLocked ∧ drops 1#3 byAddress (cleared byAddress) ∧
      drops 2#3 byAsid (cleared byAsid))

/-- The maintenance of the line of the Data Cache that an MVA selects, in a privileged mode of the Secure world with the MMU off and a bus
without errors, where one valid Secure line has that address: Clean writes the dirty halves to memory, through the write buffer, and
leaves the line clean,
Invalidate drops the line and writes nothing, Clean and Invalidate does both; every other byte of memory and every other line is as before
(13:R224, R229, R232, R233, 22:R1404, R1409, 23:R1486). -/
def Obligations.DataCacheLineMaintenance : Prop :=
  ∀ (c : Cond) (rd : Reg) (s : State) (l : CacheLine) (before after : List CacheLine),
    condHolds c s.cpsr = true → s.halted = false → s.mode ≠ 0b10000#5 → s.nsState = false → rd ≠ 15#4 →
    s.controlBit 0 = false → s.bus = [] → s.memoryWf = true →
    s.dcache = before ++ l :: after → (∀ k ∈ before ++ after, k.tag ≠ l.tag) → lineValid s .data l = true →
    l.set = cacheIndex s .data (s.reg rd) → l.tag = (s.reg rd).extractLsb' 5 27 ++ 0#5 → l.ns = false →
    let written (t : State) : Prop := ∀ a : Nat, t.byteAt .external a =
      if h : l.tag.toNat ≤ a ∧ a < l.tag.toNat + 32 then
        (if l.dirtyAt (a - l.tag.toNat) then l.data[a - l.tag.toNat]'(by omega) else s.byteAt .external a)
      else s.byteAt .external a
    let address (i : Nat) : Nat := l.tag.toNat + i
    let buffered : List BufferedWrite :=
      if l.dirty then s.writeBuffer ++ [{ queue := .writeBack, place := .external
                                          bytes := ((List.range 32).filter l.dirtyAt).map fun i =>
                                            (address i, s.byteAt .external (address i)) }]
      else s.writeBuffer
    let cleans (i : Instr) (lines : List CacheLine) : Prop :=
      ∃ t, exec i s = .next t ∧ written t ∧
        t = { s.stepped with mem := t.mem, stale := t.stale, dcache := lines, writeBuffer := buffered }
    cleans (.mcr c 0#3 7#4 rd 15#4 1#3 10#4) (before ++ { l with dirtyLow := false, dirtyHigh := false } :: after) ∧
    cleans (.mcr c 0#3 7#4 rd 15#4 1#3 14#4) (before ++ after) ∧
    exec (.mcr c 0#3 7#4 rd 15#4 1#3 6#4) s = .next { s.stepped with dcache := before ++ after }

/-- Who may reach CP15: in User mode, outside Debug state, MRC and MCR to every register of c0, c1, c2, c3, c5, c6, c8, c9, c10 and c12 are
Undefined; in the Non-secure world so are they to the Secure Configuration, Secure Debug Enable and Monitor Vector Base Address
Registers and writes of the Auxiliary Control and Non-Secure Access Control Registers (11:R102, 12:R154, R160, R163, R164,
14:R313). -/
def Obligations.SystemControlProtection : Prop :=
  ∀ (c : Cond) (rd : Reg) (s : State), condHolds c s.cpsr = true → s.halted = false → rd ≠ 15#4 →
    (s.mode = 0b10000#5 → ∀ crn ∈ [0#4, 1#4, 2#4, 3#4, 5#4, 6#4, 8#4, 9#4, 10#4, 12#4], ∀ (o1 o2 : BitVec 3) (crm : BitVec 4),
      raisesUndefined (.mrc c o1 crn rd 15#4 o2 crm) s ∧ raisesUndefined (.mcr c o1 crn rd 15#4 o2 crm) s) ∧
    (s.nsState = true → ∀ x ∈ [(1#4, 1#4, 0#3), (1#4, 1#4, 1#3), (12#4, 0#4, 1#3)],
      raisesUndefined (.mrc c 0#3 x.1 rd 15#4 x.2.2 x.2.1) s ∧ raisesUndefined (.mcr c 0#3 x.1 rd 15#4 x.2.2 x.2.1) s) ∧
    (s.nsState = true → ∀ x ∈ [(0#4, 1#3), (1#4, 2#3)], raisesUndefined (.mcr c 0#3 1#4 rd 15#4 x.2 x.1) s)

/-- The debug registers as the core reaches them in a privileged mode, outside Debug state: MRC reads the DSCR and rDTR, MCR writes
wDTR and the DSCR's bits of the core, LDC loads wDTR and STC stores rDTR, with rDTRfull cleared by a read and wDTRfull set by a write;
a breakpoint register is written in Monitor debug-mode (DSCR[15:14] = 10) alone. In User mode the DTR is Undefined where DSCR[12] is
set. The forms with 2 act as those without (15:R374, R376, R380, R382, R386, 47:R1040). -/
def Obligations.DebugRegisterAccess : Prop :=
  ∀ (c : Cond) (rn rd : Reg) (p u w : Bool) (off8 : BitVec 8) (k : Fin 6) (s : State), condHolds c s.cpsr = true →
    s.halted = false → rd ≠ 15#4 →
    let dscr (v : Word) : Debug := { s.dbg with dscr := v }
    (∀ (o1 o2 : BitVec 3) (crn crm : BitVec 4), exec (.mrc2 o1 crn rd 14#4 o2 crm) s = exec (.mrc c o1 crn rd 14#4 o2 crm) s ∧
      exec (.mcr2 o1 crn rd 14#4 o2 crm) s = exec (.mcr c o1 crn rd 14#4 o2 crm) s) ∧
    (∀ (nb : Bool) (crd : BitVec 4), exec (.ldc2 p u nb w rn crd 14#4 off8) s = exec (.ldc c p u nb w rn crd 14#4 off8) s ∧
      exec (.stc2 p u nb w rn crd 14#4 off8) s = exec (.stc c p u nb w rn crd 14#4 off8) s) ∧
    (s.mode ≠ 0b10000#5 →
      exec (.mrc c 0#3 0#4 rd 14#4 0#3 1#4) s = .next (s.wrote rd s.readDscr) ∧
      exec (.mrc c 0#3 0#4 rd 14#4 0#3 5#4) s =
        .next { s.wrote rd s.dbg.rdtr with dbg := dscr (s.dbg.dscr &&& 0xBFFFFFFF#32) } ∧
      exec (.mcr c 0#3 0#4 rd 14#4 0#3 5#4) s =
        .next { s.stepped with dbg := { dscr (s.dbg.dscr ||| 0x20000000#32) with wdtr := s.reg rd } } ∧
      exec (.mcr c 0#3 0#4 rd 14#4 0#3 1#4) s =
        .next { s.stepped with dbg := dscr ((s.dbg.dscr &&& 0xFFFF6FC3#32) ||| (s.reg rd &&& 0x0000903C#32)) } ∧
      (bits s.readDscr 14 2 = 0b10#2 → exec (.mcr c 0#3 0#4 rd 14#4 4#3 (BitVec.ofNat 4 k.val)) s =
        .next { s.stepped with dbg := { s.dbg with bvr := s.dbg.bvr.set k (s.reg rd &&& bvrMask k) } }) ∧
      (bits s.readDscr 14 2 ≠ 0b10#2 → raisesUndefined (.mcr c 0#3 0#4 rd 14#4 4#3 (BitVec.ofNat 4 k.val)) s) ∧
      (s.plainMemory → (w = true → rn ≠ 15#4) → (accessAddress p u (s.reg rn) (off8.setWidth 32 <<< 2)).toNat % 4 = 0 →
        let a := accessAddress p u (s.reg rn) (off8.setWidth 32 <<< 2)
        let regs : Vector Word 32 := if w then s.baseUpdated true u true rn (off8.setWidth 32 <<< 2) else s.regs
        exec (.ldc c p u false w rn 5#4 14#4 off8) s = .next { s.stepped with
          regs := regs, dbg := { dscr (s.dbg.dscr ||| 0x20000000#32) with wdtr := s.memWord a } } ∧
        ∃ t, exec (.stc c p u false w rn 5#4 14#4 off8) s = .next t ∧ bytesStored s t a (s.storeOrder 4 s.dbg.rdtr) ∧
          t = { s.stepped with mem := t.mem, stale := t.stale, regs := regs, dbg := dscr (s.dbg.dscr &&& 0xBFFFFFFF#32) })) ∧
    (s.mode = 0b10000#5 → bit s.dbg.dscr 12 = true →
      raisesUndefined (.mrc c 0#3 0#4 rd 14#4 0#3 5#4) s ∧ raisesUndefined (.mcr c 0#3 0#4 rd 14#4 0#3 5#4) s)

/-- The debugger at the DBGTAP: DBGnTRST, and five clocks with DBGTMS HIGH, lead to Test-Logic-Reset, where IDcode and scan chain 3 are
current; Capture-DR takes the device ID code, or with INTEST and scan chain 5 the wDTR, which is then empty; Update-DR with EXTEST and
scan chain 5 writes the rDTR where that is let through, and changes nothing where it is not; going to Run-Test/Idle with Halt asks for
Debug state, and with Restart begins to leave it (15:R380, R411, R420 to R425, R432). The arcs of the state machine are PRESUMED and the
pace of Restart is a DESIGN CHOICE (log 24). -/
def Obligations.DebuggerAccess : Prop :=
  ∀ (tms tdi : Bool) (s : State),
    let t := s.dbg.tap
    let goes (ms : Bool) (d : Debug) (x : TapState) : Prop :=
      tapClock ms tdi s = .ok { s with dbg := { d with tap := { d.tap with state := x } } }
    let ends (ir screg : BitVec 5) (x : TapState) : Prop := t.ir = ir ∧ t.screg = screg ∧ t.state = x
    (∃ u, tapInput .reset s = .ok u ∧ u = { s with dbg := { s.dbg with tap := u.dbg.tap } } ∧
      u.dbg.tap.state = .testLogicReset ∧ u.dbg.tap.ir = 0b11110#5 ∧ u.dbg.tap.screg = 3#5) ∧
    (∀ x : TapState, (((((x.next true).next true).next true).next true).next true) = .testLogicReset) ∧
    (t.state = .testLogicReset → ∃ u, tapClock tms tdi s = .ok u ∧ u.dbg.tap.ir = 0b11110#5 ∧ u.dbg.tap.screg = 3#5) ∧
    (t.ir = 0b11110#5 → t.state = .captureDr → s.pins.dbgversion = 0#4 → s.pins.dbgmanid = 0x787#11 →
      ∃ u, tapClock tms tdi s = .ok u ∧ u.dbg.tap.dr.extractLsb' 0 32 = 0x07B76F0F#32 ∧
        u = { s with dbg := { s.dbg with tap := u.dbg.tap } }) ∧
    (ends 0b01100#5 5#5 .captureDr →
      ∃ u, tapClock tms tdi s = .ok u ∧ u.dbg.tap.dr.extractLsb' 0 32 = s.dbg.wdtr ∧
        u.dbg.tap.dr.getLsbD 33 = bit s.dbg.dscr 29 ∧
        u = { s with dbg := { s.dbg with dscr := s.dbg.dscr &&& 0xDFFFFFFF#32, tap := u.dbg.tap } }) ∧
    (ends 0b00000#5 5#5 .updateDr →
      let through : Bool := !bit s.dbg.dscr 30 && (if bit s.dbg.dscr 13 then t.ready else t.nRetry)
      goes true (if through then { s.dbg with rdtr := t.dr.extractLsb' 0 32, dscr := s.dbg.dscr ||| 0x40000000#32 } else s.dbg)
        .selectDr) ∧
    (t.state = .updateIr → t.irShift = 0b01000#5 →
      goes false { s.dbg with haltPending := true, tap := { t with ir := 0b01000#5 } } .runTestIdle) ∧
    (t.state = .updateIr → t.irShift = 0b00100#5 →
      goes false { s.dbg with
        dscr := if s.halted then s.dbg.dscr &&& 0xFFFFFFFD#32 else s.dbg.dscr, tap := { t with ir := 0b00100#5 } } .runTestIdle)

/-! ### VFP -/

/-- FCPY, FABS and FNEG copy the bits with the sign changed, and the transfers between VFP and core registers move words; nothing
else changes (49:R1150 to R1152, R1174 to R1183, 16:R453, R456). R15, equal core registers and a pair past S31 are refused (93; DESIGN
CHOICE: log 39). -/
def Obligations.VfpMovesAndTransfers : Prop :=
  ∀ (c : Cond) (dBit mBit nBit : Bool) (fd fm fn : BitVec 4) (rd rn : Reg) (s : State), condHolds c s.cpsr = true → s.vfpReady →
    let sm : Word := s.vfp.regs[sNum fm mBit]
    let next (f : SingleReg) : SingleReg := Fin.ofNat 32 (f.val + 1)
    let pair (a b : Reg) (v x : Word) : Outcome :=
      .next { s.stepped with regs := (s.regs.set (bankedReg s.mode a) v).set (bankedReg s.mode b) x }
    (bit s.vfp.fpscr 12 = false → bits s.vfp.fpscr 16 3 = 0#3 → bits s.vfp.fpscr 20 2 = 0#2 →
      exec (.fcpys c dBit fd mBit fm) s = .next (s.wroteS [(sNum fd dBit, sm)] 0#32) ∧
      exec (.fabss c dBit fd mBit fm) s = .next (s.wroteS [(sNum fd dBit, sm &&& 0x7FFFFFFF#32)] 0#32) ∧
      exec (.fnegs c dBit fd mBit fm) s = .next (s.wroteS [(sNum fd dBit, sm ^^^ 0x80000000#32)] 0#32) ∧
      exec (.fcpyd c fd fm) s = .next (s.wroteS (dWords fd (s.dValue fm)) 0#32) ∧
      exec (.fabsd c fd fm) s = .next (s.wroteS (dWords fd (s.dValue fm &&& 0x7FFFFFFFFFFFFFFF#64)) 0#32) ∧
      exec (.fnegd c fd fm) s = .next (s.wroteS (dWords fd (s.dValue fm ^^^ 0x8000000000000000#64)) 0#32)) ∧
    (rd ≠ 15#4 →
      exec (.fmsr c fn rd nBit) s = .next (s.wroteS [(sNum fn nBit, s.reg rd)] 0#32) ∧
      exec (.fmdlr c fn rd) s = .next (s.wroteS [(dLow fn, s.reg rd)] 0#32) ∧
      exec (.fmdhr c fn rd) s = .next (s.wroteS [(dHigh fn, s.reg rd)] 0#32) ∧
      exec (.fmrs c fn rd nBit) s = .next (s.wrote rd s.vfp.regs[sNum fn nBit]) ∧
      exec (.fmrdl c fn rd) s = .next (s.wrote rd s.vfp.regs[dLow fn]) ∧
      exec (.fmrdh c fn rd) s = .next (s.wrote rd s.vfp.regs[dHigh fn])) ∧
    (rd ≠ 15#4 → rn ≠ 15#4 →
      exec (.fmdrr c rn rd fm) s = .next (s.wroteS [(dHigh fm, s.reg rn), (dLow fm, s.reg rd)] 0#32) ∧
      (sNum fm mBit ≠ 31 → exec (.fmsrr c rn rd mBit fm) s =
        .next (s.wroteS [(sNum fm mBit, s.reg rd), (next (sNum fm mBit), s.reg rn)] 0#32)) ∧
      (sNum fm mBit = 31 → exec (.fmsrr c rn rd mBit fm) s = .refused .vfpRegisters) ∧
      (rd ≠ rn → exec (.fmrrd c rn rd fm) s = pair rn rd s.vfp.regs[dHigh fm] s.vfp.regs[dLow fm]) ∧
      (rd ≠ rn → sNum fm mBit ≠ 31 → exec (.fmrrs c rn rd mBit fm) s = pair rd rn sm s.vfp.regs[next (sNum fm mBit)]) ∧
      (rd ≠ rn → sNum fm mBit = 31 → exec (.fmrrs c rn rd mBit fm) s = .refused .vfpRegisters) ∧
      (rd = rn → exec (.fmrrd c rn rd fm) s = .refused .registerField ∧
        exec (.fmrrs c rn rd mBit fm) s = .refused .registerField)) ∧
    (exec (.fmsr c fn 15#4 nBit) s = .refused .registerField ∧ exec (.fmrs c fn 15#4 nBit) s = .refused .registerField ∧
      exec (.fmdlr c fn 15#4) s = .refused .registerField ∧ exec (.fmrdh c fn 15#4) s = .refused .registerField ∧
      exec (.fmdrr c rn 15#4 fm) s = .refused .registerField ∧ exec (.fmrrd c 15#4 rd fm) s = .refused .registerField)

/-- Short vectors of single precision: with LEN + 1 = `n` > 1, stride 1 and a destination outside bank 0, FNEGS does `n` iterations
whose registers go round in their banks of eight; a source in bank 0 is one scalar for all of them; a destination in bank 0 makes
the operation scalar (16:R454, R461, 49:R1132). -/
def Obligations.VfpShortVectors : Prop :=
  ∀ (c : Cond) (dBit mBit : Bool) (fd fm : BitVec 4) (n : Nat) (s : State), condHolds c s.cpsr = true → s.vfpReady →
    bit s.vfp.fpscr 12 = false → bits s.vfp.fpscr 20 2 = 0#2 → 2 ≤ n → n ≤ 8 → (bits s.vfp.fpscr 16 3).toNat = n - 1 →
    let d := (sNum fd dBit).val
    let m := (sNum fm mBit).val
    let within (r k : Nat) : SingleReg := Fin.ofNat 32 (r / 8 * 8 + (r + k) % 8)
    let claim (source : Nat → SingleReg) : Prop :=
      ∃ t, exec (.fnegs c dBit fd mBit fm) s = .next t ∧
        (∀ k < n, t.vfp.regs[within d k] = s.vfp.regs[source k] ^^^ 0x80000000#32) ∧
        (∀ j : SingleReg, (∀ k < n, j ≠ within d k) → t.vfp.regs[j] = s.vfp.regs[j]) ∧
        t = { s.stepped with vfp := { s.vfp with regs := t.vfp.regs } }
    (d < 8 → exec (.fnegs c dBit fd mBit fm) s =
      .next (s.wroteS [(sNum fd dBit, s.vfp.regs[sNum fm mBit] ^^^ 0x80000000#32)] 0#32)) ∧
    (8 ≤ d → m < 8 → claim fun _ => sNum fm mBit) ∧
    (8 ≤ d → 8 ≤ m → (m = d ∨ m / 8 ≠ d / 8) → claim (within m))

/-- In RunFast mode, which is FZ and DN set and the six exception enables clear, no instruction bounces, whatever LEN and STRIDE are: the
arithmetic, the conversions and the comparisons of both precisions end in a next state where registers and flags of the VFP11 alone may have
changed, and not in the exceptional state, or are refused for their vectors. With LEN and STRIDE 0 each is completed, with a result, cumulative
flags and nothing else (16:R471). -/
def Obligations.VfpRunFastNeverBounces : Prop :=
  ∀ (c : Cond) (dBit nBit mBit : Bool) (fd fn fm : BitVec 4) (s : State), condHolds c s.cpsr = true → s.vfpReady →
    s.vfp.fpscr &&& 0x03009F00#32 = 0x03000000#32 →
    let singles : List Instr := [.fmacs c dBit fn fd nBit mBit fm, .fnmacs c dBit fn fd nBit mBit fm, .fmscs c dBit fn fd nBit mBit fm,
      .fnmscs c dBit fn fd nBit mBit fm, .fmuls c dBit fn fd nBit mBit fm, .fnmuls c dBit fn fd nBit mBit fm,
      .fadds c dBit fn fd nBit mBit fm, .fsubs c dBit fn fd nBit mBit fm, .fdivs c dBit fn fd nBit mBit fm,
      .fsqrts c dBit fd mBit fm, .fcvtsd c dBit fd fm, .fuitos c dBit fd mBit fm, .fsitos c dBit fd mBit fm,
      .ftouis c dBit fd mBit fm, .ftouid c dBit fd fm, .ftouizs c dBit fd mBit fm, .ftouizd c dBit fd fm,
      .ftosis c dBit fd mBit fm, .ftosid c dBit fd fm, .ftosizs c dBit fd mBit fm, .ftosizd c dBit fd fm]
    let doubles : List Instr := [.fmacd c fn fd fm, .fnmacd c fn fd fm, .fmscd c fn fd fm, .fnmscd c fn fd fm, .fmuld c fn fd fm,
      .fnmuld c fn fd fm, .faddd c fn fd fm, .fsubd c fn fd fm, .fdivd c fn fd fm, .fsqrtd c fd fm, .fcvtds c fd mBit fm,
      .fuitod c fd mBit fm, .fsitod c fd mBit fm]
    let comparisons : List Instr := [.fcmps c dBit fd mBit fm, .fcmpes c dBit fd mBit fm, .fcmpzs c dBit fd, .fcmpezs c dBit fd,
      .fcmpd c fd fm, .fcmped c fd fm, .fcmpzd c fd, .fcmpezd c fd]
    let cumulative (flags : Word) : Prop := flags &&& 0xFFFFFF60#32 = 0#32
    let one (i : Instr) : Prop := ∃ v flags, cumulative flags ∧ exec i s = .next (s.wroteS [(sNum fd dBit, v)] flags)
    let two (i : Instr) : Prop := ∃ v flags, cumulative flags ∧ exec i s = .next (s.wroteS (dWords fd v) flags)
    let compared (i : Instr) : Prop := ∃ (nzcv : BitVec 4) (flags : Word), cumulative flags ∧ exec i s = .next { s.stepped with
      vfp := { s.vfp with fpscr := (nzcv ++ s.vfp.fpscr.extractLsb' 0 28 : BitVec 32) ||| flags } }
    (∀ i ∈ singles ++ doubles ++ comparisons,
      exec i s = .refused .vfpLenStride ∨ exec i s = .refused .vfpRegisters ∨
      ∃ t, exec i s = .next t ∧
        t = { s.stepped with vfp := { s.vfp with regs := t.vfp.regs, fpscr := t.vfp.fpscr } } ∧
        t.vfp.fpscr &&& 0x0FFFFF60#32 = s.vfp.fpscr &&& 0x0FFFFF60#32) ∧
    (runFast s.vfp.fpscr → (∀ i ∈ singles, one i) ∧ (∀ i ∈ doubles, two i) ∧ ∀ i ∈ comparisons, compared i)

/-- In RunFast mode, where the exact sum, difference, product, quotient or square root of normal numbers is itself a normal number of the
format, it is the result, in every rounding mode, and no flag is set (16:R475, 49:R1140 to R1142, R1148, R1149). -/
def Obligations.VfpExactResults : Prop :=
  ∀ (c : Cond) (dBit nBit mBit : Bool) (fd fn fm : BitVec 4) (r : DWord) (s : State), condHolds c s.cpsr = true → s.vfpReady →
    runFast s.vfp.fpscr →
    (let a : DWord := s.vfp.regs[sNum fn nBit].setWidth 64
     let b : DWord := s.vfp.regs[sNum fm mBit].setWidth 64
     let gives (i : Instr) : Prop := exec i s = .next (s.wroteS [(sNum fd dBit, r.setWidth 32)] 0#32)
     let v := single.ratValue
     single.isNormal r → r.toNat < 2 ^ 32 → single.isNormal b →
       (single.isNormal a →
         (v a + v b = v r → gives (.fadds c dBit fn fd nBit mBit fm)) ∧ (v a - v b = v r → gives (.fsubs c dBit fn fd nBit mBit fm)) ∧
         (v a * v b = v r → gives (.fmuls c dBit fn fd nBit mBit fm)) ∧ (v a / v b = v r → gives (.fdivs c dBit fn fd nBit mBit fm))) ∧
       (0 < v r → v r * v r = v b → gives (.fsqrts c dBit fd mBit fm))) ∧
    (let a := s.dValue fn
     let b := s.dValue fm
     let gives (i : Instr) : Prop := exec i s = .next (s.wroteS (dWords fd r) 0#32)
     let v := double.ratValue
     double.isNormal r → double.isNormal b →
       (double.isNormal a →
         (v a + v b = v r → gives (.faddd c fn fd fm)) ∧ (v a - v b = v r → gives (.fsubd c fn fd fm)) ∧
         (v a * v b = v r → gives (.fmuld c fn fd fm)) ∧ (v a / v b = v r → gives (.fdivd c fn fd fm))) ∧
       (0 < v r → v r * v r = v b → gives (.fsqrtd c fd fm)))

/-- The comparisons write FPSCR[31:28] and, for NaNs, IOC: 1000 for less, 0110 for equal, 0010 for greater, by the values of normal
numbers; zeros are equal; with a NaN, in default NaN mode with no trap, 0011, and IOC for a signalling NaN and in the E forms for
every NaN (16:R460, R474, R476, 49:R1153 to R1156). -/
def Obligations.VfpComparisons : Prop :=
  ∀ (c : Cond) (dBit mBit : Bool) (fd fm : BitVec 4) (s : State), condHolds c s.cpsr = true → s.vfpReady →
    bit s.vfp.fpscr 12 = false →
    let flags (nzcv : BitVec 4) (more : Word) : Outcome := .next { s.stepped with
      vfp := { s.vfp with fpscr := (nzcv ++ s.vfp.fpscr.extractLsb' 0 28 : BitVec 32) ||| more } }
    let claim (f : Format) (a b : DWord) (i e : Instr) : Prop :=
      let v := f.ratValue
      let nan (x : DWord) : Bool := (f.unpack x).isNan f
      let signalling : Bool := (f.unpack a).isSignalling f || (f.unpack b).isSignalling f
      (f.isNormal a → f.isNormal b → ∀ j ∈ [i, e],
        (v a < v b → exec j s = flags 0b1000#4 0#32) ∧ (v a = v b → exec j s = flags 0b0110#4 0#32) ∧
        (v b < v a → exec j s = flags 0b0010#4 0#32)) ∧
      ((f.unpack a).isZero = true → (f.unpack b).isZero = true → ∀ j ∈ [i, e], exec j s = flags 0b0110#4 0#32) ∧
      ((nan a || nan b) = true → (f.unpack a).isSubnormal = false → (f.unpack b).isSubnormal = false →
        bit s.vfp.fpscr 25 = true → bit s.vfp.fpscr 8 = false →
        exec i s = flags 0b0011#4 (if signalling then 1#32 else 0#32) ∧ exec e s = flags 0b0011#4 1#32)
    let zero (f : Format) (a : DWord) (i e : Instr) : Prop :=
      (f.isNormal a → ∀ j ∈ [i, e], exec j s = flags (if (f.unpack a).neg then 0b1000#4 else 0b0010#4) 0#32) ∧
      ((f.unpack a).isZero = true → ∀ j ∈ [i, e], exec j s = flags 0b0110#4 0#32) ∧
      ((f.unpack a).isNan f = true → bit s.vfp.fpscr 25 = true → bit s.vfp.fpscr 8 = false →
        exec i s = flags 0b0011#4 (if (f.unpack a).isSignalling f then 1#32 else 0#32) ∧ exec e s = flags 0b0011#4 1#32)
    let a : DWord := s.vfp.regs[sNum fd dBit].setWidth 64
    claim single a (s.vfp.regs[sNum fm mBit].setWidth 64) (.fcmps c dBit fd mBit fm) (.fcmpes c dBit fd mBit fm) ∧
    claim double (s.dValue fd) (s.dValue fm) (.fcmpd c fd fm) (.fcmped c fd fm) ∧
    zero single a (.fcmpzs c dBit fd) (.fcmpezs c dBit fd) ∧ zero double (s.dValue fd) (.fcmpzd c fd) (.fcmpezd c fd)

/-- FLD, FST, FLDM and FSTM, in the plain memory setting at a word-aligned address: words at rising addresses, the least significant
word of a double first, or with CPSR.E the most significant; the base is written in the W forms; nothing else changes. No register,
a register past the last one, and R15 as an updated base are refused (49:R1135, R1170 to R1173, 16:R457, R489). -/
def Obligations.VfpLoadsAndStores : Prop :=
  ∀ (c : Cond) (u dBit : Bool) (rn : Reg) (fd : BitVec 4) (off8 : BitVec 8) (s : State), condHolds c s.cpsr = true → s.vfpReady →
    let bytes : Word := off8.setWidth 32 <<< 2
    let a := offsetAddress u (s.reg rn) bytes
    let swap : Bool := bit s.cpsr 9
    let down := s.reg rn - bytes
    let word (start : Word) (double : Bool) (k : Nat) : Word :=
      start + BitVec.ofNat 32 (4 * (if double && swap then (if k % 2 = 0 then k + 1 else k - 1) else k))
    let singles : Nat := off8.toNat
    let doubles : Nat := off8.toNat / 2 * 2
    let base (up w : Bool) : Vector Word 32 := if w then s.regs.set (bankedReg s.mode rn) (offsetAddress up (s.reg rn) bytes) else s.regs
    let load (i : Instr) (up w dbl : Bool) (first n : Nat) : Prop :=
      (w = true ∧ rn = 15#4 → exec i s = .refused .writeback) ∧
      ((w = true → rn ≠ 15#4) → (n = 0 ∨ 32 < first + n) → exec i s = .refused .vfpRegisters) ∧
      ((w = true → rn ≠ 15#4) → 0 < n → first + n ≤ 32 → s.plainMemory → (s.reg rn).toNat % 4 = 0 →
        ∃ t, exec i s = .next t ∧
          (∀ k < n, t.vfp.regs[Fin.ofNat 32 (first + k)] = s.memWord (word (if up then s.reg rn else down) dbl k)) ∧
          (∀ j : SingleReg, (j.val < first ∨ first + n ≤ j.val) → t.vfp.regs[j] = s.vfp.regs[j]) ∧
          t = { s.stepped with vfp := { s.vfp with regs := t.vfp.regs }, regs := base up w })
    let store (i : Instr) (up w dbl : Bool) (first n : Nat) : Prop :=
      (w = true ∧ rn = 15#4 → exec i s = .refused .writeback) ∧
      ((w = true → rn ≠ 15#4) → (n = 0 ∨ 32 < first + n) → exec i s = .refused .vfpRegisters) ∧
      ((w = true → rn ≠ 15#4) → 0 < n → first + n ≤ 32 → s.plainMemory → (s.cp15.bank s.nsState).fcse = 0#32 →
        (s.reg rn).toNat % 4 = 0 →
        ∃ t, exec i s = .next t ∧
          wordsStored s t ((List.range n).map fun k =>
            (word (if up then s.reg rn else down) dbl k, s.vfp.regs[Fin.ofNat 32 (first + k)])) ∧
          t = { s.stepped with mem := t.mem, stale := t.stale, regs := base up w })
    let f := (sNum fd dBit).val
    let d := (dLow fd).val
    (s.plainMemory → a.toNat % 4 = 0 →
      exec (.flds c u dBit rn fd off8) s = .next (s.wroteS [(sNum fd dBit, s.memWord a)] 0#32) ∧
      exec (.fldd c u rn fd off8) s = .next (s.wroteS
        [(dLow fd, s.memWord (if swap then a + 4#32 else a)), (dHigh fd, s.memWord (if swap then a else a + 4#32))] 0#32) ∧
      (∃ t, exec (.fsts c u dBit rn fd off8) s = .next t ∧ wordsStored s t [(a, s.vfp.regs[sNum fd dBit])] ∧
        t = { s.stepped with mem := t.mem, stale := t.stale }) ∧
      ∃ t, exec (.fstd c u rn fd off8) s = .next t ∧
        wordsStored s t [(if swap then a + 4#32 else a, s.vfp.regs[dLow fd]), (if swap then a else a + 4#32, s.vfp.regs[dHigh fd])] ∧
        t = { s.stepped with mem := t.mem, stale := t.stale }) ∧
    load (.fldmsIa c dBit rn fd off8) true false false f singles ∧ load (.fldmdxIa c rn fd off8) true false true d doubles ∧
    load (.fldmsIaW c dBit rn fd off8) true true false f singles ∧ load (.fldmdxIaW c rn fd off8) true true true d doubles ∧
    load (.fldmsDbW c dBit rn fd off8) false true false f singles ∧ load (.fldmdxDbW c rn fd off8) false true true d doubles ∧
    store (.fstmsIa c dBit rn fd off8) true false false f singles ∧ store (.fstmdxIa c rn fd off8) true false true d doubles ∧
    store (.fstmsIaW c dBit rn fd off8) true true false f singles ∧ store (.fstmdxIaW c rn fd off8) true true true d doubles ∧
    store (.fstmsDbW c dBit rn fd off8) false true false f singles ∧ store (.fstmdxDbW c rn fd off8) false true true d doubles

/-- FMXR, FMRX and FMSTAT, and the gates before every VFP instruction: with coprocessors 10 and 11 enabled, what a privileged mode
reads and writes; Undefined instructions, each of the 77 of them, where CPACR denies access, where EN is 0, in the exceptional state, and
for FPEXC and FPINST in User mode (16:R451, R452, R458 to R463, R487, 49:R1130, R1184 to R1186, 12:R165). That EN = 0 makes all of them
Undefined is the decision 92:D26, and that FMXR to the MVFRs has no effect is 92:D27. -/
def Obligations.VfpSystemRegistersAndGates : Prop :=
  ∀ (c : Cond) (rd rn : Reg) (dBit nBit mBit u : Bool) (fd fn fm : BitVec 4) (off8 : BitVec 8) (s : State),
    condHolds c s.cpsr = true → rd ≠ 15#4 → bits s.cp15.nsacr 10 2 = 0b11#2 → s.oldFetch = [] →
    let v := s.reg rd
    let read (n : BitVec 4) (x : Word) : Prop := exec (.fmrx c n rd) s = .next (s.wrote rd x)
    let write (n : BitVec 4) (f : Vfp) : Prop := exec (.fmxr c n rd) s = .next { s.stepped with vfp := f }
    let others : List Instr := [Instr.fmacs c dBit fn fd nBit mBit fm, .fmacd c fn fd fm, .fnmacs c dBit fn fd nBit mBit fm,
      .fnmacd c fn fd fm, .fmscs c dBit fn fd nBit mBit fm, .fmscd c fn fd fm, .fnmscs c dBit fn fd nBit mBit fm, .fnmscd c fn fd fm,
      .fmuls c dBit fn fd nBit mBit fm, .fmuld c fn fd fm, .fnmuls c dBit fn fd nBit mBit fm, .fnmuld c fn fd fm,
      .fadds c dBit fn fd nBit mBit fm, .faddd c fn fd fm, .fsubs c dBit fn fd nBit mBit fm, .fsubd c fn fd fm,
      .fdivs c dBit fn fd nBit mBit fm, .fdivd c fn fd fm, .fcpys c dBit fd mBit fm, .fcpyd c fd fm, .fabss c dBit fd mBit fm,
      .fabsd c fd fm, .fnegs c dBit fd mBit fm, .fnegd c fd fm, .fsqrts c dBit fd mBit fm, .fsqrtd c fd fm, .fcmps c dBit fd mBit fm,
      .fcmpd c fd fm, .fcmpes c dBit fd mBit fm, .fcmped c fd fm, .fcmpzs c dBit fd, .fcmpzd c fd, .fcmpezs c dBit fd, .fcmpezd c fd,
      .fcvtds c fd mBit fm, .fcvtsd c dBit fd fm, .fuitos c dBit fd mBit fm, .fuitod c fd mBit fm, .fsitos c dBit fd mBit fm,
      .fsitod c fd mBit fm, .ftouis c dBit fd mBit fm, .ftouid c dBit fd fm, .ftouizs c dBit fd mBit fm, .ftouizd c dBit fd fm,
      .ftosis c dBit fd mBit fm, .ftosid c dBit fd fm, .ftosizs c dBit fd mBit fm, .ftosizd c dBit fd fm, .flds c u dBit rn fd off8,
      .fldd c u rn fd off8, .fsts c u dBit rn fd off8, .fstd c u rn fd off8, .fldmsIa c dBit rn fd off8, .fldmdxIa c rn fd off8,
      .fldmsIaW c dBit rn fd off8, .fldmdxIaW c rn fd off8, .fldmsDbW c dBit rn fd off8, .fldmdxDbW c rn fd off8,
      .fstmsIa c dBit rn fd off8, .fstmdxIa c rn fd off8, .fstmsIaW c dBit rn fd off8, .fstmdxIaW c rn fd off8,
      .fstmsDbW c dBit rn fd off8, .fstmdxDbW c rn fd off8, .fmsr c fn rd nBit, .fmrs c fn rd nBit, .fmdlr c fn rd, .fmrdl c fn rd,
      .fmdhr c fn rd, .fmrdh c fn rd, .fmxr c 1#4 rd, .fmstat c, .fmrx c 1#4 rd, .fmdrr c rn rd fm, .fmrrd c rn rd fm,
      .fmsrr c rn rd mBit fm, .fmrrs c rn rd mBit fm]
    (bits s.cp15.cpacr 20 4 = 0b1111#4 → s.mode ≠ 0b10000#5 →
      read 0#4 (fpsidValue s.impl) ∧ read 6#4 0x00000000#32 ∧ read 7#4 0x11111111#32 ∧ read 8#4 s.vfp.fpexc ∧ read 9#4 s.vfp.fpinst ∧
      write 0#4 s.vfp ∧ write 6#4 s.vfp ∧ write 7#4 s.vfp ∧ write 8#4 { s.vfp with fpexc := v &&& 0xD000078D#32 } ∧
      write 9#4 { s.vfp with fpinst := v } ∧ write 10#4 { s.vfp with fpinst2 := v }) ∧
    (bits s.cp15.cpacr 20 4 = 0b1111#4 → bit s.vfp.fpexc 30 = true → bit s.vfp.fpexc 31 = false →
      read 1#4 s.vfp.fpscr ∧ write 1#4 { s.vfp with fpscr := v &&& 0xF3F79F9F#32 } ∧
      exec (.fmstat c) s = .next { s.stepped with cpsr := s.vfp.fpscr.extractLsb' 28 4 ++ s.cpsr.extractLsb' 0 28 }) ∧
    (bits s.cp15.cpacr 20 4 = 0b1111#4 → (bit s.vfp.fpexc 30 = false ∨ bit s.vfp.fpexc 31 = true) →
      ∀ i ∈ others, raisesUndefined i s) ∧
    (bits s.cp15.cpacr 20 4 = 0b1111#4 → s.mode = 0b10000#5 → ∀ n ∈ [8#4, 9#4, 10#4],
      raisesUndefined (.fmrx c n rd) s ∧ raisesUndefined (.fmxr c n rd) s) ∧
    ((bits s.cp15.cpacr 20 4 = 0#4 ∨ (bits s.cp15.cpacr 20 4 = 0b0101#4 ∧ s.mode = 0b10000#5)) →
      (∀ i ∈ others, raisesUndefined i s) ∧ ∀ n : BitVec 4, raisesUndefined (.fmrx c n rd) s ∧ raisesUndefined (.fmxr c n rd) s)

/-! ### Thumb -/

/-- The Thumb instructions that compute in registers: the shifts, ADD, SUB, MOV, the two-operand operations, MUL and the comparisons,
with their flags; the high-register, SP and PC forms, the extensions and the byte reversals, without flags; a write of R15
branches (48:R1072 to R1112, R1115 to R1117, R1120 to R1123, 40:R741 to R744). -/
def Obligations.ThumbRegisterResults : Prop :=
  ∀ (rd rn rm : LowReg) (h1 h2 : Bool) (imm3 : BitVec 3) (imm5 : BitVec 5) (imm7 : BitVec 7) (imm8 : BitVec 8),
    let r (x : LowReg) (s : State) : Word := s.reg (lowReg x)
    let w3 (_ : State) : Word := imm3.setWidth 32
    let w8 (_ : State) : Word := imm8.setWidth 32
    let z (_ : State) : Word := 0#32
    let alu (i : Instr) (op : Alu) (a b : State → Word) : Prop :=
      thumbResult i rd (fun s => op.value (a s) (b s) (bit s.cpsr 29)) fun s => op.flags (a s) (b s) (bit s.cpsr 29) s.cpsr
    let shift (i : Instr) (x : State → Word × Bool) : Prop :=
      thumbResult i rd (fun s => (x s).1) fun s => Alu.mov.flags 0#32 (x s).1 (x s).2 s.cpsr
    let compare (i : Instr) (op : Alu) (a b : State → Word) : Prop :=
      ∀ s, exec i s = .next { s.stepped with cpsr := op.flags (a s) (b s) (bit s.cpsr 29) s.cpsr }
    let amount (s : State) : Nat := (r rm s).toNat % 256
    let plain (i : Instr) (v : State → Word) : Prop := thumbResult i rd v (·.cpsr)
    let d : Reg := BitVec.ofBool h1 ++ rd
    let m : Reg := BitVec.ofBool h2 ++ rm
    let high (i : Instr) (v : State → Word) : Prop := ∀ s : State,
      (d ≠ 15#4 → exec i s = .next (s.wrote d (v s))) ∧
      (d = 15#4 → s.halted = false → exec i s = .next { s with pc := (v s).extractLsb' 1 31 ++ 0#1 })
    let sp (i : Instr) (v : State → Word) : Prop := ∀ s : State, exec i s = .next (s.wrote 13#4 (v s))
    shift (.tLslImm imm5 rm rd) (fun s => shiftedBy (r rm s) .lsl imm5 (bit s.cpsr 29)) ∧
    shift (.tLsrImm imm5 rm rd) (fun s => shiftedBy (r rm s) .lsr imm5 (bit s.cpsr 29)) ∧
    shift (.tAsrImm imm5 rm rd) (fun s => shiftedBy (r rm s) .asr imm5 (bit s.cpsr 29)) ∧
    shift (.tLslReg rm rd) (fun s => shiftC (r rd s) .lsl (amount s) (bit s.cpsr 29)) ∧
    shift (.tLsrReg rm rd) (fun s => shiftC (r rd s) .lsr (amount s) (bit s.cpsr 29)) ∧
    shift (.tAsrReg rm rd) (fun s => shiftC (r rd s) .asr (amount s) (bit s.cpsr 29)) ∧
    shift (.tRorReg rm rd) (fun s => shiftC (r rd s) .ror (amount s) (bit s.cpsr 29)) ∧
    alu (.tAddReg3 rm rn rd) .add (r rn) (r rm) ∧ alu (.tSubReg3 rm rn rd) .sub (r rn) (r rm) ∧ alu (.tMovLow rm rd) .add (r rm) z ∧
    alu (.tAddImm3 imm3 rn rd) .add (r rn) w3 ∧ alu (.tSubImm3 imm3 rn rd) .sub (r rn) w3 ∧ alu (.tMovImm8 rd imm8) .mov z w8 ∧
    alu (.tAddImm8 rd imm8) .add (r rd) w8 ∧ alu (.tSubImm8 rd imm8) .sub (r rd) w8 ∧ alu (.tAndReg rm rd) .and (r rd) (r rm) ∧
    alu (.tEorReg rm rd) .eor (r rd) (r rm) ∧ alu (.tAdcReg rm rd) .adc (r rd) (r rm) ∧ alu (.tSbcReg rm rd) .sbc (r rd) (r rm) ∧
    alu (.tNegReg rm rd) .rsb (r rm) z ∧ alu (.tOrrReg rm rd) .orr (r rd) (r rm) ∧ alu (.tBicReg rm rd) .bic (r rd) (r rm) ∧
    alu (.tMvnReg rm rd) .mvn z (r rm) ∧
    thumbResult (.tMulReg rm rd) rd (fun s => r rm s * r rd s)
      (fun s => withNZ s.cpsr (r rm s * r rd s).msb (r rm s * r rd s == 0#32)) ∧
    compare (.tTstReg rm rd) .and (r rd) (r rm) ∧ compare (.tCmpReg rm rd) .sub (r rd) (r rm) ∧
    compare (.tCmnReg rm rd) .add (r rd) (r rm) ∧ compare (.tCmpImm8 rn imm8) .sub (r rn) w8 ∧
    (((h1 = false ∧ h2 = false) ∨ d = 15#4) → ∀ s, exec (.tCmpHigh h1 h2 rm rd) s = .refused .registerField) ∧
    ((h1 = true ∨ h2 = true) → d ≠ 15#4 → compare (.tCmpHigh h1 h2 rm rd) .sub (·.reg d) (·.reg m)) ∧
    high (.tAddHigh h1 h2 rm rd) (fun s => s.reg d + s.reg m) ∧ high (.tMovHigh h1 h2 rm rd) (·.reg m) ∧
    plain (.tAddPc rd imm8) (fun s => ((s.reg 15#4).extractLsb' 2 30 ++ 0#2) + (imm8 ++ 0#2 : BitVec 10).setWidth 32) ∧
    plain (.tAddSpImm rd imm8) (fun s => s.reg 13#4 + (imm8 ++ 0#2 : BitVec 10).setWidth 32) ∧
    sp (.tAddToSp imm7) (fun s => s.reg 13#4 + (imm7 ++ 0#2 : BitVec 9).setWidth 32) ∧
    sp (.tSubFromSp imm7) (fun s => s.reg 13#4 - (imm7 ++ 0#2 : BitVec 9).setWidth 32) ∧
    plain (.tSxth rm rd) (fun s => (halfOf (r rm s) false).signExtend 32) ∧
    plain (.tSxtb rm rd) (fun s => (byteIn (r rm s) 0).signExtend 32) ∧
    plain (.tUxth rm rd) (fun s => (halfOf (r rm s) false).setWidth 32) ∧
    plain (.tUxtb rm rd) (fun s => (byteIn (r rm s) 0).setWidth 32) ∧
    plain (.tRev rm rd) (fun s => byteIn (r rm s) 0 ++ byteIn (r rm s) 1 ++ byteIn (r rm s) 2 ++ byteIn (r rm s) 3) ∧
    plain (.tRev16 rm rd) (fun s => byteIn (r rm s) 2 ++ byteIn (r rm s) 3 ++ byteIn (r rm s) 0 ++ byteIn (r rm s) 1) ∧
    plain (.tRevsh rm rd) (fun s => (byteIn (r rm s) 0 ++ byteIn (r rm s) 1 : BitVec 16).signExtend 32)

/-- The Thumb loads and stores of one register, in the plain memory setting at an aligned address: the addresses of every form, the
loaded values and the stored bytes; nothing else changes (48:R1740 to R1756). -/
def Obligations.ThumbLoadsAndStores : Prop :=
  ∀ (rd rn rm : LowReg) (imm5 : BitVec 5) (imm8 : BitVec 8),
    let index (s : State) : Word := s.reg (lowReg rn) + s.reg (lowReg rm)
    let at1 (s : State) : Word := s.reg (lowReg rn) + imm5.setWidth 32
    let at2 (s : State) : Word := s.reg (lowReg rn) + (imm5 ++ 0#1 : BitVec 6).setWidth 32
    let at4 (s : State) : Word := s.reg (lowReg rn) + (imm5 ++ 0#2 : BitVec 7).setWidth 32
    let words : Word := (imm8 ++ 0#2 : BitVec 10).setWidth 32
    let sp (s : State) : Word := s.reg 13#4 + words
    let pc (s : State) : Word := ((s.reg 15#4).extractLsb' 2 30 ++ 0#2) + words
    let word (s : State) (a : Word) : Word := s.memWord a
    let byte (s : State) (a : Word) : Word := (s.memByte a 0).setWidth 32
    let half (s : State) (a : Word) : Word := (s.memHalf a).setWidth 32
    thumbLoadResult (.tLdrPc rd imm8) rd pc 4 word ∧ thumbLoadResult (.tLdrSp rd imm8) rd sp 4 word ∧
    thumbLoadResult (.tLdrReg rm rn rd) rd index 4 word ∧ thumbLoadResult (.tLdrImm imm5 rn rd) rd at4 4 word ∧
    thumbLoadResult (.tLdrhReg rm rn rd) rd index 2 half ∧ thumbLoadResult (.tLdrhImm imm5 rn rd) rd at2 2 half ∧
    thumbLoadResult (.tLdrbReg rm rn rd) rd index 1 byte ∧ thumbLoadResult (.tLdrbImm imm5 rn rd) rd at1 1 byte ∧
    thumbLoadResult (.tLdrsbReg rm rn rd) rd index 1 (fun s a => (s.memByte a 0).signExtend 32) ∧
    thumbLoadResult (.tLdrshReg rm rn rd) rd index 2 (fun s a => (s.memHalf a).signExtend 32) ∧
    thumbStoreResult (.tStrSp rd imm8) rd sp 4 ∧ thumbStoreResult (.tStrReg rm rn rd) rd index 4 ∧
    thumbStoreResult (.tStrImm imm5 rn rd) rd at4 4 ∧ thumbStoreResult (.tStrhReg rm rn rd) rd index 2 ∧
    thumbStoreResult (.tStrhImm imm5 rn rd) rd at2 2 ∧ thumbStoreResult (.tStrbReg rm rn rd) rd index 1 ∧
    thumbStoreResult (.tStrbImm imm5 rn rd) rd at1 1

/-- PUSH, POP, STMIA and LDMIA in the plain memory setting, and the Thumb branches B, BX, BLX and the halves of BL and BLX, outside
Debug state. An empty list, a target with bits [1:0] = 10, and STMIA with the base in the list but not lowest are refused (48:R1101 to R1105, R1124 to R1126, R1128, 42:R867, 43:R910). -/
def Obligations.ThumbBlocksAndBranches : Prop :=
  ∀ (c : Cond) (extra h2 : Bool) (rm : LowReg) (regs : BitVec 8) (off8 : BitVec 8) (off10 : BitVec 10) (off11 : BitVec 11) (s : State),
    s.thumb = true → s.halted = false →
    let base := s.reg (lowReg rm)
    let stack := s.reg 13#4
    let list : BitVec 16 := regs.setWidth 16
    let pushed : BitVec 16 := list ||| (if extra then 0x4000#16 else 0#16)
    let popped : BitVec 16 := list ||| (if extra then 0x8000#16 else 0#16)
    let loaded (start : Reg → Word) (l : BitVec 16) (b : Reg) (v : Word) (r : Reg) : Word :=
      if bit l r.toNat then s.memWord (start r) else if r = b then v else s.regIn s.mode r
    let stored (t : State) (b : Reg) (v : Word) : State :=
      { s with mem := t.mem, stale := t.stale, regs := s.regs.set (bankedReg s.mode b) v, pc := s.pc + 2#32 }
    let return1 : Word := (s.pc + 2#32) ||| 1#32
    let linked : Vector Word 32 := s.regs.set (bankedReg s.mode 14#4) return1
    let v := s.reg (BitVec.ofBool h2 ++ rm : BitVec 4)
    let even (x : Word) : Word := x.extractLsb' 1 31 ++ 0#1
    let arm : Word := s.cpsr &&& 0xFFFFFFDF#32
    let target := s.reg 14#4 + (off11 ++ 0#1 : BitVec 12).setWidth 32
    (exec (.tPush false 0#8) s = .refused .registerList ∧ exec (.tPop false 0#8) s = .refused .registerList ∧
      exec (.tStmia rm 0#8) s = .refused .registerList ∧ exec (.tLdmia rm 0#8) s = .refused .registerList ∧
      (bit list rm.toNat = true → below list (lowReg rm) ≠ 0 → exec (.tStmia rm regs) s = .refused .registerList)) ∧
    (s.plainMemory → (s.cp15.bank s.nsState).fcse = 0#32 → stack.toNat % 4 = 0 → pushed ≠ 0#16 →
      ∃ t, exec (.tPush extra regs) s = .next t ∧ blockStored s t pushed (slotAddress true false stack pushed) s.reg ∧
        t = stored t 13#4 (blockEnd false stack (listSize pushed))) ∧
    (s.plainMemory → stack.toNat % 4 = 0 → popped ≠ 0#16 →
      let after := loaded (slotAddress false true stack popped) popped 13#4 (blockEnd true stack (listSize popped))
      let p := s.memWord (slotAddress false true stack popped 15#4)
      (extra = false → ∃ t, exec (.tPop extra regs) s = .next t ∧ modeRegs s t s.mode after ∧
        t = { s with regs := t.regs, pc := s.pc + 2#32 }) ∧
      (extra = true → (s.controlBit 15 = true ∨ bit p 0 = true) → ∃ t, exec (.tPop extra regs) s = .next t ∧
        modeRegs s t s.mode after ∧ t = { s with regs := t.regs, pc := even p }) ∧
      (extra = true → s.controlBit 15 = false → bit p 0 = false → bit p 1 = false → ∃ t, exec (.tPop extra regs) s = .next t ∧
        modeRegs s t s.mode after ∧ t = { s with regs := t.regs, cpsr := arm, pc := p }) ∧
      (extra = true → s.controlBit 15 = false → bit p 0 = false → bit p 1 = true →
        exec (.tPop extra regs) s = .refused .branchTarget)) ∧
    (s.plainMemory → base.toNat % 4 = 0 → list ≠ 0#16 →
      ((s.cp15.bank s.nsState).fcse = 0#32 → (bit list rm.toNat = true → below list (lowReg rm) = 0) →
        ∃ t, exec (.tStmia rm regs) s = .next t ∧ blockStored s t list (slotAddress false true base list) s.reg ∧
          t = stored t (lowReg rm) (blockEnd true base (listSize list))) ∧
      ∃ t, exec (.tLdmia rm regs) s = .next t ∧
        modeRegs s t s.mode (loaded (slotAddress false true base list) list (lowReg rm) (blockEnd true base (listSize list))) ∧
        t = { s with regs := t.regs, pc := s.pc + 2#32 }) ∧
    exec (.tB off11) s = .next { s with pc := s.pc + 4#32 + (off11 ++ 0#1 : BitVec 12).signExtend 32 } ∧
    (condHolds c s.cpsr = true →
      exec (.tBCond c off8) s = .next { s with pc := s.pc + 4#32 + (off8 ++ 0#1 : BitVec 9).signExtend 32 }) ∧
    exec (.tBlPrefix off11) s = .next (s.wrote 14#4 (s.pc + 4#32 + (off11 ++ 0#12 : BitVec 23).signExtend 32)) ∧
    (bit target 0 = false → exec (.tBlSuffix off11) s = .next { s with regs := linked, pc := target }) ∧
    (bit target 0 = true → exec (.tBlSuffix off11) s = .refused .branchTarget) ∧
    exec (.tBlxSuffix off10) s = .next { s with
      regs := linked, cpsr := arm, pc := (s.reg 14#4 + (off10 ++ 0#2 : BitVec 12).setWidth 32).extractLsb' 2 30 ++ 0#2 } ∧
    (bit v 0 = true → exec (.tBx h2 rm) s = .next { s with pc := even v } ∧
      ((BitVec.ofBool h2 ++ rm : BitVec 4) ≠ 15#4 → exec (.tBlx2 h2 rm) s = .next { s with regs := linked, pc := even v })) ∧
    (bit v 0 = false → bit v 1 = false → exec (.tBx h2 rm) s = .next { s with cpsr := arm, pc := v } ∧
      ((BitVec.ofBool h2 ++ rm : BitVec 4) ≠ 15#4 → exec (.tBlx2 h2 rm) s = .next { s with regs := linked, cpsr := arm, pc := v })) ∧
    (bit v 0 = false → bit v 1 = true → exec (.tBx h2 rm) s = .refused .branchTarget) ∧
    exec (.tBlx2 true 7#3) s = .refused .registerField
end

