-- ==== Sys2Proof/Laws/State.lean ====
section
/-! SUPPORT. What each update of the state leaves as it was: one lemma per field and update. Then the accessors after the updates. -/

namespace Sys2Proof.Machine

open Sys2Proof

/-! ### `setRegIn` -/

@[simp] theorem State.setRegIn_pc (s : State) (m : BitVec 5) (r : Reg) (v : Word) : (s.setRegIn m r v).pc = s.pc := rfl
@[simp] theorem State.setRegIn_cpsr (s : State) (m : BitVec 5) (r : Reg) (v : Word) : (s.setRegIn m r v).cpsr = s.cpsr := rfl
@[simp] theorem State.setRegIn_spsrs (s : State) (m : BitVec 5) (r : Reg) (v : Word) : (s.setRegIn m r v).spsrs = s.spsrs := rfl
@[simp] theorem State.setRegIn_mem (s : State) (m : BitVec 5) (r : Reg) (v : Word) : (s.setRegIn m r v).mem = s.mem := rfl
@[simp] theorem State.setRegIn_itcm (s : State) (m : BitVec 5) (r : Reg) (v : Word) : (s.setRegIn m r v).itcm = s.itcm := rfl
@[simp] theorem State.setRegIn_dtcm (s : State) (m : BitVec 5) (r : Reg) (v : Word) : (s.setRegIn m r v).dtcm = s.dtcm := rfl
@[simp] theorem State.setRegIn_localMon (s : State) (m : BitVec 5) (r : Reg) (v : Word) : (s.setRegIn m r v).localMon = s.localMon := rfl
@[simp] theorem State.setRegIn_globalMon (s : State) (m : BitVec 5) (r : Reg) (v : Word) : (s.setRegIn m r v).globalMon = s.globalMon := rfl
@[simp] theorem State.setRegIn_cp15 (s : State) (m : BitVec 5) (r : Reg) (v : Word) : (s.setRegIn m r v).cp15 = s.cp15 := rfl
@[simp] theorem State.setRegIn_dbg (s : State) (m : BitVec 5) (r : Reg) (v : Word) : (s.setRegIn m r v).dbg = s.dbg := rfl
@[simp] theorem State.setRegIn_vfp (s : State) (m : BitVec 5) (r : Reg) (v : Word) : (s.setRegIn m r v).vfp = s.vfp := rfl
@[simp] theorem State.setRegIn_standby (s : State) (m : BitVec 5) (r : Reg) (v : Word) : (s.setRegIn m r v).standby = s.standby := rfl
@[simp] theorem State.setRegIn_memNs (s : State) (m : BitVec 5) (r : Reg) (v : Word) : (s.setRegIn m r v).memNs = s.memNs := rfl
@[simp] theorem State.setRegIn_dcache (s : State) (m : BitVec 5) (r : Reg) (v : Word) : (s.setRegIn m r v).dcache = s.dcache := rfl
@[simp] theorem State.setRegIn_icache (s : State) (m : BitVec 5) (r : Reg) (v : Word) : (s.setRegIn m r v).icache = s.icache := rfl
@[simp] theorem State.setRegIn_irqack (s : State) (m : BitVec 5) (r : Reg) (v : Word) : (s.setRegIn m r v).irqack = s.irqack := rfl
@[simp] theorem State.setRegIn_writeBuffer (s : State) (m : BitVec 5) (r : Reg) (v : Word) : (s.setRegIn m r v).writeBuffer = s.writeBuffer := rfl
@[simp] theorem State.setRegIn_trace (s : State) (m : BitVec 5) (r : Reg) (v : Word) : (s.setRegIn m r v).trace = s.trace := rfl
@[simp] theorem State.setRegIn_acpEnabled (s : State) (m : BitVec 5) (r : Reg) (v : Word) : (s.setRegIn m r v).acpEnabled = s.acpEnabled := rfl
@[simp] theorem State.setRegIn_clamped (s : State) (m : BitVec 5) (r : Reg) (v : Word) : (s.setRegIn m r v).clamped = s.clamped := rfl
@[simp] theorem State.setRegIn_inflight (s : State) (m : BitVec 5) (r : Reg) (v : Word) : (s.setRegIn m r v).inflight = s.inflight := rfl
@[simp] theorem State.setRegIn_committed (s : State) (m : BitVec 5) (r : Reg) (v : Word) : (s.setRegIn m r v).committed = s.committed := rfl
@[simp] theorem State.setRegIn_impl (s : State) (m : BitVec 5) (r : Reg) (v : Word) : (s.setRegIn m r v).impl = s.impl := rfl
@[simp] theorem State.setRegIn_oldMap (s : State) (m : BitVec 5) (r : Reg) (v : Word) : (s.setRegIn m r v).oldMap = s.oldMap := rfl
@[simp] theorem State.setRegIn_pendingAbort (s : State) (m : BitVec 5) (r : Reg) (v : Word) : (s.setRegIn m r v).pendingAbort = s.pendingAbort := rfl
@[simp] theorem State.setRegIn_watchHit (s : State) (m : BitVec 5) (r : Reg) (v : Word) : (s.setRegIn m r v).watchHit = s.watchHit := rfl
@[simp] theorem State.setRegIn_pins (s : State) (m : BitVec 5) (r : Reg) (v : Word) : (s.setRegIn m r v).pins = s.pins := rfl
@[simp] theorem State.setRegIn_bus (s : State) (m : BitVec 5) (r : Reg) (v : Word) : (s.setRegIn m r v).bus = s.bus := rfl
@[simp] theorem State.setRegIn_freeCtr (s : State) (m : BitVec 5) (r : Reg) (v : Word) : (s.setRegIn m r v).freeCtr = s.freeCtr := rfl
@[simp] theorem State.setRegIn_stale (s : State) (m : BitVec 5) (r : Reg) (v : Word) : (s.setRegIn m r v).stale = s.stale := rfl
@[simp] theorem State.setRegIn_oldFetch (s : State) (m : BitVec 5) (r : Reg) (v : Word) : (s.setRegIn m r v).oldFetch = s.oldFetch := rfl

/-! ### `setReg` -/

@[simp] theorem State.setReg_pc (s : State) (r : Reg) (v : Word) : (s.setReg r v).pc = s.pc := rfl
@[simp] theorem State.setReg_cpsr (s : State) (r : Reg) (v : Word) : (s.setReg r v).cpsr = s.cpsr := rfl
@[simp] theorem State.setReg_spsrs (s : State) (r : Reg) (v : Word) : (s.setReg r v).spsrs = s.spsrs := rfl
@[simp] theorem State.setReg_mem (s : State) (r : Reg) (v : Word) : (s.setReg r v).mem = s.mem := rfl
@[simp] theorem State.setReg_itcm (s : State) (r : Reg) (v : Word) : (s.setReg r v).itcm = s.itcm := rfl
@[simp] theorem State.setReg_dtcm (s : State) (r : Reg) (v : Word) : (s.setReg r v).dtcm = s.dtcm := rfl
@[simp] theorem State.setReg_localMon (s : State) (r : Reg) (v : Word) : (s.setReg r v).localMon = s.localMon := rfl
@[simp] theorem State.setReg_globalMon (s : State) (r : Reg) (v : Word) : (s.setReg r v).globalMon = s.globalMon := rfl
@[simp] theorem State.setReg_cp15 (s : State) (r : Reg) (v : Word) : (s.setReg r v).cp15 = s.cp15 := rfl
@[simp] theorem State.setReg_dbg (s : State) (r : Reg) (v : Word) : (s.setReg r v).dbg = s.dbg := rfl
@[simp] theorem State.setReg_vfp (s : State) (r : Reg) (v : Word) : (s.setReg r v).vfp = s.vfp := rfl
@[simp] theorem State.setReg_standby (s : State) (r : Reg) (v : Word) : (s.setReg r v).standby = s.standby := rfl
@[simp] theorem State.setReg_memNs (s : State) (r : Reg) (v : Word) : (s.setReg r v).memNs = s.memNs := rfl
@[simp] theorem State.setReg_dcache (s : State) (r : Reg) (v : Word) : (s.setReg r v).dcache = s.dcache := rfl
@[simp] theorem State.setReg_icache (s : State) (r : Reg) (v : Word) : (s.setReg r v).icache = s.icache := rfl
@[simp] theorem State.setReg_irqack (s : State) (r : Reg) (v : Word) : (s.setReg r v).irqack = s.irqack := rfl
@[simp] theorem State.setReg_writeBuffer (s : State) (r : Reg) (v : Word) : (s.setReg r v).writeBuffer = s.writeBuffer := rfl
@[simp] theorem State.setReg_trace (s : State) (r : Reg) (v : Word) : (s.setReg r v).trace = s.trace := rfl
@[simp] theorem State.setReg_acpEnabled (s : State) (r : Reg) (v : Word) : (s.setReg r v).acpEnabled = s.acpEnabled := rfl
@[simp] theorem State.setReg_clamped (s : State) (r : Reg) (v : Word) : (s.setReg r v).clamped = s.clamped := rfl
@[simp] theorem State.setReg_inflight (s : State) (r : Reg) (v : Word) : (s.setReg r v).inflight = s.inflight := rfl
@[simp] theorem State.setReg_committed (s : State) (r : Reg) (v : Word) : (s.setReg r v).committed = s.committed := rfl
@[simp] theorem State.setReg_impl (s : State) (r : Reg) (v : Word) : (s.setReg r v).impl = s.impl := rfl
@[simp] theorem State.setReg_oldMap (s : State) (r : Reg) (v : Word) : (s.setReg r v).oldMap = s.oldMap := rfl
@[simp] theorem State.setReg_pendingAbort (s : State) (r : Reg) (v : Word) : (s.setReg r v).pendingAbort = s.pendingAbort := rfl
@[simp] theorem State.setReg_watchHit (s : State) (r : Reg) (v : Word) : (s.setReg r v).watchHit = s.watchHit := rfl
@[simp] theorem State.setReg_pins (s : State) (r : Reg) (v : Word) : (s.setReg r v).pins = s.pins := rfl
@[simp] theorem State.setReg_bus (s : State) (r : Reg) (v : Word) : (s.setReg r v).bus = s.bus := rfl
@[simp] theorem State.setReg_freeCtr (s : State) (r : Reg) (v : Word) : (s.setReg r v).freeCtr = s.freeCtr := rfl
@[simp] theorem State.setReg_stale (s : State) (r : Reg) (v : Word) : (s.setReg r v).stale = s.stale := rfl
@[simp] theorem State.setReg_oldFetch (s : State) (r : Reg) (v : Word) : (s.setReg r v).oldFetch = s.oldFetch := rfl

/-! ### `advance` -/

@[simp] theorem State.advance_regs (s : State) : (s.advance).regs = s.regs := by unfold State.advance; split <;> rfl
@[simp] theorem State.advance_cpsr (s : State) : (s.advance).cpsr = s.cpsr := by unfold State.advance; split <;> rfl
@[simp] theorem State.advance_spsrs (s : State) : (s.advance).spsrs = s.spsrs := by unfold State.advance; split <;> rfl
@[simp] theorem State.advance_mem (s : State) : (s.advance).mem = s.mem := by unfold State.advance; split <;> rfl
@[simp] theorem State.advance_itcm (s : State) : (s.advance).itcm = s.itcm := by unfold State.advance; split <;> rfl
@[simp] theorem State.advance_dtcm (s : State) : (s.advance).dtcm = s.dtcm := by unfold State.advance; split <;> rfl
@[simp] theorem State.advance_localMon (s : State) : (s.advance).localMon = s.localMon := by unfold State.advance; split <;> rfl
@[simp] theorem State.advance_globalMon (s : State) : (s.advance).globalMon = s.globalMon := by unfold State.advance; split <;> rfl
@[simp] theorem State.advance_cp15 (s : State) : (s.advance).cp15 = s.cp15 := by unfold State.advance; split <;> rfl
@[simp] theorem State.advance_dbg (s : State) : (s.advance).dbg = s.dbg := by unfold State.advance; split <;> rfl
@[simp] theorem State.advance_vfp (s : State) : (s.advance).vfp = s.vfp := by unfold State.advance; split <;> rfl
@[simp] theorem State.advance_standby (s : State) : (s.advance).standby = s.standby := by unfold State.advance; split <;> rfl
@[simp] theorem State.advance_memNs (s : State) : (s.advance).memNs = s.memNs := by unfold State.advance; split <;> rfl
@[simp] theorem State.advance_dcache (s : State) : (s.advance).dcache = s.dcache := by unfold State.advance; split <;> rfl
@[simp] theorem State.advance_icache (s : State) : (s.advance).icache = s.icache := by unfold State.advance; split <;> rfl
@[simp] theorem State.advance_irqack (s : State) : (s.advance).irqack = s.irqack := by unfold State.advance; split <;> rfl
@[simp] theorem State.advance_writeBuffer (s : State) : (s.advance).writeBuffer = s.writeBuffer := by unfold State.advance; split <;> rfl
@[simp] theorem State.advance_trace (s : State) : (s.advance).trace = s.trace := by unfold State.advance; split <;> rfl
@[simp] theorem State.advance_acpEnabled (s : State) : (s.advance).acpEnabled = s.acpEnabled := by unfold State.advance; split <;> rfl
@[simp] theorem State.advance_clamped (s : State) : (s.advance).clamped = s.clamped := by unfold State.advance; split <;> rfl
@[simp] theorem State.advance_inflight (s : State) : (s.advance).inflight = s.inflight := by unfold State.advance; split <;> rfl
@[simp] theorem State.advance_committed (s : State) : (s.advance).committed = s.committed := by unfold State.advance; split <;> rfl
@[simp] theorem State.advance_impl (s : State) : (s.advance).impl = s.impl := by unfold State.advance; split <;> rfl
@[simp] theorem State.advance_oldMap (s : State) : (s.advance).oldMap = s.oldMap := by unfold State.advance; split <;> rfl
@[simp] theorem State.advance_pendingAbort (s : State) : (s.advance).pendingAbort = s.pendingAbort := by unfold State.advance; split <;> rfl
@[simp] theorem State.advance_watchHit (s : State) : (s.advance).watchHit = s.watchHit := by unfold State.advance; split <;> rfl
@[simp] theorem State.advance_pins (s : State) : (s.advance).pins = s.pins := by unfold State.advance; split <;> rfl
@[simp] theorem State.advance_bus (s : State) : (s.advance).bus = s.bus := by unfold State.advance; split <;> rfl
@[simp] theorem State.advance_freeCtr (s : State) : (s.advance).freeCtr = s.freeCtr := by unfold State.advance; split <;> rfl
@[simp] theorem State.advance_stale (s : State) : (s.advance).stale = s.stale := by unfold State.advance; split <;> rfl
@[simp] theorem State.advance_oldFetch (s : State) : (s.advance).oldFetch = s.oldFetch := by unfold State.advance; split <;> rfl

/-! ### `branch` -/

@[simp] theorem State.branch_regs (s : State) (a : Word) : (s.branch a).regs = s.regs := by unfold State.branch; split <;> rfl
@[simp] theorem State.branch_cpsr (s : State) (a : Word) : (s.branch a).cpsr = s.cpsr := by unfold State.branch; split <;> rfl
@[simp] theorem State.branch_spsrs (s : State) (a : Word) : (s.branch a).spsrs = s.spsrs := by unfold State.branch; split <;> rfl
@[simp] theorem State.branch_mem (s : State) (a : Word) : (s.branch a).mem = s.mem := by unfold State.branch; split <;> rfl
@[simp] theorem State.branch_itcm (s : State) (a : Word) : (s.branch a).itcm = s.itcm := by unfold State.branch; split <;> rfl
@[simp] theorem State.branch_dtcm (s : State) (a : Word) : (s.branch a).dtcm = s.dtcm := by unfold State.branch; split <;> rfl
@[simp] theorem State.branch_localMon (s : State) (a : Word) : (s.branch a).localMon = s.localMon := by unfold State.branch; split <;> rfl
@[simp] theorem State.branch_globalMon (s : State) (a : Word) : (s.branch a).globalMon = s.globalMon := by unfold State.branch; split <;> rfl
@[simp] theorem State.branch_cp15 (s : State) (a : Word) : (s.branch a).cp15 = s.cp15 := by unfold State.branch; split <;> rfl
@[simp] theorem State.branch_vfp (s : State) (a : Word) : (s.branch a).vfp = s.vfp := by unfold State.branch; split <;> rfl
@[simp] theorem State.branch_standby (s : State) (a : Word) : (s.branch a).standby = s.standby := by unfold State.branch; split <;> rfl
@[simp] theorem State.branch_memNs (s : State) (a : Word) : (s.branch a).memNs = s.memNs := by unfold State.branch; split <;> rfl
@[simp] theorem State.branch_dcache (s : State) (a : Word) : (s.branch a).dcache = s.dcache := by unfold State.branch; split <;> rfl
@[simp] theorem State.branch_icache (s : State) (a : Word) : (s.branch a).icache = s.icache := by unfold State.branch; split <;> rfl
@[simp] theorem State.branch_irqack (s : State) (a : Word) : (s.branch a).irqack = s.irqack := by unfold State.branch; split <;> rfl
@[simp] theorem State.branch_writeBuffer (s : State) (a : Word) : (s.branch a).writeBuffer = s.writeBuffer := by unfold State.branch; split <;> rfl
@[simp] theorem State.branch_trace (s : State) (a : Word) : (s.branch a).trace = s.trace := by unfold State.branch; split <;> rfl
@[simp] theorem State.branch_acpEnabled (s : State) (a : Word) : (s.branch a).acpEnabled = s.acpEnabled := by unfold State.branch; split <;> rfl
@[simp] theorem State.branch_clamped (s : State) (a : Word) : (s.branch a).clamped = s.clamped := by unfold State.branch; split <;> rfl
@[simp] theorem State.branch_inflight (s : State) (a : Word) : (s.branch a).inflight = s.inflight := by unfold State.branch; split <;> rfl
@[simp] theorem State.branch_committed (s : State) (a : Word) : (s.branch a).committed = s.committed := by unfold State.branch; split <;> rfl
@[simp] theorem State.branch_impl (s : State) (a : Word) : (s.branch a).impl = s.impl := by unfold State.branch; split <;> rfl
@[simp] theorem State.branch_oldMap (s : State) (a : Word) : (s.branch a).oldMap = s.oldMap := by unfold State.branch; split <;> rfl
@[simp] theorem State.branch_pendingAbort (s : State) (a : Word) : (s.branch a).pendingAbort = s.pendingAbort := by unfold State.branch; split <;> rfl
@[simp] theorem State.branch_watchHit (s : State) (a : Word) : (s.branch a).watchHit = s.watchHit := by unfold State.branch; split <;> rfl
@[simp] theorem State.branch_pins (s : State) (a : Word) : (s.branch a).pins = s.pins := by unfold State.branch; split <;> rfl
@[simp] theorem State.branch_bus (s : State) (a : Word) : (s.branch a).bus = s.bus := by unfold State.branch; split <;> rfl
@[simp] theorem State.branch_freeCtr (s : State) (a : Word) : (s.branch a).freeCtr = s.freeCtr := by unfold State.branch; split <;> rfl
@[simp] theorem State.branch_stale (s : State) (a : Word) : (s.branch a).stale = s.stale := by unfold State.branch; split <;> rfl
@[simp] theorem State.branch_oldFetch (s : State) (a : Word) : (s.branch a).oldFetch = s.oldFetch := by unfold State.branch; split <;> rfl

/-! ### `skip` -/

@[simp] theorem State.skip_regs (s : State) (w : Bool) : (s.skip w).regs = s.regs := by unfold State.skip State.advance; split <;> [rfl; (split <;> rfl)]
@[simp] theorem State.skip_cpsr (s : State) (w : Bool) : (s.skip w).cpsr = s.cpsr := by unfold State.skip State.advance; split <;> [rfl; (split <;> rfl)]
@[simp] theorem State.skip_spsrs (s : State) (w : Bool) : (s.skip w).spsrs = s.spsrs := by unfold State.skip State.advance; split <;> [rfl; (split <;> rfl)]
@[simp] theorem State.skip_mem (s : State) (w : Bool) : (s.skip w).mem = s.mem := by unfold State.skip State.advance; split <;> [rfl; (split <;> rfl)]
@[simp] theorem State.skip_itcm (s : State) (w : Bool) : (s.skip w).itcm = s.itcm := by unfold State.skip State.advance; split <;> [rfl; (split <;> rfl)]
@[simp] theorem State.skip_dtcm (s : State) (w : Bool) : (s.skip w).dtcm = s.dtcm := by unfold State.skip State.advance; split <;> [rfl; (split <;> rfl)]
@[simp] theorem State.skip_localMon (s : State) (w : Bool) : (s.skip w).localMon = s.localMon := by unfold State.skip State.advance; split <;> [rfl; (split <;> rfl)]
@[simp] theorem State.skip_globalMon (s : State) (w : Bool) : (s.skip w).globalMon = s.globalMon := by unfold State.skip State.advance; split <;> [rfl; (split <;> rfl)]
@[simp] theorem State.skip_cp15 (s : State) (w : Bool) : (s.skip w).cp15 = s.cp15 := by unfold State.skip State.advance; split <;> [rfl; (split <;> rfl)]
@[simp] theorem State.skip_vfp (s : State) (w : Bool) : (s.skip w).vfp = s.vfp := by unfold State.skip State.advance; split <;> [rfl; (split <;> rfl)]
@[simp] theorem State.skip_standby (s : State) (w : Bool) : (s.skip w).standby = s.standby := by unfold State.skip State.advance; split <;> [rfl; (split <;> rfl)]
@[simp] theorem State.skip_memNs (s : State) (w : Bool) : (s.skip w).memNs = s.memNs := by unfold State.skip State.advance; split <;> [rfl; (split <;> rfl)]
@[simp] theorem State.skip_dcache (s : State) (w : Bool) : (s.skip w).dcache = s.dcache := by unfold State.skip State.advance; split <;> [rfl; (split <;> rfl)]
@[simp] theorem State.skip_icache (s : State) (w : Bool) : (s.skip w).icache = s.icache := by unfold State.skip State.advance; split <;> [rfl; (split <;> rfl)]
@[simp] theorem State.skip_irqack (s : State) (w : Bool) : (s.skip w).irqack = s.irqack := by unfold State.skip State.advance; split <;> [rfl; (split <;> rfl)]
@[simp] theorem State.skip_writeBuffer (s : State) (w : Bool) : (s.skip w).writeBuffer = s.writeBuffer := by unfold State.skip State.advance; split <;> [rfl; (split <;> rfl)]
@[simp] theorem State.skip_trace (s : State) (w : Bool) : (s.skip w).trace = s.trace := by unfold State.skip State.advance; split <;> [rfl; (split <;> rfl)]
@[simp] theorem State.skip_acpEnabled (s : State) (w : Bool) : (s.skip w).acpEnabled = s.acpEnabled := by unfold State.skip State.advance; split <;> [rfl; (split <;> rfl)]
@[simp] theorem State.skip_clamped (s : State) (w : Bool) : (s.skip w).clamped = s.clamped := by unfold State.skip State.advance; split <;> [rfl; (split <;> rfl)]
@[simp] theorem State.skip_inflight (s : State) (w : Bool) : (s.skip w).inflight = s.inflight := by unfold State.skip State.advance; split <;> [rfl; (split <;> rfl)]
@[simp] theorem State.skip_committed (s : State) (w : Bool) : (s.skip w).committed = s.committed := by unfold State.skip State.advance; split <;> [rfl; (split <;> rfl)]
@[simp] theorem State.skip_impl (s : State) (w : Bool) : (s.skip w).impl = s.impl := by unfold State.skip State.advance; split <;> [rfl; (split <;> rfl)]
@[simp] theorem State.skip_oldMap (s : State) (w : Bool) : (s.skip w).oldMap = s.oldMap := by unfold State.skip State.advance; split <;> [rfl; (split <;> rfl)]
@[simp] theorem State.skip_pendingAbort (s : State) (w : Bool) : (s.skip w).pendingAbort = s.pendingAbort := by unfold State.skip State.advance; split <;> [rfl; (split <;> rfl)]
@[simp] theorem State.skip_watchHit (s : State) (w : Bool) : (s.skip w).watchHit = s.watchHit := by unfold State.skip State.advance; split <;> [rfl; (split <;> rfl)]
@[simp] theorem State.skip_pins (s : State) (w : Bool) : (s.skip w).pins = s.pins := by unfold State.skip State.advance; split <;> [rfl; (split <;> rfl)]
@[simp] theorem State.skip_bus (s : State) (w : Bool) : (s.skip w).bus = s.bus := by unfold State.skip State.advance; split <;> [rfl; (split <;> rfl)]
@[simp] theorem State.skip_freeCtr (s : State) (w : Bool) : (s.skip w).freeCtr = s.freeCtr := by unfold State.skip State.advance; split <;> [rfl; (split <;> rfl)]
@[simp] theorem State.skip_stale (s : State) (w : Bool) : (s.skip w).stale = s.stale := by unfold State.skip State.advance; split <;> [rfl; (split <;> rfl)]
@[simp] theorem State.skip_oldFetch (s : State) (w : Bool) : (s.skip w).oldFetch = s.oldFetch := by unfold State.skip State.advance; split <;> [rfl; (split <;> rfl)]

/-! ### `setThumb` -/

@[simp] theorem State.setThumb_regs (s : State) (t : Bool) : (s.setThumb t).regs = s.regs := rfl
@[simp] theorem State.setThumb_pc (s : State) (t : Bool) : (s.setThumb t).pc = s.pc := rfl
@[simp] theorem State.setThumb_spsrs (s : State) (t : Bool) : (s.setThumb t).spsrs = s.spsrs := rfl
@[simp] theorem State.setThumb_mem (s : State) (t : Bool) : (s.setThumb t).mem = s.mem := rfl
@[simp] theorem State.setThumb_itcm (s : State) (t : Bool) : (s.setThumb t).itcm = s.itcm := rfl
@[simp] theorem State.setThumb_dtcm (s : State) (t : Bool) : (s.setThumb t).dtcm = s.dtcm := rfl
@[simp] theorem State.setThumb_localMon (s : State) (t : Bool) : (s.setThumb t).localMon = s.localMon := rfl
@[simp] theorem State.setThumb_globalMon (s : State) (t : Bool) : (s.setThumb t).globalMon = s.globalMon := rfl
@[simp] theorem State.setThumb_cp15 (s : State) (t : Bool) : (s.setThumb t).cp15 = s.cp15 := rfl
@[simp] theorem State.setThumb_dbg (s : State) (t : Bool) : (s.setThumb t).dbg = s.dbg := rfl
@[simp] theorem State.setThumb_vfp (s : State) (t : Bool) : (s.setThumb t).vfp = s.vfp := rfl
@[simp] theorem State.setThumb_standby (s : State) (t : Bool) : (s.setThumb t).standby = s.standby := rfl
@[simp] theorem State.setThumb_memNs (s : State) (t : Bool) : (s.setThumb t).memNs = s.memNs := rfl
@[simp] theorem State.setThumb_dcache (s : State) (t : Bool) : (s.setThumb t).dcache = s.dcache := rfl
@[simp] theorem State.setThumb_icache (s : State) (t : Bool) : (s.setThumb t).icache = s.icache := rfl
@[simp] theorem State.setThumb_irqack (s : State) (t : Bool) : (s.setThumb t).irqack = s.irqack := rfl
@[simp] theorem State.setThumb_writeBuffer (s : State) (t : Bool) : (s.setThumb t).writeBuffer = s.writeBuffer := rfl
@[simp] theorem State.setThumb_trace (s : State) (t : Bool) : (s.setThumb t).trace = s.trace := rfl
@[simp] theorem State.setThumb_acpEnabled (s : State) (t : Bool) : (s.setThumb t).acpEnabled = s.acpEnabled := rfl
@[simp] theorem State.setThumb_clamped (s : State) (t : Bool) : (s.setThumb t).clamped = s.clamped := rfl
@[simp] theorem State.setThumb_inflight (s : State) (t : Bool) : (s.setThumb t).inflight = s.inflight := rfl
@[simp] theorem State.setThumb_committed (s : State) (t : Bool) : (s.setThumb t).committed = s.committed := rfl
@[simp] theorem State.setThumb_impl (s : State) (t : Bool) : (s.setThumb t).impl = s.impl := rfl
@[simp] theorem State.setThumb_oldMap (s : State) (t : Bool) : (s.setThumb t).oldMap = s.oldMap := rfl
@[simp] theorem State.setThumb_pendingAbort (s : State) (t : Bool) : (s.setThumb t).pendingAbort = s.pendingAbort := rfl
@[simp] theorem State.setThumb_watchHit (s : State) (t : Bool) : (s.setThumb t).watchHit = s.watchHit := rfl
@[simp] theorem State.setThumb_pins (s : State) (t : Bool) : (s.setThumb t).pins = s.pins := rfl
@[simp] theorem State.setThumb_bus (s : State) (t : Bool) : (s.setThumb t).bus = s.bus := rfl
@[simp] theorem State.setThumb_freeCtr (s : State) (t : Bool) : (s.setThumb t).freeCtr = s.freeCtr := rfl
@[simp] theorem State.setThumb_stale (s : State) (t : Bool) : (s.setThumb t).stale = s.stale := rfl
@[simp] theorem State.setThumb_oldFetch (s : State) (t : Bool) : (s.setThumb t).oldFetch = s.oldFetch := rfl

/-! ### `setSpsrIn` -/

@[simp] theorem State.setSpsrIn_regs (s : State) (m : BitVec 5) (v : Word) : (s.setSpsrIn m v).regs = s.regs := by unfold State.setSpsrIn; split <;> rfl
@[simp] theorem State.setSpsrIn_pc (s : State) (m : BitVec 5) (v : Word) : (s.setSpsrIn m v).pc = s.pc := by unfold State.setSpsrIn; split <;> rfl
@[simp] theorem State.setSpsrIn_cpsr (s : State) (m : BitVec 5) (v : Word) : (s.setSpsrIn m v).cpsr = s.cpsr := by unfold State.setSpsrIn; split <;> rfl
@[simp] theorem State.setSpsrIn_mem (s : State) (m : BitVec 5) (v : Word) : (s.setSpsrIn m v).mem = s.mem := by unfold State.setSpsrIn; split <;> rfl
@[simp] theorem State.setSpsrIn_itcm (s : State) (m : BitVec 5) (v : Word) : (s.setSpsrIn m v).itcm = s.itcm := by unfold State.setSpsrIn; split <;> rfl
@[simp] theorem State.setSpsrIn_dtcm (s : State) (m : BitVec 5) (v : Word) : (s.setSpsrIn m v).dtcm = s.dtcm := by unfold State.setSpsrIn; split <;> rfl
@[simp] theorem State.setSpsrIn_localMon (s : State) (m : BitVec 5) (v : Word) : (s.setSpsrIn m v).localMon = s.localMon := by unfold State.setSpsrIn; split <;> rfl
@[simp] theorem State.setSpsrIn_globalMon (s : State) (m : BitVec 5) (v : Word) : (s.setSpsrIn m v).globalMon = s.globalMon := by unfold State.setSpsrIn; split <;> rfl
@[simp] theorem State.setSpsrIn_cp15 (s : State) (m : BitVec 5) (v : Word) : (s.setSpsrIn m v).cp15 = s.cp15 := by unfold State.setSpsrIn; split <;> rfl
@[simp] theorem State.setSpsrIn_dbg (s : State) (m : BitVec 5) (v : Word) : (s.setSpsrIn m v).dbg = s.dbg := by unfold State.setSpsrIn; split <;> rfl
@[simp] theorem State.setSpsrIn_vfp (s : State) (m : BitVec 5) (v : Word) : (s.setSpsrIn m v).vfp = s.vfp := by unfold State.setSpsrIn; split <;> rfl
@[simp] theorem State.setSpsrIn_standby (s : State) (m : BitVec 5) (v : Word) : (s.setSpsrIn m v).standby = s.standby := by unfold State.setSpsrIn; split <;> rfl
@[simp] theorem State.setSpsrIn_memNs (s : State) (m : BitVec 5) (v : Word) : (s.setSpsrIn m v).memNs = s.memNs := by unfold State.setSpsrIn; split <;> rfl
@[simp] theorem State.setSpsrIn_dcache (s : State) (m : BitVec 5) (v : Word) : (s.setSpsrIn m v).dcache = s.dcache := by unfold State.setSpsrIn; split <;> rfl
@[simp] theorem State.setSpsrIn_icache (s : State) (m : BitVec 5) (v : Word) : (s.setSpsrIn m v).icache = s.icache := by unfold State.setSpsrIn; split <;> rfl
@[simp] theorem State.setSpsrIn_irqack (s : State) (m : BitVec 5) (v : Word) : (s.setSpsrIn m v).irqack = s.irqack := by unfold State.setSpsrIn; split <;> rfl
@[simp] theorem State.setSpsrIn_writeBuffer (s : State) (m : BitVec 5) (v : Word) : (s.setSpsrIn m v).writeBuffer = s.writeBuffer := by unfold State.setSpsrIn; split <;> rfl
@[simp] theorem State.setSpsrIn_trace (s : State) (m : BitVec 5) (v : Word) : (s.setSpsrIn m v).trace = s.trace := by unfold State.setSpsrIn; split <;> rfl
@[simp] theorem State.setSpsrIn_acpEnabled (s : State) (m : BitVec 5) (v : Word) : (s.setSpsrIn m v).acpEnabled = s.acpEnabled := by unfold State.setSpsrIn; split <;> rfl
@[simp] theorem State.setSpsrIn_clamped (s : State) (m : BitVec 5) (v : Word) : (s.setSpsrIn m v).clamped = s.clamped := by unfold State.setSpsrIn; split <;> rfl
@[simp] theorem State.setSpsrIn_inflight (s : State) (m : BitVec 5) (v : Word) : (s.setSpsrIn m v).inflight = s.inflight := by unfold State.setSpsrIn; split <;> rfl
@[simp] theorem State.setSpsrIn_committed (s : State) (m : BitVec 5) (v : Word) : (s.setSpsrIn m v).committed = s.committed := by unfold State.setSpsrIn; split <;> rfl
@[simp] theorem State.setSpsrIn_impl (s : State) (m : BitVec 5) (v : Word) : (s.setSpsrIn m v).impl = s.impl := by unfold State.setSpsrIn; split <;> rfl
@[simp] theorem State.setSpsrIn_oldMap (s : State) (m : BitVec 5) (v : Word) : (s.setSpsrIn m v).oldMap = s.oldMap := by unfold State.setSpsrIn; split <;> rfl
@[simp] theorem State.setSpsrIn_pendingAbort (s : State) (m : BitVec 5) (v : Word) : (s.setSpsrIn m v).pendingAbort = s.pendingAbort := by unfold State.setSpsrIn; split <;> rfl
@[simp] theorem State.setSpsrIn_watchHit (s : State) (m : BitVec 5) (v : Word) : (s.setSpsrIn m v).watchHit = s.watchHit := by unfold State.setSpsrIn; split <;> rfl
@[simp] theorem State.setSpsrIn_pins (s : State) (m : BitVec 5) (v : Word) : (s.setSpsrIn m v).pins = s.pins := by unfold State.setSpsrIn; split <;> rfl
@[simp] theorem State.setSpsrIn_bus (s : State) (m : BitVec 5) (v : Word) : (s.setSpsrIn m v).bus = s.bus := by unfold State.setSpsrIn; split <;> rfl
@[simp] theorem State.setSpsrIn_freeCtr (s : State) (m : BitVec 5) (v : Word) : (s.setSpsrIn m v).freeCtr = s.freeCtr := by unfold State.setSpsrIn; split <;> rfl
@[simp] theorem State.setSpsrIn_stale (s : State) (m : BitVec 5) (v : Word) : (s.setSpsrIn m v).stale = s.stale := by unfold State.setSpsrIn; split <;> rfl
@[simp] theorem State.setSpsrIn_oldFetch (s : State) (m : BitVec 5) (v : Word) : (s.setSpsrIn m v).oldFetch = s.oldFetch := by unfold State.setSpsrIn; split <;> rfl

/-! ### `keepOldFetch` -/

@[simp] theorem State.keepOldFetch_regs (s : State) (old : State) : (s.keepOldFetch old).regs = s.regs := by unfold State.keepOldFetch; split <;> rfl
@[simp] theorem State.keepOldFetch_pc (s : State) (old : State) : (s.keepOldFetch old).pc = s.pc := by unfold State.keepOldFetch; split <;> rfl
@[simp] theorem State.keepOldFetch_cpsr (s : State) (old : State) : (s.keepOldFetch old).cpsr = s.cpsr := by unfold State.keepOldFetch; split <;> rfl
@[simp] theorem State.keepOldFetch_spsrs (s : State) (old : State) : (s.keepOldFetch old).spsrs = s.spsrs := by unfold State.keepOldFetch; split <;> rfl
@[simp] theorem State.keepOldFetch_mem (s : State) (old : State) : (s.keepOldFetch old).mem = s.mem := by unfold State.keepOldFetch; split <;> rfl
@[simp] theorem State.keepOldFetch_itcm (s : State) (old : State) : (s.keepOldFetch old).itcm = s.itcm := by unfold State.keepOldFetch; split <;> rfl
@[simp] theorem State.keepOldFetch_dtcm (s : State) (old : State) : (s.keepOldFetch old).dtcm = s.dtcm := by unfold State.keepOldFetch; split <;> rfl
@[simp] theorem State.keepOldFetch_localMon (s : State) (old : State) : (s.keepOldFetch old).localMon = s.localMon := by unfold State.keepOldFetch; split <;> rfl
@[simp] theorem State.keepOldFetch_globalMon (s : State) (old : State) : (s.keepOldFetch old).globalMon = s.globalMon := by unfold State.keepOldFetch; split <;> rfl
@[simp] theorem State.keepOldFetch_cp15 (s : State) (old : State) : (s.keepOldFetch old).cp15 = s.cp15 := by unfold State.keepOldFetch; split <;> rfl
@[simp] theorem State.keepOldFetch_dbg (s : State) (old : State) : (s.keepOldFetch old).dbg = s.dbg := by unfold State.keepOldFetch; split <;> rfl
@[simp] theorem State.keepOldFetch_vfp (s : State) (old : State) : (s.keepOldFetch old).vfp = s.vfp := by unfold State.keepOldFetch; split <;> rfl
@[simp] theorem State.keepOldFetch_standby (s : State) (old : State) : (s.keepOldFetch old).standby = s.standby := by unfold State.keepOldFetch; split <;> rfl
@[simp] theorem State.keepOldFetch_memNs (s : State) (old : State) : (s.keepOldFetch old).memNs = s.memNs := by unfold State.keepOldFetch; split <;> rfl
@[simp] theorem State.keepOldFetch_dcache (s : State) (old : State) : (s.keepOldFetch old).dcache = s.dcache := by unfold State.keepOldFetch; split <;> rfl
@[simp] theorem State.keepOldFetch_icache (s : State) (old : State) : (s.keepOldFetch old).icache = s.icache := by unfold State.keepOldFetch; split <;> rfl
@[simp] theorem State.keepOldFetch_irqack (s : State) (old : State) : (s.keepOldFetch old).irqack = s.irqack := by unfold State.keepOldFetch; split <;> rfl
@[simp] theorem State.keepOldFetch_writeBuffer (s : State) (old : State) : (s.keepOldFetch old).writeBuffer = s.writeBuffer := by unfold State.keepOldFetch; split <;> rfl
@[simp] theorem State.keepOldFetch_trace (s : State) (old : State) : (s.keepOldFetch old).trace = s.trace := by unfold State.keepOldFetch; split <;> rfl
@[simp] theorem State.keepOldFetch_acpEnabled (s : State) (old : State) : (s.keepOldFetch old).acpEnabled = s.acpEnabled := by unfold State.keepOldFetch; split <;> rfl
@[simp] theorem State.keepOldFetch_clamped (s : State) (old : State) : (s.keepOldFetch old).clamped = s.clamped := by unfold State.keepOldFetch; split <;> rfl
@[simp] theorem State.keepOldFetch_inflight (s : State) (old : State) : (s.keepOldFetch old).inflight = s.inflight := by unfold State.keepOldFetch; split <;> rfl
@[simp] theorem State.keepOldFetch_committed (s : State) (old : State) : (s.keepOldFetch old).committed = s.committed := by unfold State.keepOldFetch; split <;> rfl
@[simp] theorem State.keepOldFetch_impl (s : State) (old : State) : (s.keepOldFetch old).impl = s.impl := by unfold State.keepOldFetch; split <;> rfl
@[simp] theorem State.keepOldFetch_oldMap (s : State) (old : State) : (s.keepOldFetch old).oldMap = s.oldMap := by unfold State.keepOldFetch; split <;> rfl
@[simp] theorem State.keepOldFetch_pendingAbort (s : State) (old : State) : (s.keepOldFetch old).pendingAbort = s.pendingAbort := by unfold State.keepOldFetch; split <;> rfl
@[simp] theorem State.keepOldFetch_watchHit (s : State) (old : State) : (s.keepOldFetch old).watchHit = s.watchHit := by unfold State.keepOldFetch; split <;> rfl
@[simp] theorem State.keepOldFetch_pins (s : State) (old : State) : (s.keepOldFetch old).pins = s.pins := by unfold State.keepOldFetch; split <;> rfl
@[simp] theorem State.keepOldFetch_bus (s : State) (old : State) : (s.keepOldFetch old).bus = s.bus := by unfold State.keepOldFetch; split <;> rfl
@[simp] theorem State.keepOldFetch_freeCtr (s : State) (old : State) : (s.keepOldFetch old).freeCtr = s.freeCtr := by unfold State.keepOldFetch; split <;> rfl
@[simp] theorem State.keepOldFetch_stale (s : State) (old : State) : (s.keepOldFetch old).stale = s.stale := by unfold State.keepOldFetch; split <;> rfl

/-! ### `syncFetch` -/

@[simp] theorem State.syncFetch_regs (s : State) : (s.syncFetch).regs = s.regs := rfl
@[simp] theorem State.syncFetch_pc (s : State) : (s.syncFetch).pc = s.pc := rfl
@[simp] theorem State.syncFetch_cpsr (s : State) : (s.syncFetch).cpsr = s.cpsr := rfl
@[simp] theorem State.syncFetch_spsrs (s : State) : (s.syncFetch).spsrs = s.spsrs := rfl
@[simp] theorem State.syncFetch_mem (s : State) : (s.syncFetch).mem = s.mem := rfl
@[simp] theorem State.syncFetch_itcm (s : State) : (s.syncFetch).itcm = s.itcm := rfl
@[simp] theorem State.syncFetch_dtcm (s : State) : (s.syncFetch).dtcm = s.dtcm := rfl
@[simp] theorem State.syncFetch_localMon (s : State) : (s.syncFetch).localMon = s.localMon := rfl
@[simp] theorem State.syncFetch_globalMon (s : State) : (s.syncFetch).globalMon = s.globalMon := rfl
@[simp] theorem State.syncFetch_cp15 (s : State) : (s.syncFetch).cp15 = s.cp15 := rfl
@[simp] theorem State.syncFetch_dbg (s : State) : (s.syncFetch).dbg = s.dbg := rfl
@[simp] theorem State.syncFetch_vfp (s : State) : (s.syncFetch).vfp = s.vfp := rfl
@[simp] theorem State.syncFetch_standby (s : State) : (s.syncFetch).standby = s.standby := rfl
@[simp] theorem State.syncFetch_memNs (s : State) : (s.syncFetch).memNs = s.memNs := rfl
@[simp] theorem State.syncFetch_dcache (s : State) : (s.syncFetch).dcache = s.dcache := rfl
@[simp] theorem State.syncFetch_icache (s : State) : (s.syncFetch).icache = s.icache := rfl
@[simp] theorem State.syncFetch_irqack (s : State) : (s.syncFetch).irqack = s.irqack := rfl
@[simp] theorem State.syncFetch_writeBuffer (s : State) : (s.syncFetch).writeBuffer = s.writeBuffer := rfl
@[simp] theorem State.syncFetch_trace (s : State) : (s.syncFetch).trace = s.trace := rfl
@[simp] theorem State.syncFetch_acpEnabled (s : State) : (s.syncFetch).acpEnabled = s.acpEnabled := rfl
@[simp] theorem State.syncFetch_clamped (s : State) : (s.syncFetch).clamped = s.clamped := rfl
@[simp] theorem State.syncFetch_inflight (s : State) : (s.syncFetch).inflight = s.inflight := rfl
@[simp] theorem State.syncFetch_committed (s : State) : (s.syncFetch).committed = s.committed := rfl
@[simp] theorem State.syncFetch_impl (s : State) : (s.syncFetch).impl = s.impl := rfl
@[simp] theorem State.syncFetch_oldMap (s : State) : (s.syncFetch).oldMap = s.oldMap := rfl
@[simp] theorem State.syncFetch_pendingAbort (s : State) : (s.syncFetch).pendingAbort = s.pendingAbort := rfl
@[simp] theorem State.syncFetch_watchHit (s : State) : (s.syncFetch).watchHit = s.watchHit := rfl
@[simp] theorem State.syncFetch_pins (s : State) : (s.syncFetch).pins = s.pins := rfl
@[simp] theorem State.syncFetch_bus (s : State) : (s.syncFetch).bus = s.bus := rfl
@[simp] theorem State.syncFetch_freeCtr (s : State) : (s.syncFetch).freeCtr = s.freeCtr := rfl

/-! ### `setSr` -/

@[simp] theorem State.setSr_regs (s : State) (r : Nat) (v : Word) : (s.setSr r v).regs = s.regs := rfl
@[simp] theorem State.setSr_pc (s : State) (r : Nat) (v : Word) : (s.setSr r v).pc = s.pc := rfl
@[simp] theorem State.setSr_cpsr (s : State) (r : Nat) (v : Word) : (s.setSr r v).cpsr = s.cpsr := rfl
@[simp] theorem State.setSr_spsrs (s : State) (r : Nat) (v : Word) : (s.setSr r v).spsrs = s.spsrs := rfl
@[simp] theorem State.setSr_mem (s : State) (r : Nat) (v : Word) : (s.setSr r v).mem = s.mem := rfl
@[simp] theorem State.setSr_itcm (s : State) (r : Nat) (v : Word) : (s.setSr r v).itcm = s.itcm := rfl
@[simp] theorem State.setSr_dtcm (s : State) (r : Nat) (v : Word) : (s.setSr r v).dtcm = s.dtcm := rfl
@[simp] theorem State.setSr_localMon (s : State) (r : Nat) (v : Word) : (s.setSr r v).localMon = s.localMon := rfl
@[simp] theorem State.setSr_globalMon (s : State) (r : Nat) (v : Word) : (s.setSr r v).globalMon = s.globalMon := rfl
@[simp] theorem State.setSr_cp15 (s : State) (r : Nat) (v : Word) : (s.setSr r v).cp15 = s.cp15 := rfl
@[simp] theorem State.setSr_dbg (s : State) (r : Nat) (v : Word) : (s.setSr r v).dbg = s.dbg := rfl
@[simp] theorem State.setSr_standby (s : State) (r : Nat) (v : Word) : (s.setSr r v).standby = s.standby := rfl
@[simp] theorem State.setSr_memNs (s : State) (r : Nat) (v : Word) : (s.setSr r v).memNs = s.memNs := rfl
@[simp] theorem State.setSr_dcache (s : State) (r : Nat) (v : Word) : (s.setSr r v).dcache = s.dcache := rfl
@[simp] theorem State.setSr_icache (s : State) (r : Nat) (v : Word) : (s.setSr r v).icache = s.icache := rfl
@[simp] theorem State.setSr_irqack (s : State) (r : Nat) (v : Word) : (s.setSr r v).irqack = s.irqack := rfl
@[simp] theorem State.setSr_writeBuffer (s : State) (r : Nat) (v : Word) : (s.setSr r v).writeBuffer = s.writeBuffer := rfl
@[simp] theorem State.setSr_trace (s : State) (r : Nat) (v : Word) : (s.setSr r v).trace = s.trace := rfl
@[simp] theorem State.setSr_acpEnabled (s : State) (r : Nat) (v : Word) : (s.setSr r v).acpEnabled = s.acpEnabled := rfl
@[simp] theorem State.setSr_clamped (s : State) (r : Nat) (v : Word) : (s.setSr r v).clamped = s.clamped := rfl
@[simp] theorem State.setSr_inflight (s : State) (r : Nat) (v : Word) : (s.setSr r v).inflight = s.inflight := rfl
@[simp] theorem State.setSr_committed (s : State) (r : Nat) (v : Word) : (s.setSr r v).committed = s.committed := rfl
@[simp] theorem State.setSr_impl (s : State) (r : Nat) (v : Word) : (s.setSr r v).impl = s.impl := rfl
@[simp] theorem State.setSr_oldMap (s : State) (r : Nat) (v : Word) : (s.setSr r v).oldMap = s.oldMap := rfl
@[simp] theorem State.setSr_pendingAbort (s : State) (r : Nat) (v : Word) : (s.setSr r v).pendingAbort = s.pendingAbort := rfl
@[simp] theorem State.setSr_watchHit (s : State) (r : Nat) (v : Word) : (s.setSr r v).watchHit = s.watchHit := rfl
@[simp] theorem State.setSr_pins (s : State) (r : Nat) (v : Word) : (s.setSr r v).pins = s.pins := rfl
@[simp] theorem State.setSr_bus (s : State) (r : Nat) (v : Word) : (s.setSr r v).bus = s.bus := rfl
@[simp] theorem State.setSr_freeCtr (s : State) (r : Nat) (v : Word) : (s.setSr r v).freeCtr = s.freeCtr := rfl
@[simp] theorem State.setSr_stale (s : State) (r : Nat) (v : Word) : (s.setSr r v).stale = s.stale := rfl
@[simp] theorem State.setSr_oldFetch (s : State) (r : Nat) (v : Word) : (s.setSr r v).oldFetch = s.oldFetch := rfl

/-! ### `setDr` -/

@[simp] theorem State.setDr_regs (s : State) (r : Nat) (v : DWord) : (s.setDr r v).regs = s.regs := rfl
@[simp] theorem State.setDr_pc (s : State) (r : Nat) (v : DWord) : (s.setDr r v).pc = s.pc := rfl
@[simp] theorem State.setDr_cpsr (s : State) (r : Nat) (v : DWord) : (s.setDr r v).cpsr = s.cpsr := rfl
@[simp] theorem State.setDr_spsrs (s : State) (r : Nat) (v : DWord) : (s.setDr r v).spsrs = s.spsrs := rfl
@[simp] theorem State.setDr_mem (s : State) (r : Nat) (v : DWord) : (s.setDr r v).mem = s.mem := rfl
@[simp] theorem State.setDr_itcm (s : State) (r : Nat) (v : DWord) : (s.setDr r v).itcm = s.itcm := rfl
@[simp] theorem State.setDr_dtcm (s : State) (r : Nat) (v : DWord) : (s.setDr r v).dtcm = s.dtcm := rfl
@[simp] theorem State.setDr_localMon (s : State) (r : Nat) (v : DWord) : (s.setDr r v).localMon = s.localMon := rfl
@[simp] theorem State.setDr_globalMon (s : State) (r : Nat) (v : DWord) : (s.setDr r v).globalMon = s.globalMon := rfl
@[simp] theorem State.setDr_cp15 (s : State) (r : Nat) (v : DWord) : (s.setDr r v).cp15 = s.cp15 := rfl
@[simp] theorem State.setDr_dbg (s : State) (r : Nat) (v : DWord) : (s.setDr r v).dbg = s.dbg := rfl
@[simp] theorem State.setDr_standby (s : State) (r : Nat) (v : DWord) : (s.setDr r v).standby = s.standby := rfl
@[simp] theorem State.setDr_memNs (s : State) (r : Nat) (v : DWord) : (s.setDr r v).memNs = s.memNs := rfl
@[simp] theorem State.setDr_dcache (s : State) (r : Nat) (v : DWord) : (s.setDr r v).dcache = s.dcache := rfl
@[simp] theorem State.setDr_icache (s : State) (r : Nat) (v : DWord) : (s.setDr r v).icache = s.icache := rfl
@[simp] theorem State.setDr_irqack (s : State) (r : Nat) (v : DWord) : (s.setDr r v).irqack = s.irqack := rfl
@[simp] theorem State.setDr_writeBuffer (s : State) (r : Nat) (v : DWord) : (s.setDr r v).writeBuffer = s.writeBuffer := rfl
@[simp] theorem State.setDr_trace (s : State) (r : Nat) (v : DWord) : (s.setDr r v).trace = s.trace := rfl
@[simp] theorem State.setDr_acpEnabled (s : State) (r : Nat) (v : DWord) : (s.setDr r v).acpEnabled = s.acpEnabled := rfl
@[simp] theorem State.setDr_clamped (s : State) (r : Nat) (v : DWord) : (s.setDr r v).clamped = s.clamped := rfl
@[simp] theorem State.setDr_inflight (s : State) (r : Nat) (v : DWord) : (s.setDr r v).inflight = s.inflight := rfl
@[simp] theorem State.setDr_committed (s : State) (r : Nat) (v : DWord) : (s.setDr r v).committed = s.committed := rfl
@[simp] theorem State.setDr_impl (s : State) (r : Nat) (v : DWord) : (s.setDr r v).impl = s.impl := rfl
@[simp] theorem State.setDr_oldMap (s : State) (r : Nat) (v : DWord) : (s.setDr r v).oldMap = s.oldMap := rfl
@[simp] theorem State.setDr_pendingAbort (s : State) (r : Nat) (v : DWord) : (s.setDr r v).pendingAbort = s.pendingAbort := rfl
@[simp] theorem State.setDr_watchHit (s : State) (r : Nat) (v : DWord) : (s.setDr r v).watchHit = s.watchHit := rfl
@[simp] theorem State.setDr_pins (s : State) (r : Nat) (v : DWord) : (s.setDr r v).pins = s.pins := rfl
@[simp] theorem State.setDr_bus (s : State) (r : Nat) (v : DWord) : (s.setDr r v).bus = s.bus := rfl
@[simp] theorem State.setDr_freeCtr (s : State) (r : Nat) (v : DWord) : (s.setDr r v).freeCtr = s.freeCtr := rfl
@[simp] theorem State.setDr_stale (s : State) (r : Nat) (v : DWord) : (s.setDr r v).stale = s.stale := rfl
@[simp] theorem State.setDr_oldFetch (s : State) (r : Nat) (v : DWord) : (s.setDr r v).oldFetch = s.oldFetch := rfl

/-! ### `setFp` -/

@[simp] theorem State.setFp_regs (s : State) (f : Format) (r : Nat) (v : DWord) : (s.setFp f r v).regs = s.regs := by unfold State.setFp; split <;> rfl
@[simp] theorem State.setFp_pc (s : State) (f : Format) (r : Nat) (v : DWord) : (s.setFp f r v).pc = s.pc := by unfold State.setFp; split <;> rfl
@[simp] theorem State.setFp_cpsr (s : State) (f : Format) (r : Nat) (v : DWord) : (s.setFp f r v).cpsr = s.cpsr := by unfold State.setFp; split <;> rfl
@[simp] theorem State.setFp_spsrs (s : State) (f : Format) (r : Nat) (v : DWord) : (s.setFp f r v).spsrs = s.spsrs := by unfold State.setFp; split <;> rfl
@[simp] theorem State.setFp_mem (s : State) (f : Format) (r : Nat) (v : DWord) : (s.setFp f r v).mem = s.mem := by unfold State.setFp; split <;> rfl
@[simp] theorem State.setFp_itcm (s : State) (f : Format) (r : Nat) (v : DWord) : (s.setFp f r v).itcm = s.itcm := by unfold State.setFp; split <;> rfl
@[simp] theorem State.setFp_dtcm (s : State) (f : Format) (r : Nat) (v : DWord) : (s.setFp f r v).dtcm = s.dtcm := by unfold State.setFp; split <;> rfl
@[simp] theorem State.setFp_localMon (s : State) (f : Format) (r : Nat) (v : DWord) : (s.setFp f r v).localMon = s.localMon := by unfold State.setFp; split <;> rfl
@[simp] theorem State.setFp_globalMon (s : State) (f : Format) (r : Nat) (v : DWord) : (s.setFp f r v).globalMon = s.globalMon := by unfold State.setFp; split <;> rfl
@[simp] theorem State.setFp_cp15 (s : State) (f : Format) (r : Nat) (v : DWord) : (s.setFp f r v).cp15 = s.cp15 := by unfold State.setFp; split <;> rfl
@[simp] theorem State.setFp_dbg (s : State) (f : Format) (r : Nat) (v : DWord) : (s.setFp f r v).dbg = s.dbg := by unfold State.setFp; split <;> rfl
@[simp] theorem State.setFp_standby (s : State) (f : Format) (r : Nat) (v : DWord) : (s.setFp f r v).standby = s.standby := by unfold State.setFp; split <;> rfl
@[simp] theorem State.setFp_memNs (s : State) (f : Format) (r : Nat) (v : DWord) : (s.setFp f r v).memNs = s.memNs := by unfold State.setFp; split <;> rfl
@[simp] theorem State.setFp_dcache (s : State) (f : Format) (r : Nat) (v : DWord) : (s.setFp f r v).dcache = s.dcache := by unfold State.setFp; split <;> rfl
@[simp] theorem State.setFp_icache (s : State) (f : Format) (r : Nat) (v : DWord) : (s.setFp f r v).icache = s.icache := by unfold State.setFp; split <;> rfl
@[simp] theorem State.setFp_irqack (s : State) (f : Format) (r : Nat) (v : DWord) : (s.setFp f r v).irqack = s.irqack := by unfold State.setFp; split <;> rfl
@[simp] theorem State.setFp_writeBuffer (s : State) (f : Format) (r : Nat) (v : DWord) : (s.setFp f r v).writeBuffer = s.writeBuffer := by unfold State.setFp; split <;> rfl
@[simp] theorem State.setFp_trace (s : State) (f : Format) (r : Nat) (v : DWord) : (s.setFp f r v).trace = s.trace := by unfold State.setFp; split <;> rfl
@[simp] theorem State.setFp_acpEnabled (s : State) (f : Format) (r : Nat) (v : DWord) : (s.setFp f r v).acpEnabled = s.acpEnabled := by unfold State.setFp; split <;> rfl
@[simp] theorem State.setFp_clamped (s : State) (f : Format) (r : Nat) (v : DWord) : (s.setFp f r v).clamped = s.clamped := by unfold State.setFp; split <;> rfl
@[simp] theorem State.setFp_inflight (s : State) (f : Format) (r : Nat) (v : DWord) : (s.setFp f r v).inflight = s.inflight := by unfold State.setFp; split <;> rfl
@[simp] theorem State.setFp_committed (s : State) (f : Format) (r : Nat) (v : DWord) : (s.setFp f r v).committed = s.committed := by unfold State.setFp; split <;> rfl
@[simp] theorem State.setFp_impl (s : State) (f : Format) (r : Nat) (v : DWord) : (s.setFp f r v).impl = s.impl := by unfold State.setFp; split <;> rfl
@[simp] theorem State.setFp_oldMap (s : State) (f : Format) (r : Nat) (v : DWord) : (s.setFp f r v).oldMap = s.oldMap := by unfold State.setFp; split <;> rfl
@[simp] theorem State.setFp_pendingAbort (s : State) (f : Format) (r : Nat) (v : DWord) : (s.setFp f r v).pendingAbort = s.pendingAbort := by unfold State.setFp; split <;> rfl
@[simp] theorem State.setFp_watchHit (s : State) (f : Format) (r : Nat) (v : DWord) : (s.setFp f r v).watchHit = s.watchHit := by unfold State.setFp; split <;> rfl
@[simp] theorem State.setFp_pins (s : State) (f : Format) (r : Nat) (v : DWord) : (s.setFp f r v).pins = s.pins := by unfold State.setFp; split <;> rfl
@[simp] theorem State.setFp_bus (s : State) (f : Format) (r : Nat) (v : DWord) : (s.setFp f r v).bus = s.bus := by unfold State.setFp; split <;> rfl
@[simp] theorem State.setFp_freeCtr (s : State) (f : Format) (r : Nat) (v : DWord) : (s.setFp f r v).freeCtr = s.freeCtr := by unfold State.setFp; split <;> rfl
@[simp] theorem State.setFp_stale (s : State) (f : Format) (r : Nat) (v : DWord) : (s.setFp f r v).stale = s.stale := by unfold State.setFp; split <;> rfl
@[simp] theorem State.setFp_oldFetch (s : State) (f : Format) (r : Nat) (v : DWord) : (s.setFp f r v).oldFetch = s.oldFetch := by unfold State.setFp; split <;> rfl

/-! ### `orFpscr` -/

@[simp] theorem State.orFpscr_regs (s : State) (w : Word) : (s.orFpscr w).regs = s.regs := rfl
@[simp] theorem State.orFpscr_pc (s : State) (w : Word) : (s.orFpscr w).pc = s.pc := rfl
@[simp] theorem State.orFpscr_cpsr (s : State) (w : Word) : (s.orFpscr w).cpsr = s.cpsr := rfl
@[simp] theorem State.orFpscr_spsrs (s : State) (w : Word) : (s.orFpscr w).spsrs = s.spsrs := rfl
@[simp] theorem State.orFpscr_mem (s : State) (w : Word) : (s.orFpscr w).mem = s.mem := rfl
@[simp] theorem State.orFpscr_itcm (s : State) (w : Word) : (s.orFpscr w).itcm = s.itcm := rfl
@[simp] theorem State.orFpscr_dtcm (s : State) (w : Word) : (s.orFpscr w).dtcm = s.dtcm := rfl
@[simp] theorem State.orFpscr_localMon (s : State) (w : Word) : (s.orFpscr w).localMon = s.localMon := rfl
@[simp] theorem State.orFpscr_globalMon (s : State) (w : Word) : (s.orFpscr w).globalMon = s.globalMon := rfl
@[simp] theorem State.orFpscr_cp15 (s : State) (w : Word) : (s.orFpscr w).cp15 = s.cp15 := rfl
@[simp] theorem State.orFpscr_dbg (s : State) (w : Word) : (s.orFpscr w).dbg = s.dbg := rfl
@[simp] theorem State.orFpscr_standby (s : State) (w : Word) : (s.orFpscr w).standby = s.standby := rfl
@[simp] theorem State.orFpscr_memNs (s : State) (w : Word) : (s.orFpscr w).memNs = s.memNs := rfl
@[simp] theorem State.orFpscr_dcache (s : State) (w : Word) : (s.orFpscr w).dcache = s.dcache := rfl
@[simp] theorem State.orFpscr_icache (s : State) (w : Word) : (s.orFpscr w).icache = s.icache := rfl
@[simp] theorem State.orFpscr_irqack (s : State) (w : Word) : (s.orFpscr w).irqack = s.irqack := rfl
@[simp] theorem State.orFpscr_writeBuffer (s : State) (w : Word) : (s.orFpscr w).writeBuffer = s.writeBuffer := rfl
@[simp] theorem State.orFpscr_trace (s : State) (w : Word) : (s.orFpscr w).trace = s.trace := rfl
@[simp] theorem State.orFpscr_acpEnabled (s : State) (w : Word) : (s.orFpscr w).acpEnabled = s.acpEnabled := rfl
@[simp] theorem State.orFpscr_clamped (s : State) (w : Word) : (s.orFpscr w).clamped = s.clamped := rfl
@[simp] theorem State.orFpscr_inflight (s : State) (w : Word) : (s.orFpscr w).inflight = s.inflight := rfl
@[simp] theorem State.orFpscr_committed (s : State) (w : Word) : (s.orFpscr w).committed = s.committed := rfl
@[simp] theorem State.orFpscr_impl (s : State) (w : Word) : (s.orFpscr w).impl = s.impl := rfl
@[simp] theorem State.orFpscr_oldMap (s : State) (w : Word) : (s.orFpscr w).oldMap = s.oldMap := rfl
@[simp] theorem State.orFpscr_pendingAbort (s : State) (w : Word) : (s.orFpscr w).pendingAbort = s.pendingAbort := rfl
@[simp] theorem State.orFpscr_watchHit (s : State) (w : Word) : (s.orFpscr w).watchHit = s.watchHit := rfl
@[simp] theorem State.orFpscr_pins (s : State) (w : Word) : (s.orFpscr w).pins = s.pins := rfl
@[simp] theorem State.orFpscr_bus (s : State) (w : Word) : (s.orFpscr w).bus = s.bus := rfl
@[simp] theorem State.orFpscr_freeCtr (s : State) (w : Word) : (s.orFpscr w).freeCtr = s.freeCtr := rfl
@[simp] theorem State.orFpscr_stale (s : State) (w : Word) : (s.orFpscr w).stale = s.stale := rfl
@[simp] theorem State.orFpscr_oldFetch (s : State) (w : Word) : (s.orFpscr w).oldFetch = s.oldFetch := rfl

/-! ### `setBank` -/

@[simp] theorem State.setBank_regs (s : State) (b : Cp15Bank) : (s.setBank b).regs = s.regs := rfl
@[simp] theorem State.setBank_pc (s : State) (b : Cp15Bank) : (s.setBank b).pc = s.pc := rfl
@[simp] theorem State.setBank_cpsr (s : State) (b : Cp15Bank) : (s.setBank b).cpsr = s.cpsr := rfl
@[simp] theorem State.setBank_spsrs (s : State) (b : Cp15Bank) : (s.setBank b).spsrs = s.spsrs := rfl
@[simp] theorem State.setBank_mem (s : State) (b : Cp15Bank) : (s.setBank b).mem = s.mem := rfl
@[simp] theorem State.setBank_itcm (s : State) (b : Cp15Bank) : (s.setBank b).itcm = s.itcm := rfl
@[simp] theorem State.setBank_dtcm (s : State) (b : Cp15Bank) : (s.setBank b).dtcm = s.dtcm := rfl
@[simp] theorem State.setBank_localMon (s : State) (b : Cp15Bank) : (s.setBank b).localMon = s.localMon := rfl
@[simp] theorem State.setBank_globalMon (s : State) (b : Cp15Bank) : (s.setBank b).globalMon = s.globalMon := rfl
@[simp] theorem State.setBank_dbg (s : State) (b : Cp15Bank) : (s.setBank b).dbg = s.dbg := rfl
@[simp] theorem State.setBank_vfp (s : State) (b : Cp15Bank) : (s.setBank b).vfp = s.vfp := rfl
@[simp] theorem State.setBank_standby (s : State) (b : Cp15Bank) : (s.setBank b).standby = s.standby := rfl
@[simp] theorem State.setBank_memNs (s : State) (b : Cp15Bank) : (s.setBank b).memNs = s.memNs := rfl
@[simp] theorem State.setBank_dcache (s : State) (b : Cp15Bank) : (s.setBank b).dcache = s.dcache := rfl
@[simp] theorem State.setBank_icache (s : State) (b : Cp15Bank) : (s.setBank b).icache = s.icache := rfl
@[simp] theorem State.setBank_irqack (s : State) (b : Cp15Bank) : (s.setBank b).irqack = s.irqack := rfl
@[simp] theorem State.setBank_writeBuffer (s : State) (b : Cp15Bank) : (s.setBank b).writeBuffer = s.writeBuffer := rfl
@[simp] theorem State.setBank_trace (s : State) (b : Cp15Bank) : (s.setBank b).trace = s.trace := rfl
@[simp] theorem State.setBank_acpEnabled (s : State) (b : Cp15Bank) : (s.setBank b).acpEnabled = s.acpEnabled := rfl
@[simp] theorem State.setBank_clamped (s : State) (b : Cp15Bank) : (s.setBank b).clamped = s.clamped := rfl
@[simp] theorem State.setBank_inflight (s : State) (b : Cp15Bank) : (s.setBank b).inflight = s.inflight := rfl
@[simp] theorem State.setBank_committed (s : State) (b : Cp15Bank) : (s.setBank b).committed = s.committed := rfl
@[simp] theorem State.setBank_impl (s : State) (b : Cp15Bank) : (s.setBank b).impl = s.impl := rfl
@[simp] theorem State.setBank_oldMap (s : State) (b : Cp15Bank) : (s.setBank b).oldMap = s.oldMap := rfl
@[simp] theorem State.setBank_pendingAbort (s : State) (b : Cp15Bank) : (s.setBank b).pendingAbort = s.pendingAbort := rfl
@[simp] theorem State.setBank_watchHit (s : State) (b : Cp15Bank) : (s.setBank b).watchHit = s.watchHit := rfl
@[simp] theorem State.setBank_pins (s : State) (b : Cp15Bank) : (s.setBank b).pins = s.pins := rfl
@[simp] theorem State.setBank_bus (s : State) (b : Cp15Bank) : (s.setBank b).bus = s.bus := rfl
@[simp] theorem State.setBank_freeCtr (s : State) (b : Cp15Bank) : (s.setBank b).freeCtr = s.freeCtr := rfl
@[simp] theorem State.setBank_stale (s : State) (b : Cp15Bank) : (s.setBank b).stale = s.stale := rfl
@[simp] theorem State.setBank_oldFetch (s : State) (b : Cp15Bank) : (s.setBank b).oldFetch = s.oldFetch := rfl

/-! ### `setMoe` -/

@[simp] theorem State.setMoe_regs (s : State) (m : BitVec 4) : (s.setMoe m).regs = s.regs := rfl
@[simp] theorem State.setMoe_pc (s : State) (m : BitVec 4) : (s.setMoe m).pc = s.pc := rfl
@[simp] theorem State.setMoe_cpsr (s : State) (m : BitVec 4) : (s.setMoe m).cpsr = s.cpsr := rfl
@[simp] theorem State.setMoe_spsrs (s : State) (m : BitVec 4) : (s.setMoe m).spsrs = s.spsrs := rfl
@[simp] theorem State.setMoe_mem (s : State) (m : BitVec 4) : (s.setMoe m).mem = s.mem := rfl
@[simp] theorem State.setMoe_itcm (s : State) (m : BitVec 4) : (s.setMoe m).itcm = s.itcm := rfl
@[simp] theorem State.setMoe_dtcm (s : State) (m : BitVec 4) : (s.setMoe m).dtcm = s.dtcm := rfl
@[simp] theorem State.setMoe_localMon (s : State) (m : BitVec 4) : (s.setMoe m).localMon = s.localMon := rfl
@[simp] theorem State.setMoe_globalMon (s : State) (m : BitVec 4) : (s.setMoe m).globalMon = s.globalMon := rfl
@[simp] theorem State.setMoe_cp15 (s : State) (m : BitVec 4) : (s.setMoe m).cp15 = s.cp15 := rfl
@[simp] theorem State.setMoe_vfp (s : State) (m : BitVec 4) : (s.setMoe m).vfp = s.vfp := rfl
@[simp] theorem State.setMoe_standby (s : State) (m : BitVec 4) : (s.setMoe m).standby = s.standby := rfl
@[simp] theorem State.setMoe_memNs (s : State) (m : BitVec 4) : (s.setMoe m).memNs = s.memNs := rfl
@[simp] theorem State.setMoe_dcache (s : State) (m : BitVec 4) : (s.setMoe m).dcache = s.dcache := rfl
@[simp] theorem State.setMoe_icache (s : State) (m : BitVec 4) : (s.setMoe m).icache = s.icache := rfl
@[simp] theorem State.setMoe_irqack (s : State) (m : BitVec 4) : (s.setMoe m).irqack = s.irqack := rfl
@[simp] theorem State.setMoe_writeBuffer (s : State) (m : BitVec 4) : (s.setMoe m).writeBuffer = s.writeBuffer := rfl
@[simp] theorem State.setMoe_trace (s : State) (m : BitVec 4) : (s.setMoe m).trace = s.trace := rfl
@[simp] theorem State.setMoe_acpEnabled (s : State) (m : BitVec 4) : (s.setMoe m).acpEnabled = s.acpEnabled := rfl
@[simp] theorem State.setMoe_clamped (s : State) (m : BitVec 4) : (s.setMoe m).clamped = s.clamped := rfl
@[simp] theorem State.setMoe_inflight (s : State) (m : BitVec 4) : (s.setMoe m).inflight = s.inflight := rfl
@[simp] theorem State.setMoe_committed (s : State) (m : BitVec 4) : (s.setMoe m).committed = s.committed := rfl
@[simp] theorem State.setMoe_impl (s : State) (m : BitVec 4) : (s.setMoe m).impl = s.impl := rfl
@[simp] theorem State.setMoe_oldMap (s : State) (m : BitVec 4) : (s.setMoe m).oldMap = s.oldMap := rfl
@[simp] theorem State.setMoe_pendingAbort (s : State) (m : BitVec 4) : (s.setMoe m).pendingAbort = s.pendingAbort := rfl
@[simp] theorem State.setMoe_watchHit (s : State) (m : BitVec 4) : (s.setMoe m).watchHit = s.watchHit := rfl
@[simp] theorem State.setMoe_pins (s : State) (m : BitVec 4) : (s.setMoe m).pins = s.pins := rfl
@[simp] theorem State.setMoe_bus (s : State) (m : BitVec 4) : (s.setMoe m).bus = s.bus := rfl
@[simp] theorem State.setMoe_freeCtr (s : State) (m : BitVec 4) : (s.setMoe m).freeCtr = s.freeCtr := rfl
@[simp] theorem State.setMoe_stale (s : State) (m : BitVec 4) : (s.setMoe m).stale = s.stale := rfl
@[simp] theorem State.setMoe_oldFetch (s : State) (m : BitVec 4) : (s.setMoe m).oldFetch = s.oldFetch := rfl

/-! ### `setCells` -/

@[simp] theorem State.setCells_regs (s : State) (p : Place) (cs : List Host.Cell) : (s.setCells p cs).regs = s.regs := by cases p <;> rfl
@[simp] theorem State.setCells_pc (s : State) (p : Place) (cs : List Host.Cell) : (s.setCells p cs).pc = s.pc := by cases p <;> rfl
@[simp] theorem State.setCells_cpsr (s : State) (p : Place) (cs : List Host.Cell) : (s.setCells p cs).cpsr = s.cpsr := by cases p <;> rfl
@[simp] theorem State.setCells_spsrs (s : State) (p : Place) (cs : List Host.Cell) : (s.setCells p cs).spsrs = s.spsrs := by cases p <;> rfl
@[simp] theorem State.setCells_localMon (s : State) (p : Place) (cs : List Host.Cell) : (s.setCells p cs).localMon = s.localMon := by cases p <;> rfl
@[simp] theorem State.setCells_globalMon (s : State) (p : Place) (cs : List Host.Cell) : (s.setCells p cs).globalMon = s.globalMon := by cases p <;> rfl
@[simp] theorem State.setCells_cp15 (s : State) (p : Place) (cs : List Host.Cell) : (s.setCells p cs).cp15 = s.cp15 := by cases p <;> rfl
@[simp] theorem State.setCells_dbg (s : State) (p : Place) (cs : List Host.Cell) : (s.setCells p cs).dbg = s.dbg := by cases p <;> rfl
@[simp] theorem State.setCells_vfp (s : State) (p : Place) (cs : List Host.Cell) : (s.setCells p cs).vfp = s.vfp := by cases p <;> rfl
@[simp] theorem State.setCells_standby (s : State) (p : Place) (cs : List Host.Cell) : (s.setCells p cs).standby = s.standby := by cases p <;> rfl
@[simp] theorem State.setCells_dcache (s : State) (p : Place) (cs : List Host.Cell) : (s.setCells p cs).dcache = s.dcache := by cases p <;> rfl
@[simp] theorem State.setCells_icache (s : State) (p : Place) (cs : List Host.Cell) : (s.setCells p cs).icache = s.icache := by cases p <;> rfl
@[simp] theorem State.setCells_irqack (s : State) (p : Place) (cs : List Host.Cell) : (s.setCells p cs).irqack = s.irqack := by cases p <;> rfl
@[simp] theorem State.setCells_writeBuffer (s : State) (p : Place) (cs : List Host.Cell) : (s.setCells p cs).writeBuffer = s.writeBuffer := by cases p <;> rfl
@[simp] theorem State.setCells_trace (s : State) (p : Place) (cs : List Host.Cell) : (s.setCells p cs).trace = s.trace := by cases p <;> rfl
@[simp] theorem State.setCells_acpEnabled (s : State) (p : Place) (cs : List Host.Cell) : (s.setCells p cs).acpEnabled = s.acpEnabled := by cases p <;> rfl
@[simp] theorem State.setCells_clamped (s : State) (p : Place) (cs : List Host.Cell) : (s.setCells p cs).clamped = s.clamped := by cases p <;> rfl
@[simp] theorem State.setCells_inflight (s : State) (p : Place) (cs : List Host.Cell) : (s.setCells p cs).inflight = s.inflight := by cases p <;> rfl
@[simp] theorem State.setCells_committed (s : State) (p : Place) (cs : List Host.Cell) : (s.setCells p cs).committed = s.committed := by cases p <;> rfl
@[simp] theorem State.setCells_impl (s : State) (p : Place) (cs : List Host.Cell) : (s.setCells p cs).impl = s.impl := by cases p <;> rfl
@[simp] theorem State.setCells_oldMap (s : State) (p : Place) (cs : List Host.Cell) : (s.setCells p cs).oldMap = s.oldMap := by cases p <;> rfl
@[simp] theorem State.setCells_pendingAbort (s : State) (p : Place) (cs : List Host.Cell) : (s.setCells p cs).pendingAbort = s.pendingAbort := by cases p <;> rfl
@[simp] theorem State.setCells_watchHit (s : State) (p : Place) (cs : List Host.Cell) : (s.setCells p cs).watchHit = s.watchHit := by cases p <;> rfl
@[simp] theorem State.setCells_pins (s : State) (p : Place) (cs : List Host.Cell) : (s.setCells p cs).pins = s.pins := by cases p <;> rfl
@[simp] theorem State.setCells_bus (s : State) (p : Place) (cs : List Host.Cell) : (s.setCells p cs).bus = s.bus := by cases p <;> rfl
@[simp] theorem State.setCells_freeCtr (s : State) (p : Place) (cs : List Host.Cell) : (s.setCells p cs).freeCtr = s.freeCtr := by cases p <;> rfl
@[simp] theorem State.setCells_stale (s : State) (p : Place) (cs : List Host.Cell) : (s.setCells p cs).stale = s.stale := by cases p <;> rfl
@[simp] theorem State.setCells_oldFetch (s : State) (p : Place) (cs : List Host.Cell) : (s.setCells p cs).oldFetch = s.oldFetch := by cases p <;> rfl

/-! ### `setByteAt` -/

@[simp] theorem State.setByteAt_regs (s : State) (p : Place) (a : Nat) (v : Byte) : (s.setByteAt p a v).regs = s.regs := by cases p <;> rfl
@[simp] theorem State.setByteAt_pc (s : State) (p : Place) (a : Nat) (v : Byte) : (s.setByteAt p a v).pc = s.pc := by cases p <;> rfl
@[simp] theorem State.setByteAt_cpsr (s : State) (p : Place) (a : Nat) (v : Byte) : (s.setByteAt p a v).cpsr = s.cpsr := by cases p <;> rfl
@[simp] theorem State.setByteAt_spsrs (s : State) (p : Place) (a : Nat) (v : Byte) : (s.setByteAt p a v).spsrs = s.spsrs := by cases p <;> rfl
@[simp] theorem State.setByteAt_localMon (s : State) (p : Place) (a : Nat) (v : Byte) : (s.setByteAt p a v).localMon = s.localMon := by cases p <;> rfl
@[simp] theorem State.setByteAt_globalMon (s : State) (p : Place) (a : Nat) (v : Byte) : (s.setByteAt p a v).globalMon = s.globalMon := by cases p <;> rfl
@[simp] theorem State.setByteAt_cp15 (s : State) (p : Place) (a : Nat) (v : Byte) : (s.setByteAt p a v).cp15 = s.cp15 := by cases p <;> rfl
@[simp] theorem State.setByteAt_dbg (s : State) (p : Place) (a : Nat) (v : Byte) : (s.setByteAt p a v).dbg = s.dbg := by cases p <;> rfl
@[simp] theorem State.setByteAt_vfp (s : State) (p : Place) (a : Nat) (v : Byte) : (s.setByteAt p a v).vfp = s.vfp := by cases p <;> rfl
@[simp] theorem State.setByteAt_standby (s : State) (p : Place) (a : Nat) (v : Byte) : (s.setByteAt p a v).standby = s.standby := by cases p <;> rfl
@[simp] theorem State.setByteAt_dcache (s : State) (p : Place) (a : Nat) (v : Byte) : (s.setByteAt p a v).dcache = s.dcache := by cases p <;> rfl
@[simp] theorem State.setByteAt_icache (s : State) (p : Place) (a : Nat) (v : Byte) : (s.setByteAt p a v).icache = s.icache := by cases p <;> rfl
@[simp] theorem State.setByteAt_irqack (s : State) (p : Place) (a : Nat) (v : Byte) : (s.setByteAt p a v).irqack = s.irqack := by cases p <;> rfl
@[simp] theorem State.setByteAt_writeBuffer (s : State) (p : Place) (a : Nat) (v : Byte) : (s.setByteAt p a v).writeBuffer = s.writeBuffer := by cases p <;> rfl
@[simp] theorem State.setByteAt_trace (s : State) (p : Place) (a : Nat) (v : Byte) : (s.setByteAt p a v).trace = s.trace := by cases p <;> rfl
@[simp] theorem State.setByteAt_acpEnabled (s : State) (p : Place) (a : Nat) (v : Byte) : (s.setByteAt p a v).acpEnabled = s.acpEnabled := by cases p <;> rfl
@[simp] theorem State.setByteAt_clamped (s : State) (p : Place) (a : Nat) (v : Byte) : (s.setByteAt p a v).clamped = s.clamped := by cases p <;> rfl
@[simp] theorem State.setByteAt_inflight (s : State) (p : Place) (a : Nat) (v : Byte) : (s.setByteAt p a v).inflight = s.inflight := by cases p <;> rfl
@[simp] theorem State.setByteAt_committed (s : State) (p : Place) (a : Nat) (v : Byte) : (s.setByteAt p a v).committed = s.committed := by cases p <;> rfl
@[simp] theorem State.setByteAt_impl (s : State) (p : Place) (a : Nat) (v : Byte) : (s.setByteAt p a v).impl = s.impl := by cases p <;> rfl
@[simp] theorem State.setByteAt_oldMap (s : State) (p : Place) (a : Nat) (v : Byte) : (s.setByteAt p a v).oldMap = s.oldMap := by cases p <;> rfl
@[simp] theorem State.setByteAt_pendingAbort (s : State) (p : Place) (a : Nat) (v : Byte) : (s.setByteAt p a v).pendingAbort = s.pendingAbort := by cases p <;> rfl
@[simp] theorem State.setByteAt_watchHit (s : State) (p : Place) (a : Nat) (v : Byte) : (s.setByteAt p a v).watchHit = s.watchHit := by cases p <;> rfl
@[simp] theorem State.setByteAt_pins (s : State) (p : Place) (a : Nat) (v : Byte) : (s.setByteAt p a v).pins = s.pins := by cases p <;> rfl
@[simp] theorem State.setByteAt_bus (s : State) (p : Place) (a : Nat) (v : Byte) : (s.setByteAt p a v).bus = s.bus := by cases p <;> rfl
@[simp] theorem State.setByteAt_freeCtr (s : State) (p : Place) (a : Nat) (v : Byte) : (s.setByteAt p a v).freeCtr = s.freeCtr := by cases p <;> rfl
@[simp] theorem State.setByteAt_oldFetch (s : State) (p : Place) (a : Nat) (v : Byte) : (s.setByteAt p a v).oldFetch = s.oldFetch := by cases p <;> rfl

/-! ### `setRegsIn` -/

@[simp] theorem State.setRegsIn_pc (s : State) (m : BitVec 5) (l : List (Reg × Word)) : (s.setRegsIn m l).pc = s.pc := by
  induction l generalizing s with
  | nil => rfl
  | cons x l ih => obtain ⟨a, c⟩ := x; simp [State.setRegsIn, ih]
@[simp] theorem State.setRegsIn_cpsr (s : State) (m : BitVec 5) (l : List (Reg × Word)) : (s.setRegsIn m l).cpsr = s.cpsr := by
  induction l generalizing s with
  | nil => rfl
  | cons x l ih => obtain ⟨a, c⟩ := x; simp [State.setRegsIn, ih]
@[simp] theorem State.setRegsIn_spsrs (s : State) (m : BitVec 5) (l : List (Reg × Word)) : (s.setRegsIn m l).spsrs = s.spsrs := by
  induction l generalizing s with
  | nil => rfl
  | cons x l ih => obtain ⟨a, c⟩ := x; simp [State.setRegsIn, ih]
@[simp] theorem State.setRegsIn_mem (s : State) (m : BitVec 5) (l : List (Reg × Word)) : (s.setRegsIn m l).mem = s.mem := by
  induction l generalizing s with
  | nil => rfl
  | cons x l ih => obtain ⟨a, c⟩ := x; simp [State.setRegsIn, ih]
@[simp] theorem State.setRegsIn_itcm (s : State) (m : BitVec 5) (l : List (Reg × Word)) : (s.setRegsIn m l).itcm = s.itcm := by
  induction l generalizing s with
  | nil => rfl
  | cons x l ih => obtain ⟨a, c⟩ := x; simp [State.setRegsIn, ih]
@[simp] theorem State.setRegsIn_dtcm (s : State) (m : BitVec 5) (l : List (Reg × Word)) : (s.setRegsIn m l).dtcm = s.dtcm := by
  induction l generalizing s with
  | nil => rfl
  | cons x l ih => obtain ⟨a, c⟩ := x; simp [State.setRegsIn, ih]
@[simp] theorem State.setRegsIn_localMon (s : State) (m : BitVec 5) (l : List (Reg × Word)) : (s.setRegsIn m l).localMon = s.localMon := by
  induction l generalizing s with
  | nil => rfl
  | cons x l ih => obtain ⟨a, c⟩ := x; simp [State.setRegsIn, ih]
@[simp] theorem State.setRegsIn_globalMon (s : State) (m : BitVec 5) (l : List (Reg × Word)) : (s.setRegsIn m l).globalMon = s.globalMon := by
  induction l generalizing s with
  | nil => rfl
  | cons x l ih => obtain ⟨a, c⟩ := x; simp [State.setRegsIn, ih]
@[simp] theorem State.setRegsIn_cp15 (s : State) (m : BitVec 5) (l : List (Reg × Word)) : (s.setRegsIn m l).cp15 = s.cp15 := by
  induction l generalizing s with
  | nil => rfl
  | cons x l ih => obtain ⟨a, c⟩ := x; simp [State.setRegsIn, ih]
@[simp] theorem State.setRegsIn_dbg (s : State) (m : BitVec 5) (l : List (Reg × Word)) : (s.setRegsIn m l).dbg = s.dbg := by
  induction l generalizing s with
  | nil => rfl
  | cons x l ih => obtain ⟨a, c⟩ := x; simp [State.setRegsIn, ih]
@[simp] theorem State.setRegsIn_vfp (s : State) (m : BitVec 5) (l : List (Reg × Word)) : (s.setRegsIn m l).vfp = s.vfp := by
  induction l generalizing s with
  | nil => rfl
  | cons x l ih => obtain ⟨a, c⟩ := x; simp [State.setRegsIn, ih]
@[simp] theorem State.setRegsIn_standby (s : State) (m : BitVec 5) (l : List (Reg × Word)) : (s.setRegsIn m l).standby = s.standby := by
  induction l generalizing s with
  | nil => rfl
  | cons x l ih => obtain ⟨a, c⟩ := x; simp [State.setRegsIn, ih]
@[simp] theorem State.setRegsIn_memNs (s : State) (m : BitVec 5) (l : List (Reg × Word)) : (s.setRegsIn m l).memNs = s.memNs := by
  induction l generalizing s with
  | nil => rfl
  | cons x l ih => obtain ⟨a, c⟩ := x; simp [State.setRegsIn, ih]
@[simp] theorem State.setRegsIn_dcache (s : State) (m : BitVec 5) (l : List (Reg × Word)) : (s.setRegsIn m l).dcache = s.dcache := by
  induction l generalizing s with
  | nil => rfl
  | cons x l ih => obtain ⟨a, c⟩ := x; simp [State.setRegsIn, ih]
@[simp] theorem State.setRegsIn_icache (s : State) (m : BitVec 5) (l : List (Reg × Word)) : (s.setRegsIn m l).icache = s.icache := by
  induction l generalizing s with
  | nil => rfl
  | cons x l ih => obtain ⟨a, c⟩ := x; simp [State.setRegsIn, ih]
@[simp] theorem State.setRegsIn_irqack (s : State) (m : BitVec 5) (l : List (Reg × Word)) : (s.setRegsIn m l).irqack = s.irqack := by
  induction l generalizing s with
  | nil => rfl
  | cons x l ih => obtain ⟨a, c⟩ := x; simp [State.setRegsIn, ih]
@[simp] theorem State.setRegsIn_writeBuffer (s : State) (m : BitVec 5) (l : List (Reg × Word)) : (s.setRegsIn m l).writeBuffer = s.writeBuffer := by
  induction l generalizing s with
  | nil => rfl
  | cons x l ih => obtain ⟨a, c⟩ := x; simp [State.setRegsIn, ih]
@[simp] theorem State.setRegsIn_trace (s : State) (m : BitVec 5) (l : List (Reg × Word)) : (s.setRegsIn m l).trace = s.trace := by
  induction l generalizing s with
  | nil => rfl
  | cons x l ih => obtain ⟨a, c⟩ := x; simp [State.setRegsIn, ih]
@[simp] theorem State.setRegsIn_acpEnabled (s : State) (m : BitVec 5) (l : List (Reg × Word)) : (s.setRegsIn m l).acpEnabled = s.acpEnabled := by
  induction l generalizing s with
  | nil => rfl
  | cons x l ih => obtain ⟨a, c⟩ := x; simp [State.setRegsIn, ih]
@[simp] theorem State.setRegsIn_clamped (s : State) (m : BitVec 5) (l : List (Reg × Word)) : (s.setRegsIn m l).clamped = s.clamped := by
  induction l generalizing s with
  | nil => rfl
  | cons x l ih => obtain ⟨a, c⟩ := x; simp [State.setRegsIn, ih]
@[simp] theorem State.setRegsIn_inflight (s : State) (m : BitVec 5) (l : List (Reg × Word)) : (s.setRegsIn m l).inflight = s.inflight := by
  induction l generalizing s with
  | nil => rfl
  | cons x l ih => obtain ⟨a, c⟩ := x; simp [State.setRegsIn, ih]
@[simp] theorem State.setRegsIn_committed (s : State) (m : BitVec 5) (l : List (Reg × Word)) : (s.setRegsIn m l).committed = s.committed := by
  induction l generalizing s with
  | nil => rfl
  | cons x l ih => obtain ⟨a, c⟩ := x; simp [State.setRegsIn, ih]
@[simp] theorem State.setRegsIn_impl (s : State) (m : BitVec 5) (l : List (Reg × Word)) : (s.setRegsIn m l).impl = s.impl := by
  induction l generalizing s with
  | nil => rfl
  | cons x l ih => obtain ⟨a, c⟩ := x; simp [State.setRegsIn, ih]
@[simp] theorem State.setRegsIn_oldMap (s : State) (m : BitVec 5) (l : List (Reg × Word)) : (s.setRegsIn m l).oldMap = s.oldMap := by
  induction l generalizing s with
  | nil => rfl
  | cons x l ih => obtain ⟨a, c⟩ := x; simp [State.setRegsIn, ih]
@[simp] theorem State.setRegsIn_pendingAbort (s : State) (m : BitVec 5) (l : List (Reg × Word)) : (s.setRegsIn m l).pendingAbort = s.pendingAbort := by
  induction l generalizing s with
  | nil => rfl
  | cons x l ih => obtain ⟨a, c⟩ := x; simp [State.setRegsIn, ih]
@[simp] theorem State.setRegsIn_watchHit (s : State) (m : BitVec 5) (l : List (Reg × Word)) : (s.setRegsIn m l).watchHit = s.watchHit := by
  induction l generalizing s with
  | nil => rfl
  | cons x l ih => obtain ⟨a, c⟩ := x; simp [State.setRegsIn, ih]
@[simp] theorem State.setRegsIn_pins (s : State) (m : BitVec 5) (l : List (Reg × Word)) : (s.setRegsIn m l).pins = s.pins := by
  induction l generalizing s with
  | nil => rfl
  | cons x l ih => obtain ⟨a, c⟩ := x; simp [State.setRegsIn, ih]
@[simp] theorem State.setRegsIn_bus (s : State) (m : BitVec 5) (l : List (Reg × Word)) : (s.setRegsIn m l).bus = s.bus := by
  induction l generalizing s with
  | nil => rfl
  | cons x l ih => obtain ⟨a, c⟩ := x; simp [State.setRegsIn, ih]
@[simp] theorem State.setRegsIn_freeCtr (s : State) (m : BitVec 5) (l : List (Reg × Word)) : (s.setRegsIn m l).freeCtr = s.freeCtr := by
  induction l generalizing s with
  | nil => rfl
  | cons x l ih => obtain ⟨a, c⟩ := x; simp [State.setRegsIn, ih]
@[simp] theorem State.setRegsIn_stale (s : State) (m : BitVec 5) (l : List (Reg × Word)) : (s.setRegsIn m l).stale = s.stale := by
  induction l generalizing s with
  | nil => rfl
  | cons x l ih => obtain ⟨a, c⟩ := x; simp [State.setRegsIn, ih]
@[simp] theorem State.setRegsIn_oldFetch (s : State) (m : BitVec 5) (l : List (Reg × Word)) : (s.setRegsIn m l).oldFetch = s.oldFetch := by
  induction l generalizing s with
  | nil => rfl
  | cons x l ih => obtain ⟨a, c⟩ := x; simp [State.setRegsIn, ih]

/-! ### `setBytesAt` -/

@[simp] theorem State.setBytesAt_regs (s : State) (p : Place) (l : List (Nat × Byte)) : (s.setBytesAt p l).regs = s.regs := by
  induction l generalizing s with
  | nil => rfl
  | cons x l ih => obtain ⟨a, c⟩ := x; simp [State.setBytesAt, ih]
@[simp] theorem State.setBytesAt_pc (s : State) (p : Place) (l : List (Nat × Byte)) : (s.setBytesAt p l).pc = s.pc := by
  induction l generalizing s with
  | nil => rfl
  | cons x l ih => obtain ⟨a, c⟩ := x; simp [State.setBytesAt, ih]
@[simp] theorem State.setBytesAt_cpsr (s : State) (p : Place) (l : List (Nat × Byte)) : (s.setBytesAt p l).cpsr = s.cpsr := by
  induction l generalizing s with
  | nil => rfl
  | cons x l ih => obtain ⟨a, c⟩ := x; simp [State.setBytesAt, ih]
@[simp] theorem State.setBytesAt_spsrs (s : State) (p : Place) (l : List (Nat × Byte)) : (s.setBytesAt p l).spsrs = s.spsrs := by
  induction l generalizing s with
  | nil => rfl
  | cons x l ih => obtain ⟨a, c⟩ := x; simp [State.setBytesAt, ih]
@[simp] theorem State.setBytesAt_localMon (s : State) (p : Place) (l : List (Nat × Byte)) : (s.setBytesAt p l).localMon = s.localMon := by
  induction l generalizing s with
  | nil => rfl
  | cons x l ih => obtain ⟨a, c⟩ := x; simp [State.setBytesAt, ih]
@[simp] theorem State.setBytesAt_globalMon (s : State) (p : Place) (l : List (Nat × Byte)) : (s.setBytesAt p l).globalMon = s.globalMon := by
  induction l generalizing s with
  | nil => rfl
  | cons x l ih => obtain ⟨a, c⟩ := x; simp [State.setBytesAt, ih]
@[simp] theorem State.setBytesAt_cp15 (s : State) (p : Place) (l : List (Nat × Byte)) : (s.setBytesAt p l).cp15 = s.cp15 := by
  induction l generalizing s with
  | nil => rfl
  | cons x l ih => obtain ⟨a, c⟩ := x; simp [State.setBytesAt, ih]
@[simp] theorem State.setBytesAt_dbg (s : State) (p : Place) (l : List (Nat × Byte)) : (s.setBytesAt p l).dbg = s.dbg := by
  induction l generalizing s with
  | nil => rfl
  | cons x l ih => obtain ⟨a, c⟩ := x; simp [State.setBytesAt, ih]
@[simp] theorem State.setBytesAt_vfp (s : State) (p : Place) (l : List (Nat × Byte)) : (s.setBytesAt p l).vfp = s.vfp := by
  induction l generalizing s with
  | nil => rfl
  | cons x l ih => obtain ⟨a, c⟩ := x; simp [State.setBytesAt, ih]
@[simp] theorem State.setBytesAt_standby (s : State) (p : Place) (l : List (Nat × Byte)) : (s.setBytesAt p l).standby = s.standby := by
  induction l generalizing s with
  | nil => rfl
  | cons x l ih => obtain ⟨a, c⟩ := x; simp [State.setBytesAt, ih]
@[simp] theorem State.setBytesAt_dcache (s : State) (p : Place) (l : List (Nat × Byte)) : (s.setBytesAt p l).dcache = s.dcache := by
  induction l generalizing s with
  | nil => rfl
  | cons x l ih => obtain ⟨a, c⟩ := x; simp [State.setBytesAt, ih]
@[simp] theorem State.setBytesAt_icache (s : State) (p : Place) (l : List (Nat × Byte)) : (s.setBytesAt p l).icache = s.icache := by
  induction l generalizing s with
  | nil => rfl
  | cons x l ih => obtain ⟨a, c⟩ := x; simp [State.setBytesAt, ih]
@[simp] theorem State.setBytesAt_irqack (s : State) (p : Place) (l : List (Nat × Byte)) : (s.setBytesAt p l).irqack = s.irqack := by
  induction l generalizing s with
  | nil => rfl
  | cons x l ih => obtain ⟨a, c⟩ := x; simp [State.setBytesAt, ih]
@[simp] theorem State.setBytesAt_writeBuffer (s : State) (p : Place) (l : List (Nat × Byte)) : (s.setBytesAt p l).writeBuffer = s.writeBuffer := by
  induction l generalizing s with
  | nil => rfl
  | cons x l ih => obtain ⟨a, c⟩ := x; simp [State.setBytesAt, ih]
@[simp] theorem State.setBytesAt_trace (s : State) (p : Place) (l : List (Nat × Byte)) : (s.setBytesAt p l).trace = s.trace := by
  induction l generalizing s with
  | nil => rfl
  | cons x l ih => obtain ⟨a, c⟩ := x; simp [State.setBytesAt, ih]
@[simp] theorem State.setBytesAt_acpEnabled (s : State) (p : Place) (l : List (Nat × Byte)) : (s.setBytesAt p l).acpEnabled = s.acpEnabled := by
  induction l generalizing s with
  | nil => rfl
  | cons x l ih => obtain ⟨a, c⟩ := x; simp [State.setBytesAt, ih]
@[simp] theorem State.setBytesAt_clamped (s : State) (p : Place) (l : List (Nat × Byte)) : (s.setBytesAt p l).clamped = s.clamped := by
  induction l generalizing s with
  | nil => rfl
  | cons x l ih => obtain ⟨a, c⟩ := x; simp [State.setBytesAt, ih]
@[simp] theorem State.setBytesAt_inflight (s : State) (p : Place) (l : List (Nat × Byte)) : (s.setBytesAt p l).inflight = s.inflight := by
  induction l generalizing s with
  | nil => rfl
  | cons x l ih => obtain ⟨a, c⟩ := x; simp [State.setBytesAt, ih]
@[simp] theorem State.setBytesAt_committed (s : State) (p : Place) (l : List (Nat × Byte)) : (s.setBytesAt p l).committed = s.committed := by
  induction l generalizing s with
  | nil => rfl
  | cons x l ih => obtain ⟨a, c⟩ := x; simp [State.setBytesAt, ih]
@[simp] theorem State.setBytesAt_impl (s : State) (p : Place) (l : List (Nat × Byte)) : (s.setBytesAt p l).impl = s.impl := by
  induction l generalizing s with
  | nil => rfl
  | cons x l ih => obtain ⟨a, c⟩ := x; simp [State.setBytesAt, ih]
@[simp] theorem State.setBytesAt_oldMap (s : State) (p : Place) (l : List (Nat × Byte)) : (s.setBytesAt p l).oldMap = s.oldMap := by
  induction l generalizing s with
  | nil => rfl
  | cons x l ih => obtain ⟨a, c⟩ := x; simp [State.setBytesAt, ih]
@[simp] theorem State.setBytesAt_pendingAbort (s : State) (p : Place) (l : List (Nat × Byte)) : (s.setBytesAt p l).pendingAbort = s.pendingAbort := by
  induction l generalizing s with
  | nil => rfl
  | cons x l ih => obtain ⟨a, c⟩ := x; simp [State.setBytesAt, ih]
@[simp] theorem State.setBytesAt_watchHit (s : State) (p : Place) (l : List (Nat × Byte)) : (s.setBytesAt p l).watchHit = s.watchHit := by
  induction l generalizing s with
  | nil => rfl
  | cons x l ih => obtain ⟨a, c⟩ := x; simp [State.setBytesAt, ih]
@[simp] theorem State.setBytesAt_pins (s : State) (p : Place) (l : List (Nat × Byte)) : (s.setBytesAt p l).pins = s.pins := by
  induction l generalizing s with
  | nil => rfl
  | cons x l ih => obtain ⟨a, c⟩ := x; simp [State.setBytesAt, ih]
@[simp] theorem State.setBytesAt_bus (s : State) (p : Place) (l : List (Nat × Byte)) : (s.setBytesAt p l).bus = s.bus := by
  induction l generalizing s with
  | nil => rfl
  | cons x l ih => obtain ⟨a, c⟩ := x; simp [State.setBytesAt, ih]
@[simp] theorem State.setBytesAt_freeCtr (s : State) (p : Place) (l : List (Nat × Byte)) : (s.setBytesAt p l).freeCtr = s.freeCtr := by
  induction l generalizing s with
  | nil => rfl
  | cons x l ih => obtain ⟨a, c⟩ := x; simp [State.setBytesAt, ih]
@[simp] theorem State.setBytesAt_oldFetch (s : State) (p : Place) (l : List (Nat × Byte)) : (s.setBytesAt p l).oldFetch = s.oldFetch := by
  induction l generalizing s with
  | nil => rfl
  | cons x l ih => obtain ⟨a, c⟩ := x; simp [State.setBytesAt, ih]

/-! ### Accessors after the updates -/

@[simp] theorem State.setRegIn_mode (s : State) (m : BitVec 5) (r : Reg) (v : Word) : (s.setRegIn m r v).mode = s.mode := by simp [State.mode]
@[simp] theorem State.setRegIn_thumb (s : State) (m : BitVec 5) (r : Reg) (v : Word) : (s.setRegIn m r v).thumb = s.thumb := by simp [State.thumb]
@[simp] theorem State.setRegIn_privileged (s : State) (m : BitVec 5) (r : Reg) (v : Word) : (s.setRegIn m r v).privileged = s.privileged := by simp [State.privileged, State.mode]
@[simp] theorem State.setRegIn_nsState (s : State) (m : BitVec 5) (r : Reg) (v : Word) : (s.setRegIn m r v).nsState = s.nsState := by simp [State.nsState, State.mode]
@[simp] theorem State.setRegIn_halted (s : State) (m : BitVec 5) (r : Reg) (v : Word) : (s.setRegIn m r v).halted = s.halted := by simp [State.halted]
@[simp] theorem State.setRegIn_controlBit (s : State) (m : BitVec 5) (r : Reg) (v : Word) (i : Nat) : (s.setRegIn m r v).controlBit i = s.controlBit i := by
  simp [State.controlBit]
@[simp] theorem State.setReg_mode (s : State) (r : Reg) (v : Word) : (s.setReg r v).mode = s.mode := by simp [State.mode]
@[simp] theorem State.setReg_thumb (s : State) (r : Reg) (v : Word) : (s.setReg r v).thumb = s.thumb := by simp [State.thumb]
@[simp] theorem State.setReg_privileged (s : State) (r : Reg) (v : Word) : (s.setReg r v).privileged = s.privileged := by simp [State.privileged, State.mode]
@[simp] theorem State.setReg_nsState (s : State) (r : Reg) (v : Word) : (s.setReg r v).nsState = s.nsState := by simp [State.nsState, State.mode]
@[simp] theorem State.setReg_halted (s : State) (r : Reg) (v : Word) : (s.setReg r v).halted = s.halted := by simp [State.halted]
@[simp] theorem State.setReg_controlBit (s : State) (r : Reg) (v : Word) (i : Nat) : (s.setReg r v).controlBit i = s.controlBit i := by
  simp [State.controlBit]
@[simp] theorem State.advance_mode (s : State) : (s.advance).mode = s.mode := by simp [State.mode]
@[simp] theorem State.advance_thumb (s : State) : (s.advance).thumb = s.thumb := by simp [State.thumb]
@[simp] theorem State.advance_privileged (s : State) : (s.advance).privileged = s.privileged := by simp [State.privileged, State.mode]
@[simp] theorem State.advance_nsState (s : State) : (s.advance).nsState = s.nsState := by simp [State.nsState, State.mode]
@[simp] theorem State.advance_halted (s : State) : (s.advance).halted = s.halted := by simp [State.halted]
@[simp] theorem State.advance_controlBit (s : State) (i : Nat) : (s.advance).controlBit i = s.controlBit i := by
  simp [State.controlBit]
@[simp] theorem State.branch_mode (s : State) (a : Word) : (s.branch a).mode = s.mode := by simp [State.mode]
@[simp] theorem State.branch_thumb (s : State) (a : Word) : (s.branch a).thumb = s.thumb := by simp [State.thumb]
@[simp] theorem State.branch_privileged (s : State) (a : Word) : (s.branch a).privileged = s.privileged := by simp [State.privileged, State.mode]
@[simp] theorem State.branch_nsState (s : State) (a : Word) : (s.branch a).nsState = s.nsState := by simp [State.nsState, State.mode]
@[simp] theorem State.branch_controlBit (s : State) (a : Word) (i : Nat) : (s.branch a).controlBit i = s.controlBit i := by
  simp [State.controlBit]
@[simp] theorem State.skip_mode (s : State) (w : Bool) : (s.skip w).mode = s.mode := by simp [State.mode]
@[simp] theorem State.skip_thumb (s : State) (w : Bool) : (s.skip w).thumb = s.thumb := by simp [State.thumb]
@[simp] theorem State.skip_privileged (s : State) (w : Bool) : (s.skip w).privileged = s.privileged := by simp [State.privileged, State.mode]
@[simp] theorem State.skip_nsState (s : State) (w : Bool) : (s.skip w).nsState = s.nsState := by simp [State.nsState, State.mode]
@[simp] theorem State.skip_controlBit (s : State) (w : Bool) (i : Nat) : (s.skip w).controlBit i = s.controlBit i := by
  simp [State.controlBit]
@[simp] theorem State.setThumb_halted (s : State) (t : Bool) : (s.setThumb t).halted = s.halted := by simp [State.halted]
@[simp] theorem State.setSpsrIn_mode (s : State) (m : BitVec 5) (v : Word) : (s.setSpsrIn m v).mode = s.mode := by simp [State.mode]
@[simp] theorem State.setSpsrIn_thumb (s : State) (m : BitVec 5) (v : Word) : (s.setSpsrIn m v).thumb = s.thumb := by simp [State.thumb]
@[simp] theorem State.setSpsrIn_privileged (s : State) (m : BitVec 5) (v : Word) : (s.setSpsrIn m v).privileged = s.privileged := by simp [State.privileged, State.mode]
@[simp] theorem State.setSpsrIn_nsState (s : State) (m : BitVec 5) (v : Word) : (s.setSpsrIn m v).nsState = s.nsState := by simp [State.nsState, State.mode]
@[simp] theorem State.setSpsrIn_halted (s : State) (m : BitVec 5) (v : Word) : (s.setSpsrIn m v).halted = s.halted := by simp [State.halted]
@[simp] theorem State.setSpsrIn_controlBit (s : State) (m : BitVec 5) (v : Word) (i : Nat) : (s.setSpsrIn m v).controlBit i = s.controlBit i := by
  simp [State.controlBit]
@[simp] theorem State.keepOldFetch_mode (s : State) (old : State) : (s.keepOldFetch old).mode = s.mode := by simp [State.mode]
@[simp] theorem State.keepOldFetch_thumb (s : State) (old : State) : (s.keepOldFetch old).thumb = s.thumb := by simp [State.thumb]
@[simp] theorem State.keepOldFetch_privileged (s : State) (old : State) : (s.keepOldFetch old).privileged = s.privileged := by simp [State.privileged, State.mode]
@[simp] theorem State.keepOldFetch_nsState (s : State) (old : State) : (s.keepOldFetch old).nsState = s.nsState := by simp [State.nsState, State.mode]
@[simp] theorem State.keepOldFetch_halted (s : State) (old : State) : (s.keepOldFetch old).halted = s.halted := by simp [State.halted]
@[simp] theorem State.keepOldFetch_controlBit (s : State) (old : State) (i : Nat) : (s.keepOldFetch old).controlBit i = s.controlBit i := by
  simp [State.controlBit]
@[simp] theorem State.syncFetch_mode (s : State) : (s.syncFetch).mode = s.mode := by simp [State.mode]
@[simp] theorem State.syncFetch_thumb (s : State) : (s.syncFetch).thumb = s.thumb := by simp [State.thumb]
@[simp] theorem State.syncFetch_privileged (s : State) : (s.syncFetch).privileged = s.privileged := by simp [State.privileged, State.mode]
@[simp] theorem State.syncFetch_nsState (s : State) : (s.syncFetch).nsState = s.nsState := by simp [State.nsState, State.mode]
@[simp] theorem State.syncFetch_halted (s : State) : (s.syncFetch).halted = s.halted := by simp [State.halted]
@[simp] theorem State.syncFetch_controlBit (s : State) (i : Nat) : (s.syncFetch).controlBit i = s.controlBit i := by
  simp [State.controlBit]
@[simp] theorem State.setSr_mode (s : State) (r : Nat) (v : Word) : (s.setSr r v).mode = s.mode := by simp [State.mode]
@[simp] theorem State.setSr_thumb (s : State) (r : Nat) (v : Word) : (s.setSr r v).thumb = s.thumb := by simp [State.thumb]
@[simp] theorem State.setSr_privileged (s : State) (r : Nat) (v : Word) : (s.setSr r v).privileged = s.privileged := by simp [State.privileged, State.mode]
@[simp] theorem State.setSr_nsState (s : State) (r : Nat) (v : Word) : (s.setSr r v).nsState = s.nsState := by simp [State.nsState, State.mode]
@[simp] theorem State.setSr_halted (s : State) (r : Nat) (v : Word) : (s.setSr r v).halted = s.halted := by simp [State.halted]
@[simp] theorem State.setSr_controlBit (s : State) (r : Nat) (v : Word) (i : Nat) : (s.setSr r v).controlBit i = s.controlBit i := by
  simp [State.controlBit]
@[simp] theorem State.setDr_mode (s : State) (r : Nat) (v : DWord) : (s.setDr r v).mode = s.mode := by simp [State.mode]
@[simp] theorem State.setDr_thumb (s : State) (r : Nat) (v : DWord) : (s.setDr r v).thumb = s.thumb := by simp [State.thumb]
@[simp] theorem State.setDr_privileged (s : State) (r : Nat) (v : DWord) : (s.setDr r v).privileged = s.privileged := by simp [State.privileged, State.mode]
@[simp] theorem State.setDr_nsState (s : State) (r : Nat) (v : DWord) : (s.setDr r v).nsState = s.nsState := by simp [State.nsState, State.mode]
@[simp] theorem State.setDr_halted (s : State) (r : Nat) (v : DWord) : (s.setDr r v).halted = s.halted := by simp [State.halted]
@[simp] theorem State.setDr_controlBit (s : State) (r : Nat) (v : DWord) (i : Nat) : (s.setDr r v).controlBit i = s.controlBit i := by
  simp [State.controlBit]
@[simp] theorem State.setFp_mode (s : State) (f : Format) (r : Nat) (v : DWord) : (s.setFp f r v).mode = s.mode := by simp [State.mode]
@[simp] theorem State.setFp_thumb (s : State) (f : Format) (r : Nat) (v : DWord) : (s.setFp f r v).thumb = s.thumb := by simp [State.thumb]
@[simp] theorem State.setFp_privileged (s : State) (f : Format) (r : Nat) (v : DWord) : (s.setFp f r v).privileged = s.privileged := by simp [State.privileged, State.mode]
@[simp] theorem State.setFp_nsState (s : State) (f : Format) (r : Nat) (v : DWord) : (s.setFp f r v).nsState = s.nsState := by simp [State.nsState, State.mode]
@[simp] theorem State.setFp_halted (s : State) (f : Format) (r : Nat) (v : DWord) : (s.setFp f r v).halted = s.halted := by simp [State.halted]
@[simp] theorem State.setFp_controlBit (s : State) (f : Format) (r : Nat) (v : DWord) (i : Nat) : (s.setFp f r v).controlBit i = s.controlBit i := by
  simp [State.controlBit]
@[simp] theorem State.orFpscr_mode (s : State) (w : Word) : (s.orFpscr w).mode = s.mode := by simp [State.mode]
@[simp] theorem State.orFpscr_thumb (s : State) (w : Word) : (s.orFpscr w).thumb = s.thumb := by simp [State.thumb]
@[simp] theorem State.orFpscr_privileged (s : State) (w : Word) : (s.orFpscr w).privileged = s.privileged := by simp [State.privileged, State.mode]
@[simp] theorem State.orFpscr_nsState (s : State) (w : Word) : (s.orFpscr w).nsState = s.nsState := by simp [State.nsState, State.mode]
@[simp] theorem State.orFpscr_halted (s : State) (w : Word) : (s.orFpscr w).halted = s.halted := by simp [State.halted]
@[simp] theorem State.orFpscr_controlBit (s : State) (w : Word) (i : Nat) : (s.orFpscr w).controlBit i = s.controlBit i := by
  simp [State.controlBit]
@[simp] theorem State.setBank_mode (s : State) (b : Cp15Bank) : (s.setBank b).mode = s.mode := by simp [State.mode]
@[simp] theorem State.setBank_thumb (s : State) (b : Cp15Bank) : (s.setBank b).thumb = s.thumb := by simp [State.thumb]
@[simp] theorem State.setBank_privileged (s : State) (b : Cp15Bank) : (s.setBank b).privileged = s.privileged := by simp [State.privileged, State.mode]
@[simp] theorem State.setBank_halted (s : State) (b : Cp15Bank) : (s.setBank b).halted = s.halted := by simp [State.halted]
@[simp] theorem State.setMoe_mode (s : State) (m : BitVec 4) : (s.setMoe m).mode = s.mode := by simp [State.mode]
@[simp] theorem State.setMoe_thumb (s : State) (m : BitVec 4) : (s.setMoe m).thumb = s.thumb := by simp [State.thumb]
@[simp] theorem State.setMoe_privileged (s : State) (m : BitVec 4) : (s.setMoe m).privileged = s.privileged := by simp [State.privileged, State.mode]
@[simp] theorem State.setMoe_nsState (s : State) (m : BitVec 4) : (s.setMoe m).nsState = s.nsState := by simp [State.nsState, State.mode]
@[simp] theorem State.setMoe_controlBit (s : State) (m : BitVec 4) (i : Nat) : (s.setMoe m).controlBit i = s.controlBit i := by
  simp [State.controlBit]
@[simp] theorem State.setCells_mode (s : State) (p : Place) (cs : List Host.Cell) : (s.setCells p cs).mode = s.mode := by simp [State.mode]
@[simp] theorem State.setCells_thumb (s : State) (p : Place) (cs : List Host.Cell) : (s.setCells p cs).thumb = s.thumb := by simp [State.thumb]
@[simp] theorem State.setCells_privileged (s : State) (p : Place) (cs : List Host.Cell) : (s.setCells p cs).privileged = s.privileged := by simp [State.privileged, State.mode]
@[simp] theorem State.setCells_nsState (s : State) (p : Place) (cs : List Host.Cell) : (s.setCells p cs).nsState = s.nsState := by simp [State.nsState, State.mode]
@[simp] theorem State.setCells_halted (s : State) (p : Place) (cs : List Host.Cell) : (s.setCells p cs).halted = s.halted := by simp [State.halted]
@[simp] theorem State.setCells_controlBit (s : State) (p : Place) (cs : List Host.Cell) (i : Nat) : (s.setCells p cs).controlBit i = s.controlBit i := by
  simp [State.controlBit]
@[simp] theorem State.setByteAt_mode (s : State) (p : Place) (a : Nat) (v : Byte) : (s.setByteAt p a v).mode = s.mode := by simp [State.mode]
@[simp] theorem State.setByteAt_thumb (s : State) (p : Place) (a : Nat) (v : Byte) : (s.setByteAt p a v).thumb = s.thumb := by simp [State.thumb]
@[simp] theorem State.setByteAt_privileged (s : State) (p : Place) (a : Nat) (v : Byte) : (s.setByteAt p a v).privileged = s.privileged := by simp [State.privileged, State.mode]
@[simp] theorem State.setByteAt_nsState (s : State) (p : Place) (a : Nat) (v : Byte) : (s.setByteAt p a v).nsState = s.nsState := by simp [State.nsState, State.mode]
@[simp] theorem State.setByteAt_halted (s : State) (p : Place) (a : Nat) (v : Byte) : (s.setByteAt p a v).halted = s.halted := by simp [State.halted]
@[simp] theorem State.setByteAt_controlBit (s : State) (p : Place) (a : Nat) (v : Byte) (i : Nat) : (s.setByteAt p a v).controlBit i = s.controlBit i := by
  simp [State.controlBit]
@[simp] theorem State.setRegsIn_mode (s : State) (m : BitVec 5) (l : List (Reg × Word)) : (s.setRegsIn m l).mode = s.mode := by simp [State.mode]
@[simp] theorem State.setRegsIn_thumb (s : State) (m : BitVec 5) (l : List (Reg × Word)) : (s.setRegsIn m l).thumb = s.thumb := by simp [State.thumb]
@[simp] theorem State.setRegsIn_privileged (s : State) (m : BitVec 5) (l : List (Reg × Word)) : (s.setRegsIn m l).privileged = s.privileged := by simp [State.privileged, State.mode]
@[simp] theorem State.setRegsIn_nsState (s : State) (m : BitVec 5) (l : List (Reg × Word)) : (s.setRegsIn m l).nsState = s.nsState := by simp [State.nsState, State.mode]
@[simp] theorem State.setRegsIn_halted (s : State) (m : BitVec 5) (l : List (Reg × Word)) : (s.setRegsIn m l).halted = s.halted := by simp [State.halted]
@[simp] theorem State.setRegsIn_controlBit (s : State) (m : BitVec 5) (l : List (Reg × Word)) (i : Nat) : (s.setRegsIn m l).controlBit i = s.controlBit i := by
  simp [State.controlBit]
@[simp] theorem State.setBytesAt_mode (s : State) (p : Place) (l : List (Nat × Byte)) : (s.setBytesAt p l).mode = s.mode := by simp [State.mode]
@[simp] theorem State.setBytesAt_thumb (s : State) (p : Place) (l : List (Nat × Byte)) : (s.setBytesAt p l).thumb = s.thumb := by simp [State.thumb]
@[simp] theorem State.setBytesAt_privileged (s : State) (p : Place) (l : List (Nat × Byte)) : (s.setBytesAt p l).privileged = s.privileged := by simp [State.privileged, State.mode]
@[simp] theorem State.setBytesAt_nsState (s : State) (p : Place) (l : List (Nat × Byte)) : (s.setBytesAt p l).nsState = s.nsState := by simp [State.nsState, State.mode]
@[simp] theorem State.setBytesAt_halted (s : State) (p : Place) (l : List (Nat × Byte)) : (s.setBytesAt p l).halted = s.halted := by simp [State.halted]
@[simp] theorem State.setBytesAt_controlBit (s : State) (p : Place) (l : List (Nat × Byte)) (i : Nat) : (s.setBytesAt p l).controlBit i = s.controlBit i := by
  simp [State.controlBit]

/-! ### Control flow -/

/-- In Debug state nothing advances (15:R409). -/
theorem State.advance_of_halted {s : State} (h : s.halted = true) : s.advance = s := by simp [State.advance, h]

/-- Outside Debug state the PC goes to the next instruction (10:R37). -/
theorem State.advance_of_running {s : State} (h : s.halted = false) : s.advance = { s with pc := s.nextPc } := by
  simp [State.advance, State.nextPc, h]

/-- Outside Debug state a branch writes the PC and nothing else. -/
theorem State.branch_of_running {s : State} (h : s.halted = false) (a : Word) : s.branch a = { s with pc := a } := by
  simp [State.branch, h]

@[simp] theorem State.branch_pc (s : State) (a : Word) : (s.branch a).pc = a := by
  unfold State.branch; split <;> rfl

@[simp] theorem State.branch_halted (s : State) (a : Word) : (s.branch a).halted = s.halted := by
  unfold State.branch; split <;> rfl

@[simp] theorem State.skip_halted (s : State) (w : Bool) : (s.skip w).halted = s.halted := by
  unfold State.skip State.advance State.halted; split <;> [rfl; (split <;> rfl)]

/-! ### What is shown on the trace port -/

/-- Recording an access changes what the trace port shows of the data, and nothing else. -/
theorem recordAccess_eq (write aborted failed : Bool) (va a : Word) (bytes : List Byte) (s : State) :
    ∃ d, recordAccess write aborted failed va a bytes s = { s with trace := { s.trace with data := d } } := by
  unfold recordAccess
  split
  · exact ⟨_, rfl⟩
  · exact ⟨s.trace.data, rfl⟩

/-- So does showing an access that has been made. -/
theorem traceAccess_eq (write : Bool) (va a : Word) (bytes : List Byte) (before : Nat) (s : State) :
    ∃ d, traceAccess write va a bytes before s = { s with trace := { s.trace with data := d } } := recordAccess_eq ..

/-- And a store-exclusive that has stored nothing. -/
theorem traceFailed_eq (va a : Word) (bytes : List Byte) (s : State) :
    ∃ d, traceFailed va a bytes s = { s with trace := { s.trace with data := d } } := recordAccess_eq ..

/-- After an instruction the ports show what it was; nothing else changes. -/
theorem traceWord_eq (before : State) (w : Word) (s : State) :
    ∃ tr acp, traceWord before w s = { s with trace := tr, acpEnabled := acp } := ⟨_, _, rfl⟩

/-! ### Registers (10:R32, R33) -/

/-- Reading back the register just written. -/
@[simp] theorem State.regIn_setRegIn_same (s : State) (m : BitVec 5) (r : Reg) (v : Word) :
    (s.setRegIn m r v).regIn m r = v := by
  simp [State.regIn, State.setRegIn]

/-- Writing one physical register leaves the others. -/
theorem State.regIn_setRegIn_ne (s : State) (m m' : BitVec 5) (r r' : Reg) (v : Word)
    (h : bankedReg m r ≠ bankedReg m' r') : (s.setRegIn m r v).regIn m' r' = s.regIn m' r' := by
  have h' : (bankedReg m r : Fin 32).val ≠ (bankedReg m' r').val := fun e => h (Fin.ext e)
  simp [State.regIn, State.setRegIn, h']

end Sys2Proof.Machine
end

