-- ==== Sys2Proof/Laws/Memory.lean ====
section
/-! SUPPORT. The canonical form of memory (20:R500): what reading and writing a byte do, that every memory operation keeps the
form, and that the reset state has it. -/

namespace Sys2Proof.Machine

open Sys2Proof

/-! ### The canonical form -/

/-- Every listed address is above a bound. -/
def above (x : Nat) (cs : List Host.Cell) : Prop := ∀ c ∈ cs, x < c.1

/-- The form of a list with a first cell: the cell is not the default, the rest lies above it and has the form. -/
theorem Memory.wf_cons (a : Nat) (b : Byte) (cs : List Host.Cell) :
    Memory.wf ((a, b) :: cs) = true ↔ b ≠ unlisted ∧ above a cs ∧ Memory.wf cs = true := by
  induction cs generalizing a b with
  | nil => simp [Memory.wf, above]
  | cons c cs ih =>
    obtain ⟨a', b'⟩ := c
    simp only [Memory.wf, Bool.and_eq_true, decide_eq_true_eq, bne_iff_ne, ne_eq]
    rw [ih]
    constructor
    · rintro ⟨⟨hb, hlt⟩, hb', hab, hw⟩
      refine ⟨hb, ?_, hb', hab, hw⟩
      intro c hc
      rcases List.mem_cons.mp hc with rfl | hc
      · exact hlt
      · exact lt_trans hlt (hab c hc)
    · rintro ⟨hb, hab, hb', hab', hw⟩
      exact ⟨⟨hb, hab (a', b') (List.mem_cons_self ..)⟩, hb', hab', hw⟩

/-- What lies above a bound reads as unlisted there. -/
theorem readCell_above {x : Nat} {cs : List Host.Cell} (h : above x cs) : readCell cs x = unlisted := by
  cases cs with
  | nil => rfl
  | cons c cs =>
    obtain ⟨a, b⟩ := c
    have : x < a := h (a, b) (List.mem_cons_self ..)
    simp [readCell, this, Nat.ne_of_lt this]

/-- A write keeps a bound below it. -/
theorem above_writeCell {y x : Nat} {v : Byte} {cs : List Host.Cell} (h : above y cs) (hx : y < x) :
    above y (writeCell cs x v) := by
  induction cs with
  | nil =>
    unfold writeCell
    split
    · exact h
    · intro c hc; rcases List.mem_cons.mp hc with rfl | hc
      · exact hx
      · cases hc
  | cons c cs ih =>
    obtain ⟨a, b⟩ := c
    have ht : above y cs := fun c hc => h c (List.mem_cons_of_mem _ hc)
    have hcons : ∀ {z : Host.Cell} {l : List Host.Cell}, y < z.1 → above y l → above y (z :: l) := by
      intro z l hz hl c hc
      rcases List.mem_cons.mp hc with rfl | hc
      · exact hz
      · exact hl c hc
    have ha : y < a := h (a, b) (List.mem_cons_self ..)
    unfold writeCell
    split
    · split
      · exact ht
      · exact hcons hx ht
    · split
      · split
        · exact h
        · exact hcons hx h
      · exact hcons ha (ih ht)

/-- Writing a byte keeps the canonical form. -/
theorem Memory.wf_writeCell {cs : List Host.Cell} (h : Memory.wf cs = true) (x : Nat) (v : Byte) :
    Memory.wf (writeCell cs x v) = true := by
  induction cs with
  | nil =>
    unfold writeCell
    split
    · rfl
    · simpa [Memory.wf] using ‹_›
  | cons c cs ih =>
    obtain ⟨a, b⟩ := c
    obtain ⟨hb, hab, hw⟩ := (Memory.wf_cons a b cs).mp h
    unfold writeCell
    split
    · subst x
      split
      · exact hw
      · exact (Memory.wf_cons a v cs).mpr ⟨‹_›, hab, hw⟩
    · split
      · split
        · exact h
        · refine (Memory.wf_cons x v _).mpr ⟨‹_›, ?_, h⟩
          intro c hc
          rcases List.mem_cons.mp hc with rfl | hc
          · assumption
          · exact lt_trans ‹_› (hab c hc)
      · refine (Memory.wf_cons a b _).mpr ⟨hb, above_writeCell hab (by omega), ih hw⟩

/-- Read after write: the byte written at its address, the old bytes elsewhere. -/
theorem readCell_writeCell {cs : List Host.Cell} (h : Memory.wf cs = true) (x y : Nat) (v : Byte) :
    readCell (writeCell cs x v) y = if y = x then v else readCell cs y := by
  induction cs with
  | nil =>
    unfold writeCell
    by_cases hv : v = unlisted
    · simp [hv, readCell]
    · simp only [hv, if_false, readCell]
      split <;> simp
  | cons c cs ih =>
    obtain ⟨a, b⟩ := c
    obtain ⟨hb, hab, hw⟩ := (Memory.wf_cons a b cs).mp h
    unfold writeCell
    by_cases hxa : x = a
    · subst x
      by_cases hv : v = unlisted
      · by_cases hy : y = a
        · subst y; simp [hv, readCell_above hab]
        · simp only [hv, if_true, hy, if_false, readCell]
          split
          · rename_i hlt
            exact readCell_above fun c hc => lt_trans hlt (hab c hc)
          · rfl
      · by_cases hy : y = a <;> simp [hv, readCell, hy]
    · by_cases hlt : x < a
      · by_cases hv : v = unlisted
        · by_cases hy : y = x
          · subst y; simp [hv, hlt, readCell, hxa]
          · simp [hv, hlt, hxa, hy]
        · by_cases hy : y = x
          · subst y; simp [hv, hlt, hxa, readCell]
          · by_cases hyx : y < x
            · have : y < a := by omega
              have : y ≠ a := by omega
              simp [readCell, *]
            · simp [hv, hlt, hxa, hy, hyx, readCell]
      · by_cases hy : y = a
        · subst y
          have : a ≠ x := fun e => hxa e.symm
          simp [hxa, hlt, readCell, this]
        · by_cases hya : y < a
          · have : y ≠ x := by omega
            simp [hxa, hlt, readCell, hy, hya, this]
          · simp [hxa, hlt, readCell, hy, hya, ih hw]

/-! ### The memories of a state -/

/-- The form of every memory, as a statement about places. -/
theorem State.memoryWf_iff (s : State) : s.memoryWf = true ↔ ∀ p, Memory.wf (s.cells p) = true := by
  constructor
  · intro h p
    simp only [State.memoryWf, Bool.and_eq_true] at h
    obtain ⟨⟨⟨⟨⟨h1, h6⟩, h2⟩, h3⟩, h4⟩, h5⟩ := h
    rcases p with _ | _ | i | i
    · exact h1
    · exact h6
    · fin_cases i
      · exact h2
      · exact h3
    · fin_cases i
      · exact h4
      · exact h5
  · intro h
    simp only [State.memoryWf, Bool.and_eq_true]
    exact ⟨⟨⟨⟨⟨h .external, h .nonSecure⟩, h (.itcm 0)⟩, h (.itcm 1)⟩, h (.dtcm 0)⟩, h (.dtcm 1)⟩

/-- The cells of a place after replacing those of another or the same. -/
theorem State.cells_setCells (s : State) (p q : Place) (cs : List Host.Cell) :
    (s.setCells p cs).cells q = if q = p then cs else s.cells q := by
  rcases p with _ | _ | i | i <;> rcases q with _ | _ | j | j <;>
    simp [State.setCells, State.cells, Vector.getElem_set, eq_comm, Fin.ext_iff]

/-- Replacing cells by cells in the form keeps the form. -/
theorem State.memoryWf_setCells {s : State} (h : s.memoryWf = true) (p : Place) {cs : List Host.Cell}
    (hcs : Memory.wf cs = true) : (s.setCells p cs).memoryWf = true := by
  rw [State.memoryWf_iff] at *
  intro q
  rw [State.cells_setCells]
  split
  · exact hcs
  · exact h q

/-- The form depends on the memories alone. -/
theorem State.memoryWf_congr {s t : State} (hm : t.mem = s.mem) (hn : t.memNs = s.memNs) (hi : t.itcm = s.itcm)
    (hd : t.dtcm = s.dtcm) : t.memoryWf = s.memoryWf := by
  simp [State.memoryWf, hm, hn, hi, hd]

/-- Storing a byte keeps the form. -/
theorem State.memoryWf_setByteAt {s : State} (h : s.memoryWf = true) (p : Place) (a : Nat) (v : Byte) :
    (s.setByteAt p a v).memoryWf = true := by
  have hc : (s.setByteAt p a v).memoryWf = (s.setCells p (writeCell (s.cells p) a v)).memoryWf :=
    State.memoryWf_congr rfl rfl rfl rfl
  rw [hc]
  exact State.memoryWf_setCells h p (Memory.wf_writeCell ((State.memoryWf_iff s).mp h p) a v)

/-- Storing bytes keeps the form. -/
theorem State.memoryWf_setBytesAt {s : State} (h : s.memoryWf = true) (p : Place) (l : List (Nat × Byte)) :
    (s.setBytesAt p l).memoryWf = true := by
  induction l generalizing s with
  | nil => exact h
  | cons x l ih => exact ih (State.memoryWf_setByteAt h p x.1 x.2)

/-- A byte of a place depends on its cells alone. -/
theorem State.byteAt_congr {s t : State} (h : ∀ p, t.cells p = s.cells p) (p : Place) (a : Nat) : t.byteAt p a = s.byteAt p a := by
  simp [State.byteAt, h]

/-- Read after a store of one byte (20:R500). -/
theorem State.byteAt_setByteAt {s : State} (h : s.memoryWf = true) (p q : Place) (a x : Nat) (v : Byte) :
    (s.setByteAt p a v).byteAt q x = if q = p ∧ x = a then v else s.byteAt q x := by
  have hc : ∀ q, (s.setByteAt p a v).cells q = (s.setCells p (writeCell (s.cells p) a v)).cells q := by
    intro q; cases q <;> rfl
  simp only [State.byteAt, hc, State.cells_setCells]
  by_cases hq : q = p
  · subst q
    simp only [if_true, true_and]
    exact readCell_writeCell ((State.memoryWf_iff s).mp h p) a x v
  · simp [hq]

/-- A store of bytes leaves every byte that it does not name. -/
theorem State.byteAt_setBytesAt_other {s : State} (h : s.memoryWf = true) (p q : Place) (x : Nat)
    (l : List (Nat × Byte)) (hx : q = p → ∀ c ∈ l, x ≠ c.1) :
    (s.setBytesAt p l).byteAt q x = s.byteAt q x := by
  induction l generalizing s with
  | nil => rfl
  | cons c l ih =>
    rw [State.setBytesAt, ih (State.memoryWf_setByteAt h p c.1 c.2) fun hq d hd => hx hq d (List.mem_cons_of_mem _ hd),
      State.byteAt_setByteAt h, if_neg]
    rintro ⟨hq, he⟩
    exact hx hq c (List.mem_cons_self ..) he

/-- Placing bytes, as a loader does, keeps the form. -/
theorem Memory.wf_placeBytes {cs : List Host.Cell} (h : Memory.wf cs = true) (l : List (Nat × Byte)) :
    Memory.wf (placeBytes cs l) = true := by
  induction l generalizing cs with
  | nil => exact h
  | cons x l ih => exact ih (Memory.wf_writeCell h x.1 x.2)

/-- Any contents of a RAM are in the form, and lie above every address below its first one. -/
theorem Memory.wf_freeCells (a n k : Nat) :
    Memory.wf (freeCells a n k) = true ∧ ∀ x < a, above x (freeCells a n k) := by
  induction n generalizing a k with
  | zero => exact ⟨rfl, fun _ _ _ h => nomatch h⟩
  | succ n ih =>
    obtain ⟨hw, ha⟩ := ih (a + 1) (k + 1)
    simp only [freeCells]
    split
    · exact ⟨hw, fun x hx => ha x (by omega)⟩
    · refine ⟨(Memory.wf_cons a _ _).mpr ⟨‹_›, ha a (by omega), hw⟩, fun x hx c hc => ?_⟩
      rcases List.mem_cons.mp hc with rfl | hc
      · exact hx
      · exact ha x (by omega) c hc

/-- Drawing the contents of the TCMs keeps the form. -/
theorem State.memoryWf_drawTcms {s : State} (h : s.memoryWf = true) : (drawTcms s).memoryWf = true := by
  simp only [State.memoryWf, Bool.and_eq_true] at h ⊢
  exact ⟨⟨⟨⟨⟨h.1.1.1.1.1, h.1.1.1.1.2⟩, (Memory.wf_freeCells ..).1⟩, (Memory.wf_freeCells ..).1⟩, (Memory.wf_freeCells ..).1⟩,
    (Memory.wf_freeCells ..).1⟩

/-- An empty write buffer has nothing to drain. -/
theorem State.drainTo_of_empty {s : State} (h : s.writeBuffer = []) (f : BufferedWrite → Bool) : s.drainTo f = s := by
  cases s
  simp only at h
  subst h
  rfl

end Sys2Proof.Machine
end

