-- ==== Sys2Proof/Laws/Ops.lean ====
section
/-! SUPPORT. What the shared operations over registers and status do: going on, the condition, the checks of register fields, the
writes of the CPSR, drawing a free value, the exception entry in Debug state. -/

namespace Sys2Proof.Machine

open Sys2Proof

/-- Going on is the state after an instruction that writes nothing else. -/
theorem State.advance_eq_stepped (s : State) : s.advance = s.stepped := by
  unfold State.advance State.stepped State.pcAfter State.nextPc
  split <;> simp_all

/-- Writing a register and going on. -/
theorem State.setReg_advance (s : State) (r : Reg) (v : Word) : (s.setReg r v).advance = s.wrote r v := by
  rw [State.advance_eq_stepped]; rfl

/-- An instruction whose condition holds does its body. -/
theorem conditional_pass {c : Cond} {b : Bool} {s : State} {body : Result State} (h : condHolds c s.cpsr = true) :
    conditional c b s body = body := by simp [conditional, h]

/-- An instruction whose condition fails skips. -/
theorem conditional_fail {c : Cond} {b : Bool} {s : State} {body : Result State} (h : condHolds c s.cpsr = false) :
    conditional c b s body = .ok (s.skip b) := by simp [conditional, h]

/-- A skip outside Debug state goes on. -/
theorem State.skip_of_running {s : State} (h : s.halted = false) (b : Bool) : s.skip b = s.stepped := by
  simp [State.skip, h, State.advance_eq_stepped]

/-- A check that does not refuse. -/
theorem refuseIf_pass {c : Bool} {r : Refusal} (h : c = false) : refuseIf c r = .ok () := by simp [refuseIf, h]

/-- A check that refuses. -/
theorem refuseIf_stop {c : Bool} {r : Refusal} (h : c = true) : refuseIf c r = .error (.refuse r) := by simp [refuseIf, h]

/-- No register field is R15. -/
theorem noPc_pass {l : List Reg} (h : 15#4 ∉ l) : noPc l = .ok () := refuseIf_pass (by simpa using h)

/-- A register field is R15. -/
theorem noPc_stop {l : List Reg} (h : 15#4 ∈ l) : noPc l = .error (.refuse .registerField) := refuseIf_stop (by simpa using h)

/-- A register other than R15 reads from the bank. -/
theorem State.reg_eq_regIn {s : State} {r : Reg} (h : r ≠ 15#4) : s.reg r = s.regIn s.mode r := by simp [State.reg, h]

/-- In Debug state an exception changes nothing but the debug unit, and the model's note of it on the trace port (15:R410). -/
theorem takeException_halted {s : State} (h : s.halted = true) (k : Exc) (ext : Bool) (ret : Word) :
    takeException k ext ret s =
      { s with dbg := (takeException k ext ret s).dbg, trace := { s.trace with exception := some k } } := by
  simp only [takeException, h, if_true, debugStateException]
  cases k <;> rfl

/-- Drawing a free bit advances the counter alone. -/
theorem drawBit_snd (s : State) : (drawBit s).2 = { s with freeCtr := s.freeCtr + 1 } := rfl

/-- Drawing a free word advances the counter alone. -/
theorem drawWord_snd (s : State) : (drawWord s).2 = { s with freeCtr := s.freeCtr + 1 } := rfl

/-- With nothing changed before, a component has the one value of now. -/
theorem vary_nil {σ α : Type} [BEq α] {get : σ → α} {set : α → σ → σ} (h : ∀ c, set (get c) c = c) (l : List σ) :
    vary get set [] l = l := by
  simp [vary, heldValues, h]

/-- With nothing changed before, CP15 acts as it is. -/
@[simp] theorem Cp15.mixes_nil (now : Cp15) : Cp15.mixes [] now = [now] := by
  simp [Cp15.mixes, mixedBanks, mixedShared, varyBanks, vary_nil]

/-- With nothing changed before, a fetch has the settings of now alone. -/
theorem fetchSettings_of_synced {s : State} (h : s.oldFetch = []) : s.fetchSettings = [s.settings] := by
  simp [State.fetchSettings, h, heldValues, State.settings]

/-- All that a write of the CPSR by an instruction can do: the selected bits change to a mode, and what fetches may still use is
kept. -/
theorem cpsrWriteByInstr_ok {s t : State} {v : Word} {m : BitVec 4} {r : Bool} (h : cpsrWriteByInstr s v m r = .ok t) :
    validMode t.mode = true ∧ t.cpsr = mergeBits s.cpsr v (cpsrWritable s v m r) ∧
      t = { s with cpsr := t.cpsr, oldFetch := t.oldFetch } := by
  unfold cpsrWriteByInstr at h
  simp only at h
  split at h
  · rename_i hv
    injection h with h
    subst h
    split
    · exact ⟨hv, rfl, rfl⟩
    · unfold State.keepOldFetch
      split <;> exact ⟨hv, rfl, rfl⟩
  · cases h

end Sys2Proof.Machine
end

