-- ==== Sys2Proof/Laws/Access.lean ====
section
/-! SUPPORT. What the data accesses do in the plain memory setting (`State.plainMemory`): the translation, loads of numbers and of
words, stores of numbers and of words, and their frame. -/

namespace Sys2Proof.Machine

open Sys2Proof

/-! ### Translation -/

/-- With the TCMs off and a quiet bus every access goes to the external memory. -/
theorem locate_plain {s : State} (h : s.plainMemory) (ns fetch : Bool) (pa : Word) :
    tcmPlace s.cp15 ns fetch pa = none ∧ levelTwoPlace s.bus ns pa = .external := by
  have h0 : bit s.cp15.dtcmRegion[(0 : Fin 2)] 0 = false ∧ bit s.cp15.itcmRegion[(0 : Fin 2)] 0 = false := h.tcmsOff 0
  have h1 : bit s.cp15.dtcmRegion[(1 : Fin 2)] 0 = false ∧ bit s.cp15.itcmRegion[(1 : Fin 2)] 0 = false := h.tcmsOff 1
  constructor
  · unfold tcmPlace tcmOffset
    simp only [h0.1, h0.2, h1.1, h1.2, Bool.false_and, Bool.false_eq_true, if_false, ite_self]
  · simp [levelTwoPlace, h.quietBus]

/-- The translation of a data access with the MMU off. -/
def plainTranslation (s : State) (va : Word) : Translation :=
  { pa := s.mva va, ns := s.nsState, attrs := .stronglyOrdered, table := .stronglyOrdered, place := .external
    offset := (s.mva va).toNat, domain := none }

/-- With the MMU off an access has its MVA as its physical address, and is Strongly Ordered (21:R610). -/
theorem dataTranslate_plain {s : State} (h : s.plainMemory) (acc : Access) (write : Bool) (va : Word) :
    dataTranslate acc write va s = .ok (plainTranslation s va, s) := by
  have hm : bit (s.cp15.control s.nsState) 0 = false := h.mmuOff
  have hr : bit (s.cp15.control s.nsState) 28 = false := h.noRemap
  have hp : inPeripheralRegion (s.cp15.bank s.nsState) (s.mva va) = false := by
    simp [inPeripheralRegion, peripheralSize, h.noPort, bits]
  have hl := locate_plain h s.nsState false (s.mva va)
  simp [dataTranslate, translate, hm, makeTranslation, hp, hl.1, hl.2, flatAttrs, hr, plainTranslation, conflictingAttrs,
    MemAttrs.stronglyOrdered]

/-- The Data Cache is not used. -/
theorem dcacheUsed_plain {s : State} (h : s.plainMemory) (t : Translation) : dcacheUsed s t = false := by
  simp [dcacheUsed, h.mmuOff]

/-- No access has an error. -/
theorem noError_plain {s : State} (h : s.plainMemory) (rs : List BusRequest) (wanted : List Nat) :
    firstError s.bus rs = none ∧ wantedError s.bus rs wanted = none := by
  have hq := h.quietBus
  constructor <;> induction rs <;> simp_all [firstError, wantedError, transferError, busAnswer, busRegion]

/-- Reads get what the storage holds. -/
theorem readData_plain {s : State} (h : s.plainMemory) (rs : List BusRequest) (a : Nat) (b : Byte) : readData s.bus rs a b = b := by
  have hn : ∀ l : List Nat, l.findSome? (fun _ => (none : Option Byte)) = none := by intro l; induction l <;> simp_all
  have hm : ∀ l : List BusRequest, l.findSome? (fun _ => (none : Option Byte)) = none := by intro l; induction l <;> simp_all
  simp [readData, transferData, busRegion, h.quietBus, hn, hm]

/-- The write buffer is empty. -/
theorem drainTo_plain {s : State} (h : s.plainMemory) (f : BufferedWrite → Bool) : s.drainTo f = s := by
  have := h.complete
  simp only [State.outstanding, Bool.or_eq_false_iff, Bool.not_eq_false', List.isEmpty_iff] at this
  exact State.drainTo_of_empty this.2 f

/-- An access has nothing to wait for. -/
theorem orderBefore_plain {s : State} (h : s.plainMemory) (t : Translation) (write : Bool) : orderBefore t write s = s := by
  unfold orderBefore
  split <;> simp [completeAccesses, h.complete, drainTo_plain h]

/-- An access is not traced. -/
theorem traceAccess_plain {s : State} (h : s.plainMemory) (write : Bool) (va a : Word) (bytes : List Byte) (before : Nat) :
    traceAccess write va a bytes before s = s := by
  simp [traceAccess, recordAccess, h.noEtm]

/-- No watchpoint is seen. -/
theorem watchAccess_plain {s : State} (h : s.plainMemory) (acc : Access) (t : Translation) (va : Word) (n : Nat) (w : Bool) :
    watchAccess acc t va n w s = .ok s := by
  have hr : ∀ a k, recordWatch s (s.mva a) k w acc.privileged t.domain = .ok s := by
    intro a k
    simp [recordWatch, State.eventMode, State.debugPermitted, h.noDebug]
  have hf : ∀ l : List (Word × Nat),
      l.foldlM (fun s (a, k) => recordWatch s (s.mva a) k w acc.privileged t.domain) s = (.ok s : Result State) := by
    intro l
    induction l with
    | nil => rfl
    | cons x l ih => simp only [List.foldlM_cons, hr, bind, Except.bind]; exact ih
  exact hf _

/-- The data is little-endian or big-endian as CPSR.E says. -/
theorem bigEndian_plain {s : State} (h : s.plainMemory) : s.bigEndian = bit s.cpsr 9 := by
  have : s.be32 = false := h.notBe32
  simp [State.bigEndian, this]

/-- The byte order is not a reserved one. -/
theorem checkEndian_plain {s : State} (h : s.plainMemory) : checkEndian s = .ok () := by
  have : s.be32 = false := h.notBe32
  simp [checkEndian, this, refuseIf]

/-! ### Alignment -/

/-- A low bit of a number that a power of two divides. -/
theorem getLsbD_of_aligned {va : Word} {k i : Nat} (h : va.toNat % 2 ^ k = 0) (hi : i < k) : va.getLsbD i = false := by
  have := Nat.testBit_mod_two_pow va.toNat k i
  simpa [h, hi, BitVec.getLsbD] using this.symm

/-- The low bits of an aligned address are 0. -/
theorem bits_of_aligned {va : Word} {k n : Nat} (h : va.toNat % 2 ^ k = 0) (hn : n ≤ k) : bits va 0 n = 0#n := by
  apply BitVec.eq_of_getLsbD_eq
  intro i hi
  have : i < k := by omega
  simp [bits, hi, getLsbD_of_aligned h this]

/-- Clearing the low bits of an aligned address. -/
theorem and_of_aligned {va m : Word} {k : Nat} (h : va.toNat % 2 ^ k = 0) (hm : ∀ i, k ≤ i → i < 32 → m.getLsbD i = true) :
    va &&& m = va := by
  apply BitVec.eq_of_getLsbD_eq
  intro i hi
  by_cases hik : i < k
  · simp [getLsbD_of_aligned h hik]
  · simp [hm i (by omega) hi]

/-- Masks of aligned addresses. -/
theorem align2_of_aligned {va : Word} (h : va.toNat % 2 = 0) : align2 va = va :=
  and_of_aligned (k := 1) h (by decide)

theorem align4_of_aligned {va : Word} (h : va.toNat % 4 = 0) : align4 va = va :=
  and_of_aligned (k := 2) h (by decide)

theorem align8_of_aligned {va : Word} (h : va.toNat % 8 = 0) : align8 va = va :=
  and_of_aligned (k := 3) h (by decide)

/-- What the address of an access of a type must be a multiple of, so that every setting of A and U leaves it alone. -/
def AccessType.logSize : AccessType → Nat
  | .byte => 0
  | .half | .hwSync => 1
  | .wLoad | .wStore | .wSync | .multiWord => 2
  | .twoWord | .dwSync => 3

/-- An aligned access uses its own address, with every setting of A and U. -/
theorem alignedAddress_of_aligned {t : AccessType} {va : Word} (h : va.toNat % 2 ^ t.logSize = 0) (a u : Bool) :
    alignedAddress a u t va = some va := by
  cases t <;> simp only [AccessType.logSize] at h <;> simp only [alignedAddress]
  · have := align2_of_aligned h
    have hb : bit va 0 = false := getLsbD_of_aligned h (by omega)
    simp [this, hb]
  · have := align2_of_aligned h
    have hb : bit va 0 = false := getLsbD_of_aligned h (by omega)
    simp [this, hb]
  · have := align4_of_aligned h
    simp [this, bits_of_aligned (n := 2) h (by omega)]
  · have := align4_of_aligned h
    simp [this, bits_of_aligned (n := 2) h (by omega)]
  · have := align4_of_aligned h
    simp [this, bits_of_aligned (n := 2) h (by omega)]
  · have h4 : va.toNat % 4 = 0 := by omega
    have := align4_of_aligned h4
    simp [this, bits_of_aligned (n := 2) h (by omega), bits_of_aligned (n := 3) h (by omega)]
  · have := align4_of_aligned h
    simp [this, bits_of_aligned (n := 2) h (by omega)]
  · have := align8_of_aligned h
    simp [this, bits_of_aligned (n := 3) h (by omega)]

/-- The alignment check passes. -/
theorem checkAlignment_of_aligned {t : AccessType} {va : Word} (h : va.toNat % 2 ^ t.logSize = 0) (w : Bool) (s : State) :
    checkAlignment t w va s = .ok va := by
  simp [checkAlignment, alignedAddress_of_aligned h]

/-! ### Byte order -/

/-- The bytes that a little-endian word has. -/
theorem ofBytesLE_four (b0 b1 b2 b3 : Byte) : ofBytesLE [b0, b1, b2, b3] = (b3 ++ b2 ++ b1 ++ b0 : BitVec 32) := by
  apply BitVec.eq_of_getLsbD_eq
  intro i hi
  simp only [ofBytesLE, zext, BitVec.getLsbD_or, BitVec.getLsbD_setWidth, BitVec.getLsbD_shiftLeft, BitVec.getLsbD_append]
  interval_cases i <;> simp

theorem ofBytesLE_two (b0 b1 : Byte) : ofBytesLE [b0, b1] = (b1 ++ b0 : BitVec 16).setWidth 32 := by
  apply BitVec.eq_of_getLsbD_eq
  intro i hi
  simp only [ofBytesLE, zext, BitVec.getLsbD_or, BitVec.getLsbD_setWidth, BitVec.getLsbD_shiftLeft, BitVec.getLsbD_append]
  interval_cases i <;> simp

theorem ofBytesLE_one (b0 : Byte) : ofBytesLE [b0] = b0.setWidth 32 := by simp [ofBytesLE, zext]

/-- A word as it lies in memory. -/
theorem assemble_memWord (s : State) (va : Word) :
    assemble (bit s.cpsr 9) ((List.range 4).map (s.memByte va)) = s.memWord va := by
  unfold State.memWord assemble
  split <;> simp [List.range, List.range.loop, ofBytesLE_four]

/-- A halfword as it lies in memory. -/
theorem assemble_memHalf (s : State) (va : Word) :
    assemble (bit s.cpsr 9) ((List.range 2).map (s.memByte va)) = (s.memHalf va).setWidth 32 := by
  unfold State.memHalf assemble
  split <;> simp [List.range, List.range.loop, ofBytesLE_two]

/-- A byte. -/
theorem assemble_memByte (s : State) (va : Word) :
    assemble (bit s.cpsr 9) ((List.range 1).map (s.memByte va)) = (s.memByte va 0).setWidth 32 := by
  unfold assemble
  split <;> simp [List.range, List.range.loop, ofBytesLE_one]

/-- A byte of a word, by a shift. -/
theorem setWidth_ushiftRight (v : Word) (k : Nat) : (v >>> k).setWidth 8 = v.extractLsb' k 8 := by
  apply BitVec.eq_of_getLsbD_eq
  intro i hi
  simp [hi]

/-- The bytes of a number, least significant first. -/
theorem toBytesLE_eq (n : Nat) (v : Word) (k : Nat) :
    toBytesLE n (v >>> (8 * k)) = (List.range n).map fun i => byteIn v (k + i) := by
  induction n generalizing k with
  | zero => rfl
  | succ n ih =>
    rw [toBytesLE, List.range_succ_eq_map, setWidth_ushiftRight, List.map_cons, List.map_map, ← BitVec.shiftRight_add,
      show 8 * k + 8 = 8 * (k + 1) by omega, ih (k + 1)]
    refine congrArg₂ _ rfl (List.map_congr_left fun i _ => ?_)
    simp [show k + 1 + i = k + (i + 1) by omega]

/-- The bytes of a number as a store puts them. -/
theorem disassemble_eq (s : State) (n : Nat) (v : Word) : disassemble (bit s.cpsr 9) n v = s.storeOrder n v := by
  have h := toBytesLE_eq n v 0
  simp only [Nat.mul_zero, BitVec.ushiftRight_zero, Nat.zero_add] at h
  unfold disassemble State.storeOrder
  rw [h]
  split
  · apply List.ext_getElem
    · simp
    · intro i hi _
      simp
  · simp

/-! ### One part of an access -/

/-- A load of bytes of one line reads the bytes. -/
theorem loadPart_plain {s : State} (h : s.plainMemory) (acc : Access) (n : Nat) (va : Word) :
    loadPart acc n va s = .ok ((List.range n).map (s.memByte va), s) := by
  have hb : s.be32 = false := h.notBe32
  have hu := dcacheUsed_plain h (plainTranslation s va)
  have hf : dataFills s acc (plainTranslation s va) = false := by simp [dataFills, hu]
  have he : loadError s acc (plainTranslation s va) n va = none := by simp [loadError, dataHit, hu, (noError_plain h _ _).2]
  have hl : loadAt acc (plainTranslation s va) n va s = .ok ((List.range n).map (s.memByte va), s) := by
    simp only [loadAt, dataHit, hu, dataElsewhere, drainTo_plain h, readData_plain h, hf, he, byteAddresses, hb, Bool.and_false,
      Bool.false_and, Bool.false_eq_true, if_false, List.map_map]
    rfl
  simp only [loadPart, dataTranslate_plain h, orderBefore_plain h, bind, Except.bind, hl, watchAccess_plain h, pure, Except.pure]

/-- The frame of a store of bytes to the external memory. -/
theorem setBytesAt_frame (s : State) (l : List (Nat × Byte)) :
    s.setBytesAt .external l =
      { s with mem := (s.setBytesAt .external l).mem, stale := (s.setBytesAt .external l).stale } := by
  induction l generalizing s with
  | nil => rfl
  | cons x l ih => rw [State.setBytesAt]; exact ih _

/-- A store that does not go through the write buffer leaves nothing outstanding. -/
theorem outstanding_setBytesAt {s : State} (h : s.outstanding = false) (p : Place) (l : List (Nat × Byte)) :
    (s.setBytesAt p l).outstanding = false := by
  induction l generalizing s with
  | nil => exact h
  | cons x l ih => exact ih (by simpa [State.outstanding] using h)

/-- The plain setting depends on nothing that a store changes, but for the form of memory and the record of stores. -/
theorem plainMemory_of_frame {s t : State} (h : s.plainMemory) (ht : t = { s with mem := t.mem, stale := t.stale })
    (hw : t.memoryWf = true) (ho : t.outstanding = false) : t.plainMemory := by
  rw [ht] at hw ho ⊢
  exact ⟨h.noDebug, h.noForcing, hw, h.mmuOff, h.notBe32, h.noRemap, h.quietBus, h.noPort, ho, h.tcmsOff, h.noEtm⟩

/-- The bytes after a store of some at rising addresses. -/
theorem byteAt_setBytesAt_range {s : State} (h : s.memoryWf = true) (o : Nat) (bs : List Byte) (a : Nat) :
    (s.setBytesAt .external (((List.range bs.length).map fun i => o + i).zip bs)).byteAt .external a =
      if o ≤ a ∧ a < o + bs.length then bs.getD (a - o) 0#8 else s.byteAt .external a := by
  induction bs generalizing s o with
  | nil => simp [State.setBytesAt]
  | cons b bs ih =>
    have hz : ((List.range (b :: bs).length).map fun i => o + i).zip (b :: bs) =
        (o, b) :: ((List.range bs.length).map fun i => o + 1 + i).zip bs := by
      simp only [List.length_cons, List.range_succ_eq_map, List.map_cons, List.map_map, List.zip_cons_cons, Nat.add_zero]
      congr 2
      apply List.map_congr_left
      intro k _
      simp only [Function.comp_apply]
      omega
    rw [hz, State.setBytesAt, ih (State.memoryWf_setByteAt h _ _ _), State.byteAt_setByteAt h]
    simp only [List.length_cons, true_and]
    by_cases h1 : a = o
    · subst h1; simp
    · by_cases h2 : o + 1 ≤ a ∧ a < o + 1 + bs.length
      · have h3 : o ≤ a ∧ a < o + (bs.length + 1) := by omega
        simp only [h2, h3, and_self, if_true]
        obtain ⟨k, hk⟩ : ∃ k, a - o = k + 1 := ⟨a - o - 1, by omega⟩
        have : a - (o + 1) = k := by omega
        simp [hk, this]
      · have h3 : ¬(o ≤ a ∧ a < o + (bs.length + 1)) := by omega
        simp only [h2, h3, if_false, h1]

/-- A store of bytes of one line: those bytes, and nothing else but the record of the store. -/
theorem storePart_plain {s : State} (h : s.plainMemory) (acc : Access) (bs : List Byte) (va : Word) :
    ∃ t, storePart acc bs va s = .ok t ∧ bytesStored s t va bs ∧ t = { s with mem := t.mem, stale := t.stale } ∧
      t.plainMemory := by
  have hb : s.be32 = false := h.notBe32
  have hu := dcacheUsed_plain h (plainTranslation s va)
  have ht := setBytesAt_frame s (((List.range bs.length).map fun i => (s.mva va).toNat + i).zip bs)
  have hp := plainMemory_of_frame h ht (State.memoryWf_setBytesAt h.form ..) (outstanding_setBytesAt h.complete ..)
  refine ⟨_, ?_, fun a => byteAt_setBytesAt_range h.form _ _ a, ht, hp⟩
  have hs : storeAt acc (plainTranslation s va) bs va s =
      .ok (s.setBytesAt .external (((List.range bs.length).map fun i => (s.mva va).toNat + i).zip bs)) := by
    simp only [storeAt, storeHit, h.noForcing, dataHit, hu, dataElsewhere, storePast, (noError_plain h _ []).1, byteAddresses, hb,
      Bool.and_false, Bool.false_and, Bool.false_eq_true, if_false]
    rfl
  simp only [storePart, dataTranslate_plain h, orderBefore_plain h, bind, Except.bind, hs, watchAccess_plain hp]

/-! ### Numbers -/

/-- An aligned number does not leave its line. -/
theorem roomAt_of_aligned {n k : Nat} {va : Word} (h : va.toNat % 2 ^ k = 0) (hn : n ≤ 2 ^ k) (hk : k ≤ 3) : n ≤ roomAt va := by
  unfold roomAt
  interval_cases k <;> simp at * <;> omega

/-- A load of a number in one line. -/
theorem loadNumber_plain {s : State} (h : s.plainMemory) (acc : Access) {n : Nat} {va : Word} (hr : n ≤ roomAt va) :
    loadNumber acc n va s = .ok (assemble (bit s.cpsr 9) ((List.range n).map (s.memByte va)), s) := by
  simp [loadNumber, loadBytes, hr, loadPart_plain h, bind, Except.bind, bigEndian_plain h, pure, Except.pure]

/-- An aligned load of a number of the size of its type, made in any way. -/
theorem readAs_plain {s : State} (h : s.plainMemory) (acc : Access) {t : AccessType} {va : Word} (ht : va.toNat % 2 ^ t.logSize = 0)
    {n : Nat} (hn : n ≤ 2 ^ t.logSize) :
    readAs acc t n va s = .ok (assemble (bit s.cpsr 9) ((List.range n).map (s.memByte va)), s) := by
  simp only [readAs, checkEndian_plain h, checkAlignment_of_aligned ht, bind, Except.bind,
    loadNumber_plain h _ (roomAt_of_aligned ht hn (by cases t <;> decide)), traceAccess_plain h, pure, Except.pure]

/-- An aligned load of a number of the size of its type. -/
theorem memRead_plain {s : State} (h : s.plainMemory) {t : AccessType} {va : Word} (ht : va.toNat % 2 ^ t.logSize = 0)
    (user precise : Bool) {n : Nat} (hn : n ≤ 2 ^ t.logSize) :
    memRead t user precise n va s = .ok (assemble (bit s.cpsr 9) ((List.range n).map (s.memByte va)), s) :=
  readAs_plain h _ ht hn

/-- An aligned load of a word is the word. -/
theorem loadWord_plain {s : State} (h : s.plainMemory) {va : Word} (hv : va.toNat % 4 = 0) (user precise : Bool) :
    loadWord user precise va s = .ok (s.memWord va, s) := by
  have hb : bits va 0 2 = 0#2 := bits_of_aligned (k := 2) hv (by omega)
  simp only [loadWord, memRead_plain (t := .wLoad) h hv user precise (n := 4) (by decide), bind, Except.bind, pure, Except.pure,
    assemble_memWord, rotateLoaded, hb]
  split
  · rfl
  · have : (s.memWord va).rotateRight (8 * (0#2).toNat) = s.memWord va := by simp [BitVec.rotateRight, BitVec.rotateRightAux]
    rw [this]

/-- A store of a number in one line. -/
theorem storeNumber_plain {s : State} (h : s.plainMemory) (acc : Access) {n : Nat} (v : Word) {va : Word} (hr : n ≤ roomAt va) :
    ∃ t, storeNumber acc n v va s = .ok t ∧ bytesStored s t va (s.storeOrder n v) ∧
      t = { s with mem := t.mem, stale := t.stale } ∧ t.plainMemory := by
  have hl : (s.storeOrder n v).length = n := by simp [State.storeOrder]
  obtain ⟨t, ht, hs, hf, hp⟩ := storePart_plain h acc (s.storeOrder n v) va
  exact ⟨t, by simp [storeNumber, storeBytes, bigEndian_plain h, disassemble_eq, hl, hr, ht], hs, hf, hp⟩

/-- An aligned store of a number of the size of its type, made in any way. -/
theorem writeAs_plain {s : State} (h : s.plainMemory) (acc : Access) {x : AccessType} {va : Word} (ht : va.toNat % 2 ^ x.logSize = 0)
    {n : Nat} (hn : n ≤ 2 ^ x.logSize) (v : Word) :
    ∃ t, writeAs acc x n va v s = .ok t ∧ bytesStored s t va (s.storeOrder n v) ∧
      t = { s with mem := t.mem, stale := t.stale } ∧ t.plainMemory := by
  obtain ⟨t, e, st, f, p⟩ := storeNumber_plain h { acc with unaligned := normalUnaligned s.unalignedOn x va } v
    (roomAt_of_aligned ht hn (by cases x <;> decide))
  exact ⟨t, by simp only [writeAs, checkEndian_plain h, checkAlignment_of_aligned ht, bind, Except.bind, e, traceAccess_plain p, pure,
    Except.pure], st, f, p⟩

/-- An aligned store of a number of the size of its type. -/
theorem memWrite_plain {s : State} (h : s.plainMemory) {x : AccessType} {va : Word} (ht : va.toNat % 2 ^ x.logSize = 0)
    (user : Bool) {n : Nat} (hn : n ≤ 2 ^ x.logSize) (v : Word) :
    ∃ t, memWrite x user n va v s = .ok t ∧ bytesStored s t va (s.storeOrder n v) ∧
      t = { s with mem := t.mem, stale := t.stale } ∧ t.plainMemory :=
  writeAs_plain h _ ht hn v

/-! ### Addresses in a line -/

/-- The FCSE keeps a distance within a line (14:R316). -/
theorem mva_add {s : State} {va : Word} {d : Nat} (h : va.toNat % 32 + d < 32) :
    (s.mva (va + BitVec.ofNat 32 d)).toNat = (s.mva va).toNat + d := by
  have hn : (va + BitVec.ofNat 32 d).toNat = va.toNat + d := by
    simp only [BitVec.toNat_add, BitVec.toNat_ofNat]; omega
  have hz (v : Word) : bits v 25 7 = 0#7 ↔ v.toNat < 2 ^ 25 := by
    rw [← BitVec.toNat_inj]
    simp [bits, Nat.shiftRight_eq_div_pow]
    omega
  have hor (p v : Word) (hv : v.toNat < 2 ^ 25) : ((p &&& 0xFE000000#32) ||| v).toNat = p.toNat / 2 ^ 25 * 2 ^ 25 + v.toNat := by
    have hp : (p &&& 0xFE000000#32) = (p >>> 25) <<< 25 := by
      apply BitVec.eq_of_getLsbD_eq
      intro i hi
      interval_cases i <;> simp
    rw [BitVec.toNat_or, hp, BitVec.toNat_shiftLeft, BitVec.toNat_ushiftRight, Nat.shiftRight_eq_div_pow, Nat.shiftLeft_eq,
      Nat.mod_eq_of_lt (by omega), Nat.mul_comm (p.toNat / _), ← Nat.two_pow_add_eq_or_of_lt hv]
  unfold State.mva fcse
  simp only [hz, hn]
  by_cases hv : va.toNat < 2 ^ 25
  · have hv' : va.toNat + d < 2 ^ 25 := by omega
    rw [if_pos hv', if_pos hv, hor _ _ hv, hor _ _ (by omega), hn]
    omega
  · rw [if_neg (by omega), if_neg hv, hn]

/-- With the PID 0 the MVA is the virtual address (14:R316). -/
theorem mva_of_pid_zero {s : State} (h : (s.cp15.bank s.nsState).fcse = 0#32) (va : Word) : s.mva va = va := by
  simp [State.mva, fcse, h]

/-- Two steps from an address. -/
theorem add_add_ofNat (va : Word) (i j : Nat) : va + BitVec.ofNat 32 i + BitVec.ofNat 32 j = va + BitVec.ofNat 32 (i + j) := by
  rw [BitVec.add_assoc, ← BitVec.ofNat_add]

/-! ### Blocks of words -/

/-- The byte `i` bytes up from the address of a block, in its word. -/
def blockByte (s : State) (va : Word) (i : Nat) : Byte := s.memByte (va + BitVec.ofNat 32 (4 * (i / 4))) (i % 4)

/-- In one line the bytes of a block lie side by side. -/
theorem blockByte_eq {s : State} {va : Word} {i : Nat} (h : va.toNat % 32 + i < 32) : blockByte s va i = s.memByte va i := by
  have := mva_add (s := s) (va := va) (d := 4 * (i / 4)) (by omega)
  rw [blockByte, State.memByte, this, State.memByte]
  congr 1
  omega

/-- The bytes of a block after its first line. -/
theorem blockByte_add (s : State) (va : Word) (k i : Nat) : blockByte s (va + BitVec.ofNat 32 (4 * k)) i = blockByte s va (4 * k + i) := by
  rw [blockByte, blockByte, add_add_ofNat, show 4 * k + 4 * (i / 4) = 4 * ((4 * k + i) / 4) by omega,
    show i % 4 = (4 * k + i) % 4 by omega]

/-- A load of a block of words, line by line. -/
theorem loadBytes_plain {s : State} (h : s.plainMemory) (acc : Access) (parts m : Nat) {va : Word} (hv : va.toNat % 4 = 0)
    (hp : m ≤ parts) (hm : 0 < parts) :
    loadBytes acc parts (4 * m) va s = .ok ((List.range (4 * m)).map (blockByte s va), s) := by
  induction parts generalizing m va with
  | zero => omega
  | succ parts ih =>
    rw [loadBytes]
    by_cases hr : 4 * m ≤ roomAt va
    · rw [if_pos hr, loadPart_plain h]
      congr 2
      apply List.map_congr_left
      intro i hi
      rw [List.mem_range] at hi
      unfold roomAt at hr
      exact (blockByte_eq (by omega)).symm
    · obtain ⟨k, hk⟩ : ∃ k, roomAt va = 4 * k := ⟨roomAt va / 4, by unfold roomAt; omega⟩
      have hk0 : 0 < k := by unfold roomAt at hk; omega
      have h4 : (va + BitVec.ofNat 32 (4 * k)).toNat % 4 = 0 := by
        simp only [BitVec.toNat_add, BitVec.toNat_ofNat]; omega
      rw [if_neg hr, hk]
      simp only [loadPart_plain h, bind, Except.bind, show 4 * m - 4 * k = 4 * (m - k) by omega,
        ih (m - k) h4 (by omega) (by omega), pure, Except.pure]
      congr 2
      rw [show 4 * m = 4 * k + 4 * (m - k) by omega, List.range_add, List.map_append, List.map_map]
      congr 1
      · apply List.map_congr_left
        intro i hi
        rw [List.mem_range] at hi
        unfold roomAt at hk
        exact (blockByte_eq (by omega)).symm
      · exact List.map_congr_left fun i _ => blockByte_add s va k i

/-- The words that the bytes of a block make. -/
theorem wordsOf_block (s : State) (m : Nat) (va : Word) :
    wordsOf (bit s.cpsr 9) m ((List.range (4 * m)).map (blockByte s va)) =
      (List.range m).map fun k => s.memWord (va + BitVec.ofNat 32 (4 * k)) := by
  induction m generalizing va with
  | zero => rfl
  | succ m ih =>
    have hs : List.range (4 * (m + 1)) = List.range 4 ++ (List.range (4 * m)).map (4 + ·) := by
      rw [show 4 * (m + 1) = 4 + 4 * m by omega, List.range_add]
    have hb : ((List.range (4 * m)).map (4 + ·)).map (blockByte s va) =
        (List.range (4 * m)).map (blockByte s (va + BitVec.ofNat 32 (4 * 1))) := by
      rw [List.map_map]
      exact List.map_congr_left fun i _ => (blockByte_add s va 1 i).symm
    have hl : ((List.range 4).map (blockByte s va)).length = 4 := by simp
    have hw : (List.range 4).map (blockByte s va) = (List.range 4).map (s.memByte va) := by
      simp [List.range, List.range.loop, blockByte]
    rw [hs, List.map_append, hb, wordsOf, List.take_left' hl, List.drop_left' hl, ih, hw, assemble_memWord,
      List.range_succ_eq_map, List.map_cons, List.map_map]
    congr 1
    · simp
    · apply List.map_congr_left
      intro k _
      simp only [Function.comp_apply, add_add_ofNat]
      congr 3
      omega

/-- A block of words from an aligned address. -/
theorem loadWords_plain {s : State} (h : s.plainMemory) (precise : Bool) (n : Nat) {va : Word} (hv : va.toNat % 4 = 0) :
    loadWords .multiWord precise n va s = .ok ((List.range n).map fun k => s.memWord (va + BitVec.ofNat 32 (4 * k)), s) := by
  simp only [loadWords, checkEndian_plain h, checkAlignment_of_aligned (t := .multiWord) hv, bind, Except.bind]
  cases n with
  | zero => simp [loadBytes, traceAccess_plain h, pure, Except.pure, wordsOf]
  | succ n =>
    simp only [loadBytes_plain h _ (n + 1) (n + 1) hv (Nat.le_refl _) (Nat.succ_pos n), bigEndian_plain h, wordsOf_block,
      traceAccess_plain h, pure, Except.pure]

/-! ### Stores of words -/

/-- What the frame of a store leaves. -/
theorem storeOrder_of_frame {s t : State} (h : t = { s with mem := t.mem, stale := t.stale }) (n : Nat) (v : Word) :
    t.storeOrder n v = s.storeOrder n v := by
  rw [h]; rfl

/-- Storing the bytes of a block of words line by line, with the PID 0. -/
theorem storeBytes_plain {s : State} (h : s.plainMemory) (hf : (s.cp15.bank s.nsState).fcse = 0#32) (acc : Access) (parts : Nat)
    (bs : List Byte) {va : Word} (hv : va.toNat % 4 = 0) (hb : bs.length % 4 = 0) (hp : bs.length ≤ 4 * parts)
    (hn : bs.length ≤ 4096) :
    ∃ t, storeBytes acc parts bs va s = .ok t ∧
      (∀ i < bs.length, t.byteAt .external (va + BitVec.ofNat 32 i).toNat = bs.getD i 0#8) ∧
      (∀ a, (∀ i < bs.length, a ≠ (va + BitVec.ofNat 32 i).toNat) → t.byteAt .external a = s.byteAt .external a) ∧
      t = { s with mem := t.mem, stale := t.stale } ∧ t.plainMemory := by
  have inLine {i : Nat} (hi : va.toNat % 32 + i < 32) : (va + BitVec.ofNat 32 i).toNat = va.toNat + i := by
    simp only [BitVec.toNat_add, BitVec.toNat_ofNat]; omega
  induction parts generalizing s va bs with
  | zero =>
    have : bs = [] := List.eq_nil_of_length_eq_zero (by omega)
    subst this
    exact ⟨s, rfl, by simp, by simp, rfl, h⟩
  | succ parts ih =>
    rw [storeBytes]
    by_cases hr : bs.length ≤ roomAt va
    · rw [if_pos hr]
      unfold roomAt at hr
      obtain ⟨t, e, st, f, p⟩ := storePart_plain h acc bs va
      simp only [bytesStored, mva_of_pid_zero hf] at st
      refine ⟨t, e, fun i hi => ?_, fun a ha => ?_, f, p⟩
      · rw [inLine (by omega), st, if_pos (by omega)]
        simp
      · rw [st, if_neg]
        rintro ⟨h1, h2⟩
        exact ha (a - va.toNat) (by omega) (by rw [inLine (by omega)]; omega)
    · rw [if_neg hr]
      obtain ⟨k, hk⟩ : ∃ k, roomAt va = 4 * k := ⟨roomAt va / 4, by unfold roomAt; omega⟩
      have hk0 : 0 < k := by unfold roomAt at hk; omega
      have hkl : va.toNat % 32 + 4 * k = 32 := by unfold roomAt at hk; omega
      have hlen : (bs.take (roomAt va)).length = 4 * k := by simp [hk]; omega
      obtain ⟨t1, e1, st, f1, p1⟩ := storePart_plain h acc (bs.take (roomAt va)) va
      simp only [bytesStored, mva_of_pid_zero hf, hlen] at st
      have hf1 : (t1.cp15.bank t1.nsState).fcse = 0#32 := by rw [f1]; exact hf
      have h4 : (va + BitVec.ofNat 32 (roomAt va)).toNat % 4 = 0 := by
        simp only [BitVec.toNat_add, BitVec.toNat_ofNat]; omega
      have hdl : (bs.drop (4 * k)).length = bs.length - 4 * k := by simp
      have inLine2 {i : Nat} (hi : (va + BitVec.ofNat 32 (roomAt va)).toNat % 32 + i < 32) :
          (va + BitVec.ofNat 32 (roomAt va) + BitVec.ofNat 32 i).toNat = (va + BitVec.ofNat 32 (roomAt va)).toNat + i := by
        simp only [BitVec.toNat_add, BitVec.toNat_ofNat] at hi ⊢; omega
      obtain ⟨t, e, bt, fr, f, p⟩ := ih p1 hf1 (bs.drop (roomAt va)) h4 (by rw [hk, hdl]; omega) (by rw [hk, hdl]; omega) (by rw [hk, hdl]; omega) inLine2
      simp only [add_add_ofNat, hdl, hk] at bt fr
      refine ⟨t, by simp only [e1, bind, Except.bind]; exact e, fun i hi => ?_, fun a ha => ?_, by rw [f, f1], p⟩
      · by_cases hik : i < 4 * k
        · rw [fr]
          · rw [inLine (by omega), st, if_pos (by omega)]
            simp [hk, hik]
          · intro j hj
            simp only [BitVec.toNat_add, BitVec.toNat_ofNat]
            omega
        · have hb2 := bt (i - 4 * k) (by omega)
          rw [show 4 * k + (i - 4 * k) = i by omega] at hb2
          rw [hb2]
          simp only [List.getD_eq_getElem?_getD, List.getElem?_drop]
          rw [show 4 * k + (i - 4 * k) = i by omega]
      · rw [fr a fun i hi => ha (4 * k + i) (by omega), st, if_neg]
        rintro ⟨h1, h2⟩
        exact ha (a - va.toNat) (by omega) (by rw [inLine (by omega)]; omega)

/-- The bytes of words put one after the other. -/
theorem getD_flatMap (s : State) (ws : List Word) {k j : Nat} (hk : k < ws.length) (hj : j < 4) :
    (ws.flatMap (s.storeOrder 4)).getD (4 * k + j) 0#8 = (s.storeOrder 4 ws[k]).getD j 0#8 := by
  have hl (w : Word) : (s.storeOrder 4 w).length = 4 := by simp [State.storeOrder]
  induction ws generalizing k with
  | nil => simp at hk
  | cons w ws ih =>
    rw [List.flatMap_cons]
    cases k with
    | zero => simp [List.getElem?_append, hl, hj]
    | succ k =>
      have := ih (k := k) (by simpa using hk)
      simp only [List.getD_eq_getElem?_getD] at this ⊢
      rw [List.getElem?_append_right (by rw [hl]; omega), hl, show 4 * (k + 1) + j - 4 = 4 * k + j by omega, this]
      rfl

/-- A block of words to an aligned address, with the PID 0. -/
theorem storeWords_plain {s : State} (h : s.plainMemory) (hf : (s.cp15.bank s.nsState).fcse = 0#32) (ws : List Word) {va : Word}
    (hv : va.toNat % 4 = 0) (hn : ws.length ≤ 1024) :
    ∃ t, storeWords .multiWord ws va s = .ok t ∧
      (∀ k (hk : k < ws.length), ∀ j < 4, t.byteAt .external ((va + BitVec.ofNat 32 (4 * k)).toNat + j) =
        (s.storeOrder 4 ws[k]).getD j 0#8) ∧
      (∀ a, (∀ k < ws.length, ¬((va + BitVec.ofNat 32 (4 * k)).toNat ≤ a ∧ a < (va + BitVec.ofNat 32 (4 * k)).toNat + 4)) →
        t.byteAt .external a = s.byteAt .external a) ∧
      t = { s with mem := t.mem, stale := t.stale } ∧ t.plainMemory := by
  have hl : ∀ l : List Word, (l.flatMap (s.storeOrder 4)).length = 4 * l.length := by
    intro l
    induction l with
    | nil => rfl
    | cons w l ih => simp only [List.flatMap_cons, List.length_append, ih, State.storeOrder, List.length_map, List.length_range,
        List.length_cons]; omega
  have split (k j : Nat) (hj : j < 4) : (va + BitVec.ofNat 32 (4 * k + j)).toNat = (va + BitVec.ofNat 32 (4 * k)).toNat + j := by
    simp only [BitVec.toNat_add, BitVec.toNat_ofNat]; omega
  have hd : disassemble s.bigEndian 4 = s.storeOrder 4 := by
    funext w
    rw [bigEndian_plain h, disassemble_eq]
  simp only [storeWords, checkEndian_plain h, checkAlignment_of_aligned (t := .multiWord) hv, bind, Except.bind, hd]
  obtain ⟨t, e, bt, fr, f, p⟩ := storeBytes_plain h hf
    { plainAccess s with unaligned := normalUnaligned s.unalignedOn .multiWord va, multiple := true } ws.length
    (ws.flatMap (s.storeOrder 4)) hv (by rw [hl]; omega) (by rw [hl]) (by rw [hl]; omega)
  rw [hl] at bt fr
  refine ⟨t, by simp only [e, traceAccess_plain p, pure, Except.pure], fun k hk j hj => ?_, fun a ha => fr a fun i hi e => ?_, f, p⟩
  · rw [← split k j hj, bt _ (by omega), getD_flatMap s ws hk hj]
  · have := split (i / 4) (i % 4) (by omega)
    rw [show 4 * (i / 4) + i % 4 = i by omega] at this
    exact ha (i / 4) (by omega) (by omega)

end Sys2Proof.Machine
end

