-- ==== Sys2Proof/Laws/PerInstr.lean ====
section
/-! SUPPORT. The statement made per instruction (LAWS.json): what every encoding says of the condition field. -/

namespace Sys2Proof.Laws.Encoding

open Sys2Proof

/-- A field below bit 28 leaves bits [31:28] clear. -/
theorem put_top_zero {n : Nat} (lo : Nat) (v : BitVec n) (h : lo + n ≤ 28) : (put lo v).extractLsb' 28 4 = 0#4 := by
  apply BitVec.eq_of_getElem_eq
  intro i hi
  simp only [put, BitVec.getElem_extractLsb', BitVec.getLsbD_shiftLeft, BitVec.getLsbD_setWidth, BitVec.getElem_zero]
  have : v.getLsbD (28 + i - lo) = false := BitVec.getLsbD_of_ge _ _ (by omega)
  simp [this]

/-- A one-bit field below bit 28 leaves bits [31:28] clear. -/
theorem putB_top_zero (lo : Nat) (b : Bool) (h : lo + 1 ≤ 28) : (putB lo b).extractLsb' 28 4 = 0#4 := put_top_zero lo _ h

/-- The condition field. -/
theorem put_top (v : BitVec 4) : (put 28 v).extractLsb' 28 4 = v := by
  have h : (put 28 v).toNat = v.toNat * 2 ^ 28 := by
    have := v.isLt
    simp only [put, BitVec.toNat_shiftLeft, BitVec.toNat_setWidth, Nat.shiftLeft_eq]
    omega
  apply BitVec.eq_of_toNat_eq
  have := v.isLt
  rw [BitVec.extractLsb'_toNat, h, Nat.shiftRight_eq_div_pow]
  omega

/-- The condition field of an ARM word, or of a Thumb conditional branch, is the instruction's condition; a word of an ARM
instruction that has none has 1111 there, or is a BKPT (30:R683). -/
def Statement (i : Instr) : Prop :=
  match encode i with
  | .arm w =>
    match i.condition with
    | some c => w.extractLsb' 28 4 = c.bits
    | none => w.extractLsb' 28 4 = 15#4 ∨ w &&& 0xFFF000F0#32 = 0xE1200070#32
  | .thumb h =>
    match i.condition with
    | some c => h.extractLsb' 8 4 = c.bits
    | none => True

/-- The statement of an ARM instruction with a condition, from its word. -/
theorem of_cond {i : Instr} {w : Word} {c : Cond} (hw : encode i = .arm w) (hc : i.condition = some c)
    (h : w.extractLsb' 28 4 = c.bits) : Statement i := by
  unfold Statement; rw [hw, hc]; exact h

/-- The statement of an ARM instruction without a condition, from its word. -/
theorem of_uncond {i : Instr} {w : Word} (hw : encode i = .arm w) (hc : i.condition = none)
    (h : w.extractLsb' 28 4 = 15#4) : Statement i := by
  unfold Statement; rw [hw, hc]; exact .inl h

set_option linter.unusedSimpArgs false

theorem pldImm (u : Bool) (rn : BitVec 4) (off12 : BitVec 12) :
    Statement (.pldImm u rn off12) :=
  of_uncond rfl rfl (by simp [BitVec.extractLsb'_or, put_top_zero, putB_top_zero])

theorem pldReg (u : Bool) (rn : BitVec 4) (shiftImm : BitVec 5) (shift : Shift) (rm : BitVec 4) :
    Statement (.pldReg u rn shiftImm shift rm) :=
  of_uncond rfl rfl (by simp [BitVec.extractLsb'_or, put_top_zero, putB_top_zero])

theorem rfe (p : Bool) (u : Bool) (w : Bool) (rn : BitVec 4) :
    Statement (.rfe p u w rn) :=
  of_uncond rfl rfl (by simp [BitVec.extractLsb'_or, put_top_zero, putB_top_zero])

theorem srs (p : Bool) (u : Bool) (w : Bool) (mode : BitVec 5) :
    Statement (.srs p u w mode) :=
  of_uncond rfl rfl (by simp [BitVec.extractLsb'_or, put_top_zero, putB_top_zero])

theorem clrex :
    Statement (.clrex) :=
  of_uncond rfl rfl (by simp [BitVec.extractLsb'_or, put_top_zero, putB_top_zero])

theorem cps (imod : BitVec 2) (mmod : Bool) (aBit : Bool) (iBit : Bool) (fBit : Bool) (mode : BitVec 5) :
    Statement (.cps imod mmod aBit iBit fBit mode) :=
  of_uncond rfl rfl (by simp [BitVec.extractLsb'_or, put_top_zero, putB_top_zero])

theorem setend (eBit : Bool) :
    Statement (.setend eBit) :=
  of_uncond rfl rfl (by simp [BitVec.extractLsb'_or, put_top_zero, putB_top_zero])

theorem blx1 (h : Bool) (simm24 : BitVec 24) :
    Statement (.blx1 h simm24) :=
  of_uncond rfl rfl (by simp [BitVec.extractLsb'_or, put_top_zero, putB_top_zero])

theorem cdp2 (opc1 : BitVec 4) (cRn : BitVec 4) (cRd : BitVec 4) (cpNum : BitVec 4) (opc2 : BitVec 3) (cRm : BitVec 4) :
    Statement (.cdp2 opc1 cRn cRd cpNum opc2 cRm) :=
  of_uncond rfl rfl (by simp [BitVec.extractLsb'_or, put_top_zero, putB_top_zero])

theorem mcr2 (opc1 : BitVec 3) (cRn : BitVec 4) (rd : BitVec 4) (cpNum : BitVec 4) (opc2 : BitVec 3) (cRm : BitVec 4) :
    Statement (.mcr2 opc1 cRn rd cpNum opc2 cRm) :=
  of_uncond rfl rfl (by simp [BitVec.extractLsb'_or, put_top_zero, putB_top_zero])

theorem mrc2 (opc1 : BitVec 3) (cRn : BitVec 4) (rd : BitVec 4) (cpNum : BitVec 4) (opc2 : BitVec 3) (cRm : BitVec 4) :
    Statement (.mrc2 opc1 cRn rd cpNum opc2 cRm) :=
  of_uncond rfl rfl (by simp [BitVec.extractLsb'_or, put_top_zero, putB_top_zero])

theorem mcrr2 (rn : BitVec 4) (rd : BitVec 4) (cpNum : BitVec 4) (opc : BitVec 4) (cRm : BitVec 4) :
    Statement (.mcrr2 rn rd cpNum opc cRm) :=
  of_uncond rfl rfl (by simp [BitVec.extractLsb'_or, put_top_zero, putB_top_zero])

theorem mrrc2 (rn : BitVec 4) (rd : BitVec 4) (cpNum : BitVec 4) (opc : BitVec 4) (cRm : BitVec 4) :
    Statement (.mrrc2 rn rd cpNum opc cRm) :=
  of_uncond rfl rfl (by simp [BitVec.extractLsb'_or, put_top_zero, putB_top_zero])

theorem undefCop2 (l : Bool) (raw : BitVec 20) :
    Statement (.undefCop2 l raw) :=
  of_uncond rfl rfl (by simp [BitVec.extractLsb'_or, put_top_zero, putB_top_zero])

theorem ldc2 (p : Bool) (u : Bool) (nBit : Bool) (w : Bool) (rn : BitVec 4) (cRd : BitVec 4) (cpNum : BitVec 4) (off8 : BitVec 8) :
    Statement (.ldc2 p u nBit w rn cRd cpNum off8) :=
  of_uncond rfl rfl (by simp [BitVec.extractLsb'_or, put_top_zero, putB_top_zero])

theorem stc2 (p : Bool) (u : Bool) (nBit : Bool) (w : Bool) (rn : BitVec 4) (cRd : BitVec 4) (cpNum : BitVec 4) (off8 : BitVec 8) :
    Statement (.stc2 p u nBit w rn cRd cpNum off8) :=
  of_uncond rfl rfl (by simp [BitVec.extractLsb'_or, put_top_zero, putB_top_zero])

theorem undefUncond (raw : BitVec 28) :
    Statement (.undefUncond raw) :=
  of_uncond rfl rfl (by simp [BitVec.extractLsb'_or, put_top_zero, putB_top_zero])

theorem andImm (cond : Cond) (sBit : Bool) (rn : BitVec 4) (rd : BitVec 4) (rot : BitVec 4) (imm8 : BitVec 8) :
    Statement (.andImm cond sBit rn rd rot imm8) :=
  of_cond rfl rfl (by simp [BitVec.extractLsb'_or, put_top_zero, putB_top_zero, put_top])

theorem andReg (cond : Cond) (sBit : Bool) (rn : BitVec 4) (rd : BitVec 4) (shiftImm : BitVec 5) (shift : Shift) (rm : BitVec 4) :
    Statement (.andReg cond sBit rn rd shiftImm shift rm) :=
  of_cond rfl rfl (by simp [BitVec.extractLsb'_or, put_top_zero, putB_top_zero, put_top])

theorem andRegShift (cond : Cond) (sBit : Bool) (rn : BitVec 4) (rd : BitVec 4) (rs : BitVec 4) (shift : Shift) (rm : BitVec 4) :
    Statement (.andRegShift cond sBit rn rd rs shift rm) :=
  of_cond rfl rfl (by simp [BitVec.extractLsb'_or, put_top_zero, putB_top_zero, put_top])

theorem eorImm (cond : Cond) (sBit : Bool) (rn : BitVec 4) (rd : BitVec 4) (rot : BitVec 4) (imm8 : BitVec 8) :
    Statement (.eorImm cond sBit rn rd rot imm8) :=
  of_cond rfl rfl (by simp [BitVec.extractLsb'_or, put_top_zero, putB_top_zero, put_top])

theorem eorReg (cond : Cond) (sBit : Bool) (rn : BitVec 4) (rd : BitVec 4) (shiftImm : BitVec 5) (shift : Shift) (rm : BitVec 4) :
    Statement (.eorReg cond sBit rn rd shiftImm shift rm) :=
  of_cond rfl rfl (by simp [BitVec.extractLsb'_or, put_top_zero, putB_top_zero, put_top])

theorem eorRegShift (cond : Cond) (sBit : Bool) (rn : BitVec 4) (rd : BitVec 4) (rs : BitVec 4) (shift : Shift) (rm : BitVec 4) :
    Statement (.eorRegShift cond sBit rn rd rs shift rm) :=
  of_cond rfl rfl (by simp [BitVec.extractLsb'_or, put_top_zero, putB_top_zero, put_top])

theorem subImm (cond : Cond) (sBit : Bool) (rn : BitVec 4) (rd : BitVec 4) (rot : BitVec 4) (imm8 : BitVec 8) :
    Statement (.subImm cond sBit rn rd rot imm8) :=
  of_cond rfl rfl (by simp [BitVec.extractLsb'_or, put_top_zero, putB_top_zero, put_top])

theorem subReg (cond : Cond) (sBit : Bool) (rn : BitVec 4) (rd : BitVec 4) (shiftImm : BitVec 5) (shift : Shift) (rm : BitVec 4) :
    Statement (.subReg cond sBit rn rd shiftImm shift rm) :=
  of_cond rfl rfl (by simp [BitVec.extractLsb'_or, put_top_zero, putB_top_zero, put_top])

theorem subRegShift (cond : Cond) (sBit : Bool) (rn : BitVec 4) (rd : BitVec 4) (rs : BitVec 4) (shift : Shift) (rm : BitVec 4) :
    Statement (.subRegShift cond sBit rn rd rs shift rm) :=
  of_cond rfl rfl (by simp [BitVec.extractLsb'_or, put_top_zero, putB_top_zero, put_top])

theorem rsbImm (cond : Cond) (sBit : Bool) (rn : BitVec 4) (rd : BitVec 4) (rot : BitVec 4) (imm8 : BitVec 8) :
    Statement (.rsbImm cond sBit rn rd rot imm8) :=
  of_cond rfl rfl (by simp [BitVec.extractLsb'_or, put_top_zero, putB_top_zero, put_top])

theorem rsbReg (cond : Cond) (sBit : Bool) (rn : BitVec 4) (rd : BitVec 4) (shiftImm : BitVec 5) (shift : Shift) (rm : BitVec 4) :
    Statement (.rsbReg cond sBit rn rd shiftImm shift rm) :=
  of_cond rfl rfl (by simp [BitVec.extractLsb'_or, put_top_zero, putB_top_zero, put_top])

theorem rsbRegShift (cond : Cond) (sBit : Bool) (rn : BitVec 4) (rd : BitVec 4) (rs : BitVec 4) (shift : Shift) (rm : BitVec 4) :
    Statement (.rsbRegShift cond sBit rn rd rs shift rm) :=
  of_cond rfl rfl (by simp [BitVec.extractLsb'_or, put_top_zero, putB_top_zero, put_top])

theorem addImm (cond : Cond) (sBit : Bool) (rn : BitVec 4) (rd : BitVec 4) (rot : BitVec 4) (imm8 : BitVec 8) :
    Statement (.addImm cond sBit rn rd rot imm8) :=
  of_cond rfl rfl (by simp [BitVec.extractLsb'_or, put_top_zero, putB_top_zero, put_top])

theorem addReg (cond : Cond) (sBit : Bool) (rn : BitVec 4) (rd : BitVec 4) (shiftImm : BitVec 5) (shift : Shift) (rm : BitVec 4) :
    Statement (.addReg cond sBit rn rd shiftImm shift rm) :=
  of_cond rfl rfl (by simp [BitVec.extractLsb'_or, put_top_zero, putB_top_zero, put_top])

theorem addRegShift (cond : Cond) (sBit : Bool) (rn : BitVec 4) (rd : BitVec 4) (rs : BitVec 4) (shift : Shift) (rm : BitVec 4) :
    Statement (.addRegShift cond sBit rn rd rs shift rm) :=
  of_cond rfl rfl (by simp [BitVec.extractLsb'_or, put_top_zero, putB_top_zero, put_top])

theorem adcImm (cond : Cond) (sBit : Bool) (rn : BitVec 4) (rd : BitVec 4) (rot : BitVec 4) (imm8 : BitVec 8) :
    Statement (.adcImm cond sBit rn rd rot imm8) :=
  of_cond rfl rfl (by simp [BitVec.extractLsb'_or, put_top_zero, putB_top_zero, put_top])

theorem adcReg (cond : Cond) (sBit : Bool) (rn : BitVec 4) (rd : BitVec 4) (shiftImm : BitVec 5) (shift : Shift) (rm : BitVec 4) :
    Statement (.adcReg cond sBit rn rd shiftImm shift rm) :=
  of_cond rfl rfl (by simp [BitVec.extractLsb'_or, put_top_zero, putB_top_zero, put_top])

theorem adcRegShift (cond : Cond) (sBit : Bool) (rn : BitVec 4) (rd : BitVec 4) (rs : BitVec 4) (shift : Shift) (rm : BitVec 4) :
    Statement (.adcRegShift cond sBit rn rd rs shift rm) :=
  of_cond rfl rfl (by simp [BitVec.extractLsb'_or, put_top_zero, putB_top_zero, put_top])

theorem sbcImm (cond : Cond) (sBit : Bool) (rn : BitVec 4) (rd : BitVec 4) (rot : BitVec 4) (imm8 : BitVec 8) :
    Statement (.sbcImm cond sBit rn rd rot imm8) :=
  of_cond rfl rfl (by simp [BitVec.extractLsb'_or, put_top_zero, putB_top_zero, put_top])

theorem sbcReg (cond : Cond) (sBit : Bool) (rn : BitVec 4) (rd : BitVec 4) (shiftImm : BitVec 5) (shift : Shift) (rm : BitVec 4) :
    Statement (.sbcReg cond sBit rn rd shiftImm shift rm) :=
  of_cond rfl rfl (by simp [BitVec.extractLsb'_or, put_top_zero, putB_top_zero, put_top])

theorem sbcRegShift (cond : Cond) (sBit : Bool) (rn : BitVec 4) (rd : BitVec 4) (rs : BitVec 4) (shift : Shift) (rm : BitVec 4) :
    Statement (.sbcRegShift cond sBit rn rd rs shift rm) :=
  of_cond rfl rfl (by simp [BitVec.extractLsb'_or, put_top_zero, putB_top_zero, put_top])

theorem rscImm (cond : Cond) (sBit : Bool) (rn : BitVec 4) (rd : BitVec 4) (rot : BitVec 4) (imm8 : BitVec 8) :
    Statement (.rscImm cond sBit rn rd rot imm8) :=
  of_cond rfl rfl (by simp [BitVec.extractLsb'_or, put_top_zero, putB_top_zero, put_top])

theorem rscReg (cond : Cond) (sBit : Bool) (rn : BitVec 4) (rd : BitVec 4) (shiftImm : BitVec 5) (shift : Shift) (rm : BitVec 4) :
    Statement (.rscReg cond sBit rn rd shiftImm shift rm) :=
  of_cond rfl rfl (by simp [BitVec.extractLsb'_or, put_top_zero, putB_top_zero, put_top])

theorem rscRegShift (cond : Cond) (sBit : Bool) (rn : BitVec 4) (rd : BitVec 4) (rs : BitVec 4) (shift : Shift) (rm : BitVec 4) :
    Statement (.rscRegShift cond sBit rn rd rs shift rm) :=
  of_cond rfl rfl (by simp [BitVec.extractLsb'_or, put_top_zero, putB_top_zero, put_top])

theorem orrImm (cond : Cond) (sBit : Bool) (rn : BitVec 4) (rd : BitVec 4) (rot : BitVec 4) (imm8 : BitVec 8) :
    Statement (.orrImm cond sBit rn rd rot imm8) :=
  of_cond rfl rfl (by simp [BitVec.extractLsb'_or, put_top_zero, putB_top_zero, put_top])

theorem orrReg (cond : Cond) (sBit : Bool) (rn : BitVec 4) (rd : BitVec 4) (shiftImm : BitVec 5) (shift : Shift) (rm : BitVec 4) :
    Statement (.orrReg cond sBit rn rd shiftImm shift rm) :=
  of_cond rfl rfl (by simp [BitVec.extractLsb'_or, put_top_zero, putB_top_zero, put_top])

theorem orrRegShift (cond : Cond) (sBit : Bool) (rn : BitVec 4) (rd : BitVec 4) (rs : BitVec 4) (shift : Shift) (rm : BitVec 4) :
    Statement (.orrRegShift cond sBit rn rd rs shift rm) :=
  of_cond rfl rfl (by simp [BitVec.extractLsb'_or, put_top_zero, putB_top_zero, put_top])

theorem bicImm (cond : Cond) (sBit : Bool) (rn : BitVec 4) (rd : BitVec 4) (rot : BitVec 4) (imm8 : BitVec 8) :
    Statement (.bicImm cond sBit rn rd rot imm8) :=
  of_cond rfl rfl (by simp [BitVec.extractLsb'_or, put_top_zero, putB_top_zero, put_top])

theorem bicReg (cond : Cond) (sBit : Bool) (rn : BitVec 4) (rd : BitVec 4) (shiftImm : BitVec 5) (shift : Shift) (rm : BitVec 4) :
    Statement (.bicReg cond sBit rn rd shiftImm shift rm) :=
  of_cond rfl rfl (by simp [BitVec.extractLsb'_or, put_top_zero, putB_top_zero, put_top])

theorem bicRegShift (cond : Cond) (sBit : Bool) (rn : BitVec 4) (rd : BitVec 4) (rs : BitVec 4) (shift : Shift) (rm : BitVec 4) :
    Statement (.bicRegShift cond sBit rn rd rs shift rm) :=
  of_cond rfl rfl (by simp [BitVec.extractLsb'_or, put_top_zero, putB_top_zero, put_top])

theorem cpy (cond : Cond) (rd : BitVec 4) (rm : BitVec 4) :
    Statement (.cpy cond rd rm) :=
  of_cond rfl rfl (by simp [BitVec.extractLsb'_or, put_top_zero, putB_top_zero, put_top])

theorem movImm (cond : Cond) (sBit : Bool) (rd : BitVec 4) (rot : BitVec 4) (imm8 : BitVec 8) :
    Statement (.movImm cond sBit rd rot imm8) :=
  of_cond rfl rfl (by simp [BitVec.extractLsb'_or, put_top_zero, putB_top_zero, put_top])

theorem movReg (cond : Cond) (sBit : Bool) (rd : BitVec 4) (shiftImm : BitVec 5) (shift : Shift) (rm : BitVec 4) :
    Statement (.movReg cond sBit rd shiftImm shift rm) :=
  of_cond rfl rfl (by simp [BitVec.extractLsb'_or, put_top_zero, putB_top_zero, put_top])

theorem movRegShift (cond : Cond) (sBit : Bool) (rd : BitVec 4) (rs : BitVec 4) (shift : Shift) (rm : BitVec 4) :
    Statement (.movRegShift cond sBit rd rs shift rm) :=
  of_cond rfl rfl (by simp [BitVec.extractLsb'_or, put_top_zero, putB_top_zero, put_top])

theorem mvnImm (cond : Cond) (sBit : Bool) (rd : BitVec 4) (rot : BitVec 4) (imm8 : BitVec 8) :
    Statement (.mvnImm cond sBit rd rot imm8) :=
  of_cond rfl rfl (by simp [BitVec.extractLsb'_or, put_top_zero, putB_top_zero, put_top])

theorem mvnReg (cond : Cond) (sBit : Bool) (rd : BitVec 4) (shiftImm : BitVec 5) (shift : Shift) (rm : BitVec 4) :
    Statement (.mvnReg cond sBit rd shiftImm shift rm) :=
  of_cond rfl rfl (by simp [BitVec.extractLsb'_or, put_top_zero, putB_top_zero, put_top])

theorem mvnRegShift (cond : Cond) (sBit : Bool) (rd : BitVec 4) (rs : BitVec 4) (shift : Shift) (rm : BitVec 4) :
    Statement (.mvnRegShift cond sBit rd rs shift rm) :=
  of_cond rfl rfl (by simp [BitVec.extractLsb'_or, put_top_zero, putB_top_zero, put_top])

theorem tstImm (cond : Cond) (rn : BitVec 4) (rot : BitVec 4) (imm8 : BitVec 8) :
    Statement (.tstImm cond rn rot imm8) :=
  of_cond rfl rfl (by simp [BitVec.extractLsb'_or, put_top_zero, putB_top_zero, put_top])

theorem tstReg (cond : Cond) (rn : BitVec 4) (shiftImm : BitVec 5) (shift : Shift) (rm : BitVec 4) :
    Statement (.tstReg cond rn shiftImm shift rm) :=
  of_cond rfl rfl (by simp [BitVec.extractLsb'_or, put_top_zero, putB_top_zero, put_top])

theorem tstRegShift (cond : Cond) (rn : BitVec 4) (rs : BitVec 4) (shift : Shift) (rm : BitVec 4) :
    Statement (.tstRegShift cond rn rs shift rm) :=
  of_cond rfl rfl (by simp [BitVec.extractLsb'_or, put_top_zero, putB_top_zero, put_top])

theorem teqImm (cond : Cond) (rn : BitVec 4) (rot : BitVec 4) (imm8 : BitVec 8) :
    Statement (.teqImm cond rn rot imm8) :=
  of_cond rfl rfl (by simp [BitVec.extractLsb'_or, put_top_zero, putB_top_zero, put_top])

theorem teqReg (cond : Cond) (rn : BitVec 4) (shiftImm : BitVec 5) (shift : Shift) (rm : BitVec 4) :
    Statement (.teqReg cond rn shiftImm shift rm) :=
  of_cond rfl rfl (by simp [BitVec.extractLsb'_or, put_top_zero, putB_top_zero, put_top])

theorem teqRegShift (cond : Cond) (rn : BitVec 4) (rs : BitVec 4) (shift : Shift) (rm : BitVec 4) :
    Statement (.teqRegShift cond rn rs shift rm) :=
  of_cond rfl rfl (by simp [BitVec.extractLsb'_or, put_top_zero, putB_top_zero, put_top])

theorem cmpImm (cond : Cond) (rn : BitVec 4) (rot : BitVec 4) (imm8 : BitVec 8) :
    Statement (.cmpImm cond rn rot imm8) :=
  of_cond rfl rfl (by simp [BitVec.extractLsb'_or, put_top_zero, putB_top_zero, put_top])

theorem cmpReg (cond : Cond) (rn : BitVec 4) (shiftImm : BitVec 5) (shift : Shift) (rm : BitVec 4) :
    Statement (.cmpReg cond rn shiftImm shift rm) :=
  of_cond rfl rfl (by simp [BitVec.extractLsb'_or, put_top_zero, putB_top_zero, put_top])

theorem cmpRegShift (cond : Cond) (rn : BitVec 4) (rs : BitVec 4) (shift : Shift) (rm : BitVec 4) :
    Statement (.cmpRegShift cond rn rs shift rm) :=
  of_cond rfl rfl (by simp [BitVec.extractLsb'_or, put_top_zero, putB_top_zero, put_top])

theorem cmnImm (cond : Cond) (rn : BitVec 4) (rot : BitVec 4) (imm8 : BitVec 8) :
    Statement (.cmnImm cond rn rot imm8) :=
  of_cond rfl rfl (by simp [BitVec.extractLsb'_or, put_top_zero, putB_top_zero, put_top])

theorem cmnReg (cond : Cond) (rn : BitVec 4) (shiftImm : BitVec 5) (shift : Shift) (rm : BitVec 4) :
    Statement (.cmnReg cond rn shiftImm shift rm) :=
  of_cond rfl rfl (by simp [BitVec.extractLsb'_or, put_top_zero, putB_top_zero, put_top])

theorem cmnRegShift (cond : Cond) (rn : BitVec 4) (rs : BitVec 4) (shift : Shift) (rm : BitVec 4) :
    Statement (.cmnRegShift cond rn rs shift rm) :=
  of_cond rfl rfl (by simp [BitVec.extractLsb'_or, put_top_zero, putB_top_zero, put_top])

theorem clz (cond : Cond) (rd : BitVec 4) (rm : BitVec 4) :
    Statement (.clz cond rd rm) :=
  of_cond rfl rfl (by simp [BitVec.extractLsb'_or, put_top_zero, putB_top_zero, put_top])

theorem mul (cond : Cond) (sBit : Bool) (rd : BitVec 4) (rs : BitVec 4) (rm : BitVec 4) :
    Statement (.mul cond sBit rd rs rm) :=
  of_cond rfl rfl (by simp [BitVec.extractLsb'_or, put_top_zero, putB_top_zero, put_top])

theorem mla (cond : Cond) (sBit : Bool) (rd : BitVec 4) (rn : BitVec 4) (rs : BitVec 4) (rm : BitVec 4) :
    Statement (.mla cond sBit rd rn rs rm) :=
  of_cond rfl rfl (by simp [BitVec.extractLsb'_or, put_top_zero, putB_top_zero, put_top])

theorem umaal (cond : Cond) (rdHi : BitVec 4) (rdLo : BitVec 4) (rs : BitVec 4) (rm : BitVec 4) :
    Statement (.umaal cond rdHi rdLo rs rm) :=
  of_cond rfl rfl (by simp [BitVec.extractLsb'_or, put_top_zero, putB_top_zero, put_top])

theorem umull (cond : Cond) (sBit : Bool) (rdHi : BitVec 4) (rdLo : BitVec 4) (rs : BitVec 4) (rm : BitVec 4) :
    Statement (.umull cond sBit rdHi rdLo rs rm) :=
  of_cond rfl rfl (by simp [BitVec.extractLsb'_or, put_top_zero, putB_top_zero, put_top])

theorem umlal (cond : Cond) (sBit : Bool) (rdHi : BitVec 4) (rdLo : BitVec 4) (rs : BitVec 4) (rm : BitVec 4) :
    Statement (.umlal cond sBit rdHi rdLo rs rm) :=
  of_cond rfl rfl (by simp [BitVec.extractLsb'_or, put_top_zero, putB_top_zero, put_top])

theorem smull (cond : Cond) (sBit : Bool) (rdHi : BitVec 4) (rdLo : BitVec 4) (rs : BitVec 4) (rm : BitVec 4) :
    Statement (.smull cond sBit rdHi rdLo rs rm) :=
  of_cond rfl rfl (by simp [BitVec.extractLsb'_or, put_top_zero, putB_top_zero, put_top])

theorem smlal (cond : Cond) (sBit : Bool) (rdHi : BitVec 4) (rdLo : BitVec 4) (rs : BitVec 4) (rm : BitVec 4) :
    Statement (.smlal cond sBit rdHi rdLo rs rm) :=
  of_cond rfl rfl (by simp [BitVec.extractLsb'_or, put_top_zero, putB_top_zero, put_top])

theorem qadd (cond : Cond) (rn : BitVec 4) (rd : BitVec 4) (rm : BitVec 4) :
    Statement (.qadd cond rn rd rm) :=
  of_cond rfl rfl (by simp [BitVec.extractLsb'_or, put_top_zero, putB_top_zero, put_top])

theorem qsub (cond : Cond) (rn : BitVec 4) (rd : BitVec 4) (rm : BitVec 4) :
    Statement (.qsub cond rn rd rm) :=
  of_cond rfl rfl (by simp [BitVec.extractLsb'_or, put_top_zero, putB_top_zero, put_top])

theorem qdadd (cond : Cond) (rn : BitVec 4) (rd : BitVec 4) (rm : BitVec 4) :
    Statement (.qdadd cond rn rd rm) :=
  of_cond rfl rfl (by simp [BitVec.extractLsb'_or, put_top_zero, putB_top_zero, put_top])

theorem qdsub (cond : Cond) (rn : BitVec 4) (rd : BitVec 4) (rm : BitVec 4) :
    Statement (.qdsub cond rn rd rm) :=
  of_cond rfl rfl (by simp [BitVec.extractLsb'_or, put_top_zero, putB_top_zero, put_top])

theorem smlaXY (cond : Cond) (rd : BitVec 4) (rn : BitVec 4) (rs : BitVec 4) (y : Bool) (x : Bool) (rm : BitVec 4) :
    Statement (.smlaXY cond rd rn rs y x rm) :=
  of_cond rfl rfl (by simp [BitVec.extractLsb'_or, put_top_zero, putB_top_zero, put_top])

theorem smlaWY (cond : Cond) (rd : BitVec 4) (rn : BitVec 4) (rs : BitVec 4) (y : Bool) (rm : BitVec 4) :
    Statement (.smlaWY cond rd rn rs y rm) :=
  of_cond rfl rfl (by simp [BitVec.extractLsb'_or, put_top_zero, putB_top_zero, put_top])

theorem smulWY (cond : Cond) (rd : BitVec 4) (rs : BitVec 4) (y : Bool) (rm : BitVec 4) :
    Statement (.smulWY cond rd rs y rm) :=
  of_cond rfl rfl (by simp [BitVec.extractLsb'_or, put_top_zero, putB_top_zero, put_top])

theorem smlalXY (cond : Cond) (rdHi : BitVec 4) (rdLo : BitVec 4) (rs : BitVec 4) (y : Bool) (x : Bool) (rm : BitVec 4) :
    Statement (.smlalXY cond rdHi rdLo rs y x rm) :=
  of_cond rfl rfl (by simp [BitVec.extractLsb'_or, put_top_zero, putB_top_zero, put_top])

theorem smulXY (cond : Cond) (rd : BitVec 4) (rs : BitVec 4) (y : Bool) (x : Bool) (rm : BitVec 4) :
    Statement (.smulXY cond rd rs y x rm) :=
  of_cond rfl rfl (by simp [BitVec.extractLsb'_or, put_top_zero, putB_top_zero, put_top])

theorem sadd16 (cond : Cond) (rn : BitVec 4) (rd : BitVec 4) (rm : BitVec 4) :
    Statement (.sadd16 cond rn rd rm) :=
  of_cond rfl rfl (by simp [BitVec.extractLsb'_or, put_top_zero, putB_top_zero, put_top])

theorem qadd16 (cond : Cond) (rn : BitVec 4) (rd : BitVec 4) (rm : BitVec 4) :
    Statement (.qadd16 cond rn rd rm) :=
  of_cond rfl rfl (by simp [BitVec.extractLsb'_or, put_top_zero, putB_top_zero, put_top])

theorem shadd16 (cond : Cond) (rn : BitVec 4) (rd : BitVec 4) (rm : BitVec 4) :
    Statement (.shadd16 cond rn rd rm) :=
  of_cond rfl rfl (by simp [BitVec.extractLsb'_or, put_top_zero, putB_top_zero, put_top])

theorem uadd16 (cond : Cond) (rn : BitVec 4) (rd : BitVec 4) (rm : BitVec 4) :
    Statement (.uadd16 cond rn rd rm) :=
  of_cond rfl rfl (by simp [BitVec.extractLsb'_or, put_top_zero, putB_top_zero, put_top])

theorem uqadd16 (cond : Cond) (rn : BitVec 4) (rd : BitVec 4) (rm : BitVec 4) :
    Statement (.uqadd16 cond rn rd rm) :=
  of_cond rfl rfl (by simp [BitVec.extractLsb'_or, put_top_zero, putB_top_zero, put_top])

theorem uhadd16 (cond : Cond) (rn : BitVec 4) (rd : BitVec 4) (rm : BitVec 4) :
    Statement (.uhadd16 cond rn rd rm) :=
  of_cond rfl rfl (by simp [BitVec.extractLsb'_or, put_top_zero, putB_top_zero, put_top])

theorem saddsubx (cond : Cond) (rn : BitVec 4) (rd : BitVec 4) (rm : BitVec 4) :
    Statement (.saddsubx cond rn rd rm) :=
  of_cond rfl rfl (by simp [BitVec.extractLsb'_or, put_top_zero, putB_top_zero, put_top])

theorem qaddsubx (cond : Cond) (rn : BitVec 4) (rd : BitVec 4) (rm : BitVec 4) :
    Statement (.qaddsubx cond rn rd rm) :=
  of_cond rfl rfl (by simp [BitVec.extractLsb'_or, put_top_zero, putB_top_zero, put_top])

theorem shaddsubx (cond : Cond) (rn : BitVec 4) (rd : BitVec 4) (rm : BitVec 4) :
    Statement (.shaddsubx cond rn rd rm) :=
  of_cond rfl rfl (by simp [BitVec.extractLsb'_or, put_top_zero, putB_top_zero, put_top])

theorem uaddsubx (cond : Cond) (rn : BitVec 4) (rd : BitVec 4) (rm : BitVec 4) :
    Statement (.uaddsubx cond rn rd rm) :=
  of_cond rfl rfl (by simp [BitVec.extractLsb'_or, put_top_zero, putB_top_zero, put_top])

theorem uqaddsubx (cond : Cond) (rn : BitVec 4) (rd : BitVec 4) (rm : BitVec 4) :
    Statement (.uqaddsubx cond rn rd rm) :=
  of_cond rfl rfl (by simp [BitVec.extractLsb'_or, put_top_zero, putB_top_zero, put_top])

theorem uhaddsubx (cond : Cond) (rn : BitVec 4) (rd : BitVec 4) (rm : BitVec 4) :
    Statement (.uhaddsubx cond rn rd rm) :=
  of_cond rfl rfl (by simp [BitVec.extractLsb'_or, put_top_zero, putB_top_zero, put_top])

theorem ssubaddx (cond : Cond) (rn : BitVec 4) (rd : BitVec 4) (rm : BitVec 4) :
    Statement (.ssubaddx cond rn rd rm) :=
  of_cond rfl rfl (by simp [BitVec.extractLsb'_or, put_top_zero, putB_top_zero, put_top])

theorem qsubaddx (cond : Cond) (rn : BitVec 4) (rd : BitVec 4) (rm : BitVec 4) :
    Statement (.qsubaddx cond rn rd rm) :=
  of_cond rfl rfl (by simp [BitVec.extractLsb'_or, put_top_zero, putB_top_zero, put_top])

theorem shsubaddx (cond : Cond) (rn : BitVec 4) (rd : BitVec 4) (rm : BitVec 4) :
    Statement (.shsubaddx cond rn rd rm) :=
  of_cond rfl rfl (by simp [BitVec.extractLsb'_or, put_top_zero, putB_top_zero, put_top])

theorem usubaddx (cond : Cond) (rn : BitVec 4) (rd : BitVec 4) (rm : BitVec 4) :
    Statement (.usubaddx cond rn rd rm) :=
  of_cond rfl rfl (by simp [BitVec.extractLsb'_or, put_top_zero, putB_top_zero, put_top])

theorem uqsubaddx (cond : Cond) (rn : BitVec 4) (rd : BitVec 4) (rm : BitVec 4) :
    Statement (.uqsubaddx cond rn rd rm) :=
  of_cond rfl rfl (by simp [BitVec.extractLsb'_or, put_top_zero, putB_top_zero, put_top])

theorem uhsubaddx (cond : Cond) (rn : BitVec 4) (rd : BitVec 4) (rm : BitVec 4) :
    Statement (.uhsubaddx cond rn rd rm) :=
  of_cond rfl rfl (by simp [BitVec.extractLsb'_or, put_top_zero, putB_top_zero, put_top])

theorem ssub16 (cond : Cond) (rn : BitVec 4) (rd : BitVec 4) (rm : BitVec 4) :
    Statement (.ssub16 cond rn rd rm) :=
  of_cond rfl rfl (by simp [BitVec.extractLsb'_or, put_top_zero, putB_top_zero, put_top])

theorem qsub16 (cond : Cond) (rn : BitVec 4) (rd : BitVec 4) (rm : BitVec 4) :
    Statement (.qsub16 cond rn rd rm) :=
  of_cond rfl rfl (by simp [BitVec.extractLsb'_or, put_top_zero, putB_top_zero, put_top])

theorem shsub16 (cond : Cond) (rn : BitVec 4) (rd : BitVec 4) (rm : BitVec 4) :
    Statement (.shsub16 cond rn rd rm) :=
  of_cond rfl rfl (by simp [BitVec.extractLsb'_or, put_top_zero, putB_top_zero, put_top])

theorem usub16 (cond : Cond) (rn : BitVec 4) (rd : BitVec 4) (rm : BitVec 4) :
    Statement (.usub16 cond rn rd rm) :=
  of_cond rfl rfl (by simp [BitVec.extractLsb'_or, put_top_zero, putB_top_zero, put_top])

theorem uqsub16 (cond : Cond) (rn : BitVec 4) (rd : BitVec 4) (rm : BitVec 4) :
    Statement (.uqsub16 cond rn rd rm) :=
  of_cond rfl rfl (by simp [BitVec.extractLsb'_or, put_top_zero, putB_top_zero, put_top])

theorem uhsub16 (cond : Cond) (rn : BitVec 4) (rd : BitVec 4) (rm : BitVec 4) :
    Statement (.uhsub16 cond rn rd rm) :=
  of_cond rfl rfl (by simp [BitVec.extractLsb'_or, put_top_zero, putB_top_zero, put_top])

theorem sadd8 (cond : Cond) (rn : BitVec 4) (rd : BitVec 4) (rm : BitVec 4) :
    Statement (.sadd8 cond rn rd rm) :=
  of_cond rfl rfl (by simp [BitVec.extractLsb'_or, put_top_zero, putB_top_zero, put_top])

theorem qadd8 (cond : Cond) (rn : BitVec 4) (rd : BitVec 4) (rm : BitVec 4) :
    Statement (.qadd8 cond rn rd rm) :=
  of_cond rfl rfl (by simp [BitVec.extractLsb'_or, put_top_zero, putB_top_zero, put_top])

theorem shadd8 (cond : Cond) (rn : BitVec 4) (rd : BitVec 4) (rm : BitVec 4) :
    Statement (.shadd8 cond rn rd rm) :=
  of_cond rfl rfl (by simp [BitVec.extractLsb'_or, put_top_zero, putB_top_zero, put_top])

theorem uadd8 (cond : Cond) (rn : BitVec 4) (rd : BitVec 4) (rm : BitVec 4) :
    Statement (.uadd8 cond rn rd rm) :=
  of_cond rfl rfl (by simp [BitVec.extractLsb'_or, put_top_zero, putB_top_zero, put_top])

theorem uqadd8 (cond : Cond) (rn : BitVec 4) (rd : BitVec 4) (rm : BitVec 4) :
    Statement (.uqadd8 cond rn rd rm) :=
  of_cond rfl rfl (by simp [BitVec.extractLsb'_or, put_top_zero, putB_top_zero, put_top])

theorem uhadd8 (cond : Cond) (rn : BitVec 4) (rd : BitVec 4) (rm : BitVec 4) :
    Statement (.uhadd8 cond rn rd rm) :=
  of_cond rfl rfl (by simp [BitVec.extractLsb'_or, put_top_zero, putB_top_zero, put_top])

theorem ssub8 (cond : Cond) (rn : BitVec 4) (rd : BitVec 4) (rm : BitVec 4) :
    Statement (.ssub8 cond rn rd rm) :=
  of_cond rfl rfl (by simp [BitVec.extractLsb'_or, put_top_zero, putB_top_zero, put_top])

theorem qsub8 (cond : Cond) (rn : BitVec 4) (rd : BitVec 4) (rm : BitVec 4) :
    Statement (.qsub8 cond rn rd rm) :=
  of_cond rfl rfl (by simp [BitVec.extractLsb'_or, put_top_zero, putB_top_zero, put_top])

theorem shsub8 (cond : Cond) (rn : BitVec 4) (rd : BitVec 4) (rm : BitVec 4) :
    Statement (.shsub8 cond rn rd rm) :=
  of_cond rfl rfl (by simp [BitVec.extractLsb'_or, put_top_zero, putB_top_zero, put_top])

theorem usub8 (cond : Cond) (rn : BitVec 4) (rd : BitVec 4) (rm : BitVec 4) :
    Statement (.usub8 cond rn rd rm) :=
  of_cond rfl rfl (by simp [BitVec.extractLsb'_or, put_top_zero, putB_top_zero, put_top])

theorem uqsub8 (cond : Cond) (rn : BitVec 4) (rd : BitVec 4) (rm : BitVec 4) :
    Statement (.uqsub8 cond rn rd rm) :=
  of_cond rfl rfl (by simp [BitVec.extractLsb'_or, put_top_zero, putB_top_zero, put_top])

theorem uhsub8 (cond : Cond) (rn : BitVec 4) (rd : BitVec 4) (rm : BitVec 4) :
    Statement (.uhsub8 cond rn rd rm) :=
  of_cond rfl rfl (by simp [BitVec.extractLsb'_or, put_top_zero, putB_top_zero, put_top])

theorem usad8 (cond : Cond) (rd : BitVec 4) (rs : BitVec 4) (rm : BitVec 4) :
    Statement (.usad8 cond rd rs rm) :=
  of_cond rfl rfl (by simp [BitVec.extractLsb'_or, put_top_zero, putB_top_zero, put_top])

theorem usada8 (cond : Cond) (rd : BitVec 4) (rn : BitVec 4) (rs : BitVec 4) (rm : BitVec 4) :
    Statement (.usada8 cond rd rn rs rm) :=
  of_cond rfl rfl (by simp [BitVec.extractLsb'_or, put_top_zero, putB_top_zero, put_top])

theorem sxtb16 (cond : Cond) (rd : BitVec 4) (rotate : BitVec 2) (rm : BitVec 4) :
    Statement (.sxtb16 cond rd rotate rm) :=
  of_cond rfl rfl (by simp [BitVec.extractLsb'_or, put_top_zero, putB_top_zero, put_top])

theorem sxtab16 (cond : Cond) (rn : BitVec 4) (rd : BitVec 4) (rotate : BitVec 2) (rm : BitVec 4) :
    Statement (.sxtab16 cond rn rd rotate rm) :=
  of_cond rfl rfl (by simp [BitVec.extractLsb'_or, put_top_zero, putB_top_zero, put_top])

theorem sxtb (cond : Cond) (rd : BitVec 4) (rotate : BitVec 2) (rm : BitVec 4) :
    Statement (.sxtb cond rd rotate rm) :=
  of_cond rfl rfl (by simp [BitVec.extractLsb'_or, put_top_zero, putB_top_zero, put_top])

theorem sxtab (cond : Cond) (rn : BitVec 4) (rd : BitVec 4) (rotate : BitVec 2) (rm : BitVec 4) :
    Statement (.sxtab cond rn rd rotate rm) :=
  of_cond rfl rfl (by simp [BitVec.extractLsb'_or, put_top_zero, putB_top_zero, put_top])

theorem sxth (cond : Cond) (rd : BitVec 4) (rotate : BitVec 2) (rm : BitVec 4) :
    Statement (.sxth cond rd rotate rm) :=
  of_cond rfl rfl (by simp [BitVec.extractLsb'_or, put_top_zero, putB_top_zero, put_top])

theorem sxtah (cond : Cond) (rn : BitVec 4) (rd : BitVec 4) (rotate : BitVec 2) (rm : BitVec 4) :
    Statement (.sxtah cond rn rd rotate rm) :=
  of_cond rfl rfl (by simp [BitVec.extractLsb'_or, put_top_zero, putB_top_zero, put_top])

theorem uxtb16 (cond : Cond) (rd : BitVec 4) (rotate : BitVec 2) (rm : BitVec 4) :
    Statement (.uxtb16 cond rd rotate rm) :=
  of_cond rfl rfl (by simp [BitVec.extractLsb'_or, put_top_zero, putB_top_zero, put_top])

theorem uxtab16 (cond : Cond) (rn : BitVec 4) (rd : BitVec 4) (rotate : BitVec 2) (rm : BitVec 4) :
    Statement (.uxtab16 cond rn rd rotate rm) :=
  of_cond rfl rfl (by simp [BitVec.extractLsb'_or, put_top_zero, putB_top_zero, put_top])

theorem uxtb (cond : Cond) (rd : BitVec 4) (rotate : BitVec 2) (rm : BitVec 4) :
    Statement (.uxtb cond rd rotate rm) :=
  of_cond rfl rfl (by simp [BitVec.extractLsb'_or, put_top_zero, putB_top_zero, put_top])

theorem uxtab (cond : Cond) (rn : BitVec 4) (rd : BitVec 4) (rotate : BitVec 2) (rm : BitVec 4) :
    Statement (.uxtab cond rn rd rotate rm) :=
  of_cond rfl rfl (by simp [BitVec.extractLsb'_or, put_top_zero, putB_top_zero, put_top])

theorem uxth (cond : Cond) (rd : BitVec 4) (rotate : BitVec 2) (rm : BitVec 4) :
    Statement (.uxth cond rd rotate rm) :=
  of_cond rfl rfl (by simp [BitVec.extractLsb'_or, put_top_zero, putB_top_zero, put_top])

theorem uxtah (cond : Cond) (rn : BitVec 4) (rd : BitVec 4) (rotate : BitVec 2) (rm : BitVec 4) :
    Statement (.uxtah cond rn rd rotate rm) :=
  of_cond rfl rfl (by simp [BitVec.extractLsb'_or, put_top_zero, putB_top_zero, put_top])

theorem smuad (cond : Cond) (rd : BitVec 4) (rs : BitVec 4) (rm : BitVec 4) :
    Statement (.smuad cond rd rs rm) :=
  of_cond rfl rfl (by simp [BitVec.extractLsb'_or, put_top_zero, putB_top_zero, put_top])

theorem smuadx (cond : Cond) (rd : BitVec 4) (rs : BitVec 4) (rm : BitVec 4) :
    Statement (.smuadx cond rd rs rm) :=
  of_cond rfl rfl (by simp [BitVec.extractLsb'_or, put_top_zero, putB_top_zero, put_top])

theorem smusd (cond : Cond) (rd : BitVec 4) (rs : BitVec 4) (rm : BitVec 4) :
    Statement (.smusd cond rd rs rm) :=
  of_cond rfl rfl (by simp [BitVec.extractLsb'_or, put_top_zero, putB_top_zero, put_top])

theorem smusdx (cond : Cond) (rd : BitVec 4) (rs : BitVec 4) (rm : BitVec 4) :
    Statement (.smusdx cond rd rs rm) :=
  of_cond rfl rfl (by simp [BitVec.extractLsb'_or, put_top_zero, putB_top_zero, put_top])

theorem smlad (cond : Cond) (rd : BitVec 4) (rn : BitVec 4) (rs : BitVec 4) (rm : BitVec 4) :
    Statement (.smlad cond rd rn rs rm) :=
  of_cond rfl rfl (by simp [BitVec.extractLsb'_or, put_top_zero, putB_top_zero, put_top])

theorem smladx (cond : Cond) (rd : BitVec 4) (rn : BitVec 4) (rs : BitVec 4) (rm : BitVec 4) :
    Statement (.smladx cond rd rn rs rm) :=
  of_cond rfl rfl (by simp [BitVec.extractLsb'_or, put_top_zero, putB_top_zero, put_top])

theorem smlsd (cond : Cond) (rd : BitVec 4) (rn : BitVec 4) (rs : BitVec 4) (rm : BitVec 4) :
    Statement (.smlsd cond rd rn rs rm) :=
  of_cond rfl rfl (by simp [BitVec.extractLsb'_or, put_top_zero, putB_top_zero, put_top])

theorem smlsdx (cond : Cond) (rd : BitVec 4) (rn : BitVec 4) (rs : BitVec 4) (rm : BitVec 4) :
    Statement (.smlsdx cond rd rn rs rm) :=
  of_cond rfl rfl (by simp [BitVec.extractLsb'_or, put_top_zero, putB_top_zero, put_top])

theorem smlald (cond : Cond) (rdHi : BitVec 4) (rdLo : BitVec 4) (rs : BitVec 4) (rm : BitVec 4) :
    Statement (.smlald cond rdHi rdLo rs rm) :=
  of_cond rfl rfl (by simp [BitVec.extractLsb'_or, put_top_zero, putB_top_zero, put_top])

theorem smlaldx (cond : Cond) (rdHi : BitVec 4) (rdLo : BitVec 4) (rs : BitVec 4) (rm : BitVec 4) :
    Statement (.smlaldx cond rdHi rdLo rs rm) :=
  of_cond rfl rfl (by simp [BitVec.extractLsb'_or, put_top_zero, putB_top_zero, put_top])

theorem smlsld (cond : Cond) (rdHi : BitVec 4) (rdLo : BitVec 4) (rs : BitVec 4) (rm : BitVec 4) :
    Statement (.smlsld cond rdHi rdLo rs rm) :=
  of_cond rfl rfl (by simp [BitVec.extractLsb'_or, put_top_zero, putB_top_zero, put_top])

theorem smlsldx (cond : Cond) (rdHi : BitVec 4) (rdLo : BitVec 4) (rs : BitVec 4) (rm : BitVec 4) :
    Statement (.smlsldx cond rdHi rdLo rs rm) :=
  of_cond rfl rfl (by simp [BitVec.extractLsb'_or, put_top_zero, putB_top_zero, put_top])

theorem smmul (cond : Cond) (rd : BitVec 4) (rs : BitVec 4) (rm : BitVec 4) :
    Statement (.smmul cond rd rs rm) :=
  of_cond rfl rfl (by simp [BitVec.extractLsb'_or, put_top_zero, putB_top_zero, put_top])

theorem smmulr (cond : Cond) (rd : BitVec 4) (rs : BitVec 4) (rm : BitVec 4) :
    Statement (.smmulr cond rd rs rm) :=
  of_cond rfl rfl (by simp [BitVec.extractLsb'_or, put_top_zero, putB_top_zero, put_top])

theorem smmla (cond : Cond) (rd : BitVec 4) (rn : BitVec 4) (rs : BitVec 4) (rm : BitVec 4) :
    Statement (.smmla cond rd rn rs rm) :=
  of_cond rfl rfl (by simp [BitVec.extractLsb'_or, put_top_zero, putB_top_zero, put_top])

theorem smmlar (cond : Cond) (rd : BitVec 4) (rn : BitVec 4) (rs : BitVec 4) (rm : BitVec 4) :
    Statement (.smmlar cond rd rn rs rm) :=
  of_cond rfl rfl (by simp [BitVec.extractLsb'_or, put_top_zero, putB_top_zero, put_top])

theorem smmls (cond : Cond) (rd : BitVec 4) (rn : BitVec 4) (rs : BitVec 4) (rm : BitVec 4) :
    Statement (.smmls cond rd rn rs rm) :=
  of_cond rfl rfl (by simp [BitVec.extractLsb'_or, put_top_zero, putB_top_zero, put_top])

theorem smmlsr (cond : Cond) (rd : BitVec 4) (rn : BitVec 4) (rs : BitVec 4) (rm : BitVec 4) :
    Statement (.smmlsr cond rd rn rs rm) :=
  of_cond rfl rfl (by simp [BitVec.extractLsb'_or, put_top_zero, putB_top_zero, put_top])

theorem ssat (cond : Cond) (satImm : BitVec 5) (rd : BitVec 4) (shiftImm : BitVec 5) (sh : Bool) (rm : BitVec 4) :
    Statement (.ssat cond satImm rd shiftImm sh rm) :=
  of_cond rfl rfl (by simp [BitVec.extractLsb'_or, put_top_zero, putB_top_zero, put_top])

theorem usat (cond : Cond) (satImm : BitVec 5) (rd : BitVec 4) (shiftImm : BitVec 5) (sh : Bool) (rm : BitVec 4) :
    Statement (.usat cond satImm rd shiftImm sh rm) :=
  of_cond rfl rfl (by simp [BitVec.extractLsb'_or, put_top_zero, putB_top_zero, put_top])

theorem ssat16 (cond : Cond) (satImm : BitVec 4) (rd : BitVec 4) (rm : BitVec 4) :
    Statement (.ssat16 cond satImm rd rm) :=
  of_cond rfl rfl (by simp [BitVec.extractLsb'_or, put_top_zero, putB_top_zero, put_top])

theorem usat16 (cond : Cond) (satImm : BitVec 4) (rd : BitVec 4) (rm : BitVec 4) :
    Statement (.usat16 cond satImm rd rm) :=
  of_cond rfl rfl (by simp [BitVec.extractLsb'_or, put_top_zero, putB_top_zero, put_top])

theorem sel (cond : Cond) (rn : BitVec 4) (rd : BitVec 4) (rm : BitVec 4) :
    Statement (.sel cond rn rd rm) :=
  of_cond rfl rfl (by simp [BitVec.extractLsb'_or, put_top_zero, putB_top_zero, put_top])

theorem pkhbt (cond : Cond) (rn : BitVec 4) (rd : BitVec 4) (shiftImm : BitVec 5) (rm : BitVec 4) :
    Statement (.pkhbt cond rn rd shiftImm rm) :=
  of_cond rfl rfl (by simp [BitVec.extractLsb'_or, put_top_zero, putB_top_zero, put_top])

theorem pkhtb (cond : Cond) (rn : BitVec 4) (rd : BitVec 4) (shiftImm : BitVec 5) (rm : BitVec 4) :
    Statement (.pkhtb cond rn rd shiftImm rm) :=
  of_cond rfl rfl (by simp [BitVec.extractLsb'_or, put_top_zero, putB_top_zero, put_top])

theorem rev (cond : Cond) (rd : BitVec 4) (rm : BitVec 4) :
    Statement (.rev cond rd rm) :=
  of_cond rfl rfl (by simp [BitVec.extractLsb'_or, put_top_zero, putB_top_zero, put_top])

theorem rev16 (cond : Cond) (rd : BitVec 4) (rm : BitVec 4) :
    Statement (.rev16 cond rd rm) :=
  of_cond rfl rfl (by simp [BitVec.extractLsb'_or, put_top_zero, putB_top_zero, put_top])

theorem revsh (cond : Cond) (rd : BitVec 4) (rm : BitVec 4) :
    Statement (.revsh cond rd rm) :=
  of_cond rfl rfl (by simp [BitVec.extractLsb'_or, put_top_zero, putB_top_zero, put_top])

theorem ldrtImm (cond : Cond) (u : Bool) (rn : BitVec 4) (rd : BitVec 4) (off12 : BitVec 12) :
    Statement (.ldrtImm cond u rn rd off12) :=
  of_cond rfl rfl (by simp [BitVec.extractLsb'_or, put_top_zero, putB_top_zero, put_top])

theorem ldrtReg (cond : Cond) (u : Bool) (rn : BitVec 4) (rd : BitVec 4) (shiftImm : BitVec 5) (shift : Shift) (rm : BitVec 4) :
    Statement (.ldrtReg cond u rn rd shiftImm shift rm) :=
  of_cond rfl rfl (by simp [BitVec.extractLsb'_or, put_top_zero, putB_top_zero, put_top])

theorem ldrbtImm (cond : Cond) (u : Bool) (rn : BitVec 4) (rd : BitVec 4) (off12 : BitVec 12) :
    Statement (.ldrbtImm cond u rn rd off12) :=
  of_cond rfl rfl (by simp [BitVec.extractLsb'_or, put_top_zero, putB_top_zero, put_top])

theorem ldrbtReg (cond : Cond) (u : Bool) (rn : BitVec 4) (rd : BitVec 4) (shiftImm : BitVec 5) (shift : Shift) (rm : BitVec 4) :
    Statement (.ldrbtReg cond u rn rd shiftImm shift rm) :=
  of_cond rfl rfl (by simp [BitVec.extractLsb'_or, put_top_zero, putB_top_zero, put_top])

theorem strtImm (cond : Cond) (u : Bool) (rn : BitVec 4) (rd : BitVec 4) (off12 : BitVec 12) :
    Statement (.strtImm cond u rn rd off12) :=
  of_cond rfl rfl (by simp [BitVec.extractLsb'_or, put_top_zero, putB_top_zero, put_top])

theorem strtReg (cond : Cond) (u : Bool) (rn : BitVec 4) (rd : BitVec 4) (shiftImm : BitVec 5) (shift : Shift) (rm : BitVec 4) :
    Statement (.strtReg cond u rn rd shiftImm shift rm) :=
  of_cond rfl rfl (by simp [BitVec.extractLsb'_or, put_top_zero, putB_top_zero, put_top])

theorem strbtImm (cond : Cond) (u : Bool) (rn : BitVec 4) (rd : BitVec 4) (off12 : BitVec 12) :
    Statement (.strbtImm cond u rn rd off12) :=
  of_cond rfl rfl (by simp [BitVec.extractLsb'_or, put_top_zero, putB_top_zero, put_top])

theorem strbtReg (cond : Cond) (u : Bool) (rn : BitVec 4) (rd : BitVec 4) (shiftImm : BitVec 5) (shift : Shift) (rm : BitVec 4) :
    Statement (.strbtReg cond u rn rd shiftImm shift rm) :=
  of_cond rfl rfl (by simp [BitVec.extractLsb'_or, put_top_zero, putB_top_zero, put_top])

theorem ldrImm (cond : Cond) (p : Bool) (u : Bool) (w : Bool) (rn : BitVec 4) (rd : BitVec 4) (off12 : BitVec 12) :
    Statement (.ldrImm cond p u w rn rd off12) :=
  of_cond rfl rfl (by simp [BitVec.extractLsb'_or, put_top_zero, putB_top_zero, put_top])

theorem ldrReg (cond : Cond) (p : Bool) (u : Bool) (w : Bool) (rn : BitVec 4) (rd : BitVec 4) (shiftImm : BitVec 5) (shift : Shift) (rm : BitVec 4) :
    Statement (.ldrReg cond p u w rn rd shiftImm shift rm) :=
  of_cond rfl rfl (by simp [BitVec.extractLsb'_or, put_top_zero, putB_top_zero, put_top])

theorem ldrbImm (cond : Cond) (p : Bool) (u : Bool) (w : Bool) (rn : BitVec 4) (rd : BitVec 4) (off12 : BitVec 12) :
    Statement (.ldrbImm cond p u w rn rd off12) :=
  of_cond rfl rfl (by simp [BitVec.extractLsb'_or, put_top_zero, putB_top_zero, put_top])

theorem ldrbReg (cond : Cond) (p : Bool) (u : Bool) (w : Bool) (rn : BitVec 4) (rd : BitVec 4) (shiftImm : BitVec 5) (shift : Shift) (rm : BitVec 4) :
    Statement (.ldrbReg cond p u w rn rd shiftImm shift rm) :=
  of_cond rfl rfl (by simp [BitVec.extractLsb'_or, put_top_zero, putB_top_zero, put_top])

theorem strImm (cond : Cond) (p : Bool) (u : Bool) (w : Bool) (rn : BitVec 4) (rd : BitVec 4) (off12 : BitVec 12) :
    Statement (.strImm cond p u w rn rd off12) :=
  of_cond rfl rfl (by simp [BitVec.extractLsb'_or, put_top_zero, putB_top_zero, put_top])

theorem strReg (cond : Cond) (p : Bool) (u : Bool) (w : Bool) (rn : BitVec 4) (rd : BitVec 4) (shiftImm : BitVec 5) (shift : Shift) (rm : BitVec 4) :
    Statement (.strReg cond p u w rn rd shiftImm shift rm) :=
  of_cond rfl rfl (by simp [BitVec.extractLsb'_or, put_top_zero, putB_top_zero, put_top])

theorem strbImm (cond : Cond) (p : Bool) (u : Bool) (w : Bool) (rn : BitVec 4) (rd : BitVec 4) (off12 : BitVec 12) :
    Statement (.strbImm cond p u w rn rd off12) :=
  of_cond rfl rfl (by simp [BitVec.extractLsb'_or, put_top_zero, putB_top_zero, put_top])

theorem strbReg (cond : Cond) (p : Bool) (u : Bool) (w : Bool) (rn : BitVec 4) (rd : BitVec 4) (shiftImm : BitVec 5) (shift : Shift) (rm : BitVec 4) :
    Statement (.strbReg cond p u w rn rd shiftImm shift rm) :=
  of_cond rfl rfl (by simp [BitVec.extractLsb'_or, put_top_zero, putB_top_zero, put_top])

theorem strhImm (cond : Cond) (p : Bool) (u : Bool) (w : Bool) (rn : BitVec 4) (rd : BitVec 4) (immH : BitVec 4) (immL : BitVec 4) :
    Statement (.strhImm cond p u w rn rd immH immL) :=
  of_cond rfl rfl (by simp [BitVec.extractLsb'_or, put_top_zero, putB_top_zero, put_top])

theorem strhReg (cond : Cond) (p : Bool) (u : Bool) (w : Bool) (rn : BitVec 4) (rd : BitVec 4) (rm : BitVec 4) :
    Statement (.strhReg cond p u w rn rd rm) :=
  of_cond rfl rfl (by simp [BitVec.extractLsb'_or, put_top_zero, putB_top_zero, put_top])

theorem ldrdImm (cond : Cond) (p : Bool) (u : Bool) (w : Bool) (rn : BitVec 4) (rd : BitVec 4) (immH : BitVec 4) (immL : BitVec 4) :
    Statement (.ldrdImm cond p u w rn rd immH immL) :=
  of_cond rfl rfl (by simp [BitVec.extractLsb'_or, put_top_zero, putB_top_zero, put_top])

theorem ldrdReg (cond : Cond) (p : Bool) (u : Bool) (w : Bool) (rn : BitVec 4) (rd : BitVec 4) (rm : BitVec 4) :
    Statement (.ldrdReg cond p u w rn rd rm) :=
  of_cond rfl rfl (by simp [BitVec.extractLsb'_or, put_top_zero, putB_top_zero, put_top])

theorem strdImm (cond : Cond) (p : Bool) (u : Bool) (w : Bool) (rn : BitVec 4) (rd : BitVec 4) (immH : BitVec 4) (immL : BitVec 4) :
    Statement (.strdImm cond p u w rn rd immH immL) :=
  of_cond rfl rfl (by simp [BitVec.extractLsb'_or, put_top_zero, putB_top_zero, put_top])

theorem strdReg (cond : Cond) (p : Bool) (u : Bool) (w : Bool) (rn : BitVec 4) (rd : BitVec 4) (rm : BitVec 4) :
    Statement (.strdReg cond p u w rn rd rm) :=
  of_cond rfl rfl (by simp [BitVec.extractLsb'_or, put_top_zero, putB_top_zero, put_top])

theorem ldrhImm (cond : Cond) (p : Bool) (u : Bool) (w : Bool) (rn : BitVec 4) (rd : BitVec 4) (immH : BitVec 4) (immL : BitVec 4) :
    Statement (.ldrhImm cond p u w rn rd immH immL) :=
  of_cond rfl rfl (by simp [BitVec.extractLsb'_or, put_top_zero, putB_top_zero, put_top])

theorem ldrhReg (cond : Cond) (p : Bool) (u : Bool) (w : Bool) (rn : BitVec 4) (rd : BitVec 4) (rm : BitVec 4) :
    Statement (.ldrhReg cond p u w rn rd rm) :=
  of_cond rfl rfl (by simp [BitVec.extractLsb'_or, put_top_zero, putB_top_zero, put_top])

theorem ldrsbImm (cond : Cond) (p : Bool) (u : Bool) (w : Bool) (rn : BitVec 4) (rd : BitVec 4) (immH : BitVec 4) (immL : BitVec 4) :
    Statement (.ldrsbImm cond p u w rn rd immH immL) :=
  of_cond rfl rfl (by simp [BitVec.extractLsb'_or, put_top_zero, putB_top_zero, put_top])

theorem ldrsbReg (cond : Cond) (p : Bool) (u : Bool) (w : Bool) (rn : BitVec 4) (rd : BitVec 4) (rm : BitVec 4) :
    Statement (.ldrsbReg cond p u w rn rd rm) :=
  of_cond rfl rfl (by simp [BitVec.extractLsb'_or, put_top_zero, putB_top_zero, put_top])

theorem ldrshImm (cond : Cond) (p : Bool) (u : Bool) (w : Bool) (rn : BitVec 4) (rd : BitVec 4) (immH : BitVec 4) (immL : BitVec 4) :
    Statement (.ldrshImm cond p u w rn rd immH immL) :=
  of_cond rfl rfl (by simp [BitVec.extractLsb'_or, put_top_zero, putB_top_zero, put_top])

theorem ldrshReg (cond : Cond) (p : Bool) (u : Bool) (w : Bool) (rn : BitVec 4) (rd : BitVec 4) (rm : BitVec 4) :
    Statement (.ldrshReg cond p u w rn rd rm) :=
  of_cond rfl rfl (by simp [BitVec.extractLsb'_or, put_top_zero, putB_top_zero, put_top])

theorem ldm1 (cond : Cond) (p : Bool) (u : Bool) (w : Bool) (rn : BitVec 4) (regs : BitVec 16) :
    Statement (.ldm1 cond p u w rn regs) :=
  of_cond rfl rfl (by simp [BitVec.extractLsb'_or, put_top_zero, putB_top_zero, put_top])

theorem ldm2 (cond : Cond) (p : Bool) (u : Bool) (rn : BitVec 4) (regs : BitVec 15) :
    Statement (.ldm2 cond p u rn regs) :=
  of_cond rfl rfl (by simp [BitVec.extractLsb'_or, put_top_zero, putB_top_zero, put_top])

theorem ldm3 (cond : Cond) (p : Bool) (u : Bool) (w : Bool) (rn : BitVec 4) (regs : BitVec 15) :
    Statement (.ldm3 cond p u w rn regs) :=
  of_cond rfl rfl (by simp [BitVec.extractLsb'_or, put_top_zero, putB_top_zero, put_top])

theorem stm1 (cond : Cond) (p : Bool) (u : Bool) (w : Bool) (rn : BitVec 4) (regs : BitVec 16) :
    Statement (.stm1 cond p u w rn regs) :=
  of_cond rfl rfl (by simp [BitVec.extractLsb'_or, put_top_zero, putB_top_zero, put_top])

theorem stm2 (cond : Cond) (p : Bool) (u : Bool) (rn : BitVec 4) (regs : BitVec 16) :
    Statement (.stm2 cond p u rn regs) :=
  of_cond rfl rfl (by simp [BitVec.extractLsb'_or, put_top_zero, putB_top_zero, put_top])

theorem swp (cond : Cond) (rn : BitVec 4) (rd : BitVec 4) (rm : BitVec 4) :
    Statement (.swp cond rn rd rm) :=
  of_cond rfl rfl (by simp [BitVec.extractLsb'_or, put_top_zero, putB_top_zero, put_top])

theorem swpb (cond : Cond) (rn : BitVec 4) (rd : BitVec 4) (rm : BitVec 4) :
    Statement (.swpb cond rn rd rm) :=
  of_cond rfl rfl (by simp [BitVec.extractLsb'_or, put_top_zero, putB_top_zero, put_top])

theorem strex (cond : Cond) (rn : BitVec 4) (rd : BitVec 4) (rm : BitVec 4) :
    Statement (.strex cond rn rd rm) :=
  of_cond rfl rfl (by simp [BitVec.extractLsb'_or, put_top_zero, putB_top_zero, put_top])

theorem ldrex (cond : Cond) (rn : BitVec 4) (rd : BitVec 4) :
    Statement (.ldrex cond rn rd) :=
  of_cond rfl rfl (by simp [BitVec.extractLsb'_or, put_top_zero, putB_top_zero, put_top])

theorem strexd (cond : Cond) (rn : BitVec 4) (rd : BitVec 4) (rm : BitVec 4) :
    Statement (.strexd cond rn rd rm) :=
  of_cond rfl rfl (by simp [BitVec.extractLsb'_or, put_top_zero, putB_top_zero, put_top])

theorem ldrexd (cond : Cond) (rn : BitVec 4) (rd : BitVec 4) :
    Statement (.ldrexd cond rn rd) :=
  of_cond rfl rfl (by simp [BitVec.extractLsb'_or, put_top_zero, putB_top_zero, put_top])

theorem strexb (cond : Cond) (rn : BitVec 4) (rd : BitVec 4) (rm : BitVec 4) :
    Statement (.strexb cond rn rd rm) :=
  of_cond rfl rfl (by simp [BitVec.extractLsb'_or, put_top_zero, putB_top_zero, put_top])

theorem ldrexb (cond : Cond) (rn : BitVec 4) (rd : BitVec 4) :
    Statement (.ldrexb cond rn rd) :=
  of_cond rfl rfl (by simp [BitVec.extractLsb'_or, put_top_zero, putB_top_zero, put_top])

theorem strexh (cond : Cond) (rn : BitVec 4) (rd : BitVec 4) (rm : BitVec 4) :
    Statement (.strexh cond rn rd rm) :=
  of_cond rfl rfl (by simp [BitVec.extractLsb'_or, put_top_zero, putB_top_zero, put_top])

theorem ldrexh (cond : Cond) (rn : BitVec 4) (rd : BitVec 4) :
    Statement (.ldrexh cond rn rd) :=
  of_cond rfl rfl (by simp [BitVec.extractLsb'_or, put_top_zero, putB_top_zero, put_top])

theorem mrs (cond : Cond) (rBit : Bool) (rd : BitVec 4) :
    Statement (.mrs cond rBit rd) :=
  of_cond rfl rfl (by simp [BitVec.extractLsb'_or, put_top_zero, putB_top_zero, put_top])

theorem msrReg (cond : Cond) (rBit : Bool) (fieldMask : BitVec 4) (rm : BitVec 4) :
    Statement (.msrReg cond rBit fieldMask rm) :=
  of_cond rfl rfl (by simp [BitVec.extractLsb'_or, put_top_zero, putB_top_zero, put_top])

theorem nop (cond : Cond) (hint : BitVec 8) :
    Statement (.nop cond hint) :=
  of_cond rfl rfl (by simp [BitVec.extractLsb'_or, put_top_zero, putB_top_zero, put_top])

theorem msrImm (cond : Cond) (rBit : Bool) (fieldMask : BitVec 4) (rot : BitVec 4) (imm8 : BitVec 8) :
    Statement (.msrImm cond rBit fieldMask rot imm8) :=
  of_cond rfl rfl (by simp [BitVec.extractLsb'_or, put_top_zero, putB_top_zero, put_top])

theorem b (cond : Cond) (simm24 : BitVec 24) :
    Statement (.b cond simm24) :=
  of_cond rfl rfl (by simp [BitVec.extractLsb'_or, put_top_zero, putB_top_zero, put_top])

theorem bl (cond : Cond) (simm24 : BitVec 24) :
    Statement (.bl cond simm24) :=
  of_cond rfl rfl (by simp [BitVec.extractLsb'_or, put_top_zero, putB_top_zero, put_top])

theorem bx (cond : Cond) (rm : BitVec 4) :
    Statement (.bx cond rm) :=
  of_cond rfl rfl (by simp [BitVec.extractLsb'_or, put_top_zero, putB_top_zero, put_top])

theorem bxj (cond : Cond) (rm : BitVec 4) :
    Statement (.bxj cond rm) :=
  of_cond rfl rfl (by simp [BitVec.extractLsb'_or, put_top_zero, putB_top_zero, put_top])

theorem blx2 (cond : Cond) (rm : BitVec 4) :
    Statement (.blx2 cond rm) :=
  of_cond rfl rfl (by simp [BitVec.extractLsb'_or, put_top_zero, putB_top_zero, put_top])

theorem bkpt (immHi : BitVec 12) (immLo : BitVec 4) :
    Statement (.bkpt immHi immLo) :=
  .inr (by
  have h1 : ∀ v : BitVec 12, put 8 v &&& 0xFFF000F0#32 = 0#32 := by decide +kernel
  have h2 : ∀ v : BitVec 4, put 0 v &&& 0xFFF000F0#32 = 0#32 := by decide +kernel
  show (0xE1200070#32 ||| put 8 immHi ||| put 0 immLo) &&& 0xFFF000F0#32 = 0xE1200070#32
  simp [BitVec.and_or_distrib_right, h1, h2])

theorem smc (cond : Cond) (immHi : BitVec 12) (immLo : BitVec 4) :
    Statement (.smc cond immHi immLo) :=
  of_cond rfl rfl (by simp [BitVec.extractLsb'_or, put_top_zero, putB_top_zero, put_top])

theorem svc (cond : Cond) (imm24 : BitVec 24) :
    Statement (.svc cond imm24) :=
  of_cond rfl rfl (by simp [BitVec.extractLsb'_or, put_top_zero, putB_top_zero, put_top])

theorem undefArch (cond : Cond) (anyHi : BitVec 12) (anyLo : BitVec 4) :
    Statement (.undefArch cond anyHi anyLo) :=
  of_cond rfl rfl (by simp [BitVec.extractLsb'_or, put_top_zero, putB_top_zero, put_top])

theorem fmacs (cond : Cond) (dBit : Bool) (fn : BitVec 4) (fd : BitVec 4) (nBit : Bool) (mBit : Bool) (fm : BitVec 4) :
    Statement (.fmacs cond dBit fn fd nBit mBit fm) :=
  of_cond rfl rfl (by simp [BitVec.extractLsb'_or, put_top_zero, putB_top_zero, put_top])

theorem fmacd (cond : Cond) (fn : BitVec 4) (fd : BitVec 4) (fm : BitVec 4) :
    Statement (.fmacd cond fn fd fm) :=
  of_cond rfl rfl (by simp [BitVec.extractLsb'_or, put_top_zero, putB_top_zero, put_top])

theorem fnmacs (cond : Cond) (dBit : Bool) (fn : BitVec 4) (fd : BitVec 4) (nBit : Bool) (mBit : Bool) (fm : BitVec 4) :
    Statement (.fnmacs cond dBit fn fd nBit mBit fm) :=
  of_cond rfl rfl (by simp [BitVec.extractLsb'_or, put_top_zero, putB_top_zero, put_top])

theorem fnmacd (cond : Cond) (fn : BitVec 4) (fd : BitVec 4) (fm : BitVec 4) :
    Statement (.fnmacd cond fn fd fm) :=
  of_cond rfl rfl (by simp [BitVec.extractLsb'_or, put_top_zero, putB_top_zero, put_top])

theorem fmscs (cond : Cond) (dBit : Bool) (fn : BitVec 4) (fd : BitVec 4) (nBit : Bool) (mBit : Bool) (fm : BitVec 4) :
    Statement (.fmscs cond dBit fn fd nBit mBit fm) :=
  of_cond rfl rfl (by simp [BitVec.extractLsb'_or, put_top_zero, putB_top_zero, put_top])

theorem fmscd (cond : Cond) (fn : BitVec 4) (fd : BitVec 4) (fm : BitVec 4) :
    Statement (.fmscd cond fn fd fm) :=
  of_cond rfl rfl (by simp [BitVec.extractLsb'_or, put_top_zero, putB_top_zero, put_top])

theorem fnmscs (cond : Cond) (dBit : Bool) (fn : BitVec 4) (fd : BitVec 4) (nBit : Bool) (mBit : Bool) (fm : BitVec 4) :
    Statement (.fnmscs cond dBit fn fd nBit mBit fm) :=
  of_cond rfl rfl (by simp [BitVec.extractLsb'_or, put_top_zero, putB_top_zero, put_top])

theorem fnmscd (cond : Cond) (fn : BitVec 4) (fd : BitVec 4) (fm : BitVec 4) :
    Statement (.fnmscd cond fn fd fm) :=
  of_cond rfl rfl (by simp [BitVec.extractLsb'_or, put_top_zero, putB_top_zero, put_top])

theorem fmuls (cond : Cond) (dBit : Bool) (fn : BitVec 4) (fd : BitVec 4) (nBit : Bool) (mBit : Bool) (fm : BitVec 4) :
    Statement (.fmuls cond dBit fn fd nBit mBit fm) :=
  of_cond rfl rfl (by simp [BitVec.extractLsb'_or, put_top_zero, putB_top_zero, put_top])

theorem fmuld (cond : Cond) (fn : BitVec 4) (fd : BitVec 4) (fm : BitVec 4) :
    Statement (.fmuld cond fn fd fm) :=
  of_cond rfl rfl (by simp [BitVec.extractLsb'_or, put_top_zero, putB_top_zero, put_top])

theorem fnmuls (cond : Cond) (dBit : Bool) (fn : BitVec 4) (fd : BitVec 4) (nBit : Bool) (mBit : Bool) (fm : BitVec 4) :
    Statement (.fnmuls cond dBit fn fd nBit mBit fm) :=
  of_cond rfl rfl (by simp [BitVec.extractLsb'_or, put_top_zero, putB_top_zero, put_top])

theorem fnmuld (cond : Cond) (fn : BitVec 4) (fd : BitVec 4) (fm : BitVec 4) :
    Statement (.fnmuld cond fn fd fm) :=
  of_cond rfl rfl (by simp [BitVec.extractLsb'_or, put_top_zero, putB_top_zero, put_top])

theorem fadds (cond : Cond) (dBit : Bool) (fn : BitVec 4) (fd : BitVec 4) (nBit : Bool) (mBit : Bool) (fm : BitVec 4) :
    Statement (.fadds cond dBit fn fd nBit mBit fm) :=
  of_cond rfl rfl (by simp [BitVec.extractLsb'_or, put_top_zero, putB_top_zero, put_top])

theorem faddd (cond : Cond) (fn : BitVec 4) (fd : BitVec 4) (fm : BitVec 4) :
    Statement (.faddd cond fn fd fm) :=
  of_cond rfl rfl (by simp [BitVec.extractLsb'_or, put_top_zero, putB_top_zero, put_top])

theorem fsubs (cond : Cond) (dBit : Bool) (fn : BitVec 4) (fd : BitVec 4) (nBit : Bool) (mBit : Bool) (fm : BitVec 4) :
    Statement (.fsubs cond dBit fn fd nBit mBit fm) :=
  of_cond rfl rfl (by simp [BitVec.extractLsb'_or, put_top_zero, putB_top_zero, put_top])

theorem fsubd (cond : Cond) (fn : BitVec 4) (fd : BitVec 4) (fm : BitVec 4) :
    Statement (.fsubd cond fn fd fm) :=
  of_cond rfl rfl (by simp [BitVec.extractLsb'_or, put_top_zero, putB_top_zero, put_top])

theorem fdivs (cond : Cond) (dBit : Bool) (fn : BitVec 4) (fd : BitVec 4) (nBit : Bool) (mBit : Bool) (fm : BitVec 4) :
    Statement (.fdivs cond dBit fn fd nBit mBit fm) :=
  of_cond rfl rfl (by simp [BitVec.extractLsb'_or, put_top_zero, putB_top_zero, put_top])

theorem fdivd (cond : Cond) (fn : BitVec 4) (fd : BitVec 4) (fm : BitVec 4) :
    Statement (.fdivd cond fn fd fm) :=
  of_cond rfl rfl (by simp [BitVec.extractLsb'_or, put_top_zero, putB_top_zero, put_top])

theorem fcpys (cond : Cond) (dBit : Bool) (fd : BitVec 4) (mBit : Bool) (fm : BitVec 4) :
    Statement (.fcpys cond dBit fd mBit fm) :=
  of_cond rfl rfl (by simp [BitVec.extractLsb'_or, put_top_zero, putB_top_zero, put_top])

theorem fcpyd (cond : Cond) (fd : BitVec 4) (fm : BitVec 4) :
    Statement (.fcpyd cond fd fm) :=
  of_cond rfl rfl (by simp [BitVec.extractLsb'_or, put_top_zero, putB_top_zero, put_top])

theorem fabss (cond : Cond) (dBit : Bool) (fd : BitVec 4) (mBit : Bool) (fm : BitVec 4) :
    Statement (.fabss cond dBit fd mBit fm) :=
  of_cond rfl rfl (by simp [BitVec.extractLsb'_or, put_top_zero, putB_top_zero, put_top])

theorem fabsd (cond : Cond) (fd : BitVec 4) (fm : BitVec 4) :
    Statement (.fabsd cond fd fm) :=
  of_cond rfl rfl (by simp [BitVec.extractLsb'_or, put_top_zero, putB_top_zero, put_top])

theorem fnegs (cond : Cond) (dBit : Bool) (fd : BitVec 4) (mBit : Bool) (fm : BitVec 4) :
    Statement (.fnegs cond dBit fd mBit fm) :=
  of_cond rfl rfl (by simp [BitVec.extractLsb'_or, put_top_zero, putB_top_zero, put_top])

theorem fnegd (cond : Cond) (fd : BitVec 4) (fm : BitVec 4) :
    Statement (.fnegd cond fd fm) :=
  of_cond rfl rfl (by simp [BitVec.extractLsb'_or, put_top_zero, putB_top_zero, put_top])

theorem fsqrts (cond : Cond) (dBit : Bool) (fd : BitVec 4) (mBit : Bool) (fm : BitVec 4) :
    Statement (.fsqrts cond dBit fd mBit fm) :=
  of_cond rfl rfl (by simp [BitVec.extractLsb'_or, put_top_zero, putB_top_zero, put_top])

theorem fsqrtd (cond : Cond) (fd : BitVec 4) (fm : BitVec 4) :
    Statement (.fsqrtd cond fd fm) :=
  of_cond rfl rfl (by simp [BitVec.extractLsb'_or, put_top_zero, putB_top_zero, put_top])

theorem fcmps (cond : Cond) (dBit : Bool) (fd : BitVec 4) (mBit : Bool) (fm : BitVec 4) :
    Statement (.fcmps cond dBit fd mBit fm) :=
  of_cond rfl rfl (by simp [BitVec.extractLsb'_or, put_top_zero, putB_top_zero, put_top])

theorem fcmpd (cond : Cond) (fd : BitVec 4) (fm : BitVec 4) :
    Statement (.fcmpd cond fd fm) :=
  of_cond rfl rfl (by simp [BitVec.extractLsb'_or, put_top_zero, putB_top_zero, put_top])

theorem fcmpes (cond : Cond) (dBit : Bool) (fd : BitVec 4) (mBit : Bool) (fm : BitVec 4) :
    Statement (.fcmpes cond dBit fd mBit fm) :=
  of_cond rfl rfl (by simp [BitVec.extractLsb'_or, put_top_zero, putB_top_zero, put_top])

theorem fcmped (cond : Cond) (fd : BitVec 4) (fm : BitVec 4) :
    Statement (.fcmped cond fd fm) :=
  of_cond rfl rfl (by simp [BitVec.extractLsb'_or, put_top_zero, putB_top_zero, put_top])

theorem fcmpzs (cond : Cond) (dBit : Bool) (fd : BitVec 4) :
    Statement (.fcmpzs cond dBit fd) :=
  of_cond rfl rfl (by simp [BitVec.extractLsb'_or, put_top_zero, putB_top_zero, put_top])

theorem fcmpzd (cond : Cond) (fd : BitVec 4) :
    Statement (.fcmpzd cond fd) :=
  of_cond rfl rfl (by simp [BitVec.extractLsb'_or, put_top_zero, putB_top_zero, put_top])

theorem fcmpezs (cond : Cond) (dBit : Bool) (fd : BitVec 4) :
    Statement (.fcmpezs cond dBit fd) :=
  of_cond rfl rfl (by simp [BitVec.extractLsb'_or, put_top_zero, putB_top_zero, put_top])

theorem fcmpezd (cond : Cond) (fd : BitVec 4) :
    Statement (.fcmpezd cond fd) :=
  of_cond rfl rfl (by simp [BitVec.extractLsb'_or, put_top_zero, putB_top_zero, put_top])

theorem fcvtds (cond : Cond) (fd : BitVec 4) (mBit : Bool) (fm : BitVec 4) :
    Statement (.fcvtds cond fd mBit fm) :=
  of_cond rfl rfl (by simp [BitVec.extractLsb'_or, put_top_zero, putB_top_zero, put_top])

theorem fcvtsd (cond : Cond) (dBit : Bool) (fd : BitVec 4) (fm : BitVec 4) :
    Statement (.fcvtsd cond dBit fd fm) :=
  of_cond rfl rfl (by simp [BitVec.extractLsb'_or, put_top_zero, putB_top_zero, put_top])

theorem fuitos (cond : Cond) (dBit : Bool) (fd : BitVec 4) (mBit : Bool) (fm : BitVec 4) :
    Statement (.fuitos cond dBit fd mBit fm) :=
  of_cond rfl rfl (by simp [BitVec.extractLsb'_or, put_top_zero, putB_top_zero, put_top])

theorem fuitod (cond : Cond) (fd : BitVec 4) (mBit : Bool) (fm : BitVec 4) :
    Statement (.fuitod cond fd mBit fm) :=
  of_cond rfl rfl (by simp [BitVec.extractLsb'_or, put_top_zero, putB_top_zero, put_top])

theorem fsitos (cond : Cond) (dBit : Bool) (fd : BitVec 4) (mBit : Bool) (fm : BitVec 4) :
    Statement (.fsitos cond dBit fd mBit fm) :=
  of_cond rfl rfl (by simp [BitVec.extractLsb'_or, put_top_zero, putB_top_zero, put_top])

theorem fsitod (cond : Cond) (fd : BitVec 4) (mBit : Bool) (fm : BitVec 4) :
    Statement (.fsitod cond fd mBit fm) :=
  of_cond rfl rfl (by simp [BitVec.extractLsb'_or, put_top_zero, putB_top_zero, put_top])

theorem ftouis (cond : Cond) (dBit : Bool) (fd : BitVec 4) (mBit : Bool) (fm : BitVec 4) :
    Statement (.ftouis cond dBit fd mBit fm) :=
  of_cond rfl rfl (by simp [BitVec.extractLsb'_or, put_top_zero, putB_top_zero, put_top])

theorem ftouid (cond : Cond) (dBit : Bool) (fd : BitVec 4) (fm : BitVec 4) :
    Statement (.ftouid cond dBit fd fm) :=
  of_cond rfl rfl (by simp [BitVec.extractLsb'_or, put_top_zero, putB_top_zero, put_top])

theorem ftouizs (cond : Cond) (dBit : Bool) (fd : BitVec 4) (mBit : Bool) (fm : BitVec 4) :
    Statement (.ftouizs cond dBit fd mBit fm) :=
  of_cond rfl rfl (by simp [BitVec.extractLsb'_or, put_top_zero, putB_top_zero, put_top])

theorem ftouizd (cond : Cond) (dBit : Bool) (fd : BitVec 4) (fm : BitVec 4) :
    Statement (.ftouizd cond dBit fd fm) :=
  of_cond rfl rfl (by simp [BitVec.extractLsb'_or, put_top_zero, putB_top_zero, put_top])

theorem ftosis (cond : Cond) (dBit : Bool) (fd : BitVec 4) (mBit : Bool) (fm : BitVec 4) :
    Statement (.ftosis cond dBit fd mBit fm) :=
  of_cond rfl rfl (by simp [BitVec.extractLsb'_or, put_top_zero, putB_top_zero, put_top])

theorem ftosid (cond : Cond) (dBit : Bool) (fd : BitVec 4) (fm : BitVec 4) :
    Statement (.ftosid cond dBit fd fm) :=
  of_cond rfl rfl (by simp [BitVec.extractLsb'_or, put_top_zero, putB_top_zero, put_top])

theorem ftosizs (cond : Cond) (dBit : Bool) (fd : BitVec 4) (mBit : Bool) (fm : BitVec 4) :
    Statement (.ftosizs cond dBit fd mBit fm) :=
  of_cond rfl rfl (by simp [BitVec.extractLsb'_or, put_top_zero, putB_top_zero, put_top])

theorem ftosizd (cond : Cond) (dBit : Bool) (fd : BitVec 4) (fm : BitVec 4) :
    Statement (.ftosizd cond dBit fd fm) :=
  of_cond rfl rfl (by simp [BitVec.extractLsb'_or, put_top_zero, putB_top_zero, put_top])

theorem flds (cond : Cond) (u : Bool) (dBit : Bool) (rn : BitVec 4) (fd : BitVec 4) (off8 : BitVec 8) :
    Statement (.flds cond u dBit rn fd off8) :=
  of_cond rfl rfl (by simp [BitVec.extractLsb'_or, put_top_zero, putB_top_zero, put_top])

theorem fldd (cond : Cond) (u : Bool) (rn : BitVec 4) (fd : BitVec 4) (off8 : BitVec 8) :
    Statement (.fldd cond u rn fd off8) :=
  of_cond rfl rfl (by simp [BitVec.extractLsb'_or, put_top_zero, putB_top_zero, put_top])

theorem fsts (cond : Cond) (u : Bool) (dBit : Bool) (rn : BitVec 4) (fd : BitVec 4) (off8 : BitVec 8) :
    Statement (.fsts cond u dBit rn fd off8) :=
  of_cond rfl rfl (by simp [BitVec.extractLsb'_or, put_top_zero, putB_top_zero, put_top])

theorem fstd (cond : Cond) (u : Bool) (rn : BitVec 4) (fd : BitVec 4) (off8 : BitVec 8) :
    Statement (.fstd cond u rn fd off8) :=
  of_cond rfl rfl (by simp [BitVec.extractLsb'_or, put_top_zero, putB_top_zero, put_top])

theorem fldmsIa (cond : Cond) (dBit : Bool) (rn : BitVec 4) (fd : BitVec 4) (off8 : BitVec 8) :
    Statement (.fldmsIa cond dBit rn fd off8) :=
  of_cond rfl rfl (by simp [BitVec.extractLsb'_or, put_top_zero, putB_top_zero, put_top])

theorem fldmdxIa (cond : Cond) (rn : BitVec 4) (fd : BitVec 4) (off8 : BitVec 8) :
    Statement (.fldmdxIa cond rn fd off8) :=
  of_cond rfl rfl (by simp [BitVec.extractLsb'_or, put_top_zero, putB_top_zero, put_top])

theorem fldmsIaW (cond : Cond) (dBit : Bool) (rn : BitVec 4) (fd : BitVec 4) (off8 : BitVec 8) :
    Statement (.fldmsIaW cond dBit rn fd off8) :=
  of_cond rfl rfl (by simp [BitVec.extractLsb'_or, put_top_zero, putB_top_zero, put_top])

theorem fldmdxIaW (cond : Cond) (rn : BitVec 4) (fd : BitVec 4) (off8 : BitVec 8) :
    Statement (.fldmdxIaW cond rn fd off8) :=
  of_cond rfl rfl (by simp [BitVec.extractLsb'_or, put_top_zero, putB_top_zero, put_top])

theorem fldmsDbW (cond : Cond) (dBit : Bool) (rn : BitVec 4) (fd : BitVec 4) (off8 : BitVec 8) :
    Statement (.fldmsDbW cond dBit rn fd off8) :=
  of_cond rfl rfl (by simp [BitVec.extractLsb'_or, put_top_zero, putB_top_zero, put_top])

theorem fldmdxDbW (cond : Cond) (rn : BitVec 4) (fd : BitVec 4) (off8 : BitVec 8) :
    Statement (.fldmdxDbW cond rn fd off8) :=
  of_cond rfl rfl (by simp [BitVec.extractLsb'_or, put_top_zero, putB_top_zero, put_top])

theorem fstmsIa (cond : Cond) (dBit : Bool) (rn : BitVec 4) (fd : BitVec 4) (off8 : BitVec 8) :
    Statement (.fstmsIa cond dBit rn fd off8) :=
  of_cond rfl rfl (by simp [BitVec.extractLsb'_or, put_top_zero, putB_top_zero, put_top])

theorem fstmdxIa (cond : Cond) (rn : BitVec 4) (fd : BitVec 4) (off8 : BitVec 8) :
    Statement (.fstmdxIa cond rn fd off8) :=
  of_cond rfl rfl (by simp [BitVec.extractLsb'_or, put_top_zero, putB_top_zero, put_top])

theorem fstmsIaW (cond : Cond) (dBit : Bool) (rn : BitVec 4) (fd : BitVec 4) (off8 : BitVec 8) :
    Statement (.fstmsIaW cond dBit rn fd off8) :=
  of_cond rfl rfl (by simp [BitVec.extractLsb'_or, put_top_zero, putB_top_zero, put_top])

theorem fstmdxIaW (cond : Cond) (rn : BitVec 4) (fd : BitVec 4) (off8 : BitVec 8) :
    Statement (.fstmdxIaW cond rn fd off8) :=
  of_cond rfl rfl (by simp [BitVec.extractLsb'_or, put_top_zero, putB_top_zero, put_top])

theorem fstmsDbW (cond : Cond) (dBit : Bool) (rn : BitVec 4) (fd : BitVec 4) (off8 : BitVec 8) :
    Statement (.fstmsDbW cond dBit rn fd off8) :=
  of_cond rfl rfl (by simp [BitVec.extractLsb'_or, put_top_zero, putB_top_zero, put_top])

theorem fstmdxDbW (cond : Cond) (rn : BitVec 4) (fd : BitVec 4) (off8 : BitVec 8) :
    Statement (.fstmdxDbW cond rn fd off8) :=
  of_cond rfl rfl (by simp [BitVec.extractLsb'_or, put_top_zero, putB_top_zero, put_top])

theorem fmsr (cond : Cond) (fn : BitVec 4) (rd : BitVec 4) (nBit : Bool) :
    Statement (.fmsr cond fn rd nBit) :=
  of_cond rfl rfl (by simp [BitVec.extractLsb'_or, put_top_zero, putB_top_zero, put_top])

theorem fmrs (cond : Cond) (fn : BitVec 4) (rd : BitVec 4) (nBit : Bool) :
    Statement (.fmrs cond fn rd nBit) :=
  of_cond rfl rfl (by simp [BitVec.extractLsb'_or, put_top_zero, putB_top_zero, put_top])

theorem fmdlr (cond : Cond) (fn : BitVec 4) (rd : BitVec 4) :
    Statement (.fmdlr cond fn rd) :=
  of_cond rfl rfl (by simp [BitVec.extractLsb'_or, put_top_zero, putB_top_zero, put_top])

theorem fmrdl (cond : Cond) (fn : BitVec 4) (rd : BitVec 4) :
    Statement (.fmrdl cond fn rd) :=
  of_cond rfl rfl (by simp [BitVec.extractLsb'_or, put_top_zero, putB_top_zero, put_top])

theorem fmdhr (cond : Cond) (fn : BitVec 4) (rd : BitVec 4) :
    Statement (.fmdhr cond fn rd) :=
  of_cond rfl rfl (by simp [BitVec.extractLsb'_or, put_top_zero, putB_top_zero, put_top])

theorem fmrdh (cond : Cond) (fn : BitVec 4) (rd : BitVec 4) :
    Statement (.fmrdh cond fn rd) :=
  of_cond rfl rfl (by simp [BitVec.extractLsb'_or, put_top_zero, putB_top_zero, put_top])

theorem fmxr (cond : Cond) (reg : BitVec 4) (rd : BitVec 4) :
    Statement (.fmxr cond reg rd) :=
  of_cond rfl rfl (by simp [BitVec.extractLsb'_or, put_top_zero, putB_top_zero, put_top])

theorem fmstat (cond : Cond) :
    Statement (.fmstat cond) :=
  of_cond rfl rfl (by simp [BitVec.extractLsb'_or, put_top_zero, putB_top_zero, put_top])

theorem fmrx (cond : Cond) (reg : BitVec 4) (rd : BitVec 4) :
    Statement (.fmrx cond reg rd) :=
  of_cond rfl rfl (by simp [BitVec.extractLsb'_or, put_top_zero, putB_top_zero, put_top])

theorem fmdrr (cond : Cond) (rn : BitVec 4) (rd : BitVec 4) (dm : BitVec 4) :
    Statement (.fmdrr cond rn rd dm) :=
  of_cond rfl rfl (by simp [BitVec.extractLsb'_or, put_top_zero, putB_top_zero, put_top])

theorem fmrrd (cond : Cond) (rn : BitVec 4) (rd : BitVec 4) (dm : BitVec 4) :
    Statement (.fmrrd cond rn rd dm) :=
  of_cond rfl rfl (by simp [BitVec.extractLsb'_or, put_top_zero, putB_top_zero, put_top])

theorem fmsrr (cond : Cond) (rn : BitVec 4) (rd : BitVec 4) (mBit : Bool) (sm : BitVec 4) :
    Statement (.fmsrr cond rn rd mBit sm) :=
  of_cond rfl rfl (by simp [BitVec.extractLsb'_or, put_top_zero, putB_top_zero, put_top])

theorem fmrrs (cond : Cond) (rn : BitVec 4) (rd : BitVec 4) (mBit : Bool) (sm : BitVec 4) :
    Statement (.fmrrs cond rn rd mBit sm) :=
  of_cond rfl rfl (by simp [BitVec.extractLsb'_or, put_top_zero, putB_top_zero, put_top])

theorem cdp (cond : Cond) (opc1 : BitVec 4) (cRn : BitVec 4) (cRd : BitVec 4) (cpNum : BitVec 4) (opc2 : BitVec 3) (cRm : BitVec 4) :
    Statement (.cdp cond opc1 cRn cRd cpNum opc2 cRm) :=
  of_cond rfl rfl (by simp [BitVec.extractLsb'_or, put_top_zero, putB_top_zero, put_top])

theorem mcr (cond : Cond) (opc1 : BitVec 3) (cRn : BitVec 4) (rd : BitVec 4) (cpNum : BitVec 4) (opc2 : BitVec 3) (cRm : BitVec 4) :
    Statement (.mcr cond opc1 cRn rd cpNum opc2 cRm) :=
  of_cond rfl rfl (by simp [BitVec.extractLsb'_or, put_top_zero, putB_top_zero, put_top])

theorem mrc (cond : Cond) (opc1 : BitVec 3) (cRn : BitVec 4) (rd : BitVec 4) (cpNum : BitVec 4) (opc2 : BitVec 3) (cRm : BitVec 4) :
    Statement (.mrc cond opc1 cRn rd cpNum opc2 cRm) :=
  of_cond rfl rfl (by simp [BitVec.extractLsb'_or, put_top_zero, putB_top_zero, put_top])

theorem mcrr (cond : Cond) (rn : BitVec 4) (rd : BitVec 4) (cpNum : BitVec 4) (opc : BitVec 4) (cRm : BitVec 4) :
    Statement (.mcrr cond rn rd cpNum opc cRm) :=
  of_cond rfl rfl (by simp [BitVec.extractLsb'_or, put_top_zero, putB_top_zero, put_top])

theorem mrrc (cond : Cond) (rn : BitVec 4) (rd : BitVec 4) (cpNum : BitVec 4) (opc : BitVec 4) (cRm : BitVec 4) :
    Statement (.mrrc cond rn rd cpNum opc cRm) :=
  of_cond rfl rfl (by simp [BitVec.extractLsb'_or, put_top_zero, putB_top_zero, put_top])

theorem undefCop (cond : Cond) (l : Bool) (raw : BitVec 20) :
    Statement (.undefCop cond l raw) :=
  of_cond rfl rfl (by simp [BitVec.extractLsb'_or, put_top_zero, putB_top_zero, put_top])

theorem ldc (cond : Cond) (p : Bool) (u : Bool) (nBit : Bool) (w : Bool) (rn : BitVec 4) (cRd : BitVec 4) (cpNum : BitVec 4) (off8 : BitVec 8) :
    Statement (.ldc cond p u nBit w rn cRd cpNum off8) :=
  of_cond rfl rfl (by simp [BitVec.extractLsb'_or, put_top_zero, putB_top_zero, put_top])

theorem stc (cond : Cond) (p : Bool) (u : Bool) (nBit : Bool) (w : Bool) (rn : BitVec 4) (cRd : BitVec 4) (cpNum : BitVec 4) (off8 : BitVec 8) :
    Statement (.stc cond p u nBit w rn cRd cpNum off8) :=
  of_cond rfl rfl (by simp [BitVec.extractLsb'_or, put_top_zero, putB_top_zero, put_top])

theorem tLslImm (imm5 : BitVec 5) (rm : BitVec 3) (rd : BitVec 3) :
    Statement (.tLslImm imm5 rm rd) :=
  trivial

theorem tLsrImm (imm5 : BitVec 5) (rm : BitVec 3) (rd : BitVec 3) :
    Statement (.tLsrImm imm5 rm rd) :=
  trivial

theorem tAsrImm (imm5 : BitVec 5) (rm : BitVec 3) (rd : BitVec 3) :
    Statement (.tAsrImm imm5 rm rd) :=
  trivial

theorem tAddReg3 (rm : BitVec 3) (rn : BitVec 3) (rd : BitVec 3) :
    Statement (.tAddReg3 rm rn rd) :=
  trivial

theorem tSubReg3 (rm : BitVec 3) (rn : BitVec 3) (rd : BitVec 3) :
    Statement (.tSubReg3 rm rn rd) :=
  trivial

theorem tMovLow (rm : BitVec 3) (rd : BitVec 3) :
    Statement (.tMovLow rm rd) :=
  trivial

theorem tAddImm3 (imm3 : BitVec 3) (rn : BitVec 3) (rd : BitVec 3) :
    Statement (.tAddImm3 imm3 rn rd) :=
  trivial

theorem tSubImm3 (imm3 : BitVec 3) (rn : BitVec 3) (rd : BitVec 3) :
    Statement (.tSubImm3 imm3 rn rd) :=
  trivial

theorem tMovImm8 (rd : BitVec 3) (imm8 : BitVec 8) :
    Statement (.tMovImm8 rd imm8) :=
  trivial

theorem tCmpImm8 (rn : BitVec 3) (imm8 : BitVec 8) :
    Statement (.tCmpImm8 rn imm8) :=
  trivial

theorem tAddImm8 (rd : BitVec 3) (imm8 : BitVec 8) :
    Statement (.tAddImm8 rd imm8) :=
  trivial

theorem tSubImm8 (rd : BitVec 3) (imm8 : BitVec 8) :
    Statement (.tSubImm8 rd imm8) :=
  trivial

theorem tAndReg (rm : BitVec 3) (rd : BitVec 3) :
    Statement (.tAndReg rm rd) :=
  trivial

theorem tEorReg (rm : BitVec 3) (rd : BitVec 3) :
    Statement (.tEorReg rm rd) :=
  trivial

theorem tLslReg (rm : BitVec 3) (rd : BitVec 3) :
    Statement (.tLslReg rm rd) :=
  trivial

theorem tLsrReg (rm : BitVec 3) (rd : BitVec 3) :
    Statement (.tLsrReg rm rd) :=
  trivial

theorem tAsrReg (rm : BitVec 3) (rd : BitVec 3) :
    Statement (.tAsrReg rm rd) :=
  trivial

theorem tAdcReg (rm : BitVec 3) (rd : BitVec 3) :
    Statement (.tAdcReg rm rd) :=
  trivial

theorem tSbcReg (rm : BitVec 3) (rd : BitVec 3) :
    Statement (.tSbcReg rm rd) :=
  trivial

theorem tRorReg (rm : BitVec 3) (rd : BitVec 3) :
    Statement (.tRorReg rm rd) :=
  trivial

theorem tTstReg (rm : BitVec 3) (rd : BitVec 3) :
    Statement (.tTstReg rm rd) :=
  trivial

theorem tNegReg (rm : BitVec 3) (rd : BitVec 3) :
    Statement (.tNegReg rm rd) :=
  trivial

theorem tCmpReg (rm : BitVec 3) (rd : BitVec 3) :
    Statement (.tCmpReg rm rd) :=
  trivial

theorem tCmnReg (rm : BitVec 3) (rd : BitVec 3) :
    Statement (.tCmnReg rm rd) :=
  trivial

theorem tOrrReg (rm : BitVec 3) (rd : BitVec 3) :
    Statement (.tOrrReg rm rd) :=
  trivial

theorem tMulReg (rm : BitVec 3) (rd : BitVec 3) :
    Statement (.tMulReg rm rd) :=
  trivial

theorem tBicReg (rm : BitVec 3) (rd : BitVec 3) :
    Statement (.tBicReg rm rd) :=
  trivial

theorem tMvnReg (rm : BitVec 3) (rd : BitVec 3) :
    Statement (.tMvnReg rm rd) :=
  trivial

theorem tAddHigh (h1 : Bool) (h2 : Bool) (rm : BitVec 3) (rd : BitVec 3) :
    Statement (.tAddHigh h1 h2 rm rd) :=
  trivial

theorem tCmpHigh (h1 : Bool) (h2 : Bool) (rm : BitVec 3) (rn : BitVec 3) :
    Statement (.tCmpHigh h1 h2 rm rn) :=
  trivial

theorem tMovHigh (h1 : Bool) (h2 : Bool) (rm : BitVec 3) (rd : BitVec 3) :
    Statement (.tMovHigh h1 h2 rm rd) :=
  trivial

theorem tBx (h2 : Bool) (rm : BitVec 3) :
    Statement (.tBx h2 rm) :=
  trivial

theorem tBlx2 (h2 : Bool) (rm : BitVec 3) :
    Statement (.tBlx2 h2 rm) :=
  trivial

theorem tLdrPc (rd : BitVec 3) (imm8 : BitVec 8) :
    Statement (.tLdrPc rd imm8) :=
  trivial

theorem tStrReg (rm : BitVec 3) (rn : BitVec 3) (rd : BitVec 3) :
    Statement (.tStrReg rm rn rd) :=
  trivial

theorem tStrhReg (rm : BitVec 3) (rn : BitVec 3) (rd : BitVec 3) :
    Statement (.tStrhReg rm rn rd) :=
  trivial

theorem tStrbReg (rm : BitVec 3) (rn : BitVec 3) (rd : BitVec 3) :
    Statement (.tStrbReg rm rn rd) :=
  trivial

theorem tLdrsbReg (rm : BitVec 3) (rn : BitVec 3) (rd : BitVec 3) :
    Statement (.tLdrsbReg rm rn rd) :=
  trivial

theorem tLdrReg (rm : BitVec 3) (rn : BitVec 3) (rd : BitVec 3) :
    Statement (.tLdrReg rm rn rd) :=
  trivial

theorem tLdrhReg (rm : BitVec 3) (rn : BitVec 3) (rd : BitVec 3) :
    Statement (.tLdrhReg rm rn rd) :=
  trivial

theorem tLdrbReg (rm : BitVec 3) (rn : BitVec 3) (rd : BitVec 3) :
    Statement (.tLdrbReg rm rn rd) :=
  trivial

theorem tLdrshReg (rm : BitVec 3) (rn : BitVec 3) (rd : BitVec 3) :
    Statement (.tLdrshReg rm rn rd) :=
  trivial

theorem tStrImm (imm5 : BitVec 5) (rn : BitVec 3) (rd : BitVec 3) :
    Statement (.tStrImm imm5 rn rd) :=
  trivial

theorem tLdrImm (imm5 : BitVec 5) (rn : BitVec 3) (rd : BitVec 3) :
    Statement (.tLdrImm imm5 rn rd) :=
  trivial

theorem tStrbImm (imm5 : BitVec 5) (rn : BitVec 3) (rd : BitVec 3) :
    Statement (.tStrbImm imm5 rn rd) :=
  trivial

theorem tLdrbImm (imm5 : BitVec 5) (rn : BitVec 3) (rd : BitVec 3) :
    Statement (.tLdrbImm imm5 rn rd) :=
  trivial

theorem tStrhImm (imm5 : BitVec 5) (rn : BitVec 3) (rd : BitVec 3) :
    Statement (.tStrhImm imm5 rn rd) :=
  trivial

theorem tLdrhImm (imm5 : BitVec 5) (rn : BitVec 3) (rd : BitVec 3) :
    Statement (.tLdrhImm imm5 rn rd) :=
  trivial

theorem tStrSp (rd : BitVec 3) (imm8 : BitVec 8) :
    Statement (.tStrSp rd imm8) :=
  trivial

theorem tLdrSp (rd : BitVec 3) (imm8 : BitVec 8) :
    Statement (.tLdrSp rd imm8) :=
  trivial

theorem tAddPc (rd : BitVec 3) (imm8 : BitVec 8) :
    Statement (.tAddPc rd imm8) :=
  trivial

theorem tAddSpImm (rd : BitVec 3) (imm8 : BitVec 8) :
    Statement (.tAddSpImm rd imm8) :=
  trivial

theorem tAddToSp (imm7 : BitVec 7) :
    Statement (.tAddToSp imm7) :=
  trivial

theorem tSubFromSp (imm7 : BitVec 7) :
    Statement (.tSubFromSp imm7) :=
  trivial

theorem tSxth (rm : BitVec 3) (rd : BitVec 3) :
    Statement (.tSxth rm rd) :=
  trivial

theorem tSxtb (rm : BitVec 3) (rd : BitVec 3) :
    Statement (.tSxtb rm rd) :=
  trivial

theorem tUxth (rm : BitVec 3) (rd : BitVec 3) :
    Statement (.tUxth rm rd) :=
  trivial

theorem tUxtb (rm : BitVec 3) (rd : BitVec 3) :
    Statement (.tUxtb rm rd) :=
  trivial

theorem tPush (rBit : Bool) (regs : BitVec 8) :
    Statement (.tPush rBit regs) :=
  trivial

theorem tSetend (eBit : Bool) :
    Statement (.tSetend eBit) :=
  trivial

theorem tCps (imod : Bool) (aBit : Bool) (iBit : Bool) (fBit : Bool) :
    Statement (.tCps imod aBit iBit fBit) :=
  trivial

theorem tRev (rm : BitVec 3) (rd : BitVec 3) :
    Statement (.tRev rm rd) :=
  trivial

theorem tRev16 (rm : BitVec 3) (rd : BitVec 3) :
    Statement (.tRev16 rm rd) :=
  trivial

theorem tRevsh (rm : BitVec 3) (rd : BitVec 3) :
    Statement (.tRevsh rm rd) :=
  trivial

theorem tPop (rBit : Bool) (regs : BitVec 8) :
    Statement (.tPop rBit regs) :=
  trivial

theorem tBkpt (imm8 : BitVec 8) :
    Statement (.tBkpt imm8) :=
  trivial

theorem tStmia (rn : BitVec 3) (regs : BitVec 8) :
    Statement (.tStmia rn regs) :=
  trivial

theorem tLdmia (rn : BitVec 3) (regs : BitVec 8) :
    Statement (.tLdmia rn regs) :=
  trivial

theorem tUndef (raw : BitVec 8) :
    Statement (.tUndef raw) :=
  trivial

theorem tSvc (imm8 : BitVec 8) :
    Statement (.tSvc imm8) :=
  trivial

theorem tBCond (cond : Cond) (simm8 : BitVec 8) :
    Statement (.tBCond cond simm8) :=
  by
  show (0xD000#16 ||| puth 8 cond.bits ||| puth 0 simm8).extractLsb' 8 4 = cond.bits
  revert simm8; cases cond <;> decide +kernel

theorem tB (simm11 : BitVec 11) :
    Statement (.tB simm11) :=
  trivial

theorem tBlxSuffix (off11 : BitVec 10) :
    Statement (.tBlxSuffix off11) :=
  trivial

theorem tUndefBlx (raw : BitVec 10) :
    Statement (.tUndefBlx raw) :=
  trivial

theorem tBlPrefix (off11 : BitVec 11) :
    Statement (.tBlPrefix off11) :=
  trivial

theorem tBlSuffix (off11 : BitVec 11) :
    Statement (.tBlSuffix off11) :=
  trivial

end Sys2Proof.Laws.Encoding
end

