-- ==== Sys2Proof/Laws/Step.lean ====
section
/-! SUPPORT. What a step is in a settled state (`State.settled`), and what a fetch gives in the plain memory setting: the ways from the
statements about `exec` to statements about `step`. -/

namespace Sys2Proof.Machine

open Sys2Proof

/-- The start of a step keeps the setting. -/
theorem settled_begun {s : State} (h : s.settled) : s.begun.settled :=
  ⟨h.noReset, h.noPowerOn, h.noVfpReset, h.noInput, h.noScan, h.noItr, h.noHalt, h.noRequest, h.noAbort, h.noEntry, h.noWatch, h.awake,
    h.mode⟩

/-- The start of a step keeps the plain setting. -/
theorem plainMemory_begun {s : State} (h : s.plainMemory) : s.begun.plainMemory :=
  ⟨h.noDebug, h.noForcing, h.form, h.mmuOff, h.notBe32, h.noRemap, h.quietBus, h.noPort, h.complete, h.tcmsOff,
    h.noEtm⟩

/-- With nothing from the pins and the DBGTAP a step is the core's, then what goes on beside it. -/
theorem step_settled {s : State} (h : s.settled) : step s = finish (coreStep s.begun >>= background) := by
  have h' := settled_begun h
  have hv : vfpPin s.begun = s.begun := by simp [vfpPin, h'.noVfpReset]
  have ht : tapStep s.begun = .ok s.begun := by simp [tapStep, tapProgress, h'.noScan, h'.noItr, h'.noInput]
  simp [step, machineStep, h.noReset, h.noPowerOn, hv, ht, bind, Except.bind]

/-- No abort is on its way. -/
theorem deliverAborts_none {s : State} (h : s.inflight = []) : deliverAborts s = s := by
  unfold deliverAborts
  rw [h]
  simp only [deliverSome]
  rw [← h]

/-- No Halt request is pending. -/
theorem withdrawHalt_none {s : State} (h : s.dbg.haltPending = false) : withdrawHalt s = s := by
  unfold withdrawHalt
  rw [← h]

/-- The core's step is what the core does. -/
theorem coreStep_settled {s : State} (h : s.settled) : coreStep s = (conclude (coreActs s) >>= fun t => pure (withdrawHalt t)) := by
  simp [coreStep, h.mode, deliverAborts_none h.noAbort, h.noEntry]

/-- A running core takes an interrupt or runs an instruction. -/
theorem coreActs_settled {s : State} (h : s.settled) (hh : s.halted = false) (hj : (s.jazelle && !s.thumb) = false) :
    coreActs s = (interruptTaken s).elim (runInstruction s) fun k => .ok (takeInterrupt k s) := by
  simp only [coreActs, hh, h.awake, coreRuns, h.noEntry, hj, Bool.false_eq_true, if_false]
  simp only [h.noWatch, coreGoesOn, haltAsked, h.noRequest, h.noHalt, Bool.or_self, Bool.false_and, Bool.false_eq_true, if_false]
  cases interruptTaken s <;> rfl

/-- With no debug permission there is no debug event on a fetch. -/
theorem fetchDebugEvent_none {s : State} (h : s.pins.dbgen = false) (mva : Word) (n : Nat) : fetchDebugEvent s mva n = .ok none := by
  simp [fetchDebugEvent, State.eventMode, State.debugPermitted, h]

/-- The address of an instruction that is aligned for its state. -/
theorem fetchAddress_of_aligned {s : State} (hj : bit s.cpsr 24 = false) (ha : s.pc.toNat % (if s.thumb then 2 else 4) = 0) :
    s.fetchAddress = s.pc := by
  unfold State.fetchAddress alignFor
  have : s.jazelle = false := hj
  cases ht : s.thumb <;> simp only [ht, if_true, Bool.false_eq_true, if_false, this] at ha ⊢
  · exact align4_of_aligned ha
  · exact align2_of_aligned ha

/-- A byte that nothing has been stored to, and that no line of the Data Cache holds dirty, has one value for a fetch. -/
theorem fetchAlternatives_nil {s : State} (h : s.stale = []) (hd : ∀ l ∈ s.dcache, l.dirty = false) (p : Place) (a : Nat) :
    fetchAlternatives s p a = [] := by
  have hn : ∀ l ∈ validLines s .data, ∀ i, l.dirtyAt i = false := by
    intro l hl i
    have := hd l (List.mem_of_mem_filter hl)
    simp only [CacheLine.dirty, Bool.or_eq_false_iff] at this
    simp [CacheLine.dirtyAt, this]
  simp only [fetchAlternatives, h, List.filter_nil, List.isEmpty_nil, if_true, List.nil_append, List.filterMap_eq_nil_iff]
  intro l hl
  simp [hn l hl]

/-- Such bytes are seen as they are. -/
theorem observeBytes_nil {s : State} (h : s.stale = []) (hd : ∀ l ∈ s.dcache, l.dirty = false) (p : Place) (l : List (Nat × Byte)) :
    observeBytes p l s = (l.map (·.2), s) := by
  induction l with
  | nil => rfl
  | cons x l ih => simp [observeBytes, observeByte, fetchAlternatives_nil h hd, chooseByte, ih]

/-- In the plain setting, with the Instruction Cache off and nothing that may be seen with an old value, a fetch gives the bytes at the
pc. -/
theorem fetch_plain {s : State} (h : s.plainMemory) (hi : s.controlBit 12 = false) (hs : s.stale = [])
    (hd : ∀ l ∈ s.dcache, l.dirty = false) (ho : s.oldFetch = []) (hj : bit s.cpsr 24 = false) (ha : s.pc.toNat % (if s.thumb then 2 else 4) = 0) :
    fetch s = .ok ((List.range s.fetchSize).map (s.memByte s.pc), s) := by
  have hm : bit (s.cp15.control s.nsState) 0 = false := h.mmuOff
  have hr : bit (s.cp15.control s.nsState) 28 = false := h.noRemap
  have hb : bit (s.cp15.control s.nsState) 7 = false := h.notBe32
  have hi : bit (s.cp15.control s.nsState) 12 = false := hi
  have hl := locate_plain h s.nsState true (s.mva s.pc)
  let r := fetchRequest s.cp15 s.mode s
  have hns : r.ns = s.nsState := rfl
  have hmva : r.mva = s.mva s.pc := by
    show fcse _ s.fetchAddress = _
    rw [fetchAddress_of_aligned hj ha]; rfl
  have ht : translate s.cp15 true r s = .ok (plainTranslation s s.pc, s) := by
    simp [translate, hns, hm, makeTranslation, hmva, hl.1, hl.2, flatAttrs, hr, hi, plainTranslation, MemAttrs.stronglyOrdered,
      show r.fetch = true from rfl]
  have hc : icacheUsed s.cp15 r (plainTranslation s s.pc) = false := by simp [icacheUsed, hns, hi]
  have hf : fetchAt s.cp15 r (plainTranslation s s.pc) s = .ok (.ok ((List.range s.fetchSize).map (s.memByte s.pc)), s) := by
    simp only [fetchAt, hc, (noError_plain h _ _).2, readData_plain h, hns, hb, observeBytes_nil hs hd, Bool.false_eq_true, if_false, List.map_map]
    unfold fetchBytes State.fetchSize
    cases s.thumb <;> rfl
  have hk : refuseIf (conflictingAttrs s.cp15 (plainTranslation s s.pc)) .attributesConflict = .ok () := by
    simp [conflictingAttrs, plainTranslation, refuseIf]
  simp only [fetch, ho, fetchWith, ht, hk, show fetchRequest s.cp15 s.mode s = r from rfl, hf, bind, Except.bind, pure, Except.pure]

end Sys2Proof.Machine
end

