-- ==== Sys2Proof/Laws/Vfp.lean ====
section
/-! SUPPORT. What the gates before VFP and coprocessor instructions do. -/

namespace Sys2Proof.Machine

open Sys2Proof

/-- With no older settings the first gate is what the settings say. -/
theorem requireCoprocessor_of_synced {s : State} (h : s.oldFetch = []) (n : Nat) :
    requireCoprocessor n s = if coprocessorAllowed s.cp15 s.mode n then .ok s else undefined s := by
  simp [requireCoprocessor, h]

/-- With no older settings the second gate is the first one, EN and EX. -/
theorem requireVfp_of_synced {s : State} (h : s.oldFetch = []) (n : Nat) :
    requireVfp n s =
      if coprocessorAllowed s.cp15 s.mode n && (s.vfpEnabled && !s.vfpException) then .ok s else undefined s := by
  unfold requireVfp
  rw [requireCoprocessor_of_synced h]
  cases coprocessorAllowed s.cp15 s.mode n <;> simp [undefined, bind, Except.bind]

/-- Coprocessors 10 and 11 are allowed where CPACR and NSACR give them to every mode and world. -/
theorem coprocessorAllowed_of_full {c : Cp15} (h1 : bits c.cpacr 20 4 = 0b1111#4) (h2 : bits c.nsacr 10 2 = 0b11#2)
    (mode : BitVec 5) {n : Nat} (hn : n = 10 ∨ n = 11) : coprocessorAllowed c mode n = true := by
  have get {w : Word} {lo k : Nat} {v : BitVec k} (h : bits w lo k = v) (i : Nat) (hi : i < k) :
      w.getLsbD (lo + i) = v.getLsbD i := by
    rw [← h]; simp [bits, hi]
  have c0 := get h1 0 (by omega); have c1 := get h1 1 (by omega); have c2 := get h1 2 (by omega); have c3 := get h1 3 (by omega)
  have n0 := get h2 0 (by omega); have n1 := get h2 1 (by omega)
  simp at c0 c1 c2 c3 n0 n1
  have two {w : Word} {lo : Nat} (a : w.getLsbD lo = true) (b : w.getLsbD (lo + 1) = true) : bits w lo 2 = 0b11#2 := by
    apply BitVec.eq_of_getLsbD_eq
    intro i hi
    have : i = 0 ∨ i = 1 := by omega
    rcases this with rfl | rfl <;> simp [bits, a, b]
  rcases hn with rfl | rfl
  · simp [coprocessorAllowed, two c0 c1, bit, n0]
  · simp [coprocessorAllowed, two c2 c3, bit, n1]

/-- Where the VFP11 may be used, the gates let every VFP instruction through. -/
theorem requireVfp_ready {s : State} (h : s.vfpReady) {n : Nat} (hn : n = 10 ∨ n = 11) : requireVfp n s = .ok s := by
  obtain ⟨h1, h2, h3, h4, h5⟩ := h
  rw [requireVfp_of_synced h3, coprocessorAllowed_of_full h1 h2 _ hn]
  simp [State.vfpEnabled, State.vfpException, h4, h5]

end Sys2Proof.Machine
end

