-- ==== Sys2Proof/Tests/Slice0.lean ====
section
/-! SUPPORT. The model's own tests, all by the kernel: ill-formed terms that WellFormed refuses, a word of every row of the opcode
table, the vectors of 95_test_vectors.md (one step each), and for every statement with hypotheses a state and operands that meet
them. -/

namespace Sys2Proof.Tests

set_option maxRecDepth 100000
set_option Elab.async false

open Sys2Proof Sys2Proof.Machine

/-! ### Helpers -/

/-- The decoder reads this instruction from the word. -/
noncomputable def reads (x : Nat × Nat × Instr) : Bool := decide (decodeTableWord x.1 x.2.1 = some x.2.2)

/-- A small state: this CPSR, pc = 0x8000, these registers of the current mode, these bytes of memory; the TCMs off, the VFP
enabled. -/
noncomputable def small (cpsr : Word) (regs : List (Nat × Word)) (mem : List Host.Cell := []) : State :=
  let r := State.reset
  { r with
    pc := 0x8000#32
    cpsr := cpsr
    mem := mem
    regs := regs.foldl (fun v x => v.set (bankedReg (cpsr.extractLsb' 0 5) (BitVec.ofNat 4 x.1)) x.2) r.regs
    cp15 := { r.cp15 with
      cpacr := 0x00F00000#32, nsacr := 0xC00#32, dtcmRegion := #v[0#32, 0#32], itcmRegion := #v[0#32, 0#32] }
    vfp := { r.vfp with fpexc := 0x40000000#32 } }

/-- The state after the instruction of a word, where there is one. -/
noncomputable def after (nbits w : Nat) (s : State) : Option State :=
  match decodeTableWord nbits w with
  | none => none
  | some i =>
    match exec i s with
    | .next t => some t
    | .fault _ => none
    | .refused _ => none

/-- A vector of 95_test_vectors.md for ARM state: the word, the CPSR and registers before, registers and the CPSR after. -/
abbrev Row := Nat × Word × List (Nat × Word) × List (Nat × Word) × Word

/-- The vector holds, and the PC goes on to the next instruction. -/
noncomputable def gives (x : Row) : Bool :=
  (after 32 x.1 (small x.2.1 x.2.2.1)).any fun t =>
    x.2.2.2.1.all (fun e => t.reg (BitVec.ofNat 4 e.1) == e.2) && t.cpsr == x.2.2.2.2 && t.pc == 0x8004#32

/-- The bytes 11 22 33 … CC from 0x1000 up (95 part 2.4). -/
def bytes : List Host.Cell :=
  [(0x1000, 0x11#8), (0x1001, 0x22#8), (0x1002, 0x33#8), (0x1003, 0x44#8), (0x1004, 0x55#8), (0x1005, 0x66#8),
   (0x1006, 0x77#8), (0x1007, 0x88#8), (0x1008, 0x99#8), (0x1009, 0xAA#8), (0x100A, 0xBB#8), (0x100B, 0xCC#8)]

/-- A state with these bits of the Control Register. -/
def withControl (v : Word) (s : State) : State :=
  { s with cp15 := { s.cp15 with
      secure := { s.cp15.secure with control := v &&& 0x33C03B07#32 }
      controlShared := s.cp15.controlShared ||| (v &&& 0x8080#32) } }

/-- An enabled VFP with these S registers and this FPSCR. -/
def vfpOf (regs : List (SingleReg × Word)) (fpscr : Word) : Vfp :=
  { State.reset.vfp with
    regs := regs.foldl (fun v x => v.set x.1 x.2) State.reset.vfp.regs, fpscr := fpscr, fpexc := 0x40000000#32 }

/-- After the instruction of a word there is a state with this property. -/
noncomputable def leads (nbits w : Nat) (s : State) (p : State → Bool) : Bool := (after nbits w s).any p

/-! ### WellFormed -/

/-- An ill-formed term for each check; each is another row's word, or in no row. -/
theorem test_wf_refuses : ([
    .undefUncond 0x57FF01F#28, .movReg .al false 0#4 0#5 .lsl 1#4, .usada8 .al 0#4 15#4 2#4 1#4, .smlad .al 0#4 15#4 2#4 1#4,
    .smladx .al 0#4 15#4 2#4 1#4, .smlsd .al 0#4 15#4 2#4 1#4, .smlsdx .al 0#4 15#4 2#4 1#4, .smmla .al 0#4 15#4 2#4 1#4,
    .smmlar .al 0#4 15#4 2#4 1#4, .sxtab16 .al 15#4 0#4 0#2 1#4, .sxtab .al 15#4 0#4 0#2 1#4, .sxtah .al 15#4 0#4 0#2 1#4,
    .uxtab16 .al 15#4 0#4 0#2 1#4, .uxtab .al 15#4 0#4 0#2 1#4, .uxtah .al 15#4 0#4 0#2 1#4,
    .ldrImm .al false true true 1#4 0#4 4#12, .ldrReg .al false true true 1#4 0#4 0#5 .lsl 2#4,
    .ldrbImm .al false true true 1#4 0#4 4#12, .ldrbReg .al false true true 1#4 0#4 0#5 .lsl 2#4,
    .strImm .al false true true 1#4 0#4 4#12, .strReg .al false true true 1#4 0#4 0#5 .lsl 2#4,
    .strbImm .al false true true 1#4 0#4 4#12, .strbReg .al false true true 1#4 0#4 0#5 .lsl 2#4,
    .msrImm .al false 0#4 0#4 1#8, .fmrx .al 1#4 15#4,
    .cdp .al 0#4 0#4 0#4 10#4 0#3 0#4, .cdp .al 0#4 0#4 0#4 11#4 0#3 0#4, .mcr .al 0#3 0#4 0#4 10#4 0#3 0#4,
    .mcr .al 0#3 0#4 0#4 11#4 0#3 0#4, .mrc .al 0#3 0#4 0#4 10#4 0#3 0#4, .mrc .al 0#3 0#4 0#4 11#4 0#3 0#4,
    .mcrr .al 0#4 0#4 10#4 0#4 0#4, .mcrr .al 0#4 0#4 11#4 0#4 0#4, .mrrc .al 0#4 0#4 10#4 0#4 0#4, .mrrc .al 0#4 0#4 11#4 0#4 0#4,
    .ldc .al true true false false 0#4 0#4 10#4 0#8, .ldc .al true true false false 0#4 0#4 11#4 0#8,
    .stc .al true true false false 0#4 0#4 10#4 0#8, .stc .al true true false false 0#4 0#4 11#4 0#8,
    .ldc .al false false true false 0#4 0#4 7#4 0#8, .stc .al false false true false 0#4 0#4 7#4 0#8,
    .ldc2 false false true false 0#4 0#4 7#4 0#8, .stc2 false false true false 0#4 0#4 7#4 0#8,
    .tAddImm3 0#3 1#3 0#3, .tBCond .al 0#8] : List Instr).all (fun i => !i.wf) = true := by decide +kernel

/-- Their neighbours are well formed. -/
theorem test_wf_accepts : ([
    .undefUncond 0xF000000#28, .movReg .al false 0#4 1#5 .lsl 1#4, .movReg .al true 0#4 0#5 .lsl 1#4, .usada8 .al 0#4 14#4 2#4 1#4,
    .sxtab .al 14#4 0#4 0#2 1#4, .ldrImm .al true true true 1#4 0#4 4#12, .strbReg .al false true false 1#4 0#4 0#5 .lsl 2#4,
    .msrImm .al true 0#4 0#4 1#8, .msrImm .al false 1#4 0#4 1#8, .fmrx .al 1#4 14#4, .mcr .al 0#3 0#4 0#4 15#4 0#3 0#4,
    .stc .al false true false false 0#4 5#4 14#4 0#8, .tAddImm3 1#3 1#3 0#3, .tBCond .gt 0#8] : List Instr).all (·.wf) = true := by
  decide +kernel

/-! ### Decoding: a word of every row, written out from its match value and its fields in spec/opcode_table.json -/

theorem test_decode_uncond : ([
    (32, 0xF5DBFAFE, .pldImm true 11#4 2814#12),
    (32, 0xF75AFA6E, .pldReg false 10#4 20#5 .ror 14#4),
    (32, 0xF8990A00, .rfe false true false 9#4),
    (32, 0xF94D050D, .srs true false false 13#5),
    (32, 0xF57FF01F, .clrex),
    (32, 0xF106000A, .cps 1#2 true false false false 10#5),
    (32, 0xF1010000, .setend false),
    (32, 0xFB94E67F, .blx1 true 9758335#24),
    (32, 0xFE635AE1, .cdp2 6#4 3#4 5#4 10#4 7#3 1#4),
    (32, 0xFEA8CD76, .mcr2 5#3 8#4 12#4 13#4 3#3 6#4),
    (32, 0xFE139031, .mrc2 0#3 3#4 9#4 0#4 1#3 1#4),
    (32, 0xFC4134BC, .mcrr2 1#4 3#4 4#4 11#4 12#4),
    (32, 0xFC54B291, .mrrc2 4#4 11#4 2#4 9#4 1#4),
    (32, 0xFC105F9E, .undefCop2 true 24478#20),
    (32, 0xFD739013, .ldc2 true false true true 3#4 9#4 0#4 19#8),
    (32, 0xFC659B76, .stc2 false false true true 5#4 9#4 11#4 118#8),
    (32, 0xFF04617E, .undefUncond 251945342#28)] : List (Nat × Nat × Instr)).all reads = true := by decide +kernel

theorem test_decode_data1 : ([
    (32, 0xE2026EB6, .andImm .al false 2#4 6#4 14#4 182#8),
    (32, 0xC016538E, .andReg .gt true 6#4 5#4 7#5 .lsl 14#4),
    (32, 0x80062D11, .andRegShift .hi false 6#4 2#4 13#4 .lsl 1#4),
    (32, 0x422CA5EC, .eorImm .mi false 12#4 10#4 5#4 236#8),
    (32, 0x803CB0EA, .eorReg .hi true 12#4 11#4 1#5 .ror 10#4),
    (32, 0xE0378511, .eorRegShift .al true 7#4 8#4 5#4 .lsl 1#4),
    (32, 0xE24154A6, .subImm .al false 1#4 5#4 4#4 166#8),
    (32, 0xC04A0C83, .subReg .gt false 10#4 0#4 25#5 .lsl 3#4),
    (32, 0xE05B021E, .subRegShift .al true 11#4 0#4 2#4 .lsl 14#4),
    (32, 0x8272E4DF, .rsbImm .hi true 2#4 14#4 4#4 223#8),
    (32, 0xE0661303, .rsbReg .al false 6#4 1#4 6#5 .lsl 3#4),
    (32, 0x1062867A, .rsbRegShift .ne false 2#4 8#4 6#4 .ror 10#4),
    (32, 0xE28023D0, .addImm .al false 0#4 2#4 3#4 208#8),
    (32, 0xE091ED23, .addReg .al true 1#4 14#4 26#5 .lsr 3#4),
    (32, 0xE082AB10, .addRegShift .al false 2#4 10#4 11#4 .lsl 0#4),
    (32, 0xE2B65BF8, .adcImm .al true 6#4 5#4 11#4 248#8),
    (32, 0xE0BE7C81, .adcReg .al true 14#4 7#4 25#5 .lsl 1#4),
    (32, 0xE0AE0B58, .adcRegShift .al false 14#4 0#4 11#4 .asr 8#4),
    (32, 0xE2D895B7, .sbcImm .al true 8#4 9#4 5#4 183#8),
    (32, 0xE0C9DF00, .sbcReg .al false 9#4 13#4 30#5 .lsl 0#4),
    (32, 0x00CB3976, .sbcRegShift .eq false 11#4 3#4 9#4 .ror 6#4),
    (32, 0x12FD5CC8, .rscImm .ne true 13#4 5#4 12#4 200#8),
    (32, 0xE0F2E9AD, .rscReg .al true 2#4 14#4 19#5 .lsr 13#4),
    (32, 0xE0E40C7E, .rscRegShift .al false 4#4 0#4 12#4 .ror 14#4),
    (32, 0xE39D753A, .orrImm .al true 13#4 7#4 5#4 58#8),
    (32, 0xE19E5609, .orrReg .al true 14#4 5#4 12#5 .lsl 9#4),
    (32, 0xE181BD30, .orrRegShift .al false 1#4 11#4 13#4 .lsr 0#4),
    (32, 0x73C824C7, .bicImm .vc false 8#4 2#4 4#4 199#8),
    (32, 0xE1C58203, .bicReg .al false 5#4 8#4 4#5 .lsl 3#4),
    (32, 0xE1C3E67B, .bicRegShift .al false 3#4 14#4 6#4 .ror 11#4),
    (32, 0xE1A0B00E, .cpy .al 11#4 14#4),
    (32, 0xE3B0ABFE, .movImm .al true 10#4 11#4 254#8),
    (32, 0xC1B0A7A5, .movReg .gt true 10#4 15#5 .lsr 5#4),
    (32, 0x71B0BD17, .movRegShift .vc true 11#4 13#4 .lsl 7#4),
    (32, 0xE3F0E5FD, .mvnImm .al true 14#4 5#4 253#8),
    (32, 0xB1F0AACE, .mvnReg .lt true 10#4 21#5 .asr 14#4),
    (32, 0xB1E0A053, .mvnRegShift .lt false 10#4 0#4 .asr 3#4),
    (32, 0xE3130891, .tstImm .al 3#4 8#4 145#8),
    (32, 0xA1120F64, .tstReg .ge 2#4 30#5 .ror 4#4),
    (32, 0x911A0E1C, .tstRegShift .ls 10#4 14#4 .lsl 12#4)] : List (Nat × Nat × Instr)).all reads = true := by decide +kernel

theorem test_decode_data2 : ([
    (32, 0xE33403FF, .teqImm .al 4#4 3#4 255#8),
    (32, 0xE1340402, .teqReg .al 4#4 8#5 .lsl 2#4),
    (32, 0xE1310718, .teqRegShift .al 1#4 7#4 .lsl 8#4),
    (32, 0xE35706B6, .cmpImm .al 7#4 6#4 182#8),
    (32, 0x215D0B28, .cmpReg .cs 13#4 22#5 .lsr 8#4),
    (32, 0xE15E0237, .cmpRegShift .al 14#4 2#4 .lsr 7#4),
    (32, 0xC37807D5, .cmnImm .gt 8#4 7#4 213#8),
    (32, 0xE1730487, .cmnReg .al 3#4 9#5 .lsl 7#4),
    (32, 0xE1710D7C, .cmnRegShift .al 1#4 13#4 .ror 12#4),
    (32, 0xE16F8F11, .clz .al 8#4 1#4)] : List (Nat × Nat × Instr)).all reads = true := by decide +kernel

theorem test_decode_multiply1 : ([
    (32, 0xB01D039B, .mul .lt true 13#4 3#4 11#4),
    (32, 0xE0338496, .mla .al true 3#4 8#4 4#4 6#4),
    (32, 0x1045839B, .umaal .ne 5#4 8#4 3#4 11#4),
    (32, 0x20995D94, .umull .cs true 9#4 5#4 13#4 4#4),
    (32, 0xE0AC6294, .umlal .al false 12#4 6#4 2#4 4#4),
    (32, 0xE0DEB298, .smull .al true 14#4 11#4 2#4 8#4),
    (32, 0xE0FD8091, .smlal .al true 13#4 8#4 0#4 1#4),
    (32, 0x6109E051, .qadd .vs 9#4 14#4 1#4),
    (32, 0xE129D05E, .qsub .al 9#4 13#4 14#4),
    (32, 0x7146E05B, .qdadd .vc 6#4 14#4 11#4),
    (32, 0xE16A205D, .qdsub .al 10#4 2#4 13#4),
    (32, 0xE10C17E9, .smlaXY .al 12#4 1#4 7#4 true true 9#4),
    (32, 0x412234C1, .smlaWY .mi 2#4 3#4 4#4 true 1#4),
    (32, 0xE12B08E7, .smulWY .al 11#4 8#4 true 7#4),
    (32, 0xE14C38C0, .smlalXY .al 12#4 3#4 8#4 true false 0#4),
    (32, 0xE168008E, .smulXY .al 8#4 0#4 false false 14#4),
    (32, 0xE6154F1E, .sadd16 .al 5#4 4#4 14#4),
    (32, 0xE6286F1A, .qadd16 .al 8#4 6#4 10#4),
    (32, 0xD63EAF11, .shadd16 .le 14#4 10#4 1#4),
    (32, 0x56509F1B, .uadd16 .pl 0#4 9#4 11#4),
    (32, 0x26623F1A, .uqadd16 .cs 2#4 3#4 10#4),
    (32, 0xE6776F1D, .uhadd16 .al 7#4 6#4 13#4),
    (32, 0xE619CF33, .saddsubx .al 9#4 12#4 3#4),
    (32, 0xE62E8F3C, .qaddsubx .al 14#4 8#4 12#4),
    (32, 0xE634CF3D, .shaddsubx .al 4#4 12#4 13#4),
    (32, 0xB65DAF3C, .uaddsubx .lt 13#4 10#4 12#4),
    (32, 0x46651F37, .uqaddsubx .mi 5#4 1#4 7#4),
    (32, 0xE679AF31, .uhaddsubx .al 9#4 10#4 1#4),
    (32, 0xD6152F5A, .ssubaddx .le 5#4 2#4 10#4),
    (32, 0xE6234F50, .qsubaddx .al 3#4 4#4 0#4),
    (32, 0xE633EF56, .shsubaddx .al 3#4 14#4 6#4),
    (32, 0xA6596F5A, .usubaddx .ge 9#4 6#4 10#4),
    (32, 0xE665AF5C, .uqsubaddx .al 5#4 10#4 12#4),
    (32, 0xE6725F5E, .uhsubaddx .al 2#4 5#4 14#4),
    (32, 0x0610DF71, .ssub16 .eq 0#4 13#4 1#4),
    (32, 0xE6287F72, .qsub16 .al 8#4 7#4 2#4),
    (32, 0x3638DF75, .shsub16 .cc 8#4 13#4 5#4),
    (32, 0xE65ECF74, .usub16 .al 14#4 12#4 4#4),
    (32, 0x2668EF74, .uqsub16 .cs 8#4 14#4 4#4),
    (32, 0x367D1F72, .uhsub16 .cc 13#4 1#4 2#4)] : List (Nat × Nat × Instr)).all reads = true := by decide +kernel

theorem test_decode_multiply2 : ([
    (32, 0xE6192F98, .sadd8 .al 9#4 2#4 8#4),
    (32, 0x56245F9B, .qadd8 .pl 4#4 5#4 11#4),
    (32, 0x463B0F97, .shadd8 .mi 11#4 0#4 7#4),
    (32, 0xE65C4F9B, .uadd8 .al 12#4 4#4 11#4),
    (32, 0xE667CF94, .uqadd8 .al 7#4 12#4 4#4),
    (32, 0xE6701F98, .uhadd8 .al 0#4 1#4 8#4),
    (32, 0x66147FF9, .ssub8 .vs 4#4 7#4 9#4),
    (32, 0x162DAFFE, .qsub8 .ne 13#4 10#4 14#4),
    (32, 0xD63B1FF0, .shsub8 .le 11#4 1#4 0#4),
    (32, 0xC6504FFB, .usub8 .gt 0#4 4#4 11#4),
    (32, 0xE66CEFFA, .uqsub8 .al 12#4 14#4 10#4),
    (32, 0xE67D1FFA, .uhsub8 .al 13#4 1#4 10#4),
    (32, 0xD785FB11, .usad8 .le 5#4 11#4 1#4),
    (32, 0xE7815810, .usada8 .al 1#4 5#4 8#4 0#4),
    (32, 0xA68F1C79, .sxtb16 .ge 1#4 3#2 9#4),
    (32, 0xA68A0C79, .sxtab16 .ge 10#4 0#4 3#2 9#4),
    (32, 0xE6AF3475, .sxtb .al 3#4 1#2 5#4),
    (32, 0xE6AB8C71, .sxtab .al 11#4 8#4 3#2 1#4),
    (32, 0x36BFDC74, .sxth .cc 13#4 3#2 4#4),
    (32, 0xE6BD7470, .sxtah .al 13#4 7#4 1#2 0#4),
    (32, 0xC6CFDC7E, .uxtb16 .gt 13#4 3#2 14#4),
    (32, 0xA6C7107E, .uxtab16 .ge 7#4 1#4 0#2 14#4),
    (32, 0xE6EF8873, .uxtb .al 8#4 2#2 3#4),
    (32, 0xE6EC9C73, .uxtab .al 12#4 9#4 3#2 3#4),
    (32, 0xE6FF4072, .uxth .al 4#4 0#2 2#4),
    (32, 0x96FDB87E, .uxtah .ls 13#4 11#4 2#2 14#4),
    (32, 0xE70EFB15, .smuad .al 14#4 11#4 5#4),
    (32, 0xE700FE34, .smuadx .al 0#4 14#4 4#4),
    (32, 0x570BF35D, .smusd .pl 11#4 3#4 13#4),
    (32, 0xE70DF279, .smusdx .al 13#4 2#4 9#4),
    (32, 0xE70D9B18, .smlad .al 13#4 9#4 11#4 8#4),
    (32, 0xE70DC334, .smladx .al 13#4 12#4 3#4 4#4),
    (32, 0xE700C85A, .smlsd .al 0#4 12#4 8#4 10#4),
    (32, 0x37017874, .smlsdx .cc 1#4 7#4 8#4 4#4),
    (32, 0xE74E0613, .smlald .al 14#4 0#4 6#4 3#4),
    (32, 0xE74C5433, .smlaldx .al 12#4 5#4 4#4 3#4),
    (32, 0xE746A15E, .smlsld .al 6#4 10#4 1#4 14#4),
    (32, 0x374E3B77, .smlsldx .cc 14#4 3#4 11#4 7#4),
    (32, 0xE75AF512, .smmul .al 10#4 5#4 2#4),
    (32, 0xE758F631, .smmulr .al 8#4 6#4 1#4)] : List (Nat × Nat × Instr)).all reads = true := by decide +kernel

theorem test_decode_multiply3 : ([
    (32, 0xE7527319, .smmla .al 2#4 7#4 3#4 9#4),
    (32, 0xE758073B, .smmlar .al 8#4 0#4 7#4 11#4),
    (32, 0xE75187D0, .smmls .al 1#4 8#4 7#4 0#4),
    (32, 0xE75AC0F2, .smmlsr .al 10#4 12#4 0#4 2#4),
    (32, 0x16BD3650, .ssat .ne 29#5 3#4 12#5 true 0#4),
    (32, 0xE6E64A58, .usat .al 6#5 4#4 20#5 true 8#4),
    (32, 0x56A3BF3E, .ssat16 .pl 3#4 11#4 14#4),
    (32, 0xE6E4AF38, .usat16 .al 4#4 10#4 8#4),
    (32, 0x06883FBB, .sel .eq 8#4 3#4 11#4),
    (32, 0xE6865B91, .pkhbt .al 6#4 5#4 23#5 1#4),
    (32, 0x968672D4, .pkhtb .ls 6#4 7#4 5#5 4#4),
    (32, 0xE6BFBF32, .rev .al 11#4 2#4),
    (32, 0xE6BFBFB3, .rev16 .al 11#4 3#4),
    (32, 0xE6FF0FB3, .revsh .al 0#4 3#4)] : List (Nat × Nat × Instr)).all reads = true := by decide +kernel

theorem test_decode_loadStore1 : ([
    (32, 0xE43073AF, .ldrtImm .al false 0#4 7#4 943#12),
    (32, 0xD6B6172C, .ldrtReg .le true 6#4 1#4 14#5 .lsr 12#4),
    (32, 0x847D055A, .ldrbtImm .hi false 13#4 0#4 1370#12),
    (32, 0xE67681EA, .ldrbtReg .al false 6#4 8#4 3#5 .ror 10#4),
    (32, 0x34ADBA2A, .strtImm .cc true 13#4 11#4 2602#12),
    (32, 0xE6AB350E, .strtReg .al true 11#4 3#4 10#5 .lsl 14#4),
    (32, 0x84E0E307, .strbtImm .hi true 0#4 14#4 775#12),
    (32, 0x86E05E8D, .strbtReg .hi true 0#4 5#4 29#5 .lsl 13#4),
    (32, 0xD510327D, .ldrImm .le true false false 0#4 3#4 637#12),
    (32, 0xE7B41503, .ldrReg .al true true true 4#4 1#4 10#5 .lsl 3#4),
    (32, 0x75DE4438, .ldrbImm .vc true true false 14#4 4#4 1080#12),
    (32, 0x67D31D26, .ldrbReg .vs true true false 3#4 1#4 26#5 .lsr 6#4),
    (32, 0xD5832163, .strImm .le true true false 3#4 2#4 355#12),
    (32, 0xE7273125, .strReg .al true false true 7#4 3#4 2#5 .lsr 5#4),
    (32, 0xE441A218, .strbImm .al false false false 1#4 10#4 536#12),
    (32, 0xE7C2CDE7, .strbReg .al true true false 2#4 12#4 27#5 .ror 7#4),
    (32, 0x21C31EB8, .strhImm .cs true true false 3#4 1#4 14#4 8#4),
    (32, 0xE10DB0B0, .strhReg .al true false false 13#4 11#4 0#4),
    (32, 0xE1CE1CD0, .ldrdImm .al true true false 14#4 1#4 12#4 0#4),
    (32, 0xB12210DA, .ldrdReg .lt true false true 2#4 1#4 10#4),
    (32, 0xE0C359FB, .strdImm .al false true false 3#4 5#4 9#4 11#4),
    (32, 0x612BA0F2, .strdReg .vs true false true 11#4 10#4 2#4),
    (32, 0xE1F92AB4, .ldrhImm .al true true true 9#4 2#4 10#4 4#4),
    (32, 0xD19D10BA, .ldrhReg .le true true false 13#4 1#4 10#4),
    (32, 0xE0590ADE, .ldrsbImm .al false false false 9#4 0#4 10#4 14#4),
    (32, 0x819610DB, .ldrsbReg .hi true true false 6#4 1#4 11#4),
    (32, 0xE0D1E9FB, .ldrshImm .al false true false 1#4 14#4 9#4 11#4),
    (32, 0xE1BDC0F2, .ldrshReg .al true true true 13#4 12#4 2#4),
    (32, 0xE8929229, .ldm1 .al false true false 2#4 37417#16),
    (32, 0xC8DD2EE7, .ldm2 .gt false true 13#4 12007#15),
    (32, 0x687AA327, .ldm3 .vs false false true 10#4 8999#15),
    (32, 0xE80DC871, .stm1 .al false false false 13#4 51313#16),
    (32, 0xE8C39B21, .stm2 .al false true 3#4 39713#16),
    (32, 0x41039095, .swp .mi 3#4 9#4 5#4),
    (32, 0xC147A099, .swpb .gt 7#4 10#4 9#4),
    (32, 0x2184DF91, .strex .cs 4#4 13#4 1#4),
    (32, 0xE197DF9F, .ldrex .al 7#4 13#4),
    (32, 0xE1ABDF9A, .strexd .al 11#4 13#4 10#4),
    (32, 0x41B72F9F, .ldrexd .mi 7#4 2#4),
    (32, 0xE1CE0F9C, .strexb .al 14#4 0#4 12#4)] : List (Nat × Nat × Instr)).all reads = true := by decide +kernel

theorem test_decode_loadStore2 : ([
    (32, 0x41D20F9F, .ldrexb .mi 2#4 0#4),
    (32, 0xE1E5AF9E, .strexh .al 5#4 10#4 14#4),
    (32, 0xA1FD4F9F, .ldrexh .ge 13#4 4#4)] : List (Nat × Nat × Instr)).all reads = true := by decide +kernel

theorem test_decode_statusBranch : ([
    (32, 0x010F6000, .mrs .eq false 6#4),
    (32, 0x016BF000, .msrReg .eq true 11#4 0#4),
    (32, 0xE320F00D, .nop .al 13#8),
    (32, 0xC329FEAF, .msrImm .gt false 9#4 14#4 175#8),
    (32, 0xEAA09CBC, .b .al 10525884#24),
    (32, 0xEBF0AC35, .bl .al 15772725#24),
    (32, 0xE12FFF14, .bx .al 4#4),
    (32, 0xE12FFF28, .bxj .al 8#4),
    (32, 0xE12FFF39, .blx2 .al 9#4),
    (32, 0xE129C476, .bkpt 2500#12 6#4),
    (32, 0xE161A372, .smc .al 419#12 2#4),
    (32, 0x0F688CA8, .svc .eq 6851752#24),
    (32, 0x67F870F0, .undefArch .vs 2160#12 0#4)] : List (Nat × Nat × Instr)).all reads = true := by decide +kernel

theorem test_decode_vfp1 : ([
    (32, 0xEE0B2A8C, .fmacs .al false 11#4 2#4 true false 12#4),
    (32, 0xDE0C4B05, .fmacd .le 12#4 4#4 5#4),
    (32, 0xEE0A7AED, .fnmacs .al false 10#4 7#4 true true 13#4),
    (32, 0x8E09CB44, .fnmacd .hi 9#4 12#4 4#4),
    (32, 0x1E5D1A0E, .fmscs .ne true 13#4 1#4 false false 14#4),
    (32, 0xEE14BB0E, .fmscd .al 4#4 11#4 14#4),
    (32, 0xEE1A4A40, .fnmscs .al false 10#4 4#4 false false 0#4),
    (32, 0xEE149B42, .fnmscd .al 4#4 9#4 2#4),
    (32, 0xEE64DA81, .fmuls .al true 4#4 13#4 true false 1#4),
    (32, 0xEE2A5B0C, .fmuld .al 10#4 5#4 12#4),
    (32, 0xEE227AC5, .fnmuls .al false 2#4 7#4 true false 5#4),
    (32, 0xBE21BB44, .fnmuld .lt 1#4 11#4 4#4),
    (32, 0xEE376AAC, .fadds .al false 7#4 6#4 true true 12#4),
    (32, 0xEE346B00, .faddd .al 4#4 6#4 0#4),
    (32, 0xEE32BA6E, .fsubs .al false 2#4 11#4 false true 14#4),
    (32, 0xEE378B49, .fsubd .al 7#4 8#4 9#4),
    (32, 0xEE875A8B, .fdivs .al false 7#4 5#4 true false 11#4),
    (32, 0x9E801B0C, .fdivd .ls 0#4 1#4 12#4),
    (32, 0x5EB01A48, .fcpys .pl false 1#4 false 8#4),
    (32, 0xBEB05B4E, .fcpyd .lt 5#4 14#4),
    (32, 0xEEB02ACD, .fabss .al false 2#4 false 13#4),
    (32, 0x9EB01BC0, .fabsd .ls 1#4 0#4),
    (32, 0xEEB14A4A, .fnegs .al false 4#4 false 10#4),
    (32, 0xEEB12B43, .fnegd .al 2#4 3#4),
    (32, 0xAEF15AEA, .fsqrts .ge true 5#4 true 10#4),
    (32, 0x2EB19BC1, .fsqrtd .cs 9#4 1#4),
    (32, 0x6EB4AA6C, .fcmps .vs false 10#4 true 12#4),
    (32, 0xEEB40B48, .fcmpd .al 0#4 8#4),
    (32, 0x0EB4DAC9, .fcmpes .eq false 13#4 false 9#4),
    (32, 0x8EB45BC0, .fcmped .hi 5#4 0#4),
    (32, 0x1EB52A40, .fcmpzs .ne false 2#4),
    (32, 0xEEB54B40, .fcmpzd .al 4#4),
    (32, 0xEEB53AC0, .fcmpezs .al false 3#4),
    (32, 0xCEB50BC0, .fcmpezd .gt 0#4),
    (32, 0x9EB7BAC3, .fcvtds .ls 11#4 false 3#4),
    (32, 0xBEB71BC0, .fcvtsd .lt false 1#4 0#4),
    (32, 0xEEB8DA48, .fuitos .al false 13#4 false 8#4),
    (32, 0xEEB87B66, .fuitod .al 7#4 true 6#4),
    (32, 0xEEF84AC6, .fsitos .al true 4#4 false 6#4),
    (32, 0xEEB8BBE8, .fsitod .al 11#4 true 8#4)] : List (Nat × Nat × Instr)).all reads = true := by decide +kernel

theorem test_decode_vfp2 : ([
    (32, 0xEEFCBA43, .ftouis .al true 11#4 false 3#4),
    (32, 0x7EBC4B4A, .ftouid .vc false 4#4 10#4),
    (32, 0x4EBC4AE6, .ftouizs .mi false 4#4 true 6#4),
    (32, 0xEEFC8BCC, .ftouizd .al true 8#4 12#4),
    (32, 0xEEBDEA65, .ftosis .al false 14#4 true 5#4),
    (32, 0xEEBD6B49, .ftosid .al false 6#4 9#4),
    (32, 0x5EBDAAEC, .ftosizs .pl false 10#4 true 12#4),
    (32, 0x6EBD4BC6, .ftosizd .vs false 4#4 6#4),
    (32, 0xCD53DA0F, .flds .gt false true 3#4 13#4 15#8),
    (32, 0xED90EB94, .fldd .al true 0#4 14#4 148#8),
    (32, 0xEDC8CADC, .fsts .al true true 8#4 12#4 220#8),
    (32, 0x1D8D3B25, .fstd .ne true 13#4 3#4 37#8),
    (32, 0xEC9DCA20, .fldmsIa .al false 13#4 12#4 32#8),
    (32, 0x2C993B1C, .fldmdxIa .cs 9#4 3#4 28#8),
    (32, 0x4CFE0A67, .fldmsIaW .mi true 14#4 0#4 103#8),
    (32, 0xECB26BFD, .fldmdxIaW .al 2#4 6#4 253#8),
    (32, 0xED31CA7C, .fldmsDbW .al false 1#4 12#4 124#8),
    (32, 0xED34CBDD, .fldmdxDbW .al 4#4 12#4 221#8),
    (32, 0xEC8EDACE, .fstmsIa .al false 14#4 13#4 206#8),
    (32, 0xDC8C3BEC, .fstmdxIa .le 12#4 3#4 236#8),
    (32, 0x4CA10AF4, .fstmsIaW .mi false 1#4 0#4 244#8),
    (32, 0xECA5DB6D, .fstmdxIaW .al 5#4 13#4 109#8),
    (32, 0xED2EAAC8, .fstmsDbW .al false 14#4 10#4 200#8),
    (32, 0xED2A1B46, .fstmdxDbW .al 10#4 1#4 70#8),
    (32, 0xEE01AA10, .fmsr .al 1#4 10#4 false),
    (32, 0xAE19DA90, .fmrs .ge 9#4 13#4 true),
    (32, 0x8E0ABB10, .fmdlr .hi 10#4 11#4),
    (32, 0xEE1E6B10, .fmrdl .al 14#4 6#4),
    (32, 0xBE298B10, .fmdhr .lt 9#4 8#4),
    (32, 0xEE360B10, .fmrdh .al 6#4 0#4),
    (32, 0xEEE10A10, .fmxr .al 1#4 0#4),
    (32, 0x3EF1FA10, .fmstat .cc),
    (32, 0xEEF96A10, .fmrx .al 9#4 6#4),
    (32, 0x3C4B2B19, .fmdrr .cc 11#4 2#4 9#4),
    (32, 0xAC5BAB18, .fmrrd .ge 11#4 10#4 8#4),
    (32, 0xEC46DA31, .fmsrr .al 6#4 13#4 true 1#4),
    (32, 0xEC5C3A10, .fmrrs .al 12#4 3#4 false 0#4)] : List (Nat × Nat × Instr)).all reads = true := by decide +kernel

theorem test_decode_cop : ([
    (32, 0x3E14A725, .cdp .cc 1#4 4#4 10#4 7#4 1#3 5#4),
    (32, 0xDE6209B5, .mcr .le 3#3 2#4 0#4 9#4 5#3 5#4),
    (32, 0xEE99815E, .mrc .al 4#3 9#4 8#4 1#4 2#3 14#4),
    (32, 0xEC44032E, .mcrr .al 4#4 0#4 3#4 2#4 14#4),
    (32, 0x8C565E24, .mrrc .hi 6#4 5#4 14#4 2#4 4#4),
    (32, 0xEC1359F7, .undefCop .al true 219639#20),
    (32, 0xEC779464, .ldc .al false false true true 7#4 9#4 4#4 100#8),
    (32, 0xEC6EB3D0, .stc .al false false true true 14#4 11#4 3#4 208#8)] : List (Nat × Nat × Instr)).all reads = true := by decide +kernel

theorem test_decode_thumb1 : ([
    (16, 0x03AD, .tLslImm 14#5 5#3 5#3),
    (16, 0x0A6D, .tLsrImm 9#5 5#3 5#3),
    (16, 0x1335, .tAsrImm 12#5 6#3 5#3),
    (16, 0x18C3, .tAddReg3 3#3 0#3 3#3),
    (16, 0x1A2D, .tSubReg3 0#3 5#3 5#3),
    (16, 0x1C3D, .tMovLow 7#3 5#3),
    (16, 0x1CC0, .tAddImm3 3#3 0#3 0#3),
    (16, 0x1F25, .tSubImm3 4#3 4#3 5#3),
    (16, 0x250B, .tMovImm8 5#3 11#8),
    (16, 0x2E3D, .tCmpImm8 6#3 61#8),
    (16, 0x3353, .tAddImm8 3#3 83#8),
    (16, 0x3B09, .tSubImm8 3#3 9#8),
    (16, 0x4023, .tAndReg 4#3 3#3),
    (16, 0x4051, .tEorReg 2#3 1#3),
    (16, 0x40BF, .tLslReg 7#3 7#3),
    (16, 0x40F2, .tLsrReg 6#3 2#3),
    (16, 0x412F, .tAsrReg 5#3 7#3),
    (16, 0x4142, .tAdcReg 0#3 2#3),
    (16, 0x4189, .tSbcReg 1#3 1#3),
    (16, 0x41FA, .tRorReg 7#3 2#3),
    (16, 0x420D, .tTstReg 1#3 5#3),
    (16, 0x4243, .tNegReg 0#3 3#3),
    (16, 0x4295, .tCmpReg 2#3 5#3),
    (16, 0x42DE, .tCmnReg 3#3 6#3),
    (16, 0x431C, .tOrrReg 3#3 4#3),
    (16, 0x4372, .tMulReg 6#3 2#3),
    (16, 0x438F, .tBicReg 1#3 7#3),
    (16, 0x43E3, .tMvnReg 4#3 3#3),
    (16, 0x4463, .tAddHigh false true 4#3 3#3),
    (16, 0x4532, .tCmpHigh false false 6#3 2#3),
    (16, 0x46EC, .tMovHigh true true 5#3 4#3),
    (16, 0x4728, .tBx false 5#3),
    (16, 0x4788, .tBlx2 false 1#3),
    (16, 0x4B27, .tLdrPc 3#3 39#8),
    (16, 0x51FC, .tStrReg 7#3 7#3 4#3),
    (16, 0x5327, .tStrhReg 4#3 4#3 7#3),
    (16, 0x552C, .tStrbReg 4#3 5#3 4#3),
    (16, 0x57CD, .tLdrsbReg 7#3 1#3 5#3),
    (16, 0x59F1, .tLdrReg 7#3 6#3 1#3),
    (16, 0x5B12, .tLdrhReg 4#3 2#3 2#3)] : List (Nat × Nat × Instr)).all reads = true := by decide +kernel

theorem test_decode_thumb2 : ([
    (16, 0x5DEE, .tLdrbReg 7#3 5#3 6#3),
    (16, 0x5F52, .tLdrshReg 5#3 2#3 2#3),
    (16, 0x6024, .tStrImm 0#5 4#3 4#3),
    (16, 0x6D8D, .tLdrImm 22#5 1#3 5#3),
    (16, 0x731D, .tStrbImm 12#5 3#3 5#3),
    (16, 0x7904, .tLdrbImm 4#5 0#3 4#3),
    (16, 0x86CD, .tStrhImm 27#5 1#3 5#3),
    (16, 0x8FB2, .tLdrhImm 30#5 6#3 2#3),
    (16, 0x93C1, .tStrSp 3#3 193#8),
    (16, 0x9AB3, .tLdrSp 2#3 179#8),
    (16, 0xA51B, .tAddPc 5#3 27#8),
    (16, 0xA97A, .tAddSpImm 1#3 122#8),
    (16, 0xB04E, .tAddToSp 78#7),
    (16, 0xB0F5, .tSubFromSp 117#7),
    (16, 0xB22E, .tSxth 5#3 6#3),
    (16, 0xB251, .tSxtb 2#3 1#3),
    (16, 0xB28F, .tUxth 1#3 7#3),
    (16, 0xB2F5, .tUxtb 6#3 5#3),
    (16, 0xB56B, .tPush true 107#8),
    (16, 0xB658, .tSetend true),
    (16, 0xB670, .tCps true false false false),
    (16, 0xBA21, .tRev 4#3 1#3),
    (16, 0xBA73, .tRev16 6#3 3#3),
    (16, 0xBAC0, .tRevsh 0#3 0#3),
    (16, 0xBC65, .tPop false 101#8),
    (16, 0xBEF1, .tBkpt 241#8),
    (16, 0xC430, .tStmia 4#3 48#8),
    (16, 0xCBF2, .tLdmia 3#3 242#8),
    (16, 0xDE76, .tUndef 118#8),
    (16, 0xDFFE, .tSvc 254#8),
    (16, 0xD73A, .tBCond .vc 58#8),
    (16, 0xE5FE, .tB 1534#11),
    (16, 0xEA1C, .tBlxSuffix 270#10),
    (16, 0xEB33, .tUndefBlx 409#10),
    (16, 0xF100, .tBlPrefix 256#11),
    (16, 0xFF55, .tBlSuffix 1877#11)] : List (Nat × Nat × Instr)).all reads = true := by decide +kernel

/-- Words that are no instruction: MRS with a fixed bit wrong is Undefined (30:R690), CPS with a Should-Be-Zero bit set (30:R685) and
LDM (2) and STM (2) with W set (43:R915, R918) are Unpredictable; Thumb halfwords beside SETEND and CPS are Undefined (30:R710). -/
theorem test_decodeNothing :
    decodeArm 0xE1000070#32 = .undefined .al ∧ decodeArm 0x00500090#32 = .undefined .eq ∧
      decodeArm 0xF1010001#32 = .unpredictable "SETEND" ∧ decodeArm 0xE8F10001#32 = .unpredictable "LDM__2" ∧
      decodeArm 0xE8E10001#32 = .unpredictable "STM__2" ∧
      decodeThumb 0xB651#16 = .undefined .al ∧ decodeThumb 0xB66F#16 = .undefined .al ∧ decodeThumb 0xB678#16 = .undefined .al := by
  decide +kernel

/-- After two writes without a flush each of the two registers may still act as it was before its own write (70:R1322). -/
theorem test_twoUnflushedWritesMix :
    let a := State.reset.cp15
    let b : Cp15 := { a with scr := 1#32 }
    let c : Cp15 := { b with cpacr := 0xF00000#32 }
    (Cp15.mixes [b, a] c).map (fun m => (m.scr, m.cpacr)) =
      [(1#32, 0xF00000#32), (1#32, 0#32), (0#32, 0xF00000#32), (0#32, 0#32)] := by decide

/-! ### Meanings: vectors of 95_test_vectors.md, and for forms without one a result worked out from the rule -/

/-- 95 part 2.1: ADDS to TEQ, the shifter, immediates, CLZ. -/
theorem test_dataProcessing1 : ([
    (0xE0910002, 0x1D3, [(1, 0x7FFFFFFF), (2, 0x1)], [(0, 0x80000000)], 0x900001D3),
    (0xE0910002, 0x1D3, [(1, 0xFFFFFFFF), (2, 0x1)], [(0, 0x0)], 0x600001D3),
    (0xE0B10002, 0x200001D3, [(1, 0xFFFFFFFF), (2, 0x0)], [(0, 0x0)], 0x600001D3),
    (0xE0B10002, 0x200001D3, [(1, 0x7FFFFFFF), (2, 0x0)], [(0, 0x80000000)], 0x900001D3),
    (0xE0510002, 0x1D3, [(1, 0x0), (2, 0x1)], [(0, 0xFFFFFFFF)], 0x800001D3),
    (0xE0510002, 0x1D3, [(1, 0x5), (2, 0x5)], [(0, 0x0)], 0x600001D3),
    (0xE0D10002, 0x1D3, [(1, 0x5), (2, 0x3)], [(0, 0x1)], 0x200001D3),
    (0xE0D10002, 0x200001D3, [(1, 0x5), (2, 0x5)], [(0, 0x0)], 0x600001D3),
    (0xE0710002, 0x1D3, [(1, 0x1), (2, 0x0)], [(0, 0xFFFFFFFF)], 0x800001D3),
    (0xE0F10002, 0x1D3, [(1, 0x1), (2, 0x3)], [(0, 0x1)], 0x200001D3),
    (0xE1510002, 0x1D3, [(1, 0x0), (2, 0x80000000)], [], 0x900001D3),
    (0xE1510002, 0x1D3, [(1, 0x3), (2, 0x5)], [], 0x800001D3),
    (0xE1710002, 0x1D3, [(1, 0xFFFFFFFF), (2, 0x1)], [], 0x600001D3),
    (0xE1710002, 0x1D3, [(1, 0x7FFFFFFF), (2, 0x7FFFFFFF)], [], 0x900001D3),
    (0xE1B00081, 0x1D3, [(1, 0x80000001)], [(0, 0x2)], 0x200001D3),
    (0xE1B00001, 0x200001D3, [(1, 0x80000001)], [(0, 0x80000001)], 0xA00001D3),
    (0xE1B00021, 0x1D3, [(1, 0x80000000)], [(0, 0x0)], 0x600001D3),
    (0xE1B000A1, 0x1D3, [(1, 0x3)], [(0, 0x1)], 0x200001D3),
    (0xE1B00041, 0x1D3, [(1, 0x80000000)], [(0, 0xFFFFFFFF)], 0xA00001D3),
    (0xE1B00041, 0x200001D3, [(1, 0x7FFFFFFF)], [(0, 0x0)], 0x400001D3),
    (0xE1B00461, 0x1D3, [(1, 0xFF)], [(0, 0xFF000000)], 0xA00001D3),
    (0xE1B00061, 0x200001D3, [(1, 0x1)], [(0, 0x80000000)], 0xA00001D3)] : List Row).all gives = true := by
  decide +kernel

/-- 95 part 2.1, continued. -/
theorem test_dataProcessing2 : ([
    (0xE1B00061, 0x1D3, [(1, 0x80000000)], [(0, 0x40000000)], 0x1D3),
    (0xE1B00211, 0x200001D3, [(1, 0x80000001), (2, 0x0)], [(0, 0x80000001)], 0xA00001D3),
    (0xE1B00211, 0x1D3, [(1, 0x1), (2, 0x20)], [(0, 0x0)], 0x600001D3),
    (0xE1B00231, 0x1D3, [(1, 0x80000000), (2, 0x20)], [(0, 0x0)], 0x600001D3),
    (0xE1B00231, 0x200001D3, [(1, 0xFFFFFFFF), (2, 0xFF)], [(0, 0x0)], 0x400001D3),
    (0xE1B00251, 0x1D3, [(1, 0x80000000), (2, 0x28)], [(0, 0xFFFFFFFF)], 0xA00001D3),
    (0xE1B00271, 0x1D3, [(1, 0x80000000), (2, 0x20)], [(0, 0x80000000)], 0xA00001D3),
    (0xE1B00271, 0x1D3, [(1, 0x80000000), (2, 0x0)], [(0, 0x80000000)], 0x800001D3),
    (0xE3B000FF, 0x200001D3, [], [(0, 0xFF)], 0x200001D3),
    (0xE3B00102, 0x1D3, [], [(0, 0x80000000)], 0xA00001D3),
    (0xE3B004FF, 0x1D3, [], [(0, 0xFF000000)], 0xA00001D3),
    (0xE3B00F3F, 0x1D3, [], [(0, 0xFC)], 0x1D3),
    (0xE0110002, 0x300001D3, [(1, 0xF0F0F0F0), (2, 0xFF00FF0)], [(0, 0xF000F0)], 0x300001D3),
    (0xE0310002, 0x300001D3, [(1, 0xFFFFFFFF), (2, 0xFFFFFFFF)], [(0, 0x0)], 0x700001D3),
    (0xE1910002, 0x300001D3, [(1, 0x80000000), (2, 0x1)], [(0, 0x80000001)], 0xB00001D3),
    (0xE1D10002, 0x300001D3, [(1, 0xFFFFFFFF), (2, 0xFFFF)], [(0, 0xFFFF0000)], 0xB00001D3),
    (0xE1F00001, 0x1D3, [(1, 0xFFFF)], [(0, 0xFFFF0000)], 0x800001D3),
    (0xE1110002, 0x100001D3, [(1, 0x80000000), (2, 0x80000000)], [], 0x900001D3),
    (0xE1310002, 0x200001D3, [(1, 0x12345678), (2, 0x12345678)], [], 0x600001D3),
    (0x00910002, 0x1D3, [(0, 0x11111111), (1, 0x1), (2, 0x2)], [], 0x1D3),
    (0xE16F0F11, 0x1D3, [(1, 0x0)], [(0, 0x20)], 0x1D3),
    (0xE16F0F11, 0x1D3, [(1, 0x1)], [(0, 0x1F)], 0x1D3)] : List Row).all gives = true := by
  decide +kernel

/-- 95 part 2.2: multiplies and saturating arithmetic. -/
theorem test_multiplyMedia1 : ([
    (0xE0100291, 0x1D3, [(1, 0x10000), (2, 0x10000)], [(0, 0x0)], 0x400001D3),
    (0xE0100291, 0x1D3, [(1, 0xFFFFFFFF), (2, 0xFFFFFFFF)], [(0, 0x1)], 0x1D3),
    (0xE0203291, 0x1D3, [(1, 0x3), (2, 0x4), (3, 0x5)], [(0, 0x11)], 0x1D3),
    (0xE0203291, 0x1D3, [(1, 0xFFFFFFFF), (2, 0x2), (3, 0x3)], [(0, 0x1)], 0x1D3),
    (0xE0810392, 0x1D3, [(2, 0xFFFFFFFF), (3, 0xFFFFFFFF)], [(0, 0x1), (1, 0xFFFFFFFE)], 0x1D3),
    (0xE0C10392, 0x1D3, [(2, 0xFFFFFFFF), (3, 0xFFFFFFFF)], [(0, 0x1), (1, 0x0)], 0x1D3),
    (0xE0810392, 0x1D3, [(2, 0x80000000), (3, 0x80000000)], [(0, 0x0), (1, 0x40000000)], 0x1D3),
    (0xE0C10392, 0x1D3, [(2, 0x80000000), (3, 0x80000000)], [(0, 0x0), (1, 0x40000000)], 0x1D3),
    (0xE0A10392, 0x1D3, [(0, 0xFFFFFFFF), (1, 0xFFFFFFFF), (2, 0xFFFFFFFF), (3, 0xFFFFFFFF)], [(0, 0x0), (1, 0xFFFFFFFE)], 0x1D3),
    (0xE0E10392, 0x1D3, [(0, 0xFFFFFFFF), (1, 0xFFFFFFFF), (2, 0xFFFFFFFF), (3, 0xFFFFFFFF)], [(0, 0x0), (1, 0x0)], 0x1D3),
    (0xE0410392, 0x1D3, [(0, 0xFFFFFFFF), (1, 0xFFFFFFFF), (2, 0xFFFFFFFF), (3, 0xFFFFFFFF)], [(0, 0xFFFFFFFF), (1, 0xFFFFFFFF)], 0x1D3),
    (0xE1020051, 0x1D3, [(1, 0x7FFFFFFF), (2, 0x1)], [(0, 0x7FFFFFFF)], 0x80001D3),
    (0xE1020051, 0x1D3, [(1, 0x80000000), (2, 0xFFFFFFFF)], [(0, 0x80000000)], 0x80001D3),
    (0xE1220051, 0x1D3, [(1, 0x80000000), (2, 0x1)], [(0, 0x80000000)], 0x80001D3),
    (0xE1220051, 0x1D3, [(1, 0x7FFFFFFF), (2, 0xFFFFFFFF)], [(0, 0x7FFFFFFF)], 0x80001D3),
    (0xE1420051, 0x1D3, [(1, 0x1), (2, 0x40000000)], [(0, 0x7FFFFFFF)], 0x80001D3),
    (0xE1420051, 0x1D3, [(1, 0x7FFFFFFF), (2, 0x40000000)], [(0, 0x7FFFFFFF)], 0x80001D3),
    (0xE1620051, 0x1D3, [(1, 0x0), (2, 0xC0000000)], [(0, 0x7FFFFFFF)], 0x80001D3),
    (0xE1620051, 0x1D3, [(1, 0x0), (2, 0x80000000)], [(0, 0x7FFFFFFF)], 0x80001D3),
    (0xE1600281, 0x1D3, [(1, 0x8000FFFF), (2, 0x7FFF8000)], [(0, 0x8000)], 0x1D3),
    (0xE16002E1, 0x1D3, [(1, 0x8000FFFF), (2, 0x7FFF8000)], [(0, 0xC0008000)], 0x1D3),
    (0xE16002A1, 0x1D3, [(1, 0x8000FFFF), (2, 0x7FFF8000)], [(0, 0x40000000)], 0x1D3),
    (0xE16002C1, 0x1D3, [(1, 0x8000FFFF), (2, 0x7FFF8000)], [(0, 0xFFFF8001)], 0x1D3),
    (0xE1003281, 0x1D3, [(1, 0x8000), (2, 0x8000), (3, 0x40000000)], [(0, 0x80000000)], 0x80001D3),
    (0xE12002A1, 0x1D3, [(1, 0x7FFFFFFF), (2, 0x7FFF)], [(0, 0x3FFF7FFF)], 0x1D3),
    (0xE12002A1, 0x1D3, [(1, 0x80000000), (2, 0x8000)], [(0, 0x40000000)], 0x1D3),
    (0xE1203281, 0x1D3, [(1, 0x80000000), (2, 0x8000), (3, 0x40000000)], [(0, 0x80000000)], 0x80001D3),
    (0xE1410382, 0x1D3, [(0, 0xFFFFFFFF), (1, 0x0), (2, 0x2), (3, 0x3)], [(0, 0x5), (1, 0x1)], 0x1D3),
    (0xE700F211, 0x1D3, [(1, 0x80008000), (2, 0x80008000)], [(0, 0x80000000)], 0x80001D3),
    (0xE700F211, 0x1D3, [(1, 0x20003), (2, 0x40005)], [(0, 0x17)], 0x1D3),
    (0xE700F231, 0x1D3, [(1, 0x20003), (2, 0x40005)], [(0, 0x16)], 0x1D3),
    (0xE700F251, 0x1D3, [(1, 0x20003), (2, 0x40005)], [(0, 0x7)], 0x1D3),
    (0xE700F271, 0x1D3, [(1, 0x20003), (2, 0x40005)], [(0, 0x2)], 0x1D3),
    (0xE7003211, 0x1D3, [(1, 0x20003), (2, 0x40005), (3, 0x7FFFFFF0)], [(0, 0x80000007)], 0x80001D3),
    (0xE7003251, 0x1D3, [(1, 0x20003), (2, 0x40005), (3, 0x7FFFFFF0)], [(0, 0x7FFFFFF7)], 0x1D3),
    (0xE7410312, 0x1D3, [(0, 0xFFFFFFF0), (1, 0x0), (2, 0x20003), (3, 0x40005)], [(0, 0x7), (1, 0x1)], 0x1D3),
    (0xE7410352, 0x1D3, [(0, 0xFFFFFFF0), (1, 0x0), (2, 0x20003), (3, 0x40005)], [(0, 0xFFFFFFF7), (1, 0x0)], 0x1D3)] : List Row).all gives = true := by
  decide +kernel

/-- 95 part 2.2: extensions, saturation, packing, reversal. -/
theorem test_multiplyMedia2 : ([
    (0xE750F211, 0x1D3, [(1, 0x7FFFFFFF), (2, 0x7FFFFFFF)], [(0, 0x3FFFFFFF)], 0x1D3),
    (0xE750F231, 0x1D3, [(1, 0x7FFFFFFF), (2, 0x7FFFFFFF)], [(0, 0x3FFFFFFF)], 0x1D3),
    (0xE750F211, 0x1D3, [(1, 0x18000), (2, 0x10000)], [(0, 0x1)], 0x1D3),
    (0xE750F231, 0x1D3, [(1, 0x18000), (2, 0x10000)], [(0, 0x2)], 0x1D3),
    (0xE7503211, 0x1D3, [(1, 0x18000), (2, 0x10000), (3, 0x10)], [(0, 0x11)], 0x1D3),
    (0xE75032D1, 0x1D3, [(1, 0x18000), (2, 0x10000), (3, 0x10)], [(0, 0xE)], 0x1D3),
    (0xE75032F1, 0x1D3, [(1, 0x18000), (2, 0x10000), (3, 0x10)], [(0, 0xF)], 0x1D3),
    (0xE780F211, 0x1D3, [(1, 0xFF8001), (2, 0xFF007F02)], [(0, 0x200)], 0x1D3),
    (0xE7803211, 0x1D3, [(1, 0xFF8001), (2, 0xFF007F02), (3, 0xFFFFFF00)], [(0, 0x100)], 0x1D3),
    (0xE6AF0071, 0x1D3, [(1, 0x12F48680)], [(0, 0xFFFFFF80)], 0x1D3),
    (0xE6AF0471, 0x1D3, [(1, 0x12F48680)], [(0, 0xFFFFFF86)], 0x1D3),
    (0xE6BF0071, 0x1D3, [(1, 0x12F48680)], [(0, 0xFFFF8680)], 0x1D3),
    (0xE6BF0C71, 0x1D3, [(1, 0x12F48680)], [(0, 0xFFFF8012)], 0x1D3),
    (0xE6EF0071, 0x1D3, [(1, 0x12F48680)], [(0, 0x80)], 0x1D3),
    (0xE6FF0871, 0x1D3, [(1, 0x12F48680)], [(0, 0x12F4)], 0x1D3),
    (0xE68F0071, 0x1D3, [(1, 0x12F48680)], [(0, 0xFFF4FF80)], 0x1D3),
    (0xE6CF0071, 0x1D3, [(1, 0x12F48680)], [(0, 0xF40080)], 0x1D3),
    (0xE6A10072, 0x1D3, [(1, 0x1FFFF), (2, 0x12F48680)], [(0, 0x1FF7F)], 0x1D3),
    (0xE6E10072, 0x1D3, [(1, 0x1FFFF), (2, 0x12F48680)], [(0, 0x2007F)], 0x1D3),
    (0xE6B10072, 0x1D3, [(1, 0x1FFFF), (2, 0x12F48680)], [(0, 0x1867F)], 0x1D3),
    (0xE6F10072, 0x1D3, [(1, 0x1FFFF), (2, 0x12F48680)], [(0, 0x2867F)], 0x1D3),
    (0xE6810072, 0x1D3, [(1, 0x1FFFF), (2, 0x12F48680)], [(0, 0xFFF5FF7F)], 0x1D3),
    (0xE6C10072, 0x1D3, [(1, 0x1FFFF), (2, 0x12F48680)], [(0, 0xF5007F)], 0x1D3),
    (0xE6A70011, 0x1D3, [(1, 0x7F)], [(0, 0x7F)], 0x1D3),
    (0xE6A70011, 0x1D3, [(1, 0x80)], [(0, 0x7F)], 0x80001D3),
    (0xE6E80011, 0x1D3, [(1, 0xFF)], [(0, 0xFF)], 0x1D3),
    (0xE6E80011, 0x1D3, [(1, 0x100)], [(0, 0xFF)], 0x80001D3),
    (0xE6A70F31, 0x1D3, [(1, 0x80FF7F)], [(0, 0x7FFF80)], 0x80001D3),
    (0xE6E80F31, 0x1D3, [(1, 0xFFFF0100)], [(0, 0xFF)], 0x80001D3),
    (0xE6810012, 0x1D3, [(1, 0x11112222), (2, 0x33334444)], [(0, 0x33332222)], 0x1D3),
    (0xE6810812, 0x1D3, [(1, 0x11112222), (2, 0x33334444)], [(0, 0x44442222)], 0x1D3),
    (0xE6810852, 0x1D3, [(1, 0x11112222), (2, 0x33334444)], [(0, 0x11113333)], 0x1D3),
    (0xE6810052, 0x1D3, [(1, 0x11112222), (2, 0x80000000)], [(0, 0x1111FFFF)], 0x1D3),
    (0xE6BF0F31, 0x1D3, [(1, 0x11228344)], [(0, 0x44832211)], 0x1D3),
    (0xE6BF0FB1, 0x1D3, [(1, 0x11228344)], [(0, 0x22114483)], 0x1D3),
    (0xE6FF0FB1, 0x1D3, [(1, 0x11228344)], [(0, 0x4483)], 0x1D3),
    (0xE6FF0FB1, 0x1D3, [(1, 0x11224483)], [(0, 0xFFFF8344)], 0x1D3)] : List Row).all gives = true := by
  decide +kernel

/-- 95 part 2.3: the 36 parallel additions and subtractions; where GE is unchanged it starts as 1010. -/
theorem test_parallel : ([
    (0xE6110F12, 0x1D3, [(1, 0x7FFF80FF), (2, 0x18001)], [(0, 0x80000100)], 0xC01D3),
    (0xE6210F12, 0xA01D3, [(1, 0x7FFF80FF), (2, 0x18001)], [(0, 0x7FFF8000)], 0xA01D3),
    (0xE6310F12, 0xA01D3, [(1, 0x7FFF80FF), (2, 0x18001)], [(0, 0x40008080)], 0xA01D3),
    (0xE6510F12, 0x1D3, [(1, 0x7FFF80FF), (2, 0x18001)], [(0, 0x80000100)], 0x301D3),
    (0xE6610F12, 0xA01D3, [(1, 0x7FFF80FF), (2, 0x18001)], [(0, 0x8000FFFF)], 0xA01D3),
    (0xE6710F12, 0xA01D3, [(1, 0x7FFF80FF), (2, 0x18001)], [(0, 0x40008080)], 0xA01D3),
    (0xE6110F32, 0x1D3, [(1, 0x7FFF80FF), (2, 0x18001)], [(0, 0x80FE)], 0xC01D3),
    (0xE6210F32, 0xA01D3, [(1, 0x7FFF80FF), (2, 0x18001)], [(0, 0x80FE)], 0xA01D3),
    (0xE6310F32, 0xA01D3, [(1, 0x7FFF80FF), (2, 0x18001)], [(0, 0xC07F)], 0xA01D3),
    (0xE6510F32, 0x1D3, [(1, 0x7FFF80FF), (2, 0x18001)], [(0, 0x80FE)], 0xF01D3),
    (0xE6610F32, 0xA01D3, [(1, 0x7FFF80FF), (2, 0x18001)], [(0, 0xFFFF80FE)], 0xA01D3),
    (0xE6710F32, 0xA01D3, [(1, 0x7FFF80FF), (2, 0x18001)], [(0, 0x8000407F)], 0xA01D3),
    (0xE6110F52, 0x1D3, [(1, 0x7FFF80FF), (2, 0x18001)], [(0, 0xFFFE8100)], 0xC01D3),
    (0xE6210F52, 0xA01D3, [(1, 0x7FFF80FF), (2, 0x18001)], [(0, 0x7FFF8100)], 0xA01D3),
    (0xE6310F52, 0xA01D3, [(1, 0x7FFF80FF), (2, 0x18001)], [(0, 0x7FFFC080)], 0xA01D3),
    (0xE6510F52, 0x1D3, [(1, 0x7FFF80FF), (2, 0x18001)], [(0, 0xFFFE8100)], 0x1D3),
    (0xE6610F52, 0xA01D3, [(1, 0x7FFF80FF), (2, 0x18001)], [(0, 0x8100)], 0xA01D3),
    (0xE6710F52, 0xA01D3, [(1, 0x7FFF80FF), (2, 0x18001)], [(0, 0xFFFF4080)], 0xA01D3),
    (0xE6110F72, 0x1D3, [(1, 0x7FFF80FF), (2, 0x18001)], [(0, 0x7FFE00FE)], 0xF01D3),
    (0xE6210F72, 0xA01D3, [(1, 0x7FFF80FF), (2, 0x18001)], [(0, 0x7FFE00FE)], 0xA01D3),
    (0xE6310F72, 0xA01D3, [(1, 0x7FFF80FF), (2, 0x18001)], [(0, 0x3FFF007F)], 0xA01D3),
    (0xE6510F72, 0x1D3, [(1, 0x7FFF80FF), (2, 0x18001)], [(0, 0x7FFE00FE)], 0xF01D3),
    (0xE6610F72, 0xA01D3, [(1, 0x7FFF80FF), (2, 0x18001)], [(0, 0x7FFE00FE)], 0xA01D3),
    (0xE6710F72, 0xA01D3, [(1, 0x7FFF80FF), (2, 0x18001)], [(0, 0x3FFF007F)], 0xA01D3),
    (0xE6110F92, 0x1D3, [(1, 0x7FFF80FF), (2, 0x18001)], [(0, 0x7F000000)], 0xD01D3),
    (0xE6210F92, 0xA01D3, [(1, 0x7FFF80FF), (2, 0x18001)], [(0, 0x7F008000)], 0xA01D3),
    (0xE6310F92, 0xA01D3, [(1, 0x7FFF80FF), (2, 0x18001)], [(0, 0x3F008000)], 0xA01D3),
    (0xE6510F92, 0x1D3, [(1, 0x7FFF80FF), (2, 0x18001)], [(0, 0x7F000000)], 0x701D3),
    (0xE6610F92, 0xA01D3, [(1, 0x7FFF80FF), (2, 0x18001)], [(0, 0x7FFFFFFF)], 0xA01D3),
    (0xE6710F92, 0xA01D3, [(1, 0x7FFF80FF), (2, 0x18001)], [(0, 0x3F808080)], 0xA01D3),
    (0xE6110FF2, 0x1D3, [(1, 0x7FFF80FF), (2, 0x18001)], [(0, 0x7FFE00FE)], 0xA01D3),
    (0xE6210FF2, 0xA01D3, [(1, 0x7FFF80FF), (2, 0x18001)], [(0, 0x7FFE00FE)], 0xA01D3),
    (0xE6310FF2, 0xA01D3, [(1, 0x7FFF80FF), (2, 0x18001)], [(0, 0x3FFF00FF)], 0xA01D3),
    (0xE6510FF2, 0x1D3, [(1, 0x7FFF80FF), (2, 0x18001)], [(0, 0x7FFE00FE)], 0xF01D3),
    (0xE6610FF2, 0xA01D3, [(1, 0x7FFF80FF), (2, 0x18001)], [(0, 0x7FFE00FE)], 0xA01D3),
    (0xE6710FF2, 0xA01D3, [(1, 0x7FFF80FF), (2, 0x18001)], [(0, 0x3F7F007F)], 0xA01D3)] : List Row).all gives = true := by
  decide +kernel

/-- 95 part 2.4: L1 to L5, L11 to L14, L18, L28 (E = 1) and LDRT, LDRBT, LDRSB, LDRSH, LDRD with a register or a post-index. -/
theorem test_loads :
    (leads 32 0xE5910000 (small 0x1D3#32 [(1, 0x1000#32)] bytes) fun t => t.reg 0#4 == 0x44332211#32) = true ∧
    (leads 32 0xE5B10004 (small 0x1D3#32 [(1, 0x1000#32)] bytes) fun t => t.reg 0#4 == 0x88776655#32 && t.reg 1#4 == 0x1004#32) = true ∧
    (leads 32 0xE4910004 (small 0x1D3#32 [(1, 0x1000#32)] bytes) fun t => t.reg 0#4 == 0x44332211#32 && t.reg 1#4 == 0x1004#32) = true ∧
    (leads 32 0xE5110004 (small 0x1D3#32 [(1, 0x1004#32)] bytes) fun t => t.reg 0#4 == 0x44332211#32 && t.reg 1#4 == 0x1004#32) = true ∧
    (leads 32 0xE7910102 (small 0x1D3#32 [(1, 0x1000#32), (2, 0x1#32)] bytes) fun t => t.reg 0#4 == 0x88776655#32) = true ∧
    (leads 32 0xE5D10000 (small 0x1D3#32 [(1, 0x1003#32)] bytes) fun t => t.reg 0#4 == 0x44#32) = true ∧
    (leads 32 0xE1D100D0 (small 0x1D3#32 [(1, 0x1007#32)] bytes) fun t => t.reg 0#4 == 0xFFFFFF88#32) = true ∧
    (leads 32 0xE1D100B0 (small 0x1D3#32 [(1, 0x1006#32)] bytes) fun t => t.reg 0#4 == 0x8877#32) = true ∧
    (leads 32 0xE1D100F0 (small 0x1D3#32 [(1, 0x1006#32)] bytes) fun t => t.reg 0#4 == 0xFFFF8877#32) = true ∧
    (leads 32 0xE1C120D0 (small 0x1D3#32 [(1, 0x1000#32)] bytes) fun t => t.reg 2#4 == 0x44332211#32 && t.reg 3#4 == 0x88776655#32) = true ∧
    (leads 32 0xE5910000 (small 0x3D3#32 [(1, 0x1000#32)] bytes) fun t => t.reg 0#4 == 0x11223344#32) = true ∧
    (leads 32 0xE4B10004 (small 0x1D3#32 [(1, 0x1000#32)] bytes) fun t => t.reg 0#4 == 0x44332211#32 && t.reg 1#4 == 0x1004#32) = true ∧
    (leads 32 0xE4F10001 (small 0x1D3#32 [(1, 0x1001#32)] bytes) fun t => t.reg 0#4 == 0x22#32 && t.reg 1#4 == 0x1002#32) = true ∧
    (leads 32 0xE7D10002 (small 0x1D3#32 [(1, 0x1000#32), (2, 0x5#32)] bytes) fun t => t.reg 0#4 == 0x66#32) = true ∧
    (leads 32 0xE19100D2 (small 0x1D3#32 [(1, 0x1000#32), (2, 0x8#32)] bytes) fun t => t.reg 0#4 == 0xFFFFFF99#32) = true ∧
    (leads 32 0xE01100F2 (small 0x1D3#32 [(1, 0x1008#32), (2, 0x4#32)] bytes) fun t => t.reg 0#4 == 0xFFFFAA99#32 && t.reg 1#4 == 0x1004#32) = true ∧
    (leads 32 0xE19100B2 (small 0x1D3#32 [(1, 0x1000#32), (2, 0x2#32)] bytes) fun t => t.reg 0#4 == 0x4433#32) = true ∧
    (leads 32 0xE18120D4 (small 0x1D3#32 [(1, 0x1000#32), (4, 0x8#32)] bytes) fun t => t.reg 2#4 == 0xCCBBAA99#32 && t.reg 3#4 == 0x0#32) = true ∧
    (leads 32 0xE6B10002 (small 0x1D3#32 [(1, 0x1000#32), (2, 0x8#32)] bytes) fun t => t.reg 0#4 == 0x44332211#32 && t.reg 1#4 == 0x1008#32) = true ∧
    (leads 32 0xE6F10002 (small 0x1D3#32 [(1, 0x1002#32), (2, 0x8#32)] bytes) fun t => t.reg 0#4 == 0x33#32 && t.reg 1#4 == 0x100A#32) = true := by decide +kernel

/-- 95 part 2.4: L6, L9, L10, L16, L17, L20, L35, L36: the misaligned accesses by U and A, and LDR into the PC by L4. -/
theorem test_unalignedLoads :
    (leads 32 0xE5910000 (small 0x1D3#32 [(1, 0x1001#32)] bytes) fun t => t.reg 0#4 == 0x11443322#32) = true ∧
    (leads 32 0xE5910000 (withControl 0x400000#32 (small 0x1D3#32 [(1, 0x1001#32)] bytes)) fun t => t.reg 0#4 == 0x55443322#32) = true ∧
    (leads 32 0xE5910000 (withControl 0x2#32 (small 0x1D3#32 [(1, 0x1001#32), (0, 0x7#32)] bytes)) fun t =>
        t.reg 0#4 == 0x7#32 && t.mode == 0b10111#5 && t.reg 14#4 == 0x8008#32 && t.cp15.secure.far == 0x1001#32) = true ∧
    (leads 32 0xE1D100B0 (withControl 0x400000#32 (small 0x1D3#32 [(1, 0x1001#32)] bytes)) fun t => t.reg 0#4 == 0x3322#32) = true ∧
    (leads 32 0xE1D100B0 (withControl 0x2#32 (small 0x1D3#32 [(1, 0x1001#32)] bytes)) fun t =>
        t.mode == 0b10111#5 && t.cp15.secure.far == 0x1001#32) = true ∧
    (leads 32 0xE1C120D0 (withControl 0x2#32 (small 0x1D3#32 [(1, 0x1004#32)] bytes)) fun t => t.mode == 0b10111#5) = true ∧
    (leads 32 0xE591F000 (small 0x1D3#32 [(1, 0x1000#32)] [(0x1000, 0x01#8), (0x1001, 0x90#8)]) fun t =>
        t.pc == 0x9000#32 && t.cpsr == 0x1F3#32) = true ∧
    (leads 32 0xE591F000 (withControl 0x8000#32 (small 0x1D3#32 [(1, 0x1000#32)] [(0x1000, 0x01#8), (0x1001, 0x90#8)])) fun t =>
        t.pc == 0x9000#32 && t.cpsr == 0x1D3#32) = true := by decide +kernel

/-- 95 part 2.4: L22 to L27, L31, L37, and STRT, STRBT, STRH, STRD with other forms. -/
theorem test_stores :
    (leads 32 0xE5810000 (small 0x1D3#32 [(0, 0xDEADBEEF#32), (1, 0x1000#32)] bytes) fun t =>
        t.memWord 0x1000#32 == 0xDEADBEEF#32 && t.memWord 0x1004#32 == 0x88776655#32) = true ∧
    (leads 32 0xE5810000 (small 0x1D3#32 [(0, 0xDEADBEEF#32), (1, 0x1002#32)] bytes) fun t =>
        t.memWord 0x1000#32 == 0xDEADBEEF#32 && t.memWord 0x1004#32 == 0x88776655#32) = true ∧
    (leads 32 0xE5810000 (withControl 0x400000#32 (small 0x1D3#32 [(0, 0xDEADBEEF#32), (1, 0x1002#32)] bytes)) fun t =>
        t.memWord 0x1000#32 == 0xBEEF2211#32 && t.memWord 0x1004#32 == 0x8877DEAD#32) = true ∧
    (leads 32 0xE5C10000 (small 0x1D3#32 [(0, 0x12345678#32), (1, 0x1001#32)] bytes) fun t => t.memWord 0x1000#32 == 0x44337811#32) = true ∧
    (leads 32 0xE1C100B0 (small 0x1D3#32 [(0, 0x12345678#32), (1, 0x1002#32)] bytes) fun t => t.memWord 0x1000#32 == 0x56782211#32) = true ∧
    (leads 32 0xE1C200F0 (small 0x1D3#32 [(0, 0x1#32), (1, 0x2#32), (2, 0x1000#32)] bytes) fun t =>
        t.memWord 0x1000#32 == 0x1#32 && t.memWord 0x1004#32 == 0x2#32) = true ∧
    (leads 32 0xE5810000 (small 0x3D3#32 [(0, 0xDEADBEEF#32), (1, 0x1000#32)] bytes) fun t =>
        t.memWord 0x1000#32 == 0xDEADBEEF#32 && t.memByte 0x1000#32 0 == 0xDE#8) = true ∧
    (leads 32 0xE581F000 (small 0x1D3#32 [(1, 0x1000#32)] bytes) fun t => t.memWord 0x1000#32 == 0x800C#32) = true ∧
    (leads 32 0xE7810002 (small 0x1D3#32 [(0, 0xDEADBEEF#32), (1, 0x1000#32), (2, 0x4#32)] bytes) fun t =>
        t.memWord 0x1004#32 == 0xDEADBEEF#32 && t.memWord 0x1000#32 == 0x44332211#32) = true ∧
    (leads 32 0xE7C10002 (small 0x1D3#32 [(0, 0xDEADBEEF#32), (1, 0x1000#32), (2, 0x4#32)] bytes) fun t =>
        t.memWord 0x1004#32 == 0x887766EF#32) = true ∧
    (leads 32 0xE4A10004 (small 0x1D3#32 [(0, 0xDEADBEEF#32), (1, 0x1000#32)] bytes) fun t =>
        t.memWord 0x1000#32 == 0xDEADBEEF#32 && t.reg 1#4 == 0x1004#32) = true ∧
    (leads 32 0xE4E10001 (small 0x1D3#32 [(0, 0xDEADBEEF#32), (1, 0x1003#32)] bytes) fun t =>
        t.memWord 0x1000#32 == 0xEF332211#32 && t.reg 1#4 == 0x1004#32) = true ∧
    (leads 32 0xE6A10002 (small 0x1D3#32 [(0, 0xDEADBEEF#32), (1, 0x1000#32), (2, 0x8#32)] bytes) fun t =>
        t.memWord 0x1000#32 == 0xDEADBEEF#32 && t.reg 1#4 == 0x1008#32) = true ∧
    (leads 32 0xE6E10002 (small 0x1D3#32 [(0, 0xDEADBEEF#32), (1, 0x1000#32), (2, 0x8#32)] bytes) fun t =>
        t.memWord 0x1000#32 == 0x443322EF#32 && t.reg 1#4 == 0x1008#32) = true ∧
    (leads 32 0xE12100B2 (small 0x1D3#32 [(0, 0xDEADBEEF#32), (1, 0x1004#32), (2, 0x4#32)] bytes) fun t =>
        t.memWord 0x1000#32 == 0x4433BEEF#32 && t.reg 1#4 == 0x1000#32) = true ∧
    (leads 32 0xE18200F4 (small 0x1D3#32 [(0, 0x1#32), (1, 0x2#32), (2, 0x1000#32), (4, 0x4#32)] bytes) fun t =>
        t.memWord 0x1004#32 == 0x1#32 && t.memWord 0x1008#32 == 0x2#32) = true := by decide +kernel

/-- 95 part 2.5: M1 to M8, M10 to M12. -/
theorem test_blocks :
    (leads 32 0xE8B00006 (small 0x1D3#32 [(0, 0x1000#32)] (bytes ++ [(0x100C, 0x0D#8)])) fun t =>
        t.reg 1#4 == 0x44332211#32 && t.reg 2#4 == 0x88776655#32 && t.reg 0#4 == 0x1008#32) = true ∧
    (leads 32 0xE9900006 (small 0x1D3#32 [(0, 0x1000#32)] (bytes ++ [(0x100C, 0x0D#8)])) fun t =>
        t.reg 1#4 == 0x88776655#32 && t.reg 2#4 == 0xCCBBAA99#32 && t.reg 0#4 == 0x1000#32) = true ∧
    (leads 32 0xE8100006 (small 0x1D3#32 [(0, 0x1008#32)] (bytes ++ [(0x100C, 0x0D#8)])) fun t =>
        t.reg 1#4 == 0x88776655#32 && t.reg 2#4 == 0xCCBBAA99#32) = true ∧
    (leads 32 0xE930000E (small 0x1D3#32 [(0, 0x1010#32)] (bytes ++ [(0x100C, 0x0D#8)])) fun t =>
        t.reg 1#4 == 0x88776655#32 && t.reg 3#4 == 0xD#32 && t.reg 0#4 == 0x1004#32) = true ∧
    (leads 32 0xE8900003 (small 0x1D3#32 [(0, 0x1000#32)] (bytes ++ [(0x100C, 0x0D#8)])) fun t =>
        t.reg 0#4 == 0x44332211#32 && t.reg 1#4 == 0x88776655#32) = true ∧
    (leads 32 0xE8900002 (small 0x1D3#32 [(0, 0x1002#32)] (bytes ++ [(0x100C, 0x0D#8)])) fun t => t.reg 1#4 == 0x44332211#32) = true ∧
    (leads 32 0xE8900002 (withControl 0x400000#32 (small 0x1D3#32 [(0, 0x1002#32)] (bytes ++ [(0x100C, 0x0D#8)]))) fun t =>
        t.mode == 0b10111#5 && t.cp15.secure.far == 0x1002#32) = true ∧
    (leads 32 0xE8BD8010 (small 0x1D3#32 [(13, 0x2000#32)] [(0x2000, 0xAA#8), (0x2001, 0xAA#8), (0x2004, 0x01#8), (0x2005, 0x90#8)]) fun t =>
        t.reg 4#4 == 0xAAAA#32 && t.reg 13#4 == 0x2008#32 && t.pc == 0x9000#32 && t.cpsr == 0x1F3#32) = true ∧
    (leads 32 0xE92D4010 (small 0x1D3#32 [(13, 0x2000#32), (4, 0x4#32), (14, 0x8004#32)]) fun t =>
        t.memWord 0x1FF8#32 == 0x4#32 && t.memWord 0x1FFC#32 == 0x8004#32 && t.reg 13#4 == 0x1FF8#32) = true ∧
    (leads 32 0xE8A00003 (small 0x1D3#32 [(0, 0x1000#32), (1, 0x7#32)] (bytes ++ [(0x100C, 0x0D#8)])) fun t =>
        t.memWord 0x1000#32 == 0x1000#32 && t.memWord 0x1004#32 == 0x7#32 && t.reg 0#4 == 0x1008#32) = true ∧
    (leads 32 0xE8808000 (small 0x1D3#32 [(0, 0x1000#32)] (bytes ++ [(0x100C, 0x0D#8)])) fun t => t.memWord 0x1000#32 == 0x800C#32) = true := by decide +kernel

/-- 95 part 2.5: M13 to M19: the User registers, LDM (3), RFE, SRS. -/
theorem test_returnBlocks :
    (leads 32 0xE8D06000 (small 0x1D2#32 [(0, 0x1000#32), (13, 0x5#32)] (bytes ++ [(0x100C, 0x0D#8)])) fun t =>
        t.regIn 0b10000#5 13#4 == 0x44332211#32 && t.regIn 0b10000#5 14#4 == 0x88776655#32 && t.reg 13#4 == 0x5#32) = true ∧
    (leads 32 0xE8C06000 ((small 0x1D1#32 [(0, 0x1000#32), (13, 0xC#32)] (bytes ++ [(0x100C, 0x0D#8)])).setRegIn 0b10000#5 13#4 0xA#32) fun t =>
        t.memWord 0x1000#32 == 0xA#32 && t.memWord 0x1004#32 == 0x0#32) = true ∧
    (leads 32 0xE8FD8001 { small 0xD3#32 [(13, 0x3000#32)] [(0x3000, 5#8), (0x3004, 0x01#8), (0x3005, 0x80#8)] with spsrs := Vector.replicate 6 0x30#32 } fun t =>
        t.reg 0#4 == 0x5#32 && t.regIn 0b10011#5 13#4 == 0x3008#32 && t.cpsr == 0x30#32 && t.pc == 0x8000#32) = true ∧
    (leads 32 0xF8BD0A00 (small 0x1D3#32 [(13, 0x3000#32)] [(0x3001, 0x80#8), (0x3004, 0x10#8)]) fun t =>
        t.pc == 0x8000#32 && t.cpsr == 0x10#32 && t.regIn 0b10011#5 13#4 == 0x3008#32) = true ∧
    (leads 32 0xF9100A00 (small 0x1D7#32 [(0, 0x3008#32)] [(0x3000, 0x01#8), (0x3001, 0x80#8), (0x3004, 0xF0#8), (0x3007, 0x60#8)]) fun t =>
        t.pc == 0x8000#32 && t.cpsr == 0x600000F0#32 && t.reg 0#4 == 0x3008#32) = true ∧
    (leads 32 0xF96D0513 (({ small 0x1D2#32 [(14, 0x8004#32)] with spsrs := Vector.replicate 6 0x10#32 } : State).setRegIn 0b10011#5 13#4 0x4000#32) fun t =>
        t.memWord 0x3FF8#32 == 0x8004#32 && t.memWord 0x3FFC#32 == 0x10#32 && t.regIn 0b10011#5 13#4 == 0x3FF8#32) = true ∧
    (leads 32 0xF8CD051F (({ small 0x1D1#32 [(14, 0x8004#32)] with spsrs := Vector.replicate 6 0x1F#32 } : State).setRegIn 0b10000#5 13#4 0x5000#32) fun t =>
        t.memWord 0x5000#32 == 0x8004#32 && t.memWord 0x5004#32 == 0x1F#32 && t.regIn 0b10000#5 13#4 == 0x5000#32) = true := by decide +kernel

/-- 95 part 2.6: S1 to S4, S9, S11 to S16 and the byte and halfword stores. -/
theorem test_exclusives :
    (leads 32 0xE1910F9F (small 0x1D3#32 [(1, 0x1000#32)] [(0x1000, 5#8), (0x1001, 0xC3#8), (0x1004, 6#8)]) fun t =>
        t.reg 0#4 == 0xC305#32 && t.localMon == some ⟨0x1000#32, 4, false⟩) = true ∧
    (leads 32 0xE1812F93 { small 0x1D3#32 [(1, 0x1000#32), (2, 0x7#32), (3, 0x9#32)] [(0x1000, 5#8), (0x1001, 0xC3#8), (0x1004, 6#8)] with localMon := some ⟨0x1000#32, 4, false⟩, globalMon := some ⟨0x1000#32, 4, false⟩ } fun t =>
        t.reg 2#4 == 0x0#32 && t.memWord 0x1000#32 == 0x9#32 && t.localMon == none) = true ∧
    (leads 32 0xE1812F93 (small 0x1D3#32 [(1, 0x1000#32), (2, 0x7#32), (3, 0x9#32)] [(0x1000, 5#8), (0x1001, 0xC3#8), (0x1004, 6#8)]) fun t =>
        t.reg 2#4 == 0x1#32 && t.memWord 0x1000#32 == 0xC305#32 && t.localMon == none) = true ∧
    (leads 32 0xF57FF01F { small 0x1D3#32 [] [(0x1000, 5#8), (0x1001, 0xC3#8), (0x1004, 6#8)] with localMon := some ⟨0x1000#32, 4, false⟩, globalMon := some ⟨0x1000#32, 4, false⟩ } fun t =>
        t.localMon == none && t.memWord 0x1000#32 == 0xC305#32) = true ∧
    (leads 32 0xE1D10F9F (small 0x1D3#32 [(1, 0x1001#32)] [(0x1000, 5#8), (0x1001, 0xC3#8), (0x1004, 6#8)]) fun t => t.reg 0#4 == 0xC3#32) = true ∧
    (leads 32 0xE1F10F9F (small 0x1D3#32 [(1, 0x1000#32)] [(0x1000, 5#8), (0x1001, 0xC3#8), (0x1004, 6#8)]) fun t => t.reg 0#4 == 0xC305#32) = true ∧
    (leads 32 0xE1F10F9F (withControl 0x400000#32 (small 0x1D3#32 [(1, 0x1001#32)] [(0x1000, 5#8), (0x1001, 0xC3#8), (0x1004, 6#8)])) fun t =>
        t.mode == 0b10111#5) = true ∧
    (leads 32 0xE1B02F9F (small 0x1D3#32 [(0, 0x1000#32)] [(0x1000, 5#8), (0x1001, 0xC3#8), (0x1004, 6#8)]) fun t =>
        t.reg 2#4 == 0xC305#32 && t.reg 3#4 == 0x6#32) = true ∧
    (leads 32 0xE1A04F92 { small 0x1D3#32 [(0, 0x1000#32), (2, 0x1#32), (3, 0x2#32), (4, 0x7#32)] [(0x1000, 5#8), (0x1001, 0xC3#8), (0x1004, 6#8)] with localMon := some ⟨0x1000#32, 8, false⟩, globalMon := some ⟨0x1000#32, 8, false⟩ } fun t =>
        t.reg 4#4 == 0x0#32 && t.memWord 0x1000#32 == 0x1#32 && t.memWord 0x1004#32 == 0x2#32) = true ∧
    (leads 32 0xE1C14F92 { small 0x1D3#32 [(1, 0x1000#32), (2, 0xFF77#32)] [(0x1000, 5#8), (0x1001, 0xC3#8), (0x1004, 6#8)] with localMon := some ⟨0x1000#32, 1, false⟩, globalMon := some ⟨0x1000#32, 1, false⟩ } fun t =>
        t.reg 4#4 == 0x0#32 && t.memWord 0x1000#32 == 0xC377#32) = true ∧
    (leads 32 0xE1E14F92 { small 0x1D3#32 [(1, 0x1000#32), (2, 0x55554433#32)] [(0x1000, 5#8), (0x1001, 0xC3#8), (0x1004, 6#8)] with localMon := some ⟨0x1000#32, 2, false⟩, globalMon := some ⟨0x1000#32, 2, false⟩ } fun t =>
        t.reg 4#4 == 0x0#32 && t.memWord 0x1000#32 == 0x4433#32) = true ∧
    (leads 32 0xE1020091 (small 0x1D3#32 [(1, 0x9#32), (2, 0x1000#32)] [(0x1000, 5#8), (0x1001, 0xC3#8), (0x1004, 6#8)]) fun t =>
        t.reg 0#4 == 0xC305#32 && t.memWord 0x1000#32 == 0x9#32) = true ∧
    (leads 32 0xE1020090 (small 0x1D3#32 [(0, 0x9#32), (2, 0x1000#32)] [(0x1000, 5#8), (0x1001, 0xC3#8), (0x1004, 6#8)]) fun t =>
        t.reg 0#4 == 0xC305#32 && t.memWord 0x1000#32 == 0x9#32) = true ∧
    (leads 32 0xE1020091 (small 0x1D3#32 [(1, 0x9#32), (2, 0x1001#32)] bytes) fun t =>
        t.reg 0#4 == 0x11443322#32 && t.memWord 0x1000#32 == 0x9#32) = true ∧
    (leads 32 0xE1420091 (small 0x1D3#32 [(1, 0x1234#32), (2, 0x1000#32)] [(0x1000, 5#8), (0x1001, 0xC3#8), (0x1004, 6#8)]) fun t =>
        t.reg 0#4 == 0x5#32 && t.memWord 0x1000#32 == 0xC334#32) = true := by decide +kernel

/-- 95 part 2.7: P1, P3, P5, P6, P8 to P11, P15 to P17. -/
theorem test_status :
    (leads 32 0xE10F0000 (small 0x600F01D3#32 []) fun t => t.reg 0#4 == 0x600F01D3#32) = true ∧
    (leads 32 0xE328F20F (small 0x80001D3#32 []) fun t => t.cpsr == 0xF00001D3#32) = true ∧
    (leads 32 0xE12FF000 (small 0x1D3#32 [(0, 0xFFFFFFFF#32)]) fun t => t.cpsr == 0xF80F03DF#32) = true ∧
    (leads 32 0xE12FF000 (small 0x10#32 [(0, 0xFFFFFFFF#32)]) fun t => t.cpsr == 0xF80F0210#32) = true ∧
    (leads 32 0xE321F016 (small 0x1D3#32 []) fun t => t.cpsr == 0x116#32) = true ∧
    (leads 32 0xE16FF000 (small 0x1D3#32 [(0, 0xFFFFFFFF#32)]) fun t => t.spsrs[2] == 0xF90F03FF#32 && t.cpsr == 0x1D3#32) = true ∧
    (leads 32 0xF10C0080 (small 0x13#32 []) fun t => t.cpsr == 0x93#32) = true ∧
    (leads 32 0xF10C0080 (small 0x10#32 []) fun t => t.cpsr == 0x10#32) = true ∧
    (leads 32 0xF10E01DF (small 0x13#32 []) fun t => t.cpsr == 0x1DF#32) = true ∧
    (leads 32 0xF1010200 (small 0x1D3#32 []) fun t => t.cpsr == 0x3D3#32) = true ∧
    (leads 32 0xE320F0FF (small 0x1D3#32 []) fun t => t.cpsr == 0x1D3#32 && t.pc == 0x8004#32) = true := by decide +kernel

/-- 95 part 2.8: B1 to B3, B5 to B10, B12, B13; 2.11: X3, X11. -/
theorem test_branches :
    (leads 32 0xEA000002 (small 0x1D3#32 []) fun t => t.pc == 0x8010#32) = true ∧
    (leads 32 0xEAFFFFFE (small 0x1D3#32 []) fun t => t.pc == 0x8000#32) = true ∧
    (leads 32 0x1A000002 (small 0x400001D3#32 []) fun t => t.pc == 0x8004#32) = true ∧
    (leads 32 0xEBFFFFFC (small 0x1D3#32 []) fun t => t.pc == 0x7FF8#32 && t.reg 14#4 == 0x8004#32) = true ∧
    (leads 32 0xE12FFF10 (small 0x1D3#32 [(0, 0x9001#32)]) fun t => t.pc == 0x9000#32 && t.cpsr == 0x1F3#32) = true ∧
    (leads 32 0xE12FFF10 (small 0x1D3#32 [(0, 0x9000#32)]) fun t => t.pc == 0x9000#32 && t.cpsr == 0x1D3#32) = true ∧
    (leads 32 0xFB000002 (small 0x1D3#32 []) fun t => t.pc == 0x8012#32 && t.reg 14#4 == 0x8004#32 && t.cpsr == 0x1F3#32) = true ∧
    (leads 32 0xE12FFF3E (small 0x1D3#32 [(14, 0x9001#32)]) fun t => t.pc == 0x9000#32 && t.reg 14#4 == 0x8004#32 && t.cpsr == 0x1F3#32) = true ∧
    (leads 32 0xE12FFF20 (small 0x1D3#32 [(0, 0x9001#32)]) fun t => t.pc == 0x9000#32 && t.cpsr == 0x1F3#32) = true ∧
    (leads 32 0xE1600070 (small 0x10#32 []) fun t => t.reg 14#4 == 0x8004#32 && t.spsrs[4] == 0x10#32 && t.cpsr == 0x9B#32 && t.pc == 0x4#32) = true ∧
    (leads 32 0xE12ABC7D (small 0x10#32 []) fun t =>
        t.reg 14#4 == 0x8004#32 && t.spsrs[3] == 0x10#32 && t.cpsr == 0x197#32 && t.pc == 0xC#32 && (t.cp15.secure.ifsr &&& 0x40F#32) == 2#32) = true ∧
    (leads 32 0xEF123456 (small 0x60000010#32 []) fun t =>
        t.reg 14#4 == 0x8004#32 && t.spsrs[2] == 0x60000010#32 && t.cpsr == 0x60000093#32 && t.pc == 0x8#32) = true ∧
    (leads 32 0xE1600070 (small 0x1D3#32 []) fun t =>
        t.reg 14#4 == 0x8004#32 && t.spsrs[5] == 0x1D3#32 && t.cpsr == 0x1D6#32 && t.pc == 0x8#32) = true := by decide +kernel

/-- 95 part 2.9: C1 to C4, C7, C9, C11, C12, C14, C16 to C18, and DTR by LDC and STC. -/
theorem test_coprocessors :
    (leads 32 0xEE100F10 (small 0x1D3#32 []) fun t => t.reg 0#4 == 0x410FB767#32) = true ∧
    (leads 32 0xEE100F30 (small 0x1D3#32 []) fun t => t.reg 0#4 == 0x1D152152#32) = true ∧
    (leads 32 0xEE110F10 (small 0x1D3#32 []) fun t => t.reg 0#4 == 0x50078#32) = true ∧
    (leads 32 0xEE110F10 (small 0x10#32 []) fun t => t.mode == 0b11011#5 && t.reg 14#4 == 0x8004#32 && t.pc == 0x4#32) = true ∧
    (leads 32 0xEE070F9A (small 0x10#32 []) fun t => t.cpsr == 0x10#32 && t.pc == 0x8004#32) = true ∧
    (leads 32 0xEE070F90 (small 0x10#32 []) fun t => t.mode == 0b11011#5 && t.reg 14#4 == 0x8004#32 && t.pc == 0x4#32) = true ∧
    (leads 32 0xEE070F90 (small 0x1D3#32 []) fun t => t.standby && t.pc == 0x8004#32) = true ∧
    (leads 32 0xEE1D0F70 { small 0x10#32 [] with cp15 := { (small 0x10#32 []).cp15 with secure := { State.reset.cp15.secure with tpidUserRo := 0x1234#32 } } } fun t =>
        t.reg 0#4 == 0x1234#32) = true ∧
    (leads 32 0xEE0D0F70 (small 0x10#32 []) fun t => t.mode == 0b11011#5 && t.reg 14#4 == 0x8004#32 && t.pc == 0x4#32) = true ∧
    (leads 32 0xEE0C0F30 { small 0x1D3#32 [] with cp15 := { (small 0x10#32 []).cp15 with scr := 1#32 } } fun t =>
        t.mode == 0b11011#5 && t.reg 14#4 == 0x8004#32 && t.pc == 0x4#32) = true ∧
    (leads 32 0xEE0C0F10 (small 0x1D3#32 [(0, 0x10000#32)]) fun t => t.cp15.secure.vbar == 0x10000#32) = true ∧
    (leads 32 0xEE000F00 (small 0x1D3#32 []) fun t => t.mode == 0b11011#5 && t.reg 14#4 == 0x8004#32 && t.pc == 0x4#32) = true ∧
    (leads 32 0xEE000700 (small 0x1D3#32 []) fun t => t.mode == 0b11011#5 && t.reg 14#4 == 0x8004#32 && t.pc == 0x4#32) = true ∧
    (leads 32 0xEE100E10 (small 0x1D3#32 []) fun t => t.reg 0#4 == 0x15121007#32) = true ∧
    (leads 32 0xED915E00 (small 0x1D3#32 [(1, 0x1000#32)] bytes) fun t => t.dbg.wdtr == 0x44332211#32) = true ∧
    (leads 32 0xED815E00 { small 0x1D3#32 [(1, 0x1000#32)] bytes with dbg := { State.reset.dbg with rdtr := 0xDEADBEEF#32 } } fun t =>
        t.memWord 0x1000#32 == 0xDEADBEEF#32) = true ∧
    (leads 32 0xEC410F0C (small 0x1D3#32 [(0, 0x1FE0#32), (1, 0x1000#32)]) fun t => t.pc == 0x8004#32) = true ∧
    (leads 32 0xEC510F0C (small 0x1D3#32 []) fun t => t.mode == 0b11011#5 && t.reg 14#4 == 0x8004#32 && t.pc == 0x4#32) = true ∧
    (leads 32 0xFE000000 (small 0x1D3#32 []) fun t => t.mode == 0b11011#5 && t.reg 14#4 == 0x8004#32 && t.pc == 0x4#32) = true ∧
    (leads 32 0xFC400000 (small 0x1D3#32 []) fun t => t.mode == 0b11011#5 && t.reg 14#4 == 0x8004#32 && t.pc == 0x4#32) = true := by decide +kernel

/-- 95 part 2.10: T1 to T4, T6, T7, T10 to T17, T33, T34, and the other register forms. -/
theorem test_thumb1 :
    (leads 16 0x20FF (small 0x300001F3#32 []) fun t => t.reg 0#4 == 0xFF#32 && t.cpsr == 0x300001F3#32) = true ∧
    (leads 16 0x1DC8 (small 0x1F3#32 [(1, 0xFFFFFFF9#32)]) fun t => t.reg 0#4 == 0x0#32 && t.cpsr == 0x600001F3#32) = true ∧
    (leads 16 0x3201 (small 0x1F3#32 [(2, 0x7FFFFFFF#32)]) fun t => t.reg 2#4 == 0x80000000#32 && t.cpsr == 0x900001F3#32) = true ∧
    (leads 16 0x4440 (small 0xA00001F3#32 [(0, 0x1#32), (8, 0x2#32)]) fun t => t.reg 0#4 == 0x3#32 && t.cpsr == 0xA00001F3#32) = true ∧
    (leads 16 0xB082 (small 0x1F3#32 [(13, 0x2000#32)]) fun t => t.reg 13#4 == 0x1FF8#32 && t.cpsr == 0x1F3#32) = true ∧
    (leads 16 0x4248 (small 0x1F3#32 [(1, 0x1#32)]) fun t => t.reg 0#4 == 0xFFFFFFFF#32 && t.cpsr == 0x800001F3#32) = true ∧
    (leads 16 0x4248 (small 0x1F3#32 [(1, 0x80000000#32)]) fun t => t.reg 0#4 == 0x80000000#32 && t.cpsr == 0x900001F3#32) = true ∧
    (leads 16 0x4348 (small 0x300001F3#32 [(0, 0x10000#32), (1, 0x10000#32)]) fun t => t.reg 0#4 == 0x0#32 && t.cpsr == 0x700001F3#32) = true ∧
    (leads 16 0x0108 (small 0x1F3#32 [(1, 0x10000001#32)]) fun t => t.reg 0#4 == 0x10#32 && t.cpsr == 0x200001F3#32) = true ∧
    (leads 16 0x0808 (small 0x1F3#32 [(1, 0x80000000#32)]) fun t => t.reg 0#4 == 0x0#32 && t.cpsr == 0x600001F3#32) = true ∧
    (leads 16 0x17C8 (small 0x1F3#32 [(1, 0x80000000#32)]) fun t => t.reg 0#4 == 0xFFFFFFFF#32 && t.cpsr == 0x800001F3#32) = true ∧
    (leads 16 0x4088 (small 0x1F3#32 [(0, 0x1#32), (1, 0x20#32)]) fun t => t.reg 0#4 == 0x0#32 && t.cpsr == 0x600001F3#32) = true ∧
    (leads 16 0x4088 (small 0x200001F3#32 [(0, 0x1#32), (1, 0x100#32)]) fun t => t.reg 0#4 == 0x1#32 && t.cpsr == 0x200001F3#32) = true ∧
    (leads 16 0x41C8 (small 0x1F3#32 [(0, 0x80000001#32), (1, 0x1#32)]) fun t => t.reg 0#4 == 0xC0000000#32 && t.cpsr == 0xA00001F3#32) = true ∧
    (leads 16 0x2800 (small 0x1F3#32 []) fun t => t.cpsr == 0x600001F3#32) = true ∧
    (leads 16 0xBA08 (small 0xC00001F3#32 [(1, 0x11223344#32)]) fun t => t.reg 0#4 == 0x44332211#32 && t.cpsr == 0xC00001F3#32) = true ∧
    (leads 16 0xB248 (small 0x1F3#32 [(1, 0x80#32)]) fun t => t.reg 0#4 == 0xFFFFFF80#32) = true := by decide +kernel

/-- 48: one word for each of the remaining forms that compute in registers. -/
theorem test_thumb2 :
    (leads 16 0x188B (small 0x1F3#32 [(1, 0x5#32), (2, 0x6#32)]) fun t => t.reg 3#4 == 0xB#32) = true ∧
    (leads 16 0x1A8B (small 0x1F3#32 [(1, 0x5#32), (2, 0x6#32)]) fun t => t.reg 3#4 == 0xFFFFFFFF#32 && t.cpsr == 0x800001F3#32) = true ∧
    (leads 16 0x1C0B (small 0x1F3#32 [(1, 0x5#32)]) fun t => t.reg 3#4 == 0x5#32) = true ∧
    (leads 16 0x1ECB (small 0x1F3#32 [(1, 0x3#32)]) fun t => t.reg 3#4 == 0x0#32 && t.cpsr == 0x600001F3#32) = true ∧
    (leads 16 0x3805 (small 0x1F3#32 [(0, 0x7#32)]) fun t => t.reg 0#4 == 0x2#32) = true ∧
    (leads 16 0x4008 (small 0x1F3#32 [(0, 0xF0#32), (1, 0x3C#32)]) fun t => t.reg 0#4 == 0x30#32) = true ∧
    (leads 16 0x4048 (small 0x1F3#32 [(0, 0xF0#32), (1, 0x3C#32)]) fun t => t.reg 0#4 == 0xCC#32) = true ∧
    (leads 16 0x40C8 (small 0x1F3#32 [(0, 0x80#32), (1, 0x4#32)]) fun t => t.reg 0#4 == 0x8#32) = true ∧
    (leads 16 0x4108 (small 0x1F3#32 [(0, 0x80000000#32), (1, 0x4#32)]) fun t => t.reg 0#4 == 0xF8000000#32) = true ∧
    (leads 16 0x4148 (small 0x200001F3#32 [(0, 0x1#32), (1, 0x2#32)]) fun t => t.reg 0#4 == 0x4#32) = true ∧
    (leads 16 0x4188 (small 0x1F3#32 [(0, 0x5#32), (1, 0x2#32)]) fun t => t.reg 0#4 == 0x2#32) = true ∧
    (leads 16 0x4208 (small 0x1F3#32 [(0, 0x1#32), (1, 0x2#32)]) fun t => t.cpsr == 0x400001F3#32) = true ∧
    (leads 16 0x4288 (small 0x1F3#32 [(0, 0x1#32), (1, 0x2#32)]) fun t => t.cpsr == 0x800001F3#32) = true ∧
    (leads 16 0x42C8 (small 0x1F3#32 [(0, 0xFFFFFFFF#32), (1, 0x1#32)]) fun t => t.cpsr == 0x600001F3#32) = true ∧
    (leads 16 0x4308 (small 0x1F3#32 [(0, 0x1#32), (1, 0x2#32)]) fun t => t.reg 0#4 == 0x3#32) = true ∧
    (leads 16 0x4388 (small 0x1F3#32 [(0, 0x7#32), (1, 0x2#32)]) fun t => t.reg 0#4 == 0x5#32) = true ∧
    (leads 16 0x43C8 (small 0x1F3#32 [(1, 0xFFFFFFFF#32)]) fun t => t.reg 0#4 == 0x0#32 && t.cpsr == 0x400001F3#32) = true ∧
    (leads 16 0x4540 (small 0x1F3#32 [(0, 0x5#32), (8, 0x5#32)]) fun t => t.cpsr == 0x600001F3#32) = true ∧
    (leads 16 0x4680 (small 0x800001F3#32 [(0, 0x9#32)]) fun t => t.reg 8#4 == 0x9#32 && t.cpsr == 0x800001F3#32) = true ∧
    (leads 16 0xA002 (small 0x1F3#32 []) fun t => t.reg 0#4 == 0x800C#32) = true ∧
    (leads 16 0xA802 (small 0x1F3#32 [(13, 0x100#32)]) fun t => t.reg 0#4 == 0x108#32) = true ∧
    (leads 16 0xB002 (small 0x1F3#32 [(13, 0x100#32)]) fun t => t.reg 13#4 == 0x108#32) = true ∧
    (leads 16 0xB208 (small 0x1F3#32 [(1, 0x8000#32)]) fun t => t.reg 0#4 == 0xFFFF8000#32) = true ∧
    (leads 16 0xB288 (small 0x1F3#32 [(1, 0x18000#32)]) fun t => t.reg 0#4 == 0x8000#32) = true ∧
    (leads 16 0xB2C8 (small 0x1F3#32 [(1, 0x180#32)]) fun t => t.reg 0#4 == 0x80#32) = true ∧
    (leads 16 0xBA48 (small 0x1F3#32 [(1, 0x11223344#32)]) fun t => t.reg 0#4 == 0x22114433#32) = true ∧
    (leads 16 0xBAC8 (small 0x1F3#32 [(1, 0x1180#32)]) fun t => t.reg 0#4 == 0xFFFF8011#32) = true ∧
    (leads 16 0xB658 (small 0x1F3#32 []) fun t => t.cpsr == 0x3F3#32) = true ∧
    (leads 16 0xB672 (small 0x133#32 []) fun t => t.cpsr == 0x1B3#32) = true ∧
    (leads 16 0xB672 (small 0x30#32 []) fun t => t.cpsr == 0x30#32) = true := by decide +kernel

/-- 95 part 2.10: T25 to T28, and the other loads and stores. -/
theorem test_thumbMemory :
    (leads 16 0x4801 (small 0x1F3#32 [] [(0x8008, 0xFE#8), (0x8009, 0xCA#8)]) fun t => t.reg 0#4 == 0xCAFE#32) = true ∧
    (leads 16 0xB510 (small 0x1F3#32 [(13, 0x2000#32), (4, 0x4#32), (14, 0x8005#32)]) fun t =>
        t.memWord 0x1FF8#32 == 0x4#32 && t.memWord 0x1FFC#32 == 0x8005#32 && t.reg 13#4 == 0x1FF8#32) = true ∧
    (leads 16 0xBD10 (small 0x1F3#32 [(13, 0x1FF8#32)] [(0x1FF8, 4#8), (0x1FFC, 5#8), (0x1FFD, 0x80#8)]) fun t =>
        t.reg 4#4 == 0x4#32 && t.pc == 0x8004#32 && t.cpsr == 0x1F3#32 && t.reg 13#4 == 0x2000#32) = true ∧
    (leads 16 0xBD10 (small 0x1F3#32 [(13, 0x1FF8#32)] [(0x1FF8, 4#8), (0x1FFC, 4#8), (0x1FFD, 0x80#8)]) fun t =>
        t.pc == 0x8004#32 && t.cpsr == 0x1D3#32) = true ∧
    (leads 16 0x5888 (small 0x1F3#32 [(1, 0x1000#32), (2, 0x4#32)] bytes) fun t => t.reg 0#4 == 0x88776655#32) = true ∧
    (leads 16 0x5A88 (small 0x1F3#32 [(1, 0x1000#32), (2, 0x4#32)] bytes) fun t => t.reg 0#4 == 0x6655#32) = true ∧
    (leads 16 0x5C88 (small 0x1F3#32 [(1, 0x1000#32), (2, 0x4#32)] bytes) fun t => t.reg 0#4 == 0x55#32) = true ∧
    (leads 16 0x5688 (small 0x1F3#32 [(1, 0x1000#32), (2, 0x7#32)] bytes) fun t => t.reg 0#4 == 0xFFFFFF88#32) = true ∧
    (leads 16 0x5E88 (small 0x1F3#32 [(1, 0x1000#32), (2, 0x6#32)] bytes) fun t => t.reg 0#4 == 0xFFFF8877#32) = true ∧
    (leads 16 0x6848 (small 0x1F3#32 [(1, 0x1000#32), (2, 0x4#32)] bytes) fun t => t.reg 0#4 == 0x88776655#32) = true ∧
    (leads 16 0x78C8 (small 0x1F3#32 [(1, 0x1000#32), (2, 0x4#32)] bytes) fun t => t.reg 0#4 == 0x44#32) = true ∧
    (leads 16 0x8848 (small 0x1F3#32 [(1, 0x1000#32), (2, 0x4#32)] bytes) fun t => t.reg 0#4 == 0x4433#32) = true ∧
    (leads 16 0x9801 (small 0x1F3#32 [(13, 0x1000#32)] bytes) fun t => t.reg 0#4 == 0x88776655#32) = true ∧
    (leads 16 0x5088 (small 0x1F3#32 [(0, 0xDEADBEEF#32), (1, 0x1000#32), (2, 0x4#32), (13, 0x1000#32)] bytes) fun t =>
        t.memWord 0x1004#32 == 0xDEADBEEF#32) = true ∧
    (leads 16 0x5288 (small 0x1F3#32 [(0, 0xDEADBEEF#32), (1, 0x1000#32), (2, 0x4#32), (13, 0x1000#32)] bytes) fun t =>
        t.memWord 0x1004#32 == 0x8877BEEF#32) = true ∧
    (leads 16 0x5488 (small 0x1F3#32 [(0, 0xDEADBEEF#32), (1, 0x1000#32), (2, 0x4#32), (13, 0x1000#32)] bytes) fun t =>
        t.memWord 0x1004#32 == 0x887766EF#32) = true ∧
    (leads 16 0x6048 (small 0x1F3#32 [(0, 0xDEADBEEF#32), (1, 0x1000#32), (2, 0x4#32), (13, 0x1000#32)] bytes) fun t =>
        t.memWord 0x1004#32 == 0xDEADBEEF#32) = true ∧
    (leads 16 0x70C8 (small 0x1F3#32 [(0, 0xDEADBEEF#32), (1, 0x1000#32), (2, 0x4#32), (13, 0x1000#32)] bytes) fun t =>
        t.memWord 0x1000#32 == 0xEF332211#32) = true ∧
    (leads 16 0x8048 (small 0x1F3#32 [(0, 0xDEADBEEF#32), (1, 0x1000#32), (2, 0x4#32), (13, 0x1000#32)] bytes) fun t =>
        t.memWord 0x1000#32 == 0xBEEF2211#32) = true ∧
    (leads 16 0x9001 (small 0x1F3#32 [(0, 0xDEADBEEF#32), (1, 0x1000#32), (2, 0x4#32), (13, 0x1000#32)] bytes) fun t =>
        t.memWord 0x1004#32 == 0xDEADBEEF#32) = true ∧
    (leads 16 0xC906 (small 0x1F3#32 [(1, 0x1000#32), (2, 0x4#32)] bytes) fun t => t.reg 1#4 == 0x44332211#32 && t.reg 2#4 == 0x88776655#32) = true ∧
    (leads 16 0xC806 (small 0x1F3#32 [(0, 0x1000#32)] bytes) fun t => t.reg 1#4 == 0x44332211#32 && t.reg 0#4 == 0x1008#32) = true ∧
    (leads 16 0xC106 (small 0x1F3#32 [(1, 0x1000#32), (2, 0x4#32)] bytes) fun t =>
        t.memWord 0x1000#32 == 0x1000#32 && t.memWord 0x1004#32 == 0x4#32 && t.reg 1#4 == 0x1008#32) = true := by decide +kernel

/-- 95 part 2.10: T18 to T24, T29 to T31. -/
theorem test_thumbBranches :
    (leads 16 0xD002 (small 0x400001F3#32 []) fun t => t.pc == 0x8008#32) = true ∧
    (leads 16 0xD002 (small 0x1F3#32 []) fun t => t.pc == 0x8002#32) = true ∧
    (leads 16 0xE006 (small 0x1F3#32 []) fun t => t.pc == 0x8010#32) = true ∧
    (leads 16 0xF000 (small 0x1F3#32 []) fun t => t.reg 14#4 == 0x8004#32 && t.pc == 0x8002#32) = true ∧
    (leads 16 0xF87E { small 0x1F3#32 [(14, 0x8004#32)] with pc := 0x8002#32 } fun t =>
        t.pc == 0x8100#32 && t.reg 14#4 == 0x8005#32 && t.cpsr == 0x1F3#32) = true ∧
    (leads 16 0xE87E { small 0x1F3#32 [(14, 0x8004#32)] with pc := 0x8002#32 } fun t =>
        t.pc == 0x8100#32 && t.reg 14#4 == 0x8005#32 && t.cpsr == 0x1D3#32) = true ∧
    (leads 16 0x4700 (small 0x1F3#32 [(0, 0x9000#32)]) fun t => t.pc == 0x9000#32 && t.cpsr == 0x1D3#32) = true ∧
    (leads 16 0x4778 (small 0x1F3#32 []) fun t => t.pc == 0x8004#32 && t.cpsr == 0x1D3#32) = true ∧
    (leads 16 0x4798 (small 0x1F3#32 [(3, 0x9000#32)]) fun t => t.pc == 0x9000#32 && t.reg 14#4 == 0x8003#32 && t.cpsr == 0x1D3#32) = true ∧
    (leads 16 0xDF01 (small 0x30#32 []) fun t => t.reg 14#4 == 0x8002#32 && t.cpsr == 0x93#32 && t.pc == 0x8#32) = true ∧
    (leads 16 0xBEAB (small 0x1F3#32 []) fun t => t.reg 14#4 == 0x8004#32 && t.pc == 0xC#32) = true ∧
    (leads 16 0xDE00 (small 0x30#32 []) fun t => t.reg 14#4 == 0x8002#32 && t.cpsr == 0x9B#32 && t.pc == 0x4#32) = true ∧
    (leads 16 0xE801 (small 0x1F3#32 []) fun t => t.mode == 0b11011#5) = true := by decide +kernel

/-- 95 part 2.10: V1 to V6 and each other arithmetic instruction on small numbers (49:R1140 to R1149). -/
theorem test_vfpArithmetic :
    (leads 32 0xEE300A81 { small 0x1D3#32 [(0, 0x11111111#32), (1, 0x22222222#32), (2, 0x1000#32), (9, 0x1000#32)] bytes with vfp := vfpOf [(1, 0x3F800000#32), (2, 0x40000000#32)] 0x0#32 } fun t =>
        t.vfp.regs[0] == 0x40400000#32 && t.vfp.fpscr == 0x0#32) = true ∧
    (leads 32 0xEE300A81 { small 0x1D3#32 [(0, 0x11111111#32), (1, 0x22222222#32), (2, 0x1000#32), (9, 0x1000#32)] bytes with vfp := vfpOf [(1, 0x7F800000#32), (2, 0xFF800000#32)] 0x0#32 } fun t =>
        t.vfp.regs[0] == 0x7FC00000#32 && t.vfp.fpscr == 0x1#32) = true ∧
    (leads 32 0xEE300A81 { small 0x1D3#32 [(0, 0x11111111#32), (1, 0x22222222#32), (2, 0x1000#32), (9, 0x1000#32)] bytes with vfp := vfpOf [(1, 0x3F800000#32), (2, 0x1#32), (0, 0x7#32)] 0x0#32 } fun t =>
        t.vfp.regs[0] == 0x7#32 && (t.vfp.fpexc &&& 0x80000080#32) == 0x80000080#32 && t.vfp.fpinst == 0xEE300A81#32) = true ∧
    (leads 32 0xEE300A81 { small 0x1D3#32 [(0, 0x11111111#32), (1, 0x22222222#32), (2, 0x1000#32), (9, 0x1000#32)] bytes with vfp := vfpOf [(1, 0x3F800000#32), (2, 0x1#32)] 0x1000000#32 } fun t =>
        t.vfp.regs[0] == 0x3F800000#32 && t.vfp.fpscr == 0x1000080#32) = true ∧
    (leads 32 0xEE800A81 { small 0x1D3#32 [(0, 0x11111111#32), (1, 0x22222222#32), (2, 0x1000#32), (9, 0x1000#32)] bytes with vfp := vfpOf [(1, 0x3F800000#32), (2, 0x80000000#32)] 0x0#32 } fun t =>
        t.vfp.regs[0] == 0xFF800000#32 && t.vfp.fpscr == 0x2#32) = true ∧
    (leads 32 0xEE200A81 { small 0x1D3#32 [(0, 0x11111111#32), (1, 0x22222222#32), (2, 0x1000#32), (9, 0x1000#32)] bytes with vfp := vfpOf [(1, 0x7F7FFFFF#32), (2, 0x40000000#32)] 0x0#32 } fun t =>
        t.vfp.regs[0] == 0x7F800000#32 && t.vfp.fpscr == 0x14#32) = true ∧
    (leads 32 0xEE000A81 { small 0x1D3#32 [(0, 0x11111111#32), (1, 0x22222222#32), (2, 0x1000#32), (9, 0x1000#32)] bytes with vfp := vfpOf [(0, 0x3F800000#32), (1, 0x40000000#32), (2, 0x40400000#32)] 0x0#32 } fun t =>
        t.vfp.regs[0] == 0x40E00000#32) = true ∧
    (leads 32 0xEE000AC1 { small 0x1D3#32 [(0, 0x11111111#32), (1, 0x22222222#32), (2, 0x1000#32), (9, 0x1000#32)] bytes with vfp := vfpOf [(0, 0x3F800000#32), (1, 0x40000000#32), (2, 0x40400000#32)] 0x0#32 } fun t =>
        t.vfp.regs[0] == 0xC0A00000#32) = true ∧
    (leads 32 0xEE100A81 { small 0x1D3#32 [(0, 0x11111111#32), (1, 0x22222222#32), (2, 0x1000#32), (9, 0x1000#32)] bytes with vfp := vfpOf [(0, 0x3F800000#32), (1, 0x40000000#32), (2, 0x40400000#32)] 0x0#32 } fun t =>
        t.vfp.regs[0] == 0x40A00000#32) = true ∧
    (leads 32 0xEE100AC1 { small 0x1D3#32 [(0, 0x11111111#32), (1, 0x22222222#32), (2, 0x1000#32), (9, 0x1000#32)] bytes with vfp := vfpOf [(0, 0x3F800000#32), (1, 0x40000000#32), (2, 0x40400000#32)] 0x0#32 } fun t =>
        t.vfp.regs[0] == 0xC0E00000#32) = true ∧
    (leads 32 0xEE200A81 { small 0x1D3#32 [(0, 0x11111111#32), (1, 0x22222222#32), (2, 0x1000#32), (9, 0x1000#32)] bytes with vfp := vfpOf [(0, 0x3F800000#32), (1, 0x40000000#32), (2, 0x40400000#32)] 0x0#32 } fun t =>
        t.vfp.regs[0] == 0x40C00000#32) = true ∧
    (leads 32 0xEE200AC1 { small 0x1D3#32 [(0, 0x11111111#32), (1, 0x22222222#32), (2, 0x1000#32), (9, 0x1000#32)] bytes with vfp := vfpOf [(0, 0x3F800000#32), (1, 0x40000000#32), (2, 0x40400000#32)] 0x0#32 } fun t =>
        t.vfp.regs[0] == 0xC0C00000#32) = true ∧
    (leads 32 0xEE300AC1 { small 0x1D3#32 [(0, 0x11111111#32), (1, 0x22222222#32), (2, 0x1000#32), (9, 0x1000#32)] bytes with vfp := vfpOf [(0, 0x3F800000#32), (1, 0x40000000#32), (2, 0x40400000#32)] 0x0#32 } fun t =>
        t.vfp.regs[0] == 0xBF800000#32) = true ∧
    (leads 32 0xEE800A81 { small 0x1D3#32 [(0, 0x11111111#32), (1, 0x22222222#32), (2, 0x1000#32), (9, 0x1000#32)] bytes with vfp := vfpOf [(1, 0x40C00000#32), (2, 0x40000000#32)] 0x0#32 } fun t =>
        t.vfp.regs[0] == 0x40400000#32) = true ∧
    (leads 32 0xEEB10AC1 { small 0x1D3#32 [(0, 0x11111111#32), (1, 0x22222222#32), (2, 0x1000#32), (9, 0x1000#32)] bytes with vfp := vfpOf [(2, 0x41100000#32)] 0x0#32 } fun t =>
        t.vfp.regs[0] == 0x40400000#32) = true ∧
    (leads 32 0xEE010B02 { small 0x1D3#32 [(0, 0x11111111#32), (1, 0x22222222#32), (2, 0x1000#32), (9, 0x1000#32)] bytes with vfp := vfpOf [(1, 0x3FF00000#32), (3, 0x40000000#32), (5, 0x40080000#32)] 0x0#32 } fun t =>
        t.vfp.regs[1] == 0x401C0000#32) = true ∧
    (leads 32 0xEE010B42 { small 0x1D3#32 [(0, 0x11111111#32), (1, 0x22222222#32), (2, 0x1000#32), (9, 0x1000#32)] bytes with vfp := vfpOf [(1, 0x3FF00000#32), (3, 0x40000000#32), (5, 0x40080000#32)] 0x0#32 } fun t =>
        t.vfp.regs[1] == 0xC0140000#32) = true ∧
    (leads 32 0xEE110B02 { small 0x1D3#32 [(0, 0x11111111#32), (1, 0x22222222#32), (2, 0x1000#32), (9, 0x1000#32)] bytes with vfp := vfpOf [(1, 0x3FF00000#32), (3, 0x40000000#32), (5, 0x40080000#32)] 0x0#32 } fun t =>
        t.vfp.regs[1] == 0x40140000#32) = true ∧
    (leads 32 0xEE110B42 { small 0x1D3#32 [(0, 0x11111111#32), (1, 0x22222222#32), (2, 0x1000#32), (9, 0x1000#32)] bytes with vfp := vfpOf [(1, 0x3FF00000#32), (3, 0x40000000#32), (5, 0x40080000#32)] 0x0#32 } fun t =>
        t.vfp.regs[1] == 0xC01C0000#32) = true ∧
    (leads 32 0xEE210B02 { small 0x1D3#32 [(0, 0x11111111#32), (1, 0x22222222#32), (2, 0x1000#32), (9, 0x1000#32)] bytes with vfp := vfpOf [(1, 0x3FF00000#32), (3, 0x40000000#32), (5, 0x40080000#32)] 0x0#32 } fun t =>
        t.vfp.regs[1] == 0x40180000#32) = true ∧
    (leads 32 0xEE210B42 { small 0x1D3#32 [(0, 0x11111111#32), (1, 0x22222222#32), (2, 0x1000#32), (9, 0x1000#32)] bytes with vfp := vfpOf [(1, 0x3FF00000#32), (3, 0x40000000#32), (5, 0x40080000#32)] 0x0#32 } fun t =>
        t.vfp.regs[1] == 0xC0180000#32) = true ∧
    (leads 32 0xEE310B02 { small 0x1D3#32 [(0, 0x11111111#32), (1, 0x22222222#32), (2, 0x1000#32), (9, 0x1000#32)] bytes with vfp := vfpOf [(1, 0x3FF00000#32), (3, 0x40000000#32), (5, 0x40080000#32)] 0x0#32 } fun t =>
        t.vfp.regs[1] == 0x40140000#32) = true ∧
    (leads 32 0xEE310B42 { small 0x1D3#32 [(0, 0x11111111#32), (1, 0x22222222#32), (2, 0x1000#32), (9, 0x1000#32)] bytes with vfp := vfpOf [(1, 0x3FF00000#32), (3, 0x40000000#32), (5, 0x40080000#32)] 0x0#32 } fun t =>
        t.vfp.regs[1] == 0xBFF00000#32) = true ∧
    (leads 32 0xEE810B02 { small 0x1D3#32 [(0, 0x11111111#32), (1, 0x22222222#32), (2, 0x1000#32), (9, 0x1000#32)] bytes with vfp := vfpOf [(3, 0x40180000#32), (5, 0x40000000#32)] 0x0#32 } fun t =>
        t.vfp.regs[1] == 0x40080000#32) = true ∧
    (leads 32 0xEEB10BC2 { small 0x1D3#32 [(0, 0x11111111#32), (1, 0x22222222#32), (2, 0x1000#32), (9, 0x1000#32)] bytes with vfp := vfpOf [(5, 0x40220000#32)] 0x0#32 } fun t =>
        t.vfp.regs[1] == 0x40080000#32) = true := by decide +kernel

/-- 95 part 2.10: V7 to V9 and the double and zero forms; FMSTAT. -/
theorem test_vfpComparisons :
    (leads 32 0xEEF40A41 { small 0x1D3#32 [(0, 0x11111111#32), (1, 0x22222222#32), (2, 0x1000#32), (9, 0x1000#32)] bytes with vfp := vfpOf [(1, 0x3F800000#32), (2, 0x40000000#32)] 0x0#32 } fun t =>
        t.vfp.fpscr == 0x80000000#32) = true ∧
    (leads 32 0xEEF40A41 { small 0x1D3#32 [(0, 0x11111111#32), (1, 0x22222222#32), (2, 0x1000#32), (9, 0x1000#32)] bytes with vfp := vfpOf [(1, 0x3F800000#32), (2, 0x3F800000#32)] 0x0#32 } fun t =>
        t.vfp.fpscr == 0x60000000#32) = true ∧
    (leads 32 0xEEF40A41 { small 0x1D3#32 [(0, 0x11111111#32), (1, 0x22222222#32), (2, 0x1000#32), (9, 0x1000#32)] bytes with vfp := vfpOf [(1, 0x40000000#32), (2, 0x3F800000#32)] 0x0#32 } fun t =>
        t.vfp.fpscr == 0x20000000#32) = true ∧
    (leads 32 0xEEF40A41 { small 0x1D3#32 [(0, 0x11111111#32), (1, 0x22222222#32), (2, 0x1000#32), (9, 0x1000#32)] bytes with vfp := vfpOf [(1, 0x7FC00000#32), (2, 0x3F800000#32)] 0x2000000#32 } fun t =>
        t.vfp.fpscr == 0x32000000#32) = true ∧
    (leads 32 0xEEF40AC1 { small 0x1D3#32 [(0, 0x11111111#32), (1, 0x22222222#32), (2, 0x1000#32), (9, 0x1000#32)] bytes with vfp := vfpOf [(1, 0x7FC00000#32), (2, 0x3F800000#32)] 0x2000000#32 } fun t =>
        t.vfp.fpscr == 0x32000001#32) = true ∧
    (leads 32 0xEEB40B41 { small 0x1D3#32 [(0, 0x11111111#32), (1, 0x22222222#32), (2, 0x1000#32), (9, 0x1000#32)] bytes with vfp := vfpOf [(1, 0x3FF00000#32), (3, 0x40000000#32)] 0x0#32 } fun t =>
        t.vfp.fpscr == 0x80000000#32) = true ∧
    (leads 32 0xEEB40BC1 { small 0x1D3#32 [(0, 0x11111111#32), (1, 0x22222222#32), (2, 0x1000#32), (9, 0x1000#32)] bytes with vfp := vfpOf [(1, 0x40000000#32), (3, 0x3FF00000#32)] 0x0#32 } fun t =>
        t.vfp.fpscr == 0x20000000#32) = true ∧
    (leads 32 0xEEF50A40 { small 0x1D3#32 [(0, 0x11111111#32), (1, 0x22222222#32), (2, 0x1000#32), (9, 0x1000#32)] bytes with vfp := vfpOf [(1, 0x3F800000#32)] 0x0#32 } fun t =>
        t.vfp.fpscr == 0x20000000#32) = true ∧
    (leads 32 0xEEF50AC0 { small 0x1D3#32 [(0, 0x11111111#32), (1, 0x22222222#32), (2, 0x1000#32), (9, 0x1000#32)] bytes with vfp := vfpOf [(1, 0xBF800000#32)] 0x0#32 } fun t =>
        t.vfp.fpscr == 0x80000000#32) = true ∧
    (leads 32 0xEEB50B40 { small 0x1D3#32 [(0, 0x11111111#32), (1, 0x22222222#32), (2, 0x1000#32), (9, 0x1000#32)] bytes with vfp := vfpOf [(1, 0x80000000#32)] 0x0#32 } fun t =>
        t.vfp.fpscr == 0x60000000#32) = true ∧
    (leads 32 0xEEB50BC0 { small 0x1D3#32 [(0, 0x11111111#32), (1, 0x22222222#32), (2, 0x1000#32), (9, 0x1000#32)] bytes with vfp := vfpOf [(1, 0x3FF00000#32)] 0x0#32 } fun t =>
        t.vfp.fpscr == 0x20000000#32) = true ∧
    (leads 32 0xEEF1FA10 { small 0x1D3#32 [(0, 0x11111111#32), (1, 0x22222222#32), (2, 0x1000#32), (9, 0x1000#32)] bytes with vfp := vfpOf [] 0x80000000#32 } fun t =>
        t.cpsr == 0x800001D3#32) = true := by decide +kernel

/-- 95 part 2.10: V10 to V15 and the other conversions. -/
theorem test_vfpConversions :
    (leads 32 0xEEBD0AC0 { small 0x1D3#32 [(0, 0x11111111#32), (1, 0x22222222#32), (2, 0x1000#32), (9, 0x1000#32)] bytes with vfp := vfpOf [(0, 0x4F000000#32)] 0x0#32 } fun t =>
        t.vfp.regs[0] == 0x7FFFFFFF#32 && t.vfp.fpscr == 0x1#32) = true ∧
    (leads 32 0xEEBD0AC0 { small 0x1D3#32 [(0, 0x11111111#32), (1, 0x22222222#32), (2, 0x1000#32), (9, 0x1000#32)] bytes with vfp := vfpOf [(0, 0xBFC00000#32)] 0x0#32 } fun t =>
        t.vfp.regs[0] == 0xFFFFFFFF#32 && t.vfp.fpscr == 0x10#32) = true ∧
    (leads 32 0xEEBC0A40 { small 0x1D3#32 [(0, 0x11111111#32), (1, 0x22222222#32), (2, 0x1000#32), (9, 0x1000#32)] bytes with vfp := vfpOf [(0, 0xBF800000#32)] 0x0#32 } fun t =>
        t.vfp.regs[0] == 0x0#32 && t.vfp.fpscr == 0x1#32) = true ∧
    (leads 32 0xEEB80A40 { small 0x1D3#32 [(0, 0x11111111#32), (1, 0x22222222#32), (2, 0x1000#32), (9, 0x1000#32)] bytes with vfp := vfpOf [(0, 0xFFFFFFFF#32)] 0x0#32 } fun t =>
        t.vfp.regs[0] == 0x4F800000#32 && t.vfp.fpscr == 0x10#32) = true ∧
    (leads 32 0xEEB80BC0 { small 0x1D3#32 [(0, 0x11111111#32), (1, 0x22222222#32), (2, 0x1000#32), (9, 0x1000#32)] bytes with vfp := vfpOf [(0, 0xFFFFFFFF#32)] 0x0#32 } fun t =>
        t.vfp.regs[1] == 0xBFF00000#32 && t.vfp.regs[0] == 0x0#32) = true ∧
    (leads 32 0xEEB70AC0 { small 0x1D3#32 [(0, 0x11111111#32), (1, 0x22222222#32), (2, 0x1000#32), (9, 0x1000#32)] bytes with vfp := vfpOf [(0, 0x3FC00000#32)] 0x0#32 } fun t =>
        t.vfp.regs[1] == 0x3FF80000#32 && t.vfp.regs[0] == 0x0#32) = true ∧
    (leads 32 0xEEB70BC1 { small 0x1D3#32 [(0, 0x11111111#32), (1, 0x22222222#32), (2, 0x1000#32), (9, 0x1000#32)] bytes with vfp := vfpOf [(3, 0x3FF80000#32)] 0x0#32 } fun t =>
        t.vfp.regs[0] == 0x3FC00000#32) = true ∧
    (leads 32 0xEEB80AC0 { small 0x1D3#32 [(0, 0x11111111#32), (1, 0x22222222#32), (2, 0x1000#32), (9, 0x1000#32)] bytes with vfp := vfpOf [(0, 0xFFFFFFFE#32)] 0x0#32 } fun t =>
        t.vfp.regs[0] == 0xC0000000#32) = true ∧
    (leads 32 0xEEB80B40 { small 0x1D3#32 [(0, 0x11111111#32), (1, 0x22222222#32), (2, 0x1000#32), (9, 0x1000#32)] bytes with vfp := vfpOf [(0, 0x80000000#32)] 0x0#32 } fun t =>
        t.vfp.regs[1] == 0x41E00000#32) = true ∧
    (leads 32 0xEEBC0B41 { small 0x1D3#32 [(0, 0x11111111#32), (1, 0x22222222#32), (2, 0x1000#32), (9, 0x1000#32)] bytes with vfp := vfpOf [(3, 0x40080000#32)] 0x0#32 } fun t =>
        t.vfp.regs[0] == 0x3#32) = true ∧
    (leads 32 0xEEBC0AC0 { small 0x1D3#32 [(0, 0x11111111#32), (1, 0x22222222#32), (2, 0x1000#32), (9, 0x1000#32)] bytes with vfp := vfpOf [(0, 0x40600000#32)] 0x0#32 } fun t =>
        t.vfp.regs[0] == 0x3#32 && t.vfp.fpscr == 0x10#32) = true ∧
    (leads 32 0xEEBC0BC1 { small 0x1D3#32 [(0, 0x11111111#32), (1, 0x22222222#32), (2, 0x1000#32), (9, 0x1000#32)] bytes with vfp := vfpOf [(3, 0x400C0000#32)] 0x0#32 } fun t =>
        t.vfp.regs[0] == 0x3#32) = true ∧
    (leads 32 0xEEBD0A40 { small 0x1D3#32 [(0, 0x11111111#32), (1, 0x22222222#32), (2, 0x1000#32), (9, 0x1000#32)] bytes with vfp := vfpOf [(0, 0x40600000#32)] 0x0#32 } fun t =>
        t.vfp.regs[0] == 0x4#32) = true ∧
    (leads 32 0xEEBD0B41 { small 0x1D3#32 [(0, 0x11111111#32), (1, 0x22222222#32), (2, 0x1000#32), (9, 0x1000#32)] bytes with vfp := vfpOf [(3, 0xC00C0000#32)] 0x0#32 } fun t =>
        t.vfp.regs[0] == 0xFFFFFFFC#32) = true ∧
    (leads 32 0xEEBD0BC1 { small 0x1D3#32 [(0, 0x11111111#32), (1, 0x22222222#32), (2, 0x1000#32), (9, 0x1000#32)] bytes with vfp := vfpOf [(3, 0xC00C0000#32)] 0x0#32 } fun t =>
        t.vfp.regs[0] == 0xFFFFFFFD#32) = true := by decide +kernel

/-- 95 part 2.10: V16 to V18, V20, V22 to V24, and the copies and transfers. -/
theorem test_vfpMoves :
    (leads 32 0xEC410A30 { small 0x1D3#32 [(0, 0x11111111#32), (1, 0x22222222#32), (2, 0x1000#32), (9, 0x1000#32)] bytes with vfp := vfpOf [] 0x0#32 } fun t =>
        t.vfp.regs[1] == 0x11111111#32 && t.vfp.regs[2] == 0x22222222#32) = true ∧
    (leads 32 0xEC410B12 { small 0x1D3#32 [(0, 0x11111111#32), (1, 0x22222222#32), (2, 0x1000#32), (9, 0x1000#32)] bytes with vfp := vfpOf [] 0x0#32 } fun t =>
        t.vfp.regs[4] == 0x11111111#32 && t.vfp.regs[5] == 0x22222222#32) = true ∧
    (leads 32 0xEC532B12 { small 0x1D3#32 [(0, 0x11111111#32), (1, 0x22222222#32), (2, 0x1000#32), (9, 0x1000#32)] bytes with vfp := vfpOf [(4, 0xAAAA#32), (5, 0xBBBB#32)] 0x0#32 } fun t =>
        t.reg 2#4 == 0xAAAA#32 && t.reg 3#4 == 0xBBBB#32) = true ∧
    (leads 32 0xEEF00A10 { small 0x1D3#32 [(0, 0x11111111#32), (1, 0x22222222#32), (2, 0x1000#32), (9, 0x1000#32)] bytes with vfp := vfpOf [] 0x0#32 } fun t =>
        t.reg 0#4 == 0x410120B5#32) = true ∧
    (leads 32 0xEC532A30 { small 0x1D3#32 [(0, 0x11111111#32), (1, 0x22222222#32), (2, 0x1000#32), (9, 0x1000#32)] bytes with vfp := vfpOf [(1, 0x5#32), (2, 0x6#32)] 0x0#32 } fun t =>
        t.reg 2#4 == 0x5#32 && t.reg 3#4 == 0x6#32) = true ∧
    (leads 32 0xEE384A0C { small 0x1D3#32 [(0, 0x11111111#32), (1, 0x22222222#32), (2, 0x1000#32), (9, 0x1000#32)] bytes with vfp := vfpOf [(16, 0x3F800000#32), (17, 0x3F800000#32), (18, 0x3F800000#32), (19, 0x3F800000#32), (24, 0x40000000#32), (25, 0x40000000#32), (26, 0x40000000#32), (27, 0x40000000#32)] 0x30000#32 } fun t =>
        t.vfp.regs[8] == 0x40400000#32 && t.vfp.regs[11] == 0x40400000#32 && t.vfp.regs[12] == 0x0#32) = true ∧
    (leads 32 0xEE384A00 { small 0x1D3#32 [(0, 0x11111111#32), (1, 0x22222222#32), (2, 0x1000#32), (9, 0x1000#32)] bytes with vfp := vfpOf [(16, 0x3F800000#32), (17, 0x3F800000#32), (18, 0x3F800000#32), (19, 0x3F800000#32), (0, 0x40000000#32)] 0x30000#32 } fun t =>
        t.vfp.regs[8] == 0x40400000#32 && t.vfp.regs[11] == 0x40400000#32) = true ∧
    (leads 32 0xED994A00 { small 0x1D3#32 [(0, 0x11111111#32), (1, 0x22222222#32), (2, 0x1000#32), (9, 0x1000#32)] bytes with vfp := vfpOf [] 0x0#32 } fun t =>
        t.vfp.regs[8] == 0x44332211#32) = true ∧
    (leads 32 0xEC924A03 { small 0x1D3#32 [(0, 0x11111111#32), (1, 0x22222222#32), (2, 0x1000#32), (9, 0x1000#32)] bytes with vfp := vfpOf [] 0x0#32 } fun t =>
        t.vfp.regs[8] == 0x44332211#32 && t.vfp.regs[10] == 0xCCBBAA99#32) = true ∧
    (leads 32 0xEEB00A60 { small 0x1D3#32 [(0, 0x11111111#32), (1, 0x22222222#32), (2, 0x1000#32), (9, 0x1000#32)] bytes with vfp := vfpOf [(1, 0x5#32)] 0x0#32 } fun t =>
        t.vfp.regs[0] == 0x5#32) = true ∧
    (leads 32 0xEEB00AE0 { small 0x1D3#32 [(0, 0x11111111#32), (1, 0x22222222#32), (2, 0x1000#32), (9, 0x1000#32)] bytes with vfp := vfpOf [(1, 0xBF800000#32)] 0x0#32 } fun t =>
        t.vfp.regs[0] == 0x3F800000#32) = true ∧
    (leads 32 0xEEB10A60 { small 0x1D3#32 [(0, 0x11111111#32), (1, 0x22222222#32), (2, 0x1000#32), (9, 0x1000#32)] bytes with vfp := vfpOf [(1, 0x3F800000#32)] 0x0#32 } fun t =>
        t.vfp.regs[0] == 0xBF800000#32) = true ∧
    (leads 32 0xEEB00B41 { small 0x1D3#32 [(0, 0x11111111#32), (1, 0x22222222#32), (2, 0x1000#32), (9, 0x1000#32)] bytes with vfp := vfpOf [(2, 0x5#32), (3, 0x6#32)] 0x0#32 } fun t =>
        t.vfp.regs[0] == 0x5#32 && t.vfp.regs[1] == 0x6#32) = true ∧
    (leads 32 0xEEB00BC1 { small 0x1D3#32 [(0, 0x11111111#32), (1, 0x22222222#32), (2, 0x1000#32), (9, 0x1000#32)] bytes with vfp := vfpOf [(3, 0xBFF00000#32)] 0x0#32 } fun t =>
        t.vfp.regs[1] == 0x3FF00000#32) = true ∧
    (leads 32 0xEEB10B41 { small 0x1D3#32 [(0, 0x11111111#32), (1, 0x22222222#32), (2, 0x1000#32), (9, 0x1000#32)] bytes with vfp := vfpOf [(3, 0x3FF00000#32)] 0x0#32 } fun t =>
        t.vfp.regs[1] == 0xBFF00000#32) = true ∧
    (leads 32 0xEE001A10 { small 0x1D3#32 [(0, 0x11111111#32), (1, 0x22222222#32), (2, 0x1000#32), (9, 0x1000#32)] bytes with vfp := vfpOf [] 0x0#32 } fun t =>
        t.vfp.regs[0] == 0x22222222#32) = true ∧
    (leads 32 0xEE101A90 { small 0x1D3#32 [(0, 0x11111111#32), (1, 0x22222222#32), (2, 0x1000#32), (9, 0x1000#32)] bytes with vfp := vfpOf [(1, 0x7#32)] 0x0#32 } fun t =>
        t.reg 1#4 == 0x7#32) = true ∧
    (leads 32 0xEE011B10 { small 0x1D3#32 [(0, 0x11111111#32), (1, 0x22222222#32), (2, 0x1000#32), (9, 0x1000#32)] bytes with vfp := vfpOf [] 0x0#32 } fun t =>
        t.vfp.regs[2] == 0x22222222#32) = true ∧
    (leads 32 0xEE111B10 { small 0x1D3#32 [(0, 0x11111111#32), (1, 0x22222222#32), (2, 0x1000#32), (9, 0x1000#32)] bytes with vfp := vfpOf [(2, 0x7#32)] 0x0#32 } fun t =>
        t.reg 1#4 == 0x7#32) = true ∧
    (leads 32 0xEE211B10 { small 0x1D3#32 [(0, 0x11111111#32), (1, 0x22222222#32), (2, 0x1000#32), (9, 0x1000#32)] bytes with vfp := vfpOf [] 0x0#32 } fun t =>
        t.vfp.regs[3] == 0x22222222#32) = true ∧
    (leads 32 0xEE311B10 { small 0x1D3#32 [(0, 0x11111111#32), (1, 0x22222222#32), (2, 0x1000#32), (9, 0x1000#32)] bytes with vfp := vfpOf [(3, 0x7#32)] 0x0#32 } fun t =>
        t.reg 1#4 == 0x7#32) = true ∧
    (leads 32 0xEEE11A10 { small 0x1D3#32 [(0, 0x11111111#32), (1, 0x22222222#32), (2, 0x1000#32), (9, 0x1000#32)] bytes with vfp := vfpOf [] 0x0#32 } fun t =>
        t.vfp.fpscr == 0x22220202#32) = true := by decide +kernel

/-- 49:R1170 to R1173: the loads and stores of one register and of blocks. -/
theorem test_vfpMemory :
    (leads 32 0xED920B00 { small 0x1D3#32 [(0, 0x11111111#32), (1, 0x22222222#32), (2, 0x1000#32), (9, 0x1000#32)] bytes with vfp := vfpOf [] 0x0#32 } fun t =>
        t.vfp.regs[0] == 0x44332211#32 && t.vfp.regs[1] == 0x88776655#32) = true ∧
    (leads 32 0xED820A00 { small 0x1D3#32 [(0, 0x11111111#32), (1, 0x22222222#32), (2, 0x1000#32), (9, 0x1000#32)] bytes with vfp := vfpOf [(0, 0xDEADBEEF#32)] 0x0#32 } fun t =>
        t.memWord 0x1000#32 == 0xDEADBEEF#32) = true ∧
    (leads 32 0xED820B00 { small 0x1D3#32 [(0, 0x11111111#32), (1, 0x22222222#32), (2, 0x1000#32), (9, 0x1000#32)] bytes with vfp := vfpOf [(0, 0x1#32), (1, 0xDEADBEEF#32)] 0x0#32 } fun t =>
        t.memWord 0x1000#32 == 0x1#32 && t.memWord 0x1004#32 == 0xDEADBEEF#32) = true ∧
    (leads 32 0xECB20A02 { small 0x1D3#32 [(0, 0x11111111#32), (1, 0x22222222#32), (2, 0x1000#32), (9, 0x1000#32)] bytes with vfp := vfpOf [] 0x0#32 } fun t =>
        t.vfp.regs[1] == 0x88776655#32 && t.reg 2#4 == 0x1008#32) = true ∧
    (leads 32 0xEC920B04 { small 0x1D3#32 [(0, 0x11111111#32), (1, 0x22222222#32), (2, 0x1000#32), (9, 0x1000#32)] bytes with vfp := vfpOf [] 0x0#32 } fun t =>
        t.vfp.regs[0] == 0x44332211#32 && t.vfp.regs[3] == 0x0#32) = true ∧
    (leads 32 0xECB20B02 { small 0x1D3#32 [(0, 0x11111111#32), (1, 0x22222222#32), (2, 0x1000#32), (9, 0x1000#32)] bytes with vfp := vfpOf [] 0x0#32 } fun t =>
        t.vfp.regs[1] == 0x88776655#32 && t.reg 2#4 == 0x1008#32) = true ∧
    (leads 32 0xED320A02 { small 0x1D3#32 [(0, 0x11111111#32), (1, 0x22222222#32), (2, 0x1000#32), (9, 0x1000#32)] bytes with vfp := vfpOf [(0, 0x5#32)] 0x0#32 } fun t =>
        t.vfp.regs[0] == 0x0#32 && t.reg 2#4 == 0xFF8#32) = true ∧
    (leads 32 0xED320B02 { small 0x1D3#32 [(0, 0x11111111#32), (1, 0x22222222#32), (2, 0x1000#32), (9, 0x1000#32)] bytes with vfp := vfpOf [(0, 0x5#32)] 0x0#32 } fun t =>
        t.vfp.regs[0] == 0x0#32 && t.reg 2#4 == 0xFF8#32) = true ∧
    (leads 32 0xEC820A02 { small 0x1D3#32 [(0, 0x11111111#32), (1, 0x22222222#32), (2, 0x1000#32), (9, 0x1000#32)] bytes with vfp := vfpOf [(0, 0x5#32), (1, 0x6#32)] 0x0#32 } fun t =>
        t.memWord 0x1000#32 == 0x5#32 && t.memWord 0x1004#32 == 0x6#32 && t.reg 2#4 == 0x1000#32) = true ∧
    (leads 32 0xEC820B02 { small 0x1D3#32 [(0, 0x11111111#32), (1, 0x22222222#32), (2, 0x1000#32), (9, 0x1000#32)] bytes with vfp := vfpOf [(0, 0x5#32), (1, 0x6#32)] 0x0#32 } fun t =>
        t.memWord 0x1000#32 == 0x5#32 && t.memWord 0x1004#32 == 0x6#32) = true ∧
    (leads 32 0xECA20A02 { small 0x1D3#32 [(0, 0x11111111#32), (1, 0x22222222#32), (2, 0x1000#32), (9, 0x1000#32)] bytes with vfp := vfpOf [(0, 0x5#32), (1, 0x6#32)] 0x0#32 } fun t =>
        t.memWord 0x1004#32 == 0x6#32 && t.reg 2#4 == 0x1008#32) = true ∧
    (leads 32 0xECA20B02 { small 0x1D3#32 [(0, 0x11111111#32), (1, 0x22222222#32), (2, 0x1000#32), (9, 0x1000#32)] bytes with vfp := vfpOf [(0, 0x5#32), (1, 0x6#32)] 0x0#32 } fun t =>
        t.memWord 0x1004#32 == 0x6#32 && t.reg 2#4 == 0x1008#32) = true ∧
    (leads 32 0xED220A02 { small 0x1D3#32 [(0, 0x11111111#32), (1, 0x22222222#32), (2, 0x1000#32), (9, 0x1000#32)] bytes with vfp := vfpOf [(0, 0x5#32), (1, 0x6#32)] 0x0#32 } fun t =>
        t.memWord 0xFF8#32 == 0x5#32 && t.reg 2#4 == 0xFF8#32) = true ∧
    (leads 32 0xED220B02 { small 0x1D3#32 [(0, 0x11111111#32), (1, 0x22222222#32), (2, 0x1000#32), (9, 0x1000#32)] bytes with vfp := vfpOf [(0, 0x5#32), (1, 0x6#32)] 0x0#32 } fun t =>
        t.memWord 0xFFC#32 == 0x6#32 && t.reg 2#4 == 0xFF8#32) = true := by decide +kernel

/-! ### A state and operands that meet the hypotheses of each statement -/

/-- A small state with 0x1000 in R0 to R14 and bytes there. -/
noncomputable def flat (cpsr : Word) : State := small cpsr ((List.range 15).map fun k => (k, 0x1000#32)) bytes

/-- Supervisor mode, ARM state, R1 = 0x1000, R3 = 4, R4 = 0x1001; bytes at 0x1000, code at 0x8000: ADD R0, R1, R2. -/
noncomputable def home : State :=
  small 0x1D3#32 [(1, 0x1000#32), (3, 4#32), (4, 0x1001#32), (13, 0x1000#32)]
    (bytes ++ [(0x8000, 0x02#8), (0x8002, 0x81#8), (0x8003, 0xE0#8)])

/-- The same in User mode. -/
noncomputable def userHome : State := { home with cpsr := 0x1D0#32 }

/-- The same in Thumb state. -/
noncomputable def thumbHome : State := { home with cpsr := 0x1F3#32 }

/-- The same in the Non-secure world. -/
noncomputable def nsHome : State := { home with cp15 := { home.cp15 with scr := 1#32 } }

/-- An outcome is a next state. -/
noncomputable def isNext (o : Outcome) : Bool :=
  match o with
  | .next _ => true
  | .fault _ => false
  | .refused _ => false

/-- An outcome is a refusal. -/
noncomputable def isRefused (o : Outcome) : Bool :=
  match o with
  | .next _ => false
  | .fault _ => false
  | .refused _ => true

theorem home_plain : home.plainMemory := by constructor <;> decide +kernel

theorem thumbHome_plain : thumbHome.plainMemory := by constructor <;> decide +kernel

theorem home_settled : home.settled := by constructor <;> decide +kernel

theorem home_ready : home.vfpReady := by unfold State.vfpReady; decide +kernel

theorem witness_thumbDecodeOfEncode :
    (Instr.tAddReg3 2#3 1#3 3#3).wf = true ∧ encode (.tAddReg3 2#3 1#3 3#3) = .thumb 0x188B#16 := by decide +kernel

theorem witness_armDataDecodeOfEncode :
    (Instr.addReg .al true 1#4 2#4 2#5 .lsl 3#4).wf = true ∧
      encode (.addReg .al true 1#4 2#4 2#5 .lsl 3#4) = .arm 0xE0912103#32 ∧
      (0xE0912103#32).extractLsb' 28 4 ≠ 15#4 ∧ bit 0xE0912103#32 27 = false := by decide +kernel

/-- One word with bits [31:28] = 1111, one with bit 27 set. -/
theorem witness_armBlockBranchCoprocessorDecodeOfEncode :
    (Instr.clrex.wf = true ∧ encode .clrex = .arm 0xF57FF01F#32 ∧ (0xF57FF01F#32).extractLsb' 28 4 = 15#4) ∧
      (Instr.b .eq 0xFFFFFE#24).wf = true ∧ encode (.b .eq 0xFFFFFE#24) = .arm 0x0AFFFFFE#32 ∧ bit 0x0AFFFFFE#32 27 = true := by
  decide +kernel

/-- An instruction that goes on, in both settings, and one that is refused (MUL with R15). -/
theorem witness_stepRunsTheDecodedInstruction :
    let i : Instr := .addReg .al false 1#4 0#4 0#5 .lsl 2#4
    let s := home
    let m : State := { s with mem := [(0x8000, 0x91#8), (0x8001, 0x02#8), (0x8002, 0x0F#8), (0x8003, 0xE0#8)] }
    (s.settled ∧ s.plainMemory) ∧
    (s.halted = false ∧ s.pins.nirq = true ∧ s.pins.nfiq = true ∧ bit s.cpsr 24 = false ∧ s.pins.dbgen = false) ∧
    (match fetch s.begun with
      | .error _ => false
      | .ok (bytes, f) =>
        f.pendingAbort == none && f.pins.dbgen == false && bit f.cpsr 24 == false && decodeBytes f.thumb bytes == .instr i &&
          (match exec i f.committing with
            | .next t => t.watchHit == none
            | .fault _ => false
            | .refused _ => false)) = true ∧
    (s.controlBit 12 = false ∧ s.stale = [] ∧ (∀ l ∈ s.dcache, l.dirty = false) ∧ s.oldFetch = [] ∧ s.pendingAbort = none ∧ s.pc.toNat % 4 = 0 ∧
      decodeBytes s.thumb ((List.range 4).map (s.memByte s.pc)) = .instr i) ∧
    decodeBytes m.thumb ((List.range 4).map (m.memByte m.pc)) = .instr (.mul .al false 15#4 2#4 1#4) ∧
    isRefused (exec (.mul .al false 15#4 2#4 1#4) m) = true := by
  refine ⟨⟨home_settled, home_plain⟩, ?_⟩
  decide +kernel

/-- In Debug state; with FIQ asserted and not masked; with IRQ asserted, not masked, and FIQ masked; in Jazelle bits with T; and while
IRQACK is asserted, with IRQADDRV LOW and HIGH. -/
theorem witness_interruptsInPriorityOrder :
    let s : State := { home with cpsr := 0x53#32, pins := { nirq := false, nfiq := false } }
    let v (a : Bool) : State := { s with irqack := true, pins := { s.pins with irqaddrv := a } }
    (s.settled ∧ ({ s with dbg := { s.dbg with dscr := 3#32 } } : State).settled) ∧
    (bit s.cpsr 24 = false ∧ bit s.dbg.dscr 11 = false ∧ s.pins.irqaddrv = false) ∧
    (s.halted = false ∧ bit s.cpsr 6 = true ∧ s.pins.nirq = false ∧ bit s.cpsr 7 = false) ∧
    (let f : State := { s with cpsr := 0x13#32 }
     f.halted = false ∧ f.pins.nfiq = false ∧ bit f.cpsr 6 = false) ∧
    (let d : State := { s with dbg := { s.dbg with dscr := 3#32 } }
     d.halted = true ∧ bit d.dbg.dscr 1 = true) ∧
    ∀ a : Bool, v a = { s with irqack := true, pins := (v a).pins } ∧ (v a).pins = { s.pins with irqaddrv := a } := by
  refine ⟨⟨?_, ?_⟩, ?_, ?_, ?_, ?_, fun _ => ⟨rfl, rfl⟩⟩
  · constructor <;> decide +kernel
  · constructor <;> decide +kernel
  all_goals decide +kernel

theorem witness_resetPinResetsTheCore :
    let s : State := { home with pins := { nreset := false } }
    s.pins.nreset = false ∧ s.pins.nporeset = true := by decide +kernel

theorem witness_stepKeepsMemoryForm : home.memoryWf = true ∧ isNext (step home) = true := by decide +kernel

theorem witness_stepKeepsStatusForm :
    (validMode home.mode = true ∧ cleanPsr home.cpsr ∧ ∀ i : Fin 6, cleanPsr home.spsrs[i]) ∧ isNext (step home) = true := by
  unfold cleanPsr; decide +kernel

/-- The MMU on, XP = 1, a table at 0x4000 with this descriptor for addresses below 1 MB, and this DACR. -/
noncomputable def mmuHome (cpsr d dacr : Word) : State :=
  let s := withControl 0x00800001#32 home
  { s with
    cpsr := cpsr
    mem := ((List.range 4).map fun i => (0x4000 + i, d.extractLsb' (8 * i) 8)).foldl (fun m x => writeCell m x.1 x.2) bytes
    cp15 := { s.cp15 with secure := { s.cp15.secure with ttbr0 := 0x4000#32, dacr := dacr } } }

theorem mmuHome_fresh : (mmuHome 0x1D3#32 0xC02#32 1#32).freshMmu := by constructor <;> decide +kernel

/-- No descriptor; a section of domain 0 with full access, in no-access, client and manager domains, Strongly Ordered and Noncacheable
Normal; without access for a client; read-only in User mode. -/
theorem witness_sectionTranslation :
    let s := mmuHome 0x1D3#32 0xC02#32 1#32
    s.freshMmu ∧ condHolds .al s.cpsr = true ∧ 0#4 ≠ 15#4 ∧
    (let va := offsetAddress true (s.reg 1#4) 0#32
     let at' := ((s.cp15.bank s.nsState).ttbr0.extractLsb' 14 18 ++ (s.mva va).extractLsb' 20 12 ++ 0#2 : Word)
     va.toNat % 4 = 0 ∧ at' = 0x4000#32) ∧
    ((mmuHome 0x1D3#32 0#32 1#32).physWord 0x4000#32).extractLsb' 0 2 = 0#2 ∧
    (s.physWord 0x4000#32 = 0xC02#32 ∧ bit 0xC02#32 18 = false ∧ (0xC02#32).extractLsb' 12 3 = 0#3) ∧
    ((mmuHome 0x1D3#32 0x1C02#32 3#32).physWord 0x4000#32 = 0x1C02#32 ∧ (0x1C02#32).extractLsb' 12 3 = 1#3) ∧
    (clientMay false 3#2 true true = true ∧ clientMay false 0#2 true false = false ∧ clientMay false 2#2 false true = false) := by
  refine ⟨mmuHome_fresh, ?_⟩
  decide +kernel

/-- A load through the section; a domain fault; a permission fault of a store in User mode (21:R611, R612, R637). -/
theorem test_sections :
    leads 32 0xE5910000 (mmuHome 0x1D3#32 0xC02#32 1#32) (fun t => t.reg 0#4 == 0x44332211#32 && t.pc == 0x8004#32) = true ∧
    leads 32 0xE5910000 (mmuHome 0x1D3#32 0xC02#32 0#32) (fun t => t.cp15.secure.dfsr == 0x009#32 &&
      t.cp15.secure.far == 0x1000#32 && t.pc == 0x10#32 && t.regIn 0b10111#5 14#4 == 0x8008#32) = true ∧
    leads 32 0xE5810000 (mmuHome 0x1D0#32 0x802#32 1#32) (fun t => t.cp15.secure.dfsr == 0x80D#32) = true := by decide +kernel

/-- An instruction that stays in User mode and one that leaves it. -/
theorem witness_userModeIsLeftByExceptionsOnly :
    userHome.mode = 0b10000#5 ∧ userHome.halted = false ∧ isNext (exec (.nop .al 0#8) userHome) = true ∧
      isNext (exec (.svc .al 0#24) userHome) = true := by decide +kernel

theorem witness_nonSecureWorldKeepsSecureSettings :
    nsHome.nsState = true ∧ isNext (exec (.mcr .al 0#3 2#4 1#4 15#4 0#3 0#4) nsHome) = true := by decide +kernel

theorem witness_failedConditionOnlyAdvances :
    (Instr.svc .eq 0#24).condition = some .eq ∧ condHolds .eq home.cpsr = false ∧ home.halted = false ∧
      (let d : State := { home with dbg := { home.dbg with dscr := 3#32 } }
       condHolds .eq d.cpsr = false ∧ d.halted = true) := by decide +kernel

theorem witness_registerBanks : validMode 0b10000#5 = true ∧ validMode 0b10001#5 = true ∧ 8#4 ≠ 15#4 ∧ 14#4 ≠ 15#4 := by decide

/-- The amounts at the ends of the ranges: 1, 31; 33; 32; 32 and 64; 33. -/
theorem witness_shifterResults :
    ShiftOp.ror ∈ [ShiftOp.lsl, .lsr, .asr, .ror] ∧ (1 ≤ 1 ∧ 1 ≤ 31) ∧ (1 ≤ 31 ∧ 31 ≤ 31) ∧ 33 ≤ 33 ∧ 32 ≤ 32 ∧
      (1 ≤ 32 ∧ 32 % 32 = 0) ∧ (1 ≤ 64 ∧ 64 % 32 = 0) ∧ (33 ≤ 33 ∧ 33 % 32 ≠ 0) ∧ 1#5 ≠ 0#5 ∧ 31#5 ≠ 0#5 := by decide

theorem witness_dataProcessingResults :
    condHolds .al home.cpsr = true ∧ 14#4 ≠ 15#4 ∧ 15#4 ∈ Alu.shiftFields .mov 0#4 1#4 15#4 3#4 ∧
      15#4 ∉ Alu.shiftFields .mov 15#4 1#4 2#4 3#4 ∧ 15#4 ∈ Alu.shiftFields .add 15#4 1#4 2#4 3#4 ∧
      15#4 ∉ Alu.shiftFields .add 0#4 1#4 2#4 3#4 := by decide +kernel

theorem witness_dataProcessingIntoPc :
    let s : State := { home with spsrs := Vector.replicate 6 0x30#32 }
    let n : State := { nsHome with spsrs := Vector.replicate 6 0x36#32 }
    condHolds .al s.cpsr = true ∧ s.halted = false ∧ userHome.mode = 0b10000#5 ∧
      ({ s with cpsr := 0x1DF#32 } : State).mode = 0b11111#5 ∧ spsrIndex s.mode = some 2 ∧
      validMode ((s.returned s.spsrs[2]).extractLsb' 0 5) = true ∧
      (n.nsState = true ∧ n.halted = false ∧ validMode ((n.returned n.spsrs[2]).extractLsb' 0 5) = true) := by
  decide +kernel

theorem witness_comparisonsAndLeadingZeros :
    condHolds .al home.cpsr = true ∧ 15#4 ∈ [15#4, 2#4, 3#4] ∧ 15#4 ∉ [14#4, 2#4, 3#4] ∧ 15#4 ∈ [0#4, 15#4] ∧ 15#4 ∉ [0#4, 14#4] ∧
      31 < 32 := by decide +kernel

theorem witness_multiplyResults :
    condHolds .al home.cpsr = true ∧ 15#4 ∈ [0#4, 1#4, 15#4] ∧ 15#4 ∉ [0#4, 1#4, 2#4] ∧ 15#4 ∉ [0#4, 1#4, 2#4, 3#4] ∧
      0#4 ≠ 1#4 := by decide +kernel

theorem witness_saturatingAndHalfwordMultiplyResults :
    condHolds .al home.cpsr = true ∧ 15#4 ∈ [15#4, 1#4, 2#4] ∧ 15#4 ∉ [0#4, 1#4, 2#4] ∧ 15#4 ∈ [0#4, 1#4, 2#4, 15#4] ∧ 15#4 ∉ [0#4, 1#4, 2#4, 3#4] ∧ 0#4 ≠ 1#4 := by decide +kernel

theorem witness_dualAndMostSignificantMultiplyResults :
    condHolds .al home.cpsr = true ∧ 15#4 ∈ [0#4, 1#4, 15#4] ∧ 15#4 ∉ [0#4, 1#4, 2#4, 3#4] ∧ 0#4 ≠ 1#4 := by decide +kernel

theorem witness_parallelAddSubtractResults :
    condHolds .al home.cpsr = true ∧ 15#4 ∈ [15#4, 1#4, 2#4] ∧ 15#4 ∉ [0#4, 1#4, 2#4] := by decide +kernel

theorem witness_extensionResults :
    condHolds .al home.cpsr = true ∧ 15#4 ∈ [0#4, 15#4] ∧ 15#4 ∉ [0#4, 1#4] ∧ 15#4 ∉ [0#4, 1#4, 2#4] := by decide +kernel

theorem witness_saturateSelectPackReverseResults :
    condHolds .al home.cpsr = true ∧ 15#4 ∈ [0#4, 15#4] ∧ 15#4 ∉ [0#4, 1#4] ∧ 15#4 ∉ [0#4, 1#4, 2#4, 3#4] := by decide +kernel

/-- The offset, pre-indexed and post-indexed forms of loads: base R1, destination R0, offset register R3. -/
theorem witness_loadResults :
    condHolds .al home.cpsr = true ∧ home.plainMemory ∧ 0#4 ≠ 15#4 ∧ (1#4 ≠ 15#4 ∧ 1#4 ≠ 0#4) ∧
      (legalOffset true false 1#4 3#4 ∧ legalOffset true true 1#4 3#4 ∧ legalOffset false false 1#4 3#4) ∧
      (legalMode3 true true ∧ legalMode3 false false) ∧
      (accessAddress true true (home.reg 1#4) (home.reg 3#4)).toNat % 4 = 0 ∧
      (accessAddress false true (home.reg 1#4) 1#32).toNat % 4 = 0 ∧
      (accessAddress true true (home.reg 1#4) 2#32).toNat % 2 = 0 := by
  refine ⟨by decide +kernel, home_plain, ?_⟩
  unfold legalOffset legalMode3; decide +kernel

theorem witness_storeResults :
    condHolds .al home.cpsr = true ∧ home.plainMemory ∧ (1#4 ≠ 15#4 ∧ 1#4 ≠ 0#4) ∧
      (legalOffset true false 1#4 3#4 ∧ legalOffset true true 1#4 3#4 ∧ legalOffset false false 1#4 3#4) ∧
      (legalMode3 true true ∧ legalMode3 false false) ∧
      (accessAddress true true (home.reg 1#4) (home.reg 3#4)).toNat % 4 = 0 := by
  refine ⟨by decide +kernel, home_plain, ?_⟩
  unfold legalOffset legalMode3; decide +kernel

/-- L4 = 1; L4 = 0 with bit 0 set (0x44332211 at 0x1000), with bits [1:0] = 00 (0x88776654), with bits [1:0] = 10. -/
theorem witness_loadIntoPcResults :
    let m (b : Byte) : State := { home with mem := [(0x1000, b)] }
    condHolds .al home.cpsr = true ∧ home.plainMemory ∧ home.halted = false ∧ home.thumb = false ∧ 1#4 ≠ 15#4 ∧
      legalOffset true false 1#4 3#4 ∧ (accessAddress true true (home.reg 1#4) 0#32).toNat % 4 = 0 ∧
      (withControl 0x8000#32 home).controlBit 15 = true ∧ home.controlBit 15 = false ∧
      bit (home.memWord 0x1000#32) 0 = true ∧
      (bit ((m 4#8).memWord 0x1000#32) 0 = false ∧ bit ((m 4#8).memWord 0x1000#32) 1 = false) ∧
      bit ((m 2#8).memWord 0x1000#32) 0 = false ∧ bit ((m 2#8).memWord 0x1000#32) 1 = true := by
  refine ⟨by decide +kernel, home_plain, ?_⟩
  unfold legalOffset; decide +kernel

theorem witness_doublewordTransfers :
    condHolds .al home.cpsr = true ∧ home.plainMemory ∧ bit 15#4 0 = true ∧ (bit 12#4 0 = false ∧ 12#4 ≠ 14#4) ∧
      legalMode3 true true ∧ (accessAddress true true (home.reg 1#4) 8#32).toNat % 8 = 0 ∧
      (1#4 ≠ 15#4 ∧ 1#4 ≠ 12#4 ∧ 1#4 ≠ 12#4 + 1#4) ∧ legalOffset true true 1#4 3#4 ∧ 3#4 ≠ 12#4 ∧ 3#4 ≠ 12#4 + 1#4 := by
  refine ⟨by decide +kernel, home_plain, ?_⟩
  unfold legalOffset legalMode3; decide +kernel

theorem witness_addressingFormRefusals :
    condHolds .al home.cpsr = true ∧ 0#4 ≠ 15#4 ∧ 1#4 ≠ 15#4 ∧ 1#4 ≠ 0#4 ∧ (15#4 = 15#4 ∨ 15#4 = 0#4) ∧
      (0#4 = 15#4 ∨ 0#4 = 0#4) ∧ legalMode3 true true ∧ (bit 2#4 0 = false ∧ 2#4 ≠ 14#4 ∧ 3#4 = 2#4 + 1#4) ∧
      (1#4 ≠ 2#4 ∧ 1#4 ≠ 2#4 + 1#4) := by unfold legalMode3; decide +kernel

/-- R4 = 0x1001 as the base: misaligned for words and halfwords, with A = 1, and with U = 1. -/
theorem witness_misalignedAccessesAbort :
    let s := withControl 2#32 home
    condHolds .al s.cpsr = true ∧ s.halted = false ∧ bit s.cpsr 9 = false ∧ 0#4 ≠ 15#4 ∧ 4#4 ≠ 15#4 ∧ 3#4 ≠ 15#4 ∧ 4#4 ≠ 0#4 ∧
      4#4 ≠ 3#4 ∧ s.controlBit 1 = true ∧ (withControl 0x400000#32 home).controlBit 22 = true ∧
      (accessAddress true true (s.reg 4#4) 0#32).toNat % 4 ≠ 0 ∧ (accessAddress true true (s.reg 4#4) 0#32).toNat % 2 ≠ 0 ∧
      legalMode3 true true ∧ (s.reg 4#4).toNat % 4 ≠ 0 := by
  unfold legalMode3; decide +kernel

/-- With U = 1. -/
noncomputable def unalignedHome : State :=
  { home with cp15 := { home.cp15 with secure := { home.cp15.secure with control := home.cp15.secure.control ||| 0x400000#32 } } }

/-- With U = 0 and 1; a list without R15; a base in the list, lowest; addresses in a line and over its end. -/
theorem witness_unalignedAccesses :
    (home.plainMemory ∧ unalignedHome.plainMemory) ∧ condHolds .al home.cpsr = true ∧ 0#4 ≠ 15#4 ∧ home.controlBit 1 = false ∧
      home.controlBit 22 = false ∧ (offsetAddress true (home.reg 4#4) 0#32).toNat % 4 = 1 ∧
      (0x1CD#16 ≠ 0#16 ∧ 4#4 ≠ 15#4 ∧ bit 0x1CD#16 (4#4).toNat = false ∧ bit 0x1CD#16 15 = false) ∧
      ((home.cp15.bank home.nsState).fcse = 0#32 ∧ bit 0x30#16 (4#4).toNat = true ∧ below 0x30#16 4#4 = 0) ∧
      (condHolds .al unalignedHome.cpsr = true ∧ unalignedHome.controlBit 1 = false ∧ unalignedHome.controlBit 22 = true ∧
        (unalignedHome.cp15.bank unalignedHome.nsState).fcse = 0#32) := by
  refine ⟨⟨home_plain, ?_⟩, ?_⟩
  · constructor <;> decide +kernel
  · decide +kernel

/-- A word over the end of a line, and halfwords with U = 0 and U = 1 (20:R514, R519). -/
theorem test_unaligned :
    (let s : State := { unalignedHome with regs := unalignedHome.regs.set 1 0x101E#32
                                           mem := [(0x101E, 0x11#8), (0x101F, 0x22#8), (0x1020, 0x33#8), (0x1021, 0x44#8)] }
     leads 32 0xE5910000 s (fun t => t.regs[0] == 0x44332211#32) = true ∧ leads 32 0xE5813000 s (fun t =>
       t.byteAt .external 0x101E == 4#8 && t.byteAt .external 0x1021 == 0#8) = true ∧
     leads 32 0xE1D100B1 s (fun t => t.regs[0] == 0x3322#32) = true ∧
     leads 32 0xE1D100B1 { s with cp15 := home.cp15 } (fun t => t.regs[0] == 0x2211#32) = true) := by decide +kernel

theorem witness_swapResults :
    condHolds .al home.cpsr = true ∧ home.plainMemory ∧ 15#4 ∈ [1#4, 0#4, 15#4] ∧ 15#4 ∉ [1#4, 0#4, 3#4] ∧ 1#4 ≠ 0#4 ∧ 1#4 ≠ 3#4 ∧
      (home.reg 1#4).toNat % 4 = 0 := by
  refine ⟨by decide +kernel, home_plain, ?_⟩
  decide +kernel

/-- For each size, a tag that both monitors hold; the open monitor; and a tag that the local one holds alone. -/
theorem witness_exclusiveAccessResults :
    let tag (n : Nat) : Tag := { addr := home.mva (home.reg 1#4), size := n, ns := home.nsState }
    let held (n : Nat) : State := { home with localMon := some (tag n), globalMon := some (tag n) }
    condHolds .al home.cpsr = true ∧ home.plainMemory ∧ 1#4 ≠ 15#4 ∧ (home.reg 1#4).toNat % 8 = 0 ∧ 0#4 ≠ 15#4 ∧
      (bit 1#4 0 = true ∧ bit 2#4 0 = false ∧ 2#4 ≠ 14#4) ∧ (0#4 ≠ 1#4 ∧ 0#4 ≠ 2#4 ∧ 0#4 ≠ 2#4 + 1#4) ∧
      (∀ n ∈ [1, 2, 4, 8], (held n).localMon = some (tag n) ∧ (held n).globalMon = some (tag n)) ∧
      ∀ n ∈ [1, 2, 4, 8], home.localMon ≠ some (tag n) ∧ home.globalMon ≠ some (tag n) := by
  refine ⟨by decide +kernel, home_plain, ?_⟩
  decide +kernel

/-- No list; R15 as the base; the base in the list; a list without and with R15 and a loaded word that the branch takes. -/
theorem witness_loadMultipleResults :
    condHolds .al home.cpsr = true ∧ home.plainMemory ∧ home.halted = false ∧ home.thumb = false ∧ 1#16 ≠ 0#16 ∧ 1#4 ≠ 15#4 ∧
      bit 2#16 (1#4).toNat = true ∧ (home.reg 1#4).toNat % 4 = 0 ∧ bit 0x8001#16 (1#4).toNat = false ∧ bit 1#16 15 = false ∧
      bit 0x8001#16 15 = true ∧ bit (home.memWord (slotAddress false true (home.reg 1#4) 0x8001#16 15#4)) 0 = true ∧
      (spsrIndex home.mode).isSome = true ∧ 1#15 ≠ 0#15 ∧ userHome.mode = 0b10000#5 ∧ condHolds .al userHome.cpsr = true := by
  refine ⟨by decide +kernel, home_plain, ?_⟩
  decide +kernel

theorem witness_storeMultipleResults :
    condHolds .al home.cpsr = true ∧ home.plainMemory ∧ (home.cp15.bank home.nsState).fcse = 0#32 ∧ 3#16 ≠ 0#16 ∧ 1#4 ≠ 15#4 ∧
      (bit 3#16 (1#4).toNat = true ∧ below 3#16 1#4 ≠ 0) ∧ (home.reg 1#4).toNat % 4 = 0 ∧
      (bit 6#16 (1#4).toNat = true ∧ below 6#16 1#4 = 0) ∧ (spsrIndex home.mode).isSome = true ∧ userHome.mode = 0b10000#5 ∧
      condHolds .al userHome.cpsr = true := by
  refine ⟨by decide +kernel, home_plain, ?_⟩
  decide +kernel

/-- A return in the Non-secure world with SCR.AW = FW = 0 keeps A and F, and the mode where Secure Monitor mode is asked for (10:R52). -/
theorem test_nonSecureReturn :
    let s : State := { nsHome with cpsr := 0x53#32 }
    s.returned 0x1B0#32 = 0xF0#32 ∧ s.returned 0x196#32 = 0xD3#32 ∧
    leads 32 0xE1B0F00E { s with spsrs := Vector.replicate 6 0x1B0#32 } (fun t => t.cpsr == 0xF0#32) = true ∧
    leads 32 0xE129F000 { s with regs := s.regs.set 0 0x192#32 } (fun t => t.cpsr == 0xD2#32) = true ∧
    leads 32 0xE129F000 { s with regs := s.regs.set 0 0x196#32 } (fun t => t.cpsr == 0xD3#32) = true := by decide +kernel

/-- RFE with 0x10 in the word for the CPSR; LDM (3) and SRS with 0x30 in the SPSR. -/
theorem witness_returnAndStoreReturnState :
    let s : State := { home with spsrs := Vector.replicate 6 0x30#32, mem := [(0x1004, 0x10#8)] }
    (s.plainMemory ∧ userHome.plainMemory ∧ ({ home with cpsr := 0x1DF#32 } : State).plainMemory) ∧ s.halted = false ∧
      userHome.mode = 0b10000#5 ∧ ({ home with cpsr := 0x1DF#32 } : State).mode = 0b11111#5 ∧ 1#4 ≠ 15#4 ∧
      (spsrIndex s.mode).isSome = true ∧ (s.reg 1#4).toNat % 4 = 0 ∧
      validMode ((s.returned (s.memWord (blockStart false true (s.reg 1#4) 2 + 4#32))).extractLsb' 0 5) = true ∧
      condHolds .al s.cpsr = true ∧ spsrIndex s.mode = some 2 ∧
      validMode ((s.returned s.spsrs[2]).extractLsb' 0 5) = true ∧ bit 0x8001#16 15 = true ∧ bit 0x8001#16 (1#4).toNat = false ∧
      validMode 0b10011#5 = true ∧ 0b10011#5 ≠ 0b10110#5 ∧ (s.cp15.bank s.nsState).fcse = 0#32 ∧
      (s.regIn 0b10011#5 13#4).toNat % 4 = 0 := by
  refine ⟨⟨?_, ?_, ?_⟩, ?_⟩
  · constructor <;> decide +kernel
  · constructor <;> decide +kernel
  · constructor <;> decide +kernel
  · decide +kernel

/-- With the MMU off; in the Non-secure world; and with the MMU and the Data Cache on, where the memories have their form. -/
theorem witness_hintsAndSetend :
    3#4 ≠ 15#4 ∧ home.controlBit 0 = false ∧ nsHome.nsState = true ∧ (withControl 5#32 home).nsState = false ∧
      (withControl 5#32 home).controlBit 0 = true ∧ (withControl 5#32 home).controlBit 2 = true ∧
      (withControl 5#32 home).memoryWf = true := by decide +kernel

/-- In User mode; in Supervisor mode with a value whose mode is valid, and with one whose mode is not; System mode has no SPSR. -/
theorem witness_statusRegisterAccess :
    let merged (v : Word) : Word := (home.cpsr &&& ~~~0xDF#32) ||| (v &&& 0xDF#32)
    condHolds .al home.cpsr = true ∧ home.halted = false ∧ 0#4 ≠ 15#4 ∧ spsrIndex home.mode = some 2 ∧ spsrIndex 0b11111#5 = none ∧
      userHome.mode = 0b10000#5 ∧ home.mode ≠ 0b10000#5 ∧ home.nsState = false ∧ validMode home.mode = true ∧
      validMode ((merged 0x10#32).extractLsb' 0 5) = true ∧ validMode ((merged 0x12345604#32).extractLsb' 0 5) = false ∧
      nsHome.nsState = true ∧ nsHome.statusMask 0xDF#32 0x16#32 = 0x80#32 ∧
      validMode 0b10111#5 = true := by decide +kernel

/-- Targets with bit 0 set, with bits [1:0] = 00 and with bits [1:0] = 10. -/
theorem witness_branchResults :
    let s : State := small 0x1D3#32 [(0, 0x9001#32), (1, 0x9000#32), (2, 0x9002#32)]
    condHolds .al s.cpsr = true ∧ s.halted = false ∧ s.thumb = false ∧ bit (s.reg 0#4) 0 = true ∧
      (bit (s.reg 1#4) 0 = false ∧ bit (s.reg 1#4) 1 = false) ∧ (bit (s.reg 2#4) 0 = false ∧ bit (s.reg 2#4) 1 = true) ∧
      0#4 ≠ 15#4 := by decide +kernel

theorem witness_exceptionEntry : home.halted = false := by decide +kernel

theorem witness_exceptionInstructions :
    condHolds .al home.cpsr = true ∧ home.halted = false ∧ home.mode ≠ 0b10000#5 ∧ userHome.mode = 0b10000#5 ∧
      home.pins.dbgen = false ∧ 13#4 ≠ 14#4 ∧ 13#4 ≠ 15#4 ∧ 4#4 ≠ 5#4 ∧ (13#4).toNat ∉ home.impl.extCoprocessors ∧
      15#4 ∈ [10#4, 11#4, 14#4, 15#4] := by decide +kernel

/-- Coprocessor 1 attached, for every mode, in both worlds. -/
noncomputable def attachedHome : State :=
  { home with impl := { home.impl with extCoprocessors := [1] }, cp15 := { home.cp15 with cpacr := 0xC#32, nsacr := 2#32 } }

theorem witness_externalCoprocessorInstructions :
    attachedHome.plainMemory ∧
    (condHolds .al attachedHome.cpsr = true ∧ attachedHome.halted = false ∧ attachedHome.oldFetch = [] ∧
      (1#4).toNat ∈ attachedHome.impl.extCoprocessors ∧ 1#4 ∉ [10#4, 11#4, 14#4, 15#4] ∧
      bits attachedHome.cp15.cpacr (2 * (1#4).toNat) 2 = 0b11#2 ∧ bit attachedHome.cp15.nsacr (1#4).toNat = true) ∧
    (0#4 ≠ 15#4 ∧ 1#4 ≠ 15#4 ∧ 1#4 ≠ 0#4) ∧
    (accessAddress true true (attachedHome.reg 1#4) (1#32 <<< 2)).toNat % 4 = 0 := by
  refine ⟨?_, ?_⟩
  · constructor <;> decide +kernel
  · decide +kernel

/-- The default parameters, and others. -/
theorem witness_systemControlReads :
    condHolds .al home.cpsr = true ∧ home.halted = false ∧ home.mode ≠ 0b10000#5 ∧ home.nsState = false ∧ 0#4 ≠ 15#4 ∧
      home.impl = {} ∧ attachedHome.impl ≠ {} := by
  decide +kernel

/-- With the channel Idle, and with it Running. -/
theorem witness_systemControlWrites :
    let r : State := { home with cp15 := home.withChannel { home.channel with status := 2#32 } }
    condHolds .al home.cpsr = true ∧ home.halted = false ∧ home.mode ≠ 0b10000#5 ∧ home.nsState = false ∧
      home.pins.cp15sdisable = false ∧ 0#4 ≠ 15#4 ∧ home.impl = {} ∧ home.channelBusy = false ∧
      ¬(home.cp15.dma[0].status.extractLsb' 0 2 = 2#2 ∨ home.cp15.dma[1].status.extractLsb' 0 2 = 2#2) ∧
      (condHolds .al r.cpsr = true ∧ r.halted = false ∧ r.mode ≠ 0b10000#5 ∧ r.nsState = false ∧ r.pins.cp15sdisable = false) ∧
      r.channelBusy = true ∧ r.cp15.dma[0].status.extractLsb' 0 2 = 2#2 := by decide +kernel

/-- Invalidate TLB Entry by MVA takes out the page of that ASID and a global entry of it, a locked one too, and not those of another page,
ASID or world (13:R254, R256). -/
theorem test_tlbByMva :
    let e (va pa : Word) : TlbEntry := { va := va, pa := pa, attr := 0#32, rs := 0#2 }
    let s : State :=
      { home with
        regs := home.regs.set 1 0x1001#32
        cp15 := { home.cp15 with
          tlbMain := [e 0x1001#32 0x41#32, e 0x1202#32 0x41#32, e 0x1002#32 0x41#32, e 0x1001#32 0x141#32, e 0x5001#32 0x41#32]
          tlbLocked := home.cp15.tlbLocked.set 2 (e 0x1201#32 0x41#32) } }
    leads 32 0xEE081F37 s (fun t =>
      t.cp15.tlbMain == [e 0x1002#32 0x41#32, e 0x1001#32 0x141#32, e 0x5001#32 0x41#32] &&
        t.cp15.tlbLocked[2].pa == 0x40#32) = true := by decide +kernel

theorem witness_systemControlOperations :
    condHolds .al home.cpsr = true ∧ home.halted = false ∧ 0#4 ≠ 15#4 ∧ home.mode ≠ 0b10000#5 ∧ bit home.cp15.auxControl 5 = false ∧
      home.controlBit 0 = false ∧ home.outstanding = false := by decide +kernel

/-- The line of 0x1000, of which the upper half is dirty, and the line of 0x1020 after it. -/
def someLine : CacheLine :=
  { set := 0, way := 0, tag := 0x1000#32, ns := false, data := Vector.replicate 32 0xEE#8, dirtyLow := false, dirtyHigh := true }

/-- With these lines in the Data Cache, both valid. -/
noncomputable def cachedHome : State :=
  { home with
    dcache := [someLine, { someLine with set := 1, tag := 0x1020#32 }]
    cp15 := { home.cp15 with dMasterValid := Vector.replicate 8 1#32 } }

theorem witness_dataCacheLineMaintenance :
    condHolds .al cachedHome.cpsr = true ∧ cachedHome.halted = false ∧ cachedHome.mode ≠ 0b10000#5 ∧ cachedHome.nsState = false ∧
      1#4 ≠ 15#4 ∧ cachedHome.controlBit 0 = false ∧ cachedHome.bus = [] ∧ cachedHome.memoryWf = true ∧
      cachedHome.dcache = [] ++ someLine :: [{ someLine with set := 1, tag := 0x1020#32 }] ∧
      (∀ k ∈ [] ++ [{ someLine with set := 1, tag := 0x1020#32 }], k.tag ≠ someLine.tag) ∧
      lineValid cachedHome .data someLine = true ∧ someLine.set = cacheIndex cachedHome .data (cachedHome.reg 1#4) ∧
      someLine.tag = (cachedHome.reg 1#4).extractLsb' 5 27 ++ 0#5 ∧ someLine.ns = false := by decide +kernel

/-- Clean by MVA writes the dirty half back; Invalidate by MVA loses it; a load reads the line (13:R224, R229, 22:R1404). -/
theorem test_cacheLines :
    leads 32 0xEE071F3A cachedHome (fun t => t.byteAt .external 0x1000 == 0x11#8 && t.byteAt .external 0x1010 == 0xEE#8 &&
      t.dcache.all fun l => l.tag == 0x1020#32 || !l.dirty) = true ∧
    leads 32 0xEE071F36 cachedHome (fun t => t.byteAt .external 0x1010 == 0#8 && t.dcache.length == 1) = true := by decide +kernel

theorem witness_systemControlProtection :
    condHolds .al userHome.cpsr = true ∧ userHome.halted = false ∧ 0#4 ≠ 15#4 ∧ userHome.mode = 0b10000#5 ∧
      nsHome.nsState = true ∧ nsHome.halted = false ∧ condHolds .al nsHome.cpsr = true := by decide +kernel

/-- In Monitor debug-mode and not; User mode with DSCR[12] set. -/
theorem witness_debugRegisterAccess :
    let h : State := { home with pins := { dbgen := true }, dbg := { home.dbg with dscr := 0x8002#32 } }
    let u : State := { userHome with dbg := { home.dbg with dscr := 0x1002#32 } }
    home.plainMemory ∧ condHolds .al home.cpsr = true ∧ home.halted = false ∧ 0#4 ≠ 15#4 ∧ home.mode ≠ 0b10000#5 ∧
      bits home.readDscr 14 2 ≠ 0b10#2 ∧ (h.mode ≠ 0b10000#5 ∧ h.halted = false ∧ bits h.readDscr 14 2 = 0b10#2) ∧ 1#4 ≠ 15#4 ∧
      (accessAddress true true (home.reg 1#4) (1#32 <<< 2)).toNat % 4 = 0 ∧ (u.mode = 0b10000#5 ∧ bit u.dbg.dscr 12 = true) := by
  refine ⟨home_plain, ?_⟩
  decide +kernel

/-- The DBGTAP in a state, with an instruction and a scan chain. -/
noncomputable def tapHome (x : TapState) (ir screg shifted : BitVec 5) : State :=
  { home with dbg := { home.dbg with tap := { home.dbg.tap with state := x, ir := ir, screg := screg, irShift := shifted } } }

theorem witness_debuggerAccess :
    (tapHome .testLogicReset 0#5 0#5 0#5).dbg.tap.state = .testLogicReset ∧
    (let s := tapHome .captureDr 0b11110#5 3#5 0#5
     s.dbg.tap.ir = 0b11110#5 ∧ s.dbg.tap.state = .captureDr ∧ s.pins.dbgversion = 0#4 ∧ s.pins.dbgmanid = 0x787#11) ∧
    (let s := tapHome .captureDr 0b01100#5 5#5 0#5
     s.dbg.tap.ir = 0b01100#5 ∧ s.dbg.tap.screg = 5#5 ∧ s.dbg.tap.state = .captureDr) ∧
    (let s := tapHome .updateDr 0#5 5#5 0#5
     s.dbg.tap.ir = 0#5 ∧ s.dbg.tap.screg = 5#5 ∧ s.dbg.tap.state = .updateDr) ∧
    ((tapHome .updateIr 0#5 0#5 0b01000#5).dbg.tap.state = .updateIr ∧ (tapHome .updateIr 0#5 0#5 0b01000#5).dbg.tap.irShift = 0b01000#5) ∧
    (tapHome .updateIr 0#5 0#5 0b00100#5).dbg.tap.irShift = 0b00100#5 := by decide +kernel

/-- The device ID code of 15:R423, in Capture-DR with IDcode; its lowest bit is the first that Shift-DR shifts out. -/
theorem test_deviceId :
    (match tapClock false false (tapHome .captureDr 0b11110#5 3#5 0#5) with
      | .error _ => false
      | .ok s => s.dbg.tap.dr == 0x07B76F0F#40 && (match tapClock false false s with
        | .error _ => false
        | .ok t => t.dbg.tap.tdo && t.dbg.tap.dr == 0x03DBB787#40)) = true := by decide +kernel

theorem witness_vfpMovesAndTransfers :
    condHolds .al home.cpsr = true ∧ home.vfpReady ∧ bit home.vfp.fpscr 12 = false ∧ bits home.vfp.fpscr 16 3 = 0#3 ∧
      bits home.vfp.fpscr 20 2 = 0#2 ∧ 14#4 ≠ 15#4 ∧ 0#4 ≠ 14#4 ∧ sNum 15#4 false ≠ 31 ∧ sNum 15#4 true = 31 := by
  unfold State.vfpReady; decide +kernel

/-- LEN + 1 = 2 and 8; a destination in bank 0, a scalar source, one register for both, and two banks. -/
theorem witness_vfpShortVectors :
    let s (n : Word) : State := { home with vfp := { home.vfp with fpscr := (n - 1#32) <<< 16 } }
    condHolds .al home.cpsr = true ∧ ((s 2#32).vfpReady ∧ (s 8#32).vfpReady) ∧ bit (s 8#32).vfp.fpscr 12 = false ∧
      bits (s 8#32).vfp.fpscr 20 2 = 0#2 ∧ (bits (s 2#32).vfp.fpscr 16 3).toNat = 2 - 1 ∧
      (bits (s 8#32).vfp.fpscr 16 3).toNat = 8 - 1 ∧ (sNum 3#4 true).val < 8 ∧ 8 ≤ (sNum 4#4 false).val ∧
      8 ≤ (sNum 15#4 true).val ∧ (sNum 4#4 false).val / 8 ≠ (sNum 15#4 true).val / 8 := by
  unfold State.vfpReady; decide +kernel

/-- RunFast mode. -/
noncomputable def fastHome : State := { home with vfp := { home.vfp with fpscr := 0x03000000#32 } }

/-- With LEN and STRIDE 0; with vectors of two. -/
theorem witness_vfpRunFastNeverBounces :
    condHolds .al fastHome.cpsr = true ∧ fastHome.vfpReady ∧ runFast fastHome.vfp.fpscr ∧
      fastHome.vfp.fpscr &&& 0x03009F00#32 = 0x03000000#32 ∧ 0x03010000#32 &&& 0x03009F00#32 = 0x03000000#32 := by
  unfold State.vfpReady runFast; decide +kernel

/-- The value of a positive number from its fields. -/
theorem ratValue_of (f : Format) (v : DWord) (frac biased n : Nat) (m : Int)
    (h : ((f.unpack v).neg, (f.unpack v).frac, (f.unpack v).biased, f.frac, f.minExp) = (false, frac, biased, n, m)) :
    f.ratValue v = (2 ^ n + frac : ℚ) * 2 ^ (m + ((biased : Int) - 1)) := by
  obtain ⟨h1, h2, h3, h4, h5⟩ : (f.unpack v).neg = false ∧ (f.unpack v).frac = frac ∧ (f.unpack v).biased = biased ∧ f.frac = n ∧
      f.minExp = m := by simpa only [Prod.mk.injEq] using h
  simp [Format.ratValue, h1, h2, h3, h4, h5]

/-- 1.0, 2.0, 3.0 and 4.0 in single precision. -/
theorem single_values :
    single.ratValue 0x3F800000#64 = 1 ∧ single.ratValue 0x40000000#64 = 2 ∧ single.ratValue 0x40400000#64 = 3 ∧
      single.ratValue 0x40800000#64 = 4 :=
  ⟨(ratValue_of single _ 0 127 23 (-149) (by decide +kernel)).trans (by norm_num),
    (ratValue_of single _ 0 128 23 (-149) (by decide +kernel)).trans (by norm_num),
    (ratValue_of single _ (2 ^ 22) 128 23 (-149) (by decide +kernel)).trans (by norm_num),
    (ratValue_of single _ 0 129 23 (-149) (by decide +kernel)).trans (by norm_num)⟩

/-- 1.0, 2.0, 3.0 and 4.0 in double precision. -/
theorem double_values :
    double.ratValue 0x3FF0000000000000#64 = 1 ∧ double.ratValue 0x4000000000000000#64 = 2 ∧
      double.ratValue 0x4008000000000000#64 = 3 ∧ double.ratValue 0x4010000000000000#64 = 4 :=
  ⟨(ratValue_of double _ 0 1023 52 (-1074) (by decide +kernel)).trans (by norm_num),
    (ratValue_of double _ 0 1024 52 (-1074) (by decide +kernel)).trans (by norm_num),
    (ratValue_of double _ (2 ^ 51) 1024 52 (-1074) (by decide +kernel)).trans (by norm_num),
    (ratValue_of double _ 0 1025 52 (-1074) (by decide +kernel)).trans (by norm_num)⟩

/-- With the values above: 1 + 2 = 3, 3 − 1 = 2, 1 × 2 = 2, 2 / 1 = 2 and √4 = 2, in both precisions. -/
theorem witness_vfpExactResults :
    (condHolds .al fastHome.cpsr = true ∧ fastHome.vfpReady ∧ runFast fastHome.vfp.fpscr) ∧
    (single.isNormal 0x3F800000#64 ∧ single.isNormal 0x40000000#64 ∧ single.isNormal 0x40400000#64 ∧ single.isNormal 0x40800000#64 ∧
      (0x40400000#64).toNat < 2 ^ 32) ∧
    (double.isNormal 0x3FF0000000000000#64 ∧ double.isNormal 0x4000000000000000#64 ∧ double.isNormal 0x4008000000000000#64 ∧
      double.isNormal 0x4010000000000000#64) ∧
    ((1 : ℚ) + 2 = 3 ∧ (3 : ℚ) - 1 = 2 ∧ (1 : ℚ) * 2 = 2 ∧ (2 : ℚ) / 1 = 2 ∧ (0 : ℚ) < 2 ∧ (2 : ℚ) * 2 = 4) :=
  ⟨by unfold State.vfpReady runFast; decide +kernel, by unfold Format.isNormal; decide +kernel,
    by unfold Format.isNormal; decide +kernel, by norm_num⟩

/-- Less, equal and greater; two zeros; a quiet and a signalling NaN in default NaN mode. -/
theorem witness_vfpComparisons :
    let s : State := { home with vfp := { home.vfp with fpscr := 0x02000000#32 } }
    condHolds .al s.cpsr = true ∧ s.vfpReady ∧ bit s.vfp.fpscr 12 = false ∧ bit s.vfp.fpscr 25 = true ∧ bit s.vfp.fpscr 8 = false ∧
      single.isNormal 0x3F800000#64 ∧ single.isNormal 0x40000000#64 ∧ double.isNormal 0x3FF0000000000000#64 ∧
      double.isNormal 0x4000000000000000#64 ∧
      (single.unpack 0x80000000#64).isZero = true ∧ (double.unpack 0#64).isZero = true ∧
      ((single.unpack 0x7FC00000#64).isNan single = true ∧ (single.unpack 0x7FC00000#64).isSubnormal = false ∧
        (single.unpack 0x7F800001#64).isSignalling single = true) ∧
      ((double.unpack 0x7FF8000000000000#64).isNan double = true ∧ (double.unpack 0x7FF8000000000000#64).isSubnormal = false) := by
  unfold State.vfpReady Format.isNormal; decide +kernel

/-- One register up to all 32; none and one too many; R15 as an updated base. -/
theorem witness_vfpLoadsAndStores :
    home.plainMemory ∧ condHolds .al home.cpsr = true ∧ home.vfpReady ∧ (offsetAddress true (home.reg 1#4) 4#32).toNat % 4 = 0 ∧
      (home.reg 1#4).toNat % 4 = 0 ∧ 1#4 ≠ 15#4 ∧ (sNum 15#4 true).val + (1#8).toNat ≤ 32 ∧
      (sNum 0#4 false).val + (32#8).toNat ≤ 32 ∧ 32 < (sNum 0#4 true).val + (32#8).toNat ∧ (0#8).toNat = 0 ∧
      (dLow 15#4).val + (2#8).toNat / 2 * 2 ≤ 32 ∧ (1#8).toNat / 2 * 2 = 0 ∧ (home.cp15.bank home.nsState).fcse = 0#32 := by
  refine ⟨home_plain, ?_⟩
  unfold State.vfpReady; decide +kernel

/-- Enabled; not enabled; exceptional; denied by CPACR; User mode, with CPACR denied for it alone. -/
theorem witness_vfpSystemRegistersAndGates :
    let exc (v : Word) : State := { home with vfp := { home.vfp with fpexc := v } }
    let acc (v : Word) : State := { userHome with cp15 := { home.cp15 with cpacr := v } }
    condHolds .al home.cpsr = true ∧ 0#4 ≠ 15#4 ∧ bits home.cp15.nsacr 10 2 = 0b11#2 ∧ home.oldFetch = [] ∧
      bits home.cp15.cpacr 20 4 = 0b1111#4 ∧ home.mode ≠ 0b10000#5 ∧ bit home.vfp.fpexc 30 = true ∧ bit home.vfp.fpexc 31 = false ∧
      bit (exc 0#32).vfp.fpexc 30 = false ∧ bit (exc 0xC0000000#32).vfp.fpexc 31 = true ∧ userHome.mode = 0b10000#5 ∧
      bits (acc 0#32).cp15.cpacr 20 4 = 0#4 ∧ (bits (acc 0x00500000#32).cp15.cpacr 20 4 = 0b0101#4 ∧ (acc 0x00500000#32).mode = 0b10000#5) := by
  decide +kernel

theorem witness_thumbRegisterResults :
    (BitVec.ofBool true ++ 6#3 : BitVec 4) ≠ 15#4 ∧ (BitVec.ofBool true ++ 7#3 : BitVec 4) = 15#4 ∧ thumbHome.halted = false := by
  decide +kernel

theorem witness_thumbLoadsAndStores :
    thumbHome.plainMemory ∧ (thumbHome.reg (lowReg 1#3) + thumbHome.reg (lowReg 3#3)).toNat % 4 = 0 ∧
      (thumbHome.reg (lowReg 1#3) + (31#5 ++ 0#2 : BitVec 7).setWidth 32).toNat % 4 = 0 ∧
      (thumbHome.reg 13#4 + (255#8 ++ 0#2 : BitVec 10).setWidth 32).toNat % 4 = 0 := by
  refine ⟨thumbHome_plain, ?_⟩
  decide +kernel

/-- The stack at 0x1000, whose second word is 0x88776655: bit 0 set; and words with bits [1:0] = 00 and 10 there; bases in the list
and not; targets of BX with bit 0 set, and with bits [1:0] = 00 and 10; R14 even and odd. -/
theorem witness_thumbBlocksAndBranches :
    let s := thumbHome
    let m (b : Byte) : State := { s with mem := [(0x1000, 1#8), (0x1004, b)] }
    let r (v : Word) : State := small 0x1F3#32 [(0, v), (14, v)]
    s.plainMemory ∧ s.thumb = true ∧ s.halted = false ∧ (s.cp15.bank s.nsState).fcse = 0#32 ∧ (s.reg 13#4).toNat % 4 = 0 ∧
      0x8001#16 ≠ 0#16 ∧ s.controlBit 15 = false ∧ (withControl 0x8000#32 s).controlBit 15 = true ∧
      (bit (s.memWord 0x1004#32) 0 = true ∧ slotAddress false true (s.reg 13#4) 0x8001#16 15#4 = 0x1004#32) ∧
      (bit ((m 4#8).memWord 0x1004#32) 0 = false ∧ bit ((m 4#8).memWord 0x1004#32) 1 = false) ∧
      (bit ((m 2#8).memWord 0x1004#32) 0 = false ∧ bit ((m 2#8).memWord 0x1004#32) 1 = true) ∧
      (s.reg (lowReg 1#3)).toNat % 4 = 0 ∧ (bit 6#16 (1#3).toNat = true ∧ below 6#16 (lowReg 1#3) = 0) ∧
      (bit 3#16 (1#3).toNat = true ∧ below 3#16 (lowReg 1#3) ≠ 0) ∧ condHolds .ne s.cpsr = true ∧ (bit ((r 0x9001#32).reg 0#4) 0 = true ∧ bit ((r 0x9001#32).reg 14#4) 0 = true) ∧
      (bit ((r 0x9000#32).reg 0#4) 0 = false ∧ bit ((r 0x9000#32).reg 0#4) 1 = false ∧ bit ((r 0x9000#32).reg 14#4) 0 = false) ∧
      (bit ((r 0x9002#32).reg 0#4) 0 = false ∧ bit ((r 0x9002#32).reg 0#4) 1 = true) ∧
      (BitVec.ofBool false ++ 0#3 : BitVec 4) ≠ 15#4 := by
  refine ⟨thumbHome_plain, ?_⟩
  decide +kernel

/-- M = 1 is in no row of FCMPZD (49:R1155); MCR to p14 with Opcode_1 = 1 and R15 stops (47:R1048). -/
theorem test_refusedForms :
    decodeTableWord 32 0xEEB53B60 = none ∧
    (decodeTableWord 32 0xEE20FE10).any (fun i => match exec i (small 0x1D3#32 []) with | .next _ => false | _ => true) = true := by
  decide +kernel

/-- An IMB sequence (20:R533): the pipeline flush alone forgets nothing; after a Data Synchronization Barrier and an invalidate it does. -/
theorem test_imb :
    let s (synced invalidated : Bool) : State := { small 0x1D3#32 [] with
      stale := [{ place := .external, addr := 0x9000, old := 0#8, synced := synced, invalidated := invalidated }] }
    (leads 32 0xEE070F95 (s false false) fun t => t.stale == (s false false).stale) = true ∧
    (leads 32 0xEE070F9A (s false false) fun t => t.stale == (s true false).stale) = true ∧
    (leads 32 0xEE070F15 (s true false) fun t => t.stale == (s true true).stale) = true ∧
    (leads 32 0xEE070F15 (s false false) fun t => t.stale == (s false false).stale) = true ∧
    (leads 32 0xEE070F95 (s true true) fun t => t.stale == []) = true := by
  decide +kernel

/-- The data trace of STR with an ETM powered up: ETMDA[31:3] of 0x1004 (26:R1626). -/
theorem test_dataTrace :
    let s : State := small 0x1D3#32 [(0, 0xDEADBEEF#32), (1, 0x1004#32)]
    (leads 32 0xE5810000 { s with pins := { s.pins with etmpwrup := true } } fun t =>
      t.outputs.etmdata.map (·.etmda) == [0x200#29] &&
        t.trace.data.map (fun x => (x.write, x.unaligned, x.bytes)) == [(true, false, [0xEF#8, 0xBE#8, 0xAD#8, 0xDE#8])]) = true ∧
    (leads 32 0xE5810000 { s with pins := { s.pins with etmpwrup := false } } fun t => t.outputs.etmdata == []) = true := by
  decide +kernel

end Sys2Proof.Tests
end

section
/-! Which registers and SPSRs the modes share (10:R32, R33, R54): a physical register determines its number, so that sharing
is a question about one number in two modes; the eight modes are then compared by their banks. -/

namespace Sys2Proof.Machine

open Sys2Proof

/-! ### The banks of the eight modes -/

/-- Two modes have R13, R14 and the SPSR in common: they are one mode, or User and System modes (10:R32). -/
abbrev SameBank (m m' : BitVec 5) : Prop :=
  m = m' ∨ ((m = 0b10000#5 ∨ m = 0b11111#5) ∧ (m' = 0b10000#5 ∨ m' = 0b11111#5))

theorem mem_modes_of_validMode {m : BitVec 5} (h : validMode m = true) : m ∈ modes := by
  simpa [validMode] using h

/-- The bank of R13 and R14 either follows R12, or begins at an even place after R12_fiq. -/
theorem bankBase_cases : ∀ m ∈ modes, bankBase m = 13 ∨ 20 ≤ bankBase m ∧ bankBase m ≤ 30 ∧ bankBase m % 2 = 0 := by decide

theorem bankBase_eq_iff : ∀ m ∈ modes, ∀ m' ∈ modes, (bankBase m = bankBase m' ↔ SameBank m m') := by decide

theorem spsrIndex_eq_none_iff : ∀ m ∈ modes, (spsrIndex m = none ↔ m = 0b10000#5 ∨ m = 0b11111#5) := by decide

theorem spsrIndex_eq_iff : ∀ m ∈ modes, ∀ m' ∈ modes, (spsrIndex m = spsrIndex m' ↔ SameBank m m') := by decide

/-- FIQ mode shares its bank with no other mode. -/
theorem SameBank.fiq_iff {m m' : BitVec 5} (h : SameBank m m') : m = modeFiq ↔ m' = modeFiq := by
  obtain rfl | ⟨rfl | rfl, rfl | rfl⟩ := h <;> simp [modeFiq]

/-! ### Physical registers -/

/-- R0 to R7 are the same in every mode. -/
theorem bankedReg_val_of_lt_eight (m : BitVec 5) {r : Reg} (h : r.toNat < 8) : (bankedReg m r).val = r.toNat := by
  simp [bankedReg, h]; omega

/-- R8 to R12 are banked for FIQ mode alone. -/
theorem bankedReg_val_of_lt_thirteen (m : BitVec 5) {r : Reg} (h8 : 8 ≤ r.toNat) (h13 : r.toNat < 13) :
    (bankedReg m r).val = if m = modeFiq then r.toNat + 7 else r.toNat := by
  simp only [bankedReg, Nat.not_lt.mpr h8, h13, if_true, if_false, Fin.val_ofNat]
  split <;> omega

/-- R13 and R14 lie in the mode's bank. -/
theorem bankedReg_val_of_thirteen_le {m : BitVec 5} (hm : m ∈ modes) {r : Reg} (h13 : 13 ≤ r.toNat) (h15 : r.toNat < 15) :
    (bankedReg m r).val = bankBase m + (r.toNat - 13) := by
  have hbase := bankBase_cases m hm
  simp only [bankedReg, show ¬ r.toNat < 8 by omega, Nat.not_lt.mpr h13, if_false, Fin.val_ofNat]
  omega

/-- The number by which the modes that see a physical register know it. -/
def registerNumber (j : Fin 32) : Nat := if j.val < 15 then j.val else if j.val < 20 then j.val - 7 else 13 + j.val % 2

/-- A physical register has the same number in every mode that sees it. -/
theorem registerNumber_bankedReg {m : BitVec 5} (hm : m ∈ modes) {r : Reg} (hr : r.toNat < 15) :
    registerNumber (bankedReg m r) = r.toNat := by
  unfold registerNumber
  obtain h8 | h8 := Nat.lt_or_ge r.toNat 8
  · rw [bankedReg_val_of_lt_eight m h8, if_pos hr]
  obtain h13 | h13 := Nat.lt_or_ge r.toNat 13
  · rw [bankedReg_val_of_lt_thirteen m h8 h13]
    by_cases hfiq : m = modeFiq <;> simp only [hfiq, if_true, if_false] <;> split_ifs <;> omega
  · rw [bankedReg_val_of_thirteen_le hm h13 hr]
    have hbase := bankBase_cases m hm
    split_ifs <;> omega

theorem eq_of_bankedReg_eq {m m' : BitVec 5} {r r' : Reg} (hm : m ∈ modes) (hm' : m' ∈ modes) (hr : r.toNat < 15)
    (hr' : r'.toNat < 15) (h : bankedReg m r = bankedReg m' r') : r = r' :=
  BitVec.eq_of_toNat_eq <| calc
    r.toNat = registerNumber (bankedReg m r) := (registerNumber_bankedReg hm hr).symm
    _ = registerNumber (bankedReg m' r') := by rw [h]
    _ = r'.toNat := registerNumber_bankedReg hm' hr'

/-- One register number in two modes: R0 to R7 are always shared, R8 to R12 unless just one of the modes is FIQ mode, R13 and R14
within a bank. -/
theorem bankedReg_eq_iff {m m' : BitVec 5} {r : Reg} (hm : m ∈ modes) (hm' : m' ∈ modes) (hr : r.toNat < 15) :
    bankedReg m r = bankedReg m' r ↔
      r.toNat < 8 ∨ (r.toNat < 13 ∧ (m = modeFiq ↔ m' = modeFiq)) ∨ SameBank m m' := by
  rw [Fin.ext_iff]
  obtain h8 | h8 := Nat.lt_or_ge r.toNat 8
  · simp only [bankedReg_val_of_lt_eight _ h8, h8, true_or]
  obtain h13 | h13 := Nat.lt_or_ge r.toNat 13
  · have hbank : (m = modeFiq ↔ m' = modeFiq) ∨ SameBank m m' ↔ (m = modeFiq ↔ m' = modeFiq) :=
      or_iff_left_of_imp SameBank.fiq_iff
    simp only [bankedReg_val_of_lt_thirteen _ h8 h13, Nat.not_lt.mpr h8, h13, false_or, true_and, hbank]
    by_cases hfiq : m = modeFiq <;> by_cases hfiq' : m' = modeFiq <;> simp [hfiq, hfiq']
  · simp only [bankedReg_val_of_thirteen_le hm h13 hr, bankedReg_val_of_thirteen_le hm' h13 hr, Nat.not_lt.mpr h8,
      Nat.not_lt.mpr h13, false_or, false_and, Nat.add_right_cancel_iff, bankBase_eq_iff m hm m' hm']

/-- The register numbers that `bankedReg` is about are those below 15. -/
theorem toNat_lt_fifteen {r : Reg} (h : r ≠ 15#4) : r.toNat < 15 := by
  bv_omega

/-- Settles O15: the physical register gives the number, and one number is then compared in two modes. -/
theorem registerBanks : Obligations.RegisterBanks := by
  intro m m' r r' hm hm' hr hr'
  replace hm := mem_modes_of_validMode hm
  replace hm' := mem_modes_of_validMode hm'
  replace hr := toNat_lt_fifteen hr
  replace hr' := toNat_lt_fifteen hr'
  refine ⟨⟨fun h => ?_, ?_⟩, spsrIndex_eq_none_iff m hm, spsrIndex_eq_iff m hm m' hm'⟩
  · obtain rfl := eq_of_bankedReg_eq hm hm' hr hr' h
    exact ⟨rfl, (bankedReg_eq_iff hm hm' hr).mp h⟩
  · rintro ⟨rfl, h⟩
    exact (bankedReg_eq_iff hm hm' hr).mpr h

end Sys2Proof.Machine
end

section
/-! RunFast mode (16:R471): with FZ and DN set and no exception enabled every operation is completed, with cumulative flags alone, so
that no iteration of an instruction bounces. The operations are followed through the steps of 49:R1133, each of which goes on. -/

namespace Sys2Proof.Machine

open Sys2Proof

/-! ### The mode and the cumulative flags -/

/-- RunFast mode whatever LEN and STRIDE are: FZ and DN set, the six exception enables clear (16:R471). -/
def RunFastMode (fpscr : Word) : Prop := fpscr &&& 0x03009F00#32 = 0x03000000#32

/-- Nothing but the cumulative flags of the FPSCR, bits 7 and 4 to 0 (16:R460). -/
def Cumulative (flags : Word) : Prop := flags &&& 0xFFFFFF60#32 = 0#32

/-- A bit of a word under a mask that keeps it. -/
theorem bit_of_and_eq {w m v : Word} (h : w &&& m = v) {i : Nat} (hm : bit m i = true) : bit w i = bit v i := by
  simp only [bit] at *
  rw [← h, BitVec.getLsbD_and, hm, Bool.and_true]

/-- A field of a word under a mask that keeps it. -/
theorem bits_of_and_eq {w m v : Word} (h : w &&& m = v) {lo n : Nat} (hm : bits m lo n = BitVec.allOnes n) :
    bits w lo n = bits v lo n := by
  simp only [bits] at *
  rw [← h, BitVec.extractLsb'_and, hm, BitVec.and_allOnes]

namespace RunFastMode

variable {fpscr : Word} (h : RunFastMode fpscr)
include h

theorem flushToZero : bit fpscr 24 = true := bit_of_and_eq h (by decide)
theorem defaultNan : bit fpscr 25 = true := bit_of_and_eq h (by decide)
theorem noDenormalTrap : bit fpscr 15 = false := bit_of_and_eq h (by decide)
theorem noInexactTrap : bit fpscr 12 = false := bit_of_and_eq h (by decide)
theorem noOverflowTrap : bit fpscr 10 = false := bit_of_and_eq h (by decide)
theorem noDivisionTrap : bit fpscr 9 = false := bit_of_and_eq h (by decide)
theorem noInvalidTrap : bit fpscr 8 = false := bit_of_and_eq h (by decide)

/-- The mode is a matter of the bits that are neither a cumulative flag nor a comparison's result. -/
theorem congr {fpscr' : Word} (he : fpscr' &&& 0x0FFFFF60#32 = fpscr &&& 0x0FFFFF60#32) : RunFastMode fpscr' := by
  have hmask : 0x03009F00#32 = 0x0FFFFF60#32 &&& 0x03009F00#32 := by decide
  unfold RunFastMode at *
  rw [hmask, ← BitVec.and_assoc, he, BitVec.and_assoc, ← hmask, h]

end RunFastMode

theorem cumulative_zero : Cumulative 0#32 := by unfold Cumulative; decide
theorem cumulative_flagIDC : Cumulative flagIDC := by unfold Cumulative; decide
theorem cumulative_flagIXC : Cumulative flagIXC := by unfold Cumulative; decide
theorem cumulative_flagUFC : Cumulative flagUFC := by unfold Cumulative; decide
theorem cumulative_flagOFC : Cumulative flagOFC := by unfold Cumulative; decide
theorem cumulative_flagDZC : Cumulative flagDZC := by unfold Cumulative; decide
theorem cumulative_flagIOC : Cumulative flagIOC := by unfold Cumulative; decide

theorem Cumulative.or {a b : Word} (ha : Cumulative a) (hb : Cumulative b) : Cumulative (a ||| b) := by
  unfold Cumulative at *
  rw [BitVec.and_or_distrib_right, ha, hb, BitVec.or_zero]

/-- A rounding that is inexact adds IXC. -/
theorem Cumulative.orInexact {c : Prop} [Decidable c] {flags : Word} (h : Cumulative flags) :
    Cumulative (if c then flags ||| flagIXC else flags) :=
  iteInduction (fun _ => h.or cumulative_flagIXC) fun _ => h

/-- Setting cumulative flags leaves the settings of the FPSCR. -/
theorem Cumulative.or_settings {flags : Word} (h : Cumulative flags) (fpscr : Word) :
    (fpscr ||| flags) &&& 0x0FFFFF60#32 = fpscr &&& 0x0FFFFF60#32 := by
  have hmask : 0x0FFFFF60#32 = 0xFFFFFF60#32 &&& 0x0FFFFF60#32 := by decide
  have hflags : flags &&& 0x0FFFFF60#32 = 0#32 := by
    rw [hmask, ← BitVec.and_assoc, h, BitVec.zero_and]
  rw [BitVec.and_or_distrib_right, hflags, BitVec.or_zero]

/-! ### Operations that go on -/

/-- A part of an operation goes on, with a value of which `P` holds. -/
def GoesOn {α : Type} (P : α → Prop) (r : Except Word α) : Prop := ∃ x, r = .ok x ∧ P x

/-- An operation is completed, and sets cumulative flags alone. -/
def FpOut.Completed (o : FpOut) : Prop := ∃ v flags, Cumulative flags ∧ o = .done v flags

theorem GoesOn.bind {α β : Type} {P : α → Prop} {Q : β → Prop} {r : Except Word α} {g : α → Except Word β} (h : GoesOn P r)
    (hg : ∀ x, P x → GoesOn Q (g x)) : GoesOn Q (r >>= g) := by
  obtain ⟨x, rfl, hx⟩ := h
  exact hg x hx

theorem GoesOn.pure {α : Type} {P : α → Prop} {x : α} (h : P x) : GoesOn P (Pure.pure x) := ⟨x, rfl, h⟩

theorem FpOut.Completed.done {flags : Word} (h : Cumulative flags) (v : DWord) : (FpOut.done v flags).Completed := ⟨v, flags, h, rfl⟩

theorem goesOn_done {flags : Word} (h : Cumulative flags) (v : DWord) : GoesOn FpOut.Completed (pure (.done v flags)) :=
  .pure (.done h v)

theorem settle_completed {r : Except Word FpOut} (h : GoesOn FpOut.Completed r) : (settle r).Completed := by
  obtain ⟨_, rfl, ho⟩ := h
  exact ho

/-- Rounding and flushing are completed in every mode: they set UFC, OFC and IXC (16:R485). -/
theorem deliver_completed (f : Format) (fpscr : Word) (x : Exact) {flags : Word} (h : Cumulative flags) :
    (f.deliver fpscr x flags).Completed := by
  unfold Format.deliver
  split
  · exact .done (h.or cumulative_flagUFC) _
  · dsimp only
    split
    · exact .done ((h.or cumulative_flagOFC).or cumulative_flagIXC) _
    · exact .done h.orInexact _

theorem deliverOrZero_completed (f : Format) (fpscr : Word) (x : Exact) (zeroNeg : Bool) {flags : Word} (h : Cumulative flags) :
    (f.deliverOrZero fpscr x zeroNeg flags).Completed := by
  unfold Format.deliverOrZero
  split
  · exact .done h _
  · exact deliver_completed f fpscr x h

/-! ### The steps of an operation in RunFast mode -/

section
variable {fpscr : Word} (hq : RunFastMode fpscr)
include hq

/-- Step 1 of 49:R1133: a subnormal operand is flushed. -/
theorem flushInput_goesOn (x : Operand) : GoesOn (fun p => Cumulative p.2) (flushInput fpscr x) := by
  simp only [flushInput, hq.flushToZero, hq.noDenormalTrap, Bool.not_true, Bool.or_self, Bool.false_eq_true, if_false]
  split
  · exact ⟨_, rfl, cumulative_flagIDC⟩
  · exact ⟨_, rfl, cumulative_zero⟩

theorem flushInputs_goesOn (a b : Operand) : GoesOn (fun p => Cumulative p.2.2) (flushInputs fpscr a b) :=
  (flushInput_goesOn hq a).bind fun _ hi => (flushInput_goesOn hq b).bind fun _ hj => .pure (hi.or hj)

/-- Step 2: a NaN gives the default NaN. -/
theorem nanInputs_goesOn (f : Format) (every : Bool) (xs : List Operand) :
    GoesOn (fun o => ∀ flags ∈ o, Cumulative flags) (nanInputs f fpscr every xs) := by
  simp only [nanInputs, hq.defaultNan, hq.noInvalidTrap, Bool.not_true, Bool.false_eq_true, if_false]
  split
  · exact ⟨_, rfl, by simp⟩
  split
  · exact ⟨_, rfl, by simp [cumulative_flagIOC]⟩
  · exact ⟨_, rfl, by simp [cumulative_zero]⟩

/-- Step 2 before the rest of an operation: it is left to complete the operation for operands that are no NaNs. -/
theorem nanInputs_bind_goesOn (f : Format) (every : Bool) (xs : List Operand) {flags : Word} (h : Cumulative flags) {v : DWord}
    {k : Except Word FpOut} (hk : GoesOn FpOut.Completed k) :
    GoesOn FpOut.Completed (nanInputs f fpscr every xs >>= fun
      | some nanFlags => pure (.done v (flags ||| nanFlags))
      | none => k) := by
  refine (nanInputs_goesOn hq f every xs).bind fun o ho => ?_
  cases o with
  | none => exact hk
  | some nanFlags => exact goesOn_done (h.or (ho nanFlags rfl)) v

/-- Step 3: an Invalid Operation gives the default NaN. -/
theorem invalidOperation_goesOn (f : Format) {flags : Word} (h : Cumulative flags) :
    GoesOn FpOut.Completed (invalidOperation f fpscr flags) := by
  simp only [invalidOperation, hq.noInvalidTrap, Bool.false_eq_true, if_false]
  exact goesOn_done (h.or cumulative_flagIOC) _

/-- Step 5: no initial exponent is out of range. -/
theorem checkRange_ok (f : Format) (e low : Int) : checkRange f fpscr e low = .ok () := by
  simp [checkRange, hq.flushToZero, hq.noOverflowTrap]

theorem checkRange_bind_goesOn (f : Format) (e low : Int) {k : Except Word FpOut} (hk : GoesOn FpOut.Completed k) :
    GoesOn FpOut.Completed (checkRange f fpscr e low >>= fun _ => k) := by
  rw [checkRange_ok hq]
  exact hk

theorem sumOf_goesOn (f : Format) (a b : Operand) {flags : Word} (h : Cumulative flags) :
    GoesOn FpOut.Completed (sumOf f fpscr a b flags) := by
  unfold sumOf
  dsimp only
  split
  · exact invalidOperation_goesOn hq f h
  refine checkRange_bind_goesOn hq f _ _ ?_
  split
  · exact goesOn_done h _
  split
  · exact goesOn_done h _
  · exact .pure (deliverOrZero_completed f fpscr _ _ h)

theorem productOf_goesOn (f : Format) (addend : Option Operand) (flip : Bool) (a b : Operand) {flags : Word}
    (h : Cumulative flags) : GoesOn FpOut.Completed (productOf f fpscr addend flip a b flags) := by
  simp only [productOf, hq.noInvalidTrap, Bool.and_false, Bool.false_eq_true, if_false]
  split
  · exact invalidOperation_goesOn hq f h
  refine checkRange_bind_goesOn hq f _ _ ?_
  split
  · exact goesOn_done h _
  · exact .pure (deliverOrZero_completed f fpscr _ _ h)

theorem fpProduct_goesOn (f : Format) (addend : Option Operand) (flip : Bool) (n m : DWord) :
    GoesOn FpOut.Completed (fpProduct f fpscr addend flip n m) :=
  (flushInputs_goesOn hq _ _).bind fun (_, _, _) h =>
    nanInputs_bind_goesOn hq f _ _ h (productOf_goesOn hq f addend flip _ _ h)

end

/-! ### The operations of 49:R1140 to R1164 -/

/-- An operation that RunFast mode completes, whatever its operands; one with fewer than three ignores the others. -/
def CompletesInRunFast (op : FpOp) : Prop := ∀ fpscr, RunFastMode fpscr → ∀ d n m, (op fpscr d n m).Completed

section
variable {f : Format}

theorem addOp_completes {subtract : Bool} : CompletesInRunFast fun fpscr _ n m => addOp f subtract fpscr n m :=
  fun _ hq _ _ _ => settle_completed <|
    (flushInputs_goesOn hq _ _).bind fun (_, _, _) h => nanInputs_bind_goesOn hq f _ _ h (sumOf_goesOn hq f _ _ h)

theorem mulOp_completes : CompletesInRunFast fun fpscr _ n m => mulOp f fpscr n m :=
  fun _ hq _ n m => settle_completed (fpProduct_goesOn hq f none false n m)

theorem nmulOp_completes : CompletesInRunFast fun fpscr _ n m => nmulOp f fpscr n m := by
  intro fpscr hq d n m
  obtain ⟨v, flags, h, hmul⟩ : (mulOp f fpscr n m).Completed := mulOp_completes fpscr hq d n m
  simp only [nmulOp, hmul]
  exact .done h _

theorem macOp_completes {negD negProduct : Bool} : CompletesInRunFast (macOp f negD negProduct) := by
  intro fpscr hq d n m
  refine settle_completed <| (fpProduct_goesOn hq f _ negProduct n m).bind ?_
  rintro _ ⟨t, mulFlags, hmul, rfl⟩
  refine (flushInput_goesOn hq _).bind fun (_, _) hin => ?_
  exact nanInputs_bind_goesOn hq f _ _ (hmul.or hin) (sumOf_goesOn hq f _ _ (hmul.or hin))

theorem divOp_completes : CompletesInRunFast fun fpscr _ n m => divOp f fpscr n m := by
  intro fpscr hq _ n m
  refine settle_completed <| (flushInputs_goesOn hq _ _).bind fun (a, b, flags) h => nanInputs_bind_goesOn hq f _ _ h ?_
  simp only [hq.noDivisionTrap, Bool.false_eq_true, if_false]
  split
  · exact invalidOperation_goesOn hq f h
  split
  · exact goesOn_done (h.or cumulative_flagDZC) _
  refine checkRange_bind_goesOn hq f _ _ ?_
  split
  · exact goesOn_done h _
  split
  · exact goesOn_done h _
  · exact .pure (deliver_completed f fpscr _ h)

theorem sqrtOp_completes : CompletesInRunFast fun fpscr _ _ m => sqrtOp f fpscr m := by
  intro fpscr hq _ _ m
  refine settle_completed <| (flushInput_goesOn hq _).bind fun (a, flags) h => nanInputs_bind_goesOn hq f _ _ h ?_
  split
  · exact goesOn_done h _
  split
  · exact invalidOperation_goesOn hq f h
  split
  · exact goesOn_done h _
  · exact .pure (deliver_completed f fpscr _ h)

theorem compareOp_completes {every : Bool} : CompletesInRunFast fun fpscr d _ m => compareOp f every fpscr d m :=
  fun _ hq _ _ _ => settle_completed <|
    (flushInputs_goesOn hq _ _).bind fun (_, _, _) h => nanInputs_bind_goesOn hq f _ _ h (goesOn_done h _)

theorem widenOp_completes : CompletesInRunFast fun fpscr _ _ m => widenOp fpscr m := by
  intro fpscr hq _ _ m
  refine settle_completed <| (flushInput_goesOn hq _).bind fun (a, flags) h => nanInputs_bind_goesOn hq single _ _ h ?_
  split
  · exact goesOn_done h _
  · exact .pure (deliverOrZero_completed double fpscr _ _ h)

theorem narrowOp_completes : CompletesInRunFast fun fpscr _ _ m => narrowOp fpscr m := by
  intro fpscr hq _ _ m
  refine settle_completed <| (flushInput_goesOn hq _).bind fun (a, flags) h => nanInputs_bind_goesOn hq double _ _ h ?_
  refine checkRange_bind_goesOn hq single _ _ ?_
  split
  · exact goesOn_done h _
  · exact .pure (deliverOrZero_completed single fpscr _ _ h)

theorem fromIntOp_completes {signed : Bool} : CompletesInRunFast fun fpscr _ _ m => fromIntOp f signed fpscr m :=
  fun _ _ _ _ _ => deliverOrZero_completed _ _ _ _ cumulative_zero

theorem toIntOp_completes {signed truncate : Bool} : CompletesInRunFast fun fpscr _ _ m => toIntOp f signed truncate fpscr m := by
  intro fpscr hq _ _ m
  refine settle_completed <| (flushInput_goesOn hq _).bind fun (a, flags) h => nanInputs_bind_goesOn hq f _ _ h ?_
  simp only [hq.noInvalidTrap, Bool.false_eq_true, if_false]
  split
  · exact goesOn_done (h.or cumulative_flagIOC) _
  · exact iteInduction (fun _ => goesOn_done (h.or cumulative_flagIOC) _) fun _ => goesOn_done h.orInexact _

end

/-! ### What an instruction may change -/

/-- `t` differs from `s` in registers and flags of the VFP11 alone. -/
def VfpDataOnly (s t : State) : Prop :=
  ∃ regs fpscr, fpscr &&& 0x0FFFFF60#32 = s.vfp.fpscr &&& 0x0FFFFF60#32 ∧
    t = { s with vfp := { s.vfp with regs := regs, fpscr := fpscr } }

theorem VfpDataOnly.refl (s : State) : VfpDataOnly s s := ⟨_, _, rfl, rfl⟩

theorem VfpDataOnly.trans {s t u : State} (h : VfpDataOnly s t) (h' : VfpDataOnly t u) : VfpDataOnly s u := by
  obtain ⟨_, _, hfpscr, rfl⟩ := h
  obtain ⟨regs, fpscr, hfpscr', rfl⟩ := h'
  exact ⟨regs, fpscr, hfpscr'.trans hfpscr, rfl⟩

theorem VfpDataOnly.mode {s t : State} (h : VfpDataOnly s t) (hq : RunFastMode s.vfp.fpscr) : RunFastMode t.vfp.fpscr := by
  obtain ⟨_, _, hfpscr, rfl⟩ := h
  exact hq.congr hfpscr

/-- Writing a register writes registers of the VFP11 alone. -/
theorem setFp_eq (s : State) (f : Format) (r : Nat) (v : DWord) :
    ∃ regs, s.setFp f r v = { s with vfp := { s.vfp with regs := regs } } := by
  unfold State.setFp
  split <;> exact ⟨_, rfl⟩

/-- Putting away a result changes registers and flags. -/
theorem vfpDataOnly_result (s : State) (f : Format) (r : Nat) (v : DWord) {flags : Word} (h : Cumulative flags) :
    VfpDataOnly s ((s.setFp f r v).orFpscr flags) := by
  obtain ⟨regs, hregs⟩ := setFp_eq s f r v
  rw [hregs]
  exact ⟨regs, _, h.or_settings _, rfl⟩

/-- The four flags of a comparison are none of the settings of the FPSCR. -/
theorem setBits_top_settings (w : Word) (v : BitVec 4) : setBits w 28 v &&& 0x0FFFFF60#32 = w &&& 0x0FFFFF60#32 := by
  have hfield : ∀ v : BitVec 4, v.setWidth 32 <<< 28 &&& 0x0FFFFF60#32 = 0#32 := by decide
  rw [setBits, BitVec.and_or_distrib_right, hfield, BitVec.and_assoc, BitVec.or_zero]
  rfl

/-- The result of a comparison changes flags. -/
theorem vfpDataOnly_compared (s : State) (v : DWord) {flags : Word} (h : Cumulative flags) :
    VfpDataOnly s ((writeFpFlags s v).orFpscr flags) :=
  ⟨s.vfp.regs, _, (h.or_settings _).trans (setBits_top_settings _ _), rfl⟩

/-- An instruction does not bounce: it ends in a next state where registers and flags of the VFP11 alone may have changed, or is
refused for its vectors. -/
def NoBounce (s : State) (o : Outcome) : Prop :=
  o = .refused .vfpLenStride ∨ o = .refused .vfpRegisters ∨
    ∃ t, o = .next t ∧ t = { s.stepped with vfp := { s.vfp with regs := t.vfp.regs, fpscr := t.vfp.fpscr } } ∧
      t.vfp.fpscr &&& 0x0FFFFF60#32 = s.vfp.fpscr &&& 0x0FFFFF60#32

theorem VfpDataOnly.noBounce {s t : State} (h : VfpDataOnly s t) : NoBounce s (.next t.advance) := by
  obtain ⟨regs, fpscr, hfpscr, rfl⟩ := h
  rw [State.advance_eq_stepped]
  exact .inr <| .inr ⟨_, rfl, rfl, hfpscr⟩

/-- An instruction is completed with a result in a register, and sets cumulative flags. -/
def EndsInResult (f : Format) (r : Nat) (s : State) (o : Outcome) : Prop :=
  ∃ v flags, Cumulative flags ∧ o = .next ((s.setFp f r v).orFpscr flags).advance

/-- A comparison is completed with its four flags, and sets cumulative flags. -/
def EndsInFlags (s : State) (o : Outcome) : Prop :=
  ∃ v flags, Cumulative flags ∧ o = .next ((writeFpFlags s v).orFpscr flags).advance

theorem EndsInResult.noBounce {f : Format} {r : Nat} {s : State} {o : Outcome} (h : EndsInResult f r s o) : NoBounce s o := by
  obtain ⟨v, flags, hflags, rfl⟩ := h
  exact (vfpDataOnly_result s f r v hflags).noBounce

theorem EndsInFlags.noBounce {s : State} {o : Outcome} (h : EndsInFlags s o) : NoBounce s o := by
  obtain ⟨v, flags, hflags, rfl⟩ := h
  exact (vfpDataOnly_compared s v hflags).noBounce

/-- A result of single precision in the words of `State.wroteS`. -/
theorem EndsInResult.single {s : State} {fd : BitVec 4} {dBit : Bool} {o : Outcome} (h : EndsInResult single (sReg fd dBit) s o) :
    ∃ v flags, Cumulative flags ∧ o = .next (s.wroteS [(sNum fd dBit, v)] flags) := by
  obtain ⟨v, flags, hflags, rfl⟩ := h
  refine ⟨v.setWidth 32, flags, hflags, ?_⟩
  rw [State.advance_eq_stepped]
  rfl

/-- Writing D(r) writes its two words. -/
theorem setDr_eq (s : State) (fd : BitVec 4) (v : DWord) :
    s.setDr (dReg fd) v =
      { s with vfp := { s.vfp with regs := (dWords fd v).foldl (fun regs x => regs.set x.1 x.2) s.vfp.regs } } := by
  rw [State.setDr, BitVec.setWidth_eq_extractLsb' (by omega), BitVec.setWidth_ushiftRight_eq_extractLsb]
  rfl

/-- A result of double precision in the words of `State.wroteS`. -/
theorem EndsInResult.double {s : State} {fd : BitVec 4} {o : Outcome} (h : EndsInResult double (dReg fd) s o) :
    ∃ v flags, Cumulative flags ∧ o = .next (s.wroteS (dWords fd v) flags) := by
  obtain ⟨v, flags, hflags, rfl⟩ := h
  refine ⟨v, flags, hflags, ?_⟩
  rw [State.advance_eq_stepped, show s.setFp _ _ v = s.setDr (dReg fd) v from rfl, setDr_eq]
  rfl

/-- A field of four bits at the top of a word, as a concatenation. -/
theorem setBits_top (w : Word) (v : BitVec 4) : setBits w 28 v = v ++ w.extractLsb' 0 28 := by
  have hkept : ∀ i < 32, (~~~((BitVec.allOnes 4).setWidth 32 <<< 28)).getLsbD i = decide (i < 28) := by decide
  apply BitVec.eq_of_getLsbD_eq
  intro i hi
  simp only [setBits, BitVec.getLsbD_or, BitVec.getLsbD_and, hkept i hi, BitVec.getLsbD_append, BitVec.getLsbD_shiftLeft,
    BitVec.getLsbD_setWidth, BitVec.getLsbD_extractLsb']
  by_cases h : i < 28
  · simp [h]
  · simp [h, hi, show i - 28 < 32 by omega]

/-- The FPSCR after a comparison. -/
theorem EndsInFlags.compared {s : State} {o : Outcome} (h : EndsInFlags s o) :
    ∃ (nzcv : BitVec 4) (flags : Word), Cumulative flags ∧ o = .next { s.stepped with
      vfp := { s.vfp with fpscr := (nzcv ++ s.vfp.fpscr.extractLsb' 0 28 : BitVec 32) ||| flags } } := by
  obtain ⟨v, flags, hflags, rfl⟩ := h
  refine ⟨v.setWidth 4, flags, hflags, ?_⟩
  rw [State.advance_eq_stepped, writeFpFlags, setBits_top]
  rfl

/-! ### Instructions in RunFast mode -/

/-- The iterations of an instruction, or why its LEN, STRIDE and registers are refused (16:R461, R489). -/
theorem iterations_cases (f : Format) (fpscr : Word) (hasFn : Bool) (fd fn fm : Nat) :
    iterations f fpscr hasFn fd fn fm = .error (.refuse .vfpLenStride) ∨
      iterations f fpscr hasFn fd fn fm = .error (.refuse .vfpRegisters) ∨
      ∃ regs, iterations f fpscr hasFn fd fn fm = .ok regs := by
  unfold iterations
  dsimp only
  split_ifs <;> simp

/-- With LEN and STRIDE 0 there is one iteration. -/
theorem iterations_runFast (f : Format) {fpscr : Word} (h : runFast fpscr) (hasFn : Bool) (fd fn fm : Nat) :
    iterations f fpscr hasFn fd fn fm = .ok [(fd, fn, fm)] := by
  have hlen : vectorLength fpscr = 1 := by
    unfold vectorLength
    rw [bits_of_and_eq h (by decide)]
    rfl
  have hstride : bits fpscr 20 2 = 0#2 := by
    rw [bits_of_and_eq h (by decide)]
    rfl
  simp only [iterations, hlen, hstride, if_true]

/-- No iteration bounces, and each leaves the mode. -/
theorem iterate_vfpDataOnly {f : Format} {op : FpOp} (hop : CompletesInRunFast op) (word : Nat → Nat → Nat → Word)
    (regs : List (Nat × Nat × Nat)) {s : State} (hq : RunFastMode s.vfp.fpscr) : VfpDataOnly s (iterate f op word regs s) := by
  induction regs generalizing s with
  | nil => exact .refl s
  | cons x regs ih =>
    obtain ⟨d, n, m⟩ := x
    obtain ⟨v, flags, hflags, hdone⟩ := hop _ hq (s.fp f d) (s.fp f n) (s.fp f m)
    have hresult := vfpDataOnly_result s f d v hflags
    simp only [iterate, hdone]
    exact hresult.trans (ih (hresult.mode hq))

/-- Where the VFP11 may be used and the condition holds, an instruction is its body. -/
theorem vfpInstruction_ready {c : Cond} {s : State} (hc : condHolds c s.cpsr = true) (hs : s.vfpReady) {n : Nat}
    (hn : n = 10 ∨ n = 11) (body : State → Result State) : vfpInstruction c n s body = body s := by
  rw [vfpInstruction, conditional_pass hc, requireVfp_ready hs hn]
  rfl

theorem vfpNumber_cases (f : Format) : vfpNumber f = 10 ∨ vfpNumber f = 11 := by
  unfold vfpNumber
  split <;> simp

/-- RunFast mode has no trap for inexact results, so that every instruction is executed. -/
theorem preciseInexact_pass {s : State} (hq : RunFastMode s.vfp.fpscr) (body : Result State) : preciseInexact s body = body := by
  simp [preciseInexact, hq.noInexactTrap]

/-- What RunFast mode promises of an instruction with a result: no bounce, and completion where there are no vectors. -/
def RunsFast (f : Format) (r : Nat) (s : State) (o : Outcome) : Prop :=
  NoBounce s o ∧ (runFast s.vfp.fpscr → EndsInResult f r s o)

theorem EndsInResult.runsFast {f : Format} {r : Nat} {s : State} {o : Outcome} (h : EndsInResult f r s o) : RunsFast f r s o :=
  ⟨h.noBounce, fun _ => h⟩

/-- The body of a vectorisable instruction. -/
theorem vector_runsFast {f : Format} {op : FpOp} (hop : CompletesInRunFast op) (word : Nat → Nat → Nat → Word) (hasFn : Bool)
    (fd fn fm : Nat) {s : State} (hq : RunFastMode s.vfp.fpscr) :
    RunsFast f fd s (finish (iterations f s.vfp.fpscr hasFn fd fn fm >>= fun regs => pure (iterate f op word regs s).advance)) := by
  constructor
  · obtain hregs | hregs | ⟨regs, hregs⟩ := iterations_cases f s.vfp.fpscr hasFn fd fn fm <;> rw [hregs]
    · exact .inl rfl
    · exact .inr (.inl rfl)
    · exact (iterate_vfpDataOnly hop word regs hq).noBounce
  · intro hrun
    obtain ⟨v, flags, hflags, hdone⟩ := hop _ hq (s.fp f fd) (s.fp f fn) (s.fp f fm)
    refine ⟨v, flags, hflags, ?_⟩
    rw [iterations_runFast f hrun]
    simp only [iterate, hdone, bind, Except.bind]
    rfl

section
variable {c : Cond} {s : State} (hc : condHolds c s.cpsr = true) (hs : s.vfpReady) (hq : RunFastMode s.vfp.fpscr)
include hc hs hq

theorem vfpThree_runsFast {f : Format} {base : Word} {op : FpOp} {fd fn fm : Nat} (hop : CompletesInRunFast op) :
    RunsFast f fd s (finish (vfpThree c f base op fd fn fm s)) := by
  rw [vfpThree, vfpInstruction_ready hc hs (vfpNumber_cases f), preciseInexact_pass hq]
  exact vector_runsFast hop _ true fd fn fm hq

theorem vfpTwo_runsFast {f : Format} {base : Word} {op : Word → DWord → FpOut} {fd fm : Nat}
    (hop : CompletesInRunFast fun fpscr _ _ m => op fpscr m) :
    RunsFast f fd s (finish (vfpTwo c f base op fd fm s)) := by
  rw [vfpTwo, vfpInstruction_ready hc hs (vfpNumber_cases f), preciseInexact_pass hq]
  exact vector_runsFast hop _ false fd fd fm hq

/-- An instruction that is always scalar puts away its result. -/
theorem vfpScalar_completed {n : Nat} (hn : n = 10 ∨ n = 11) (word : Word) {op : State → Word → FpOut}
    (hop : (op s s.vfp.fpscr).Completed) (write : State → DWord → State) :
    ∃ v flags, Cumulative flags ∧ finish (vfpScalar c n word op write s) = .next ((write s v).orFpscr flags).advance := by
  obtain ⟨v, flags, hflags, hdone⟩ := hop
  refine ⟨v, flags, hflags, ?_⟩
  rw [vfpScalar, vfpInstruction_ready hc hs hn, preciseInexact_pass hq, hdone]
  rfl

theorem vfpConvert_runsFast {p g f : Format} {base : Word} {op : Word → DWord → FpOut} {fd fm : Nat}
    (hop : CompletesInRunFast fun fpscr _ _ m => op fpscr m) :
    RunsFast f fd s (finish (vfpConvert c p g f base op fd fm s)) :=
  EndsInResult.runsFast <| vfpScalar_completed hc hs hq (vfpNumber_cases p) _ (hop _ hq 0#64 0#64 _) _

theorem vfpCompare_endsInFlags (f : Format) (base : Word) (every : Bool) (fd fm : Nat) :
    EndsInFlags s (finish (vfpCompare c f base every fd fm s)) :=
  vfpScalar_completed hc hs hq (vfpNumber_cases f) _ (compareOp_completes _ hq _ 0#64 _) _

theorem vfpCompareZero_endsInFlags (f : Format) (base : Word) (every : Bool) (fd : Nat) :
    EndsInFlags s (finish (vfpCompareZero c f base every fd s)) :=
  vfpScalar_completed hc hs hq (vfpNumber_cases f) _ (compareOp_completes _ hq _ 0#64 _) _

end

/-- Settles O53: in RunFast mode every operation is completed, so that an instruction is refused for its vectors or puts away the
results of its iterations, and with LEN and STRIDE 0 that of the one iteration. -/
theorem vfpRunFastNeverBounces : Obligations.VfpRunFastNeverBounces := by
  intro c dBit nBit mBit fd fn fm s hc hs (hq : RunFastMode s.vfp.fpscr) singles doubles comparisons cumulative one two compared
  have three {f base op fd fn fm} := @vfpThree_runsFast c s hc hs hq f base op fd fn fm
  have two {f base op fd fm} := @vfpTwo_runsFast c s hc hs hq f base op fd fm
  have convert {p g f base op fd fm} := @vfpConvert_runsFast c s hc hs hq p g f base op fd fm
  have hsingles : ∀ i ∈ singles, RunsFast single (sReg fd dBit) s (exec i s) := by
    simp only [singles, List.forall_mem_cons]
    exact ⟨three macOp_completes, three macOp_completes, three macOp_completes, three macOp_completes, three mulOp_completes,
      three nmulOp_completes, three addOp_completes, three addOp_completes, three divOp_completes, two sqrtOp_completes,
      convert narrowOp_completes, convert fromIntOp_completes, convert fromIntOp_completes, convert toIntOp_completes,
      convert toIntOp_completes, convert toIntOp_completes, convert toIntOp_completes, convert toIntOp_completes,
      convert toIntOp_completes, convert toIntOp_completes, convert toIntOp_completes, List.forall_mem_nil _⟩
  have hdoubles : ∀ i ∈ doubles, RunsFast double (dReg fd) s (exec i s) := by
    simp only [doubles, List.forall_mem_cons]
    exact ⟨three macOp_completes, three macOp_completes, three macOp_completes, three macOp_completes, three mulOp_completes,
      three nmulOp_completes, three addOp_completes, three addOp_completes, three divOp_completes, two sqrtOp_completes,
      convert widenOp_completes, convert fromIntOp_completes, convert fromIntOp_completes, List.forall_mem_nil _⟩
  have hcomparisons : ∀ i ∈ comparisons, EndsInFlags s (exec i s) := by
    have compare := vfpCompare_endsInFlags hc hs hq
    have compareZero := vfpCompareZero_endsInFlags hc hs hq
    simp only [comparisons, List.forall_mem_cons]
    exact ⟨compare .., compare .., compareZero .., compareZero .., compare .., compare .., compareZero .., compareZero ..,
      List.forall_mem_nil _⟩
  refine ⟨fun i hi => ?_, fun hrun => ⟨?_, ?_, fun i hi => (hcomparisons i hi).compared⟩⟩
  · simp only [List.mem_append] at hi
    obtain (hi | hi) | hi := hi
    · exact (hsingles i hi).1
    · exact (hdoubles i hi).1
    · exact (hcomparisons i hi).noBounce
  · exact fun i hi => ((hsingles i hi).2 hrun).single
  · exact fun i hi => ((hdoubles i hi).2 hrun).double

end Sys2Proof.Machine
end

section
/-! Decoding gives back what was encoded (30:R704): the fields of a code stand apart, its fixed bits are those of its row, and no earlier
row of the table has them too, but for the fields that `Instr.wf` keeps from the values of that row. -/

namespace Sys2Proof

/-! ### Fields of a code -/

section
variable {k lo n l m : Nat}

@[simp] theorem field_or (a b : BitVec k) : field lo n (a ||| b) = field lo n a ||| field lo n b := by
  ext; simp [field]

@[simp] theorem field_and (a b : BitVec k) : field lo n (a &&& b) = field lo n a &&& field lo n b := by
  ext; simp [field]

@[simp] theorem flag_or (a b : BitVec k) : flag lo (a ||| b) = (flag lo a || flag lo b) := by
  simp [flag]

@[simp] theorem flag_and (a b : BitVec k) : flag lo (a &&& b) = (flag lo a && flag lo b) := by
  simp [flag]

@[simp] theorem field_ofNat {x : Nat} (h : lo + n ≤ k) : field lo n (BitVec.ofNat k x) = BitVec.ofNat n (x / 2 ^ lo % 2 ^ n) := by
  ext i hi
  have hk : lo + i < k := by omega
  simp [field, hi, hk, BitVec.getElem_eq_testBit_toNat, Nat.testBit_div_two_pow, Nat.add_comm]

@[simp] theorem flag_ofNat {x : Nat} (h : lo < k) : flag lo (BitVec.ofNat k x) = decide (x / 2 ^ lo % 2 = 1) := by
  simp only [flag, BitVec.getLsbD_ofNat, h, decide_true, Bool.true_and, Nat.testBit_eq_decide_div_mod_eq]

@[simp] theorem field_place_same (v : BitVec n) (h : lo + n ≤ k) : field lo n (v.setWidth k <<< lo) = v := by
  ext i hi
  have hk : lo + i < k := by omega
  simp [field, hk, BitVec.getLsbD_eq_getElem hi]

@[simp] theorem field_place_apart (v : BitVec m) (h : l + m ≤ lo ∨ lo + n ≤ l) : field lo n (v.setWidth k <<< l) = 0#n := by
  ext i hi
  simp only [field, BitVec.getElem_extractLsb', BitVec.getLsbD_shiftLeft, BitVec.getLsbD_setWidth, BitVec.getElem_zero]
  by_cases hl : lo + i < l
  · simp [hl]
  · simp [BitVec.getLsbD_of_ge v (lo + i - l) (by omega)]

@[simp] theorem flag_place_same (b : Bool) (h : lo < k) : flag lo ((BitVec.ofBool b).setWidth k <<< lo) = b := by
  simp [flag, h]

@[simp] theorem flag_place_apart (v : BitVec m) (h : l + m ≤ lo ∨ lo < l) : flag lo (v.setWidth k <<< l) = false := by
  simp only [flag, BitVec.getLsbD_shiftLeft, BitVec.getLsbD_setWidth]
  by_cases hl : lo < l
  · simp [hl]
  · simp [BitVec.getLsbD_of_ge v (lo - l) (by omega)]

/-- A field in its place has no bit under a mask that is 0 there. -/
theorem place_and_ofNat {x : Nat} (v : BitVec m) (h : x / 2 ^ l % 2 ^ m = 0) :
    (v.setWidth k <<< l) &&& BitVec.ofNat k x = 0#k := by
  ext i hi
  have hbit : ∀ j < m, x.testBit (l + j) = false := by
    intro j hj
    have := congrArg (·.testBit j) h
    simpa [hj, Nat.testBit_mod_two_pow, Nat.testBit_div_two_pow, Nat.add_comm] using this
  simp only [BitVec.getElem_and, BitVec.getElem_shiftLeft, BitVec.getElem_zero]
  by_cases hl : i < l
  · simp [hl]
  by_cases hm : i - l < m
  · have := hbit (i - l) hm
    rw [show l + (i - l) = i by omega] at this
    simp [BitVec.getElem_eq_testBit_toNat, this]
  · simp [BitVec.getLsbD_of_ge v (i - l) (by omega)]

end

@[simp] theorem Cond.ofBits_bits (c : Cond) : Cond.ofBits c.bits = c := by cases c <;> rfl

@[simp] theorem Shift.ofBits_bits (sh : Shift) : Shift.ofBits sh.bits = sh := by cases sh <;> rfl

theorem Cond.bits_ne (c : Cond) : c.bits ≠ 15#4 := by cases c <;> decide

/-! ### Rows that have no common word -/

section
variable {k : Nat}

/-- No word of row `r` has the bits `p` under the mask `m`, if the values of the fields in `ex` do not occur in it. -/
def Row.keepsFrom (r : Row k) (ex : List (BitVec k × BitVec k)) (m p : BitVec k) : Bool :=
  ((p ^^^ r.pat) &&& m &&& r.mask) != 0#k || ex.any fun e => m &&& e.1 == e.1 && p &&& e.1 == e.2

theorem Row.keepsFrom_ne {r : Row k} {ex : List (BitVec k × BitVec k)} {m p w : BitVec k} (h : r.keepsFrom ex m p = true)
    (hr : r.matches w = true) (hex : ∀ e ∈ ex, w &&& e.1 ≠ e.2) : w &&& m ≠ p := by
  rintro rfl
  simp only [Row.matches, beq_iff_eq] at hr
  simp only [Row.keepsFrom, ← hr, Bool.or_eq_true, bne_iff_ne, List.any_eq_true, Bool.and_eq_true, beq_iff_eq] at h
  obtain h | ⟨e, he, hm, hp⟩ := h
  · refine h ?_
    ext i
    simp only [BitVec.getElem_and, BitVec.getElem_xor, BitVec.getElem_zero]
    generalize w[i] = a, m[i] = b, r.mask[i] = c
    revert a b c
    decide
  · refine hex e he ?_
    rw [← hp, BitVec.and_assoc, hm]

/-- The fixed bits of a row as mask and value, and those of them that are not only to be zero or one. -/
def Row.fixed (q : Row k) : BitVec k × BitVec k := (q.mask, q.pat)

def Row.fixedLoosely (q : Row k) : BitVec k × BitVec k := (q.mask &&& ~~~q.sb, q.pat &&& ~~~q.sb)

/-- Every row of a table is kept from `before` and from the rows before it in the table; `ex` says which values do not occur in the
fields of the rows, numbered from `n` on. -/
def keptApart (ex : Nat → List (BitVec k × BitVec k)) (before : List (BitVec k × BitVec k)) (n : Nat) : List (Row k) → Bool
  | [] => true
  | r :: rs => before.all (fun q => r.keepsFrom (ex n) q.1 q.2) && keptApart ex (r.fixed :: before) (n + 1) rs

theorem keptApart_getElem {ex : Nat → List (BitVec k × BitVec k)} {rows : List (Row k)} {before : List (BitVec k × BitVec k)} {n j : Nat}
    {r : Row k} (h : keptApart ex before n rows = true) (hj : rows[j]? = some r) :
    (∀ q ∈ before, r.keepsFrom (ex (n + j)) q.1 q.2 = true) ∧ ∀ q ∈ rows.take j, r.keepsFrom (ex (n + j)) q.mask q.pat = true := by
  induction rows generalizing before n j with
  | nil => simp at hj
  | cons r' rs ih =>
    simp only [keptApart, Bool.and_eq_true, List.all_eq_true] at h
    cases j with
    | zero =>
      obtain rfl : r' = r := by simpa using hj
      exact ⟨h.1, by simp⟩
    | succ j =>
      obtain ⟨hbefore, hrs⟩ := ih h.2 (by simpa using hj)
      rw [show n + 1 + j = n + (j + 1) by omega] at hbefore hrs
      refine ⟨fun q hq => hbefore q (List.mem_cons_of_mem _ hq), fun q hq => ?_⟩
      rw [List.take_succ_cons, List.mem_cons] at hq
      obtain rfl | hq := hq
      · exact hbefore q.fixed List.mem_cons_self
      · exact hrs q hq

/-- Row `n` of a table is the row of this instruction: the code matches it, and its fields are the operands. -/
def Encodes (rows : List (Row k)) (n : Nat) (w : BitVec k) (i : Instr) : Prop :=
  ∃ r, rows[n]? = some r ∧ r.matches w = true ∧ r.build w = i

/-- The search comes to the row of the instruction, and to none of those before. -/
theorem Encodes.search {rows : List (Row k)} {j n : Nat} {ex : Nat → List (BitVec k × BitVec k)} {before : List (BitVec k × BitVec k)}
    {w : BitVec k} {i : Instr} (h : Encodes rows j w i) (happart : keptApart ex before n rows = true)
    (hex : ∀ e ∈ ex (n + j), w &&& e.1 ≠ e.2) (other : Decoded) :
    search other rows w = .instr i ∧ ∀ q ∈ before, w &&& q.1 ≠ q.2 := by
  obtain ⟨r, hj, hm, rfl⟩ := h
  obtain ⟨hbefore, hrows⟩ := keptApart_getElem happart hj
  refine ⟨?_, fun q hq => Row.keepsFrom_ne (hbefore q hq) hm hex⟩
  have hfind : rows.find? (·.matches w) = some r := by
    obtain ⟨hlt, hr⟩ := List.getElem?_eq_some_iff.mp hj
    refine List.find?_eq_some_iff_append.mpr ⟨hm, rows.take j, rows.drop (j + 1), ?_, fun q hq => ?_⟩
    · rw [← hr, List.cons_getElem_drop_succ, List.take_append_drop]
    · simpa [Row.matches] using Row.keepsFrom_ne (hrows q hq) hm hex
  simp [Sys2Proof.search, hfind]

/-- No row of the table matches the word, not even but for its `sb` bits. -/
theorem search_of_none {rows : List (Row k)} {w : BitVec k} (h : ∀ q ∈ rows, q.matchesLoosely w = false) (other : Decoded) :
    search other rows w = other := by
  have hstrict : ∀ q ∈ rows, q.matches w = false := by
    intro q hq
    have := h q hq
    simp only [Row.matchesLoosely, Row.matches, beq_eq_false_iff_ne] at this ⊢
    rintro hw
    exact this (by rw [← hw, ← BitVec.and_assoc])
  have hfind : rows.find? (·.matches w) = none := List.find?_eq_none.mpr fun q hq => by simp [hstrict q hq]
  have hloose : rows.find? (·.matchesLoosely w) = none := List.find?_eq_none.mpr fun q hq => by simp [h q hq]
  simp [search, hfind, hloose]

end

/-! ### Every instruction has its row -/

/-- The row of an instruction of the code `c`. The constructors of `Instr` are in the order of the table, so that the number `n` of the
constructor tells the row; after the unconditional rows (16) comes the catch-all row, then the conditional rows (277), the generic
coprocessor rows (8), the Thumb rows. -/
def Instr.InRow (i : Instr) (n : Nat) : Code → Prop
  | .thumb h => 302 ≤ n ∧ Encodes rowsThumb (n - 302) h i
  | .arm w =>
    if n < 16 then field 28 4 w = 15#4 ∧ Encodes rowsUncond n w i
    else if n = 16 then ∃ raw, i = .undefUncond raw
    else field 28 4 w ≠ 15#4 ∧ if n < 294 then Encodes rowsCond (n - 17) w i else Encodes rowsCop (n - 294) w i

-- One declaration, since the 378 constructors have one argument: it takes more heartbeats than the default for their number only.
set_option maxHeartbeats 2000000 in
theorem Instr.inRow (i : Instr) : i.InRow i.ctorIdx (encode i) := by
  cases i
  case undefUncond raw => exact ⟨raw, rfl⟩
  all_goals
    simp (disch := decide) only [Instr.InRow, Instr.ctorIdx, encode, Nat.reduceLT, Nat.reduceLeDiff, Nat.reduceSub, Nat.reduceEqDiff, if_true, if_false,
      put, putB, puth, puthB, field_or, field_ofNat, field_place_same, field_place_apart, BitVec.zero_or, BitVec.or_zero,
      Nat.reducePow, Nat.reduceDiv, Nat.reduceMod, ne_eq, Cond.bits_ne, not_false_eq_true, true_and, eq_self, BitVec.reduceEq]
    refine ⟨_, rfl, ?bits, ?operands⟩
    case bits =>
      simp (disch := decide) only [Row.matches, BitVec.and_or_distrib_right, BitVec.ofNat_eq_ofNat, place_and_ofNat, BitVec.reduceAnd,
        BitVec.or_zero, beq_self_eq_true]
    case operands =>
      simp (disch := decide) only [field_or, flag_or, field_place_same, field_place_apart, flag_place_same, flag_place_apart,
        field_ofNat, flag_ofNat, Cond.ofBits_bits, Shift.ofBits_bits, Nat.reduceMod, Nat.reduceDiv, Nat.reducePow, BitVec.or_zero,
        BitVec.zero_or, Nat.reduceEqDiff, decide_false, Bool.or_false, Bool.false_or]

/-! ### The fields that tell an instruction from an earlier row -/

/-- The fields, as mask and value, that a well-formed instruction does not have in its word and that would make it an earlier row's, by
the number of its constructor: MOV (CPY), USADA8, SMLAD, SMLSD, SMMLA (the forms without Rn), the extensions with addition, LDR and STR
(LDRT, STRT), MSR (NOP), FMRX (FMSTAT), the generic coprocessor rows (VFP, MCRR, MRRC). -/
def excludedFields (n : Nat) : List (Word × Word) :=
  if n = 49 then [(0x00100FE0#32, 0#32)]
  else if n ∈ [120, 137, 138, 139, 140, 147, 148] then [(0xF000#32, 0xF000#32)]
  else if n ∈ [122, 124, 126, 128, 130, 132] then [(0xF0000#32, 0xF0000#32)]
  else if n ∈ [169, 170, 171, 172, 173, 174, 175, 176] then [(0x01200000#32, 0x00200000#32)]
  else if n = 207 then [(0x004F0F00#32, 0#32)]
  else if n = 289 then [(0x000FF000#32, 0x0001F000#32)]
  else if n ∈ [294, 295, 296, 297, 298] then [(0xF00#32, 0xA00#32), (0xF00#32, 0xB00#32)]
  else if n ∈ [300, 301] then [(0x01A00000#32, 0#32), (0xF00#32, 0xA00#32), (0xF00#32, 0xB00#32)]
  else if n ∈ [14, 15] then [(0x01A00000#32, 0#32)]
  else []

/-- The same for Thumb: ADD with an immediate (MOV), B with a condition (the Undefined space and SVC). -/
def excludedFieldsThumb (n : Nat) : List (Half × Half) :=
  if n = 308 then [(0x01C0#16, 0#16)]
  else if n = 372 then [(0x0F00#16, 0x0E00#16), (0x0F00#16, 0x0F00#16)]
  else []

theorem rowsUncond_keptApart : keptApart excludedFields [] 0 rowsUncond = true := by decide +kernel

theorem rowsCond_keptApart : keptApart excludedFields [] 17 rowsCond = true := by decide +kernel

theorem rowsCop_keptApart : keptApart excludedFields (rowsCond.map Row.fixedLoosely) 294 rowsCop = true := by decide +kernel

theorem rowsThumb_keptApart : keptApart excludedFieldsThumb [] 302 rowsThumb = true := by decide +kernel

theorem field_eq_of_and {k lo n : Nat} {w m p : BitVec k} (h : w &&& m = p) (hm : field lo n m = BitVec.allOnes n) :
    field lo n w = field lo n p := by
  rw [← h, field_and, hm, BitVec.and_allOnes]

theorem flag_eq_of_and {lo : Nat} {w m p : Word} (h : w &&& m = p) (hm : flag lo m = true) : flag lo w = flag lo p := by
  rw [← h, flag_and, hm, Bool.and_true]

theorem and_ne_of_field {lo n : Nat} {w m p : Word} (hm : field lo n m = BitVec.allOnes n) (h : field lo n w ≠ field lo n p) :
    w &&& m ≠ p :=
  fun he => h (field_eq_of_and he hm)

theorem encode_not_excluded {i : Instr} {w : Word} (hwf : i.wf = true) (h : encode i = .arm w) :
    ∀ e ∈ excludedFields i.ctorIdx, w &&& e.1 ≠ e.2 := by
  cases i with
  | movReg _ sBit _ shiftImm sh =>
    obtain ⟨rfl⟩ := h
    refine List.forall_mem_singleton.mpr fun he => ?_
    have hs := flag_eq_of_and (lo := 20) he rfl
    have hn := field_eq_of_and (lo := 7) (n := 5) he rfl
    have hsh := field_eq_of_and (lo := 5) (n := 2) he rfl
    simp (disch := decide) [put, putB, -BitVec.shiftLeft_zero] at hs hn hsh
    cases sh <;> simp_all [Instr.wf, Shift.bits]
  | usada8 _ _ rn | smlad _ _ rn | smladx _ _ rn | smlsd _ _ rn | smlsdx _ _ rn | smmla _ _ rn | smmlar _ _ rn =>
    obtain ⟨rfl⟩ := h
    refine List.forall_mem_singleton.mpr (and_ne_of_field (lo := 12) (n := 4) rfl ?_)
    simpa (disch := decide) [put, putB, Instr.wf, -BitVec.shiftLeft_zero] using hwf
  | sxtab16 _ rn | sxtab _ rn | sxtah _ rn | uxtab16 _ rn | uxtab _ rn | uxtah _ rn =>
    obtain ⟨rfl⟩ := h
    refine List.forall_mem_singleton.mpr (and_ne_of_field (lo := 16) (n := 4) rfl ?_)
    simpa (disch := decide) [put, putB, Instr.wf, -BitVec.shiftLeft_zero] using hwf
  | ldrImm _ p _ w | ldrReg _ p _ w | ldrbImm _ p _ w | ldrbReg _ p _ w | strImm _ p _ w | strReg _ p _ w | strbImm _ p _ w
  | strbReg _ p _ w =>
    obtain ⟨rfl⟩ := h
    refine List.forall_mem_singleton.mpr fun he => ?_
    have hp := flag_eq_of_and (lo := 24) he rfl
    have hw := flag_eq_of_and (lo := 21) he rfl
    simp (disch := decide) [put, putB, -BitVec.shiftLeft_zero] at hp hw
    simp_all [Instr.wf]
  | msrImm _ rBit =>
    obtain ⟨rfl⟩ := h
    refine List.forall_mem_singleton.mpr fun he => ?_
    have hr := flag_eq_of_and (lo := 22) he rfl
    have hmask := field_eq_of_and (lo := 16) (n := 4) he rfl
    have hrot := field_eq_of_and (lo := 8) (n := 4) he rfl
    simp (disch := decide) [put, putB, -BitVec.shiftLeft_zero] at hr hmask hrot
    simp_all [Instr.wf]
  | fmrx =>
    obtain ⟨rfl⟩ := h
    refine List.forall_mem_singleton.mpr fun he => ?_
    have hreg := field_eq_of_and (lo := 16) (n := 4) he rfl
    have hrd := field_eq_of_and (lo := 12) (n := 4) he rfl
    simp (disch := decide) [put, -BitVec.shiftLeft_zero] at hreg hrd
    simp_all [Instr.wf]
  | cdp | mcr | mrc | mcrr | mrrc =>
    obtain ⟨rfl⟩ := h
    refine List.forall_mem_cons.mpr ⟨and_ne_of_field (lo := 8) (n := 4) rfl ?_,
      List.forall_mem_singleton.mpr (and_ne_of_field (lo := 8) (n := 4) rfl ?_)⟩
    all_goals
      simp only [Instr.wf, Bool.and_eq_true, bne_iff_ne] at hwf
      simp (disch := decide) [put, hwf, -BitVec.shiftLeft_zero]
  | ldc _ p u _ w | stc _ p u _ w =>
    obtain ⟨rfl⟩ := h
    simp only [Instr.wf, Bool.and_eq_true, bne_iff_ne] at hwf
    refine List.forall_mem_cons.mpr ⟨fun he => ?_, List.forall_mem_cons.mpr ⟨and_ne_of_field (lo := 8) (n := 4) rfl ?_,
      List.forall_mem_singleton.mpr (and_ne_of_field (lo := 8) (n := 4) rfl ?_)⟩⟩
    · have hp := flag_eq_of_and (lo := 24) he rfl
      have hu := flag_eq_of_and (lo := 23) he rfl
      have hw := flag_eq_of_and (lo := 21) he rfl
      simp (disch := decide) [put, putB, -BitVec.shiftLeft_zero] at hp hu hw
      simp_all
    all_goals simp (disch := decide) [put, putB, hwf, -BitVec.shiftLeft_zero]
  | ldc2 | stc2 =>
    obtain ⟨rfl⟩ := h
    refine List.forall_mem_singleton.mpr fun he => ?_
    have hp := flag_eq_of_and (lo := 24) he rfl
    have hu := flag_eq_of_and (lo := 23) he rfl
    have hw := flag_eq_of_and (lo := 21) he rfl
    simp (disch := decide) [put, putB, -BitVec.shiftLeft_zero] at hp hu hw
    simp_all [Instr.wf]
  | _ =>
    simp only [excludedFields, Instr.ctorIdx, List.mem_cons, List.not_mem_nil, Nat.reduceEqDiff, or_self, if_false, IsEmpty.forall_iff,
      implies_true]

theorem encode_not_excludedThumb {i : Instr} {v : Half} (hwf : i.wf = true) (h : encode i = .thumb v) :
    ∀ e ∈ excludedFieldsThumb i.ctorIdx, v &&& e.1 ≠ e.2 := by
  cases i with
  | tAddImm3 =>
    obtain ⟨rfl⟩ := h
    refine List.forall_mem_singleton.mpr fun he => ?_
    have himm := field_eq_of_and (lo := 6) (n := 3) he rfl
    simp (disch := decide) [puth, -BitVec.shiftLeft_zero] at himm
    simp_all [Instr.wf]
  | tBCond c simm8 =>
    obtain ⟨rfl⟩ := h
    have hcond : field 8 4 (0xD000#16 ||| puth 8 c.bits ||| puth 0 simm8) = c.bits := by
      simp (disch := decide) [puth, -BitVec.shiftLeft_zero]
    refine List.forall_mem_cons.mpr ⟨fun he => ?_, List.forall_mem_singleton.mpr fun he => ?_⟩
    all_goals
      have hc := hcond.symm.trans (field_eq_of_and (lo := 8) (n := 4) he rfl)
      cases c <;> simp_all [Instr.wf, Cond.bits]
  | _ =>
    simp only [excludedFieldsThumb, Instr.ctorIdx, List.not_mem_nil, Nat.reduceEqDiff, if_false, IsEmpty.forall_iff, implies_true]

/-! ### Decoding -/

theorem decodeArm_undefUncond {raw : BitVec 28} (hwf : (Instr.undefUncond raw).wf = true) :
    decodeArm (0xF0000000#32 ||| put 0 raw) = .instr (.undefUncond raw) := by
  have hword : 0xF0000000#32 ||| put 0 raw = (0xF#4 ++ raw).setWidth 32 := by
    simp only [put, BitVec.shiftLeft_zero, BitVec.append_def, BitVec.setWidth_eq]
    rfl
  have hcond : field 28 4 (0xF0000000#32 ||| put 0 raw) = 15#4 := by
    simp (disch := decide) [put, -BitVec.shiftLeft_zero]
  have hraw : field 0 28 (0xF0000000#32 ||| put 0 raw) = raw := by
    simp (disch := decide) [put, -BitVec.shiftLeft_zero]
  have hpatterns : uncondPatterns = rowsUncond.map Row.fixedLoosely := rfl
  have hnone : ∀ q ∈ rowsUncond, q.matchesLoosely (0xF0000000#32 ||| put 0 raw) = false := by
    rw [hword]
    simpa [Instr.wf, uncondNamed, hpatterns, Row.fixedLoosely, Row.matchesLoosely] using hwf
  rw [decodeArm, if_pos hcond, search_of_none hnone, hraw]

theorem decodeArm_encode {i : Instr} {w : Word} (hwf : i.wf = true) (h : encode i = .arm w) : decodeArm w = .instr i := by
  have hrow := i.inRow
  have hex := encode_not_excluded hwf h
  simp only [h, Instr.InRow] at hrow
  split at hrow
  · obtain ⟨hcond, hrow⟩ := hrow
    rw [decodeArm, if_pos hcond]
    exact (hrow.search rowsUncond_keptApart (by rwa [Nat.zero_add]) _).1
  split at hrow
  · obtain ⟨raw, rfl⟩ := hrow
    obtain ⟨rfl⟩ := h
    exact decodeArm_undefUncond hwf
  obtain ⟨hcond, hrow⟩ := hrow
  rw [decodeArm, if_neg hcond]
  split at hrow
  · exact (hrow.search rowsCond_keptApart (by rwa [show 17 + (i.ctorIdx - 17) = i.ctorIdx by omega]) _).1
  · obtain ⟨hsearch, hbefore⟩ := hrow.search rowsCop_keptApart (by rwa [show 294 + (i.ctorIdx - 294) = i.ctorIdx by omega])
      (.undefined (.ofBits (field 28 4 w)))
    rw [hsearch]
    refine search_of_none (fun q hq => ?_) _
    simpa [Row.matchesLoosely, Row.fixedLoosely] using hbefore _ (List.mem_map_of_mem hq)

theorem decodeThumb_encode {i : Instr} {v : Half} (hwf : i.wf = true) (h : encode i = .thumb v) : decodeThumb v = .instr i := by
  have hrow := i.inRow
  have hex := encode_not_excludedThumb hwf h
  simp only [h, Instr.InRow] at hrow
  obtain ⟨hle, hrow⟩ := hrow
  exact (hrow.search rowsThumb_keptApart (by rwa [show 302 + (i.ctorIdx - 302) = i.ctorIdx by omega]) _).1

end Sys2Proof

open Sys2Proof

/-- Settles O1: the code of a Thumb instruction is in its own row, and a well-formed one in no earlier row. -/
theorem thumbDecodeOfEncode : Obligations.ThumbDecodeOfEncode :=
  fun _ _ hwf h => decodeThumb_encode hwf h

/-- Settles O2: the code of an ARM instruction is in its own row, and a well-formed one in no earlier row. -/
theorem armDataDecodeOfEncode : Obligations.ArmDataDecodeOfEncode :=
  fun _ _ hwf h _ _ => decodeArm_encode hwf h

/-- Settles O3: the same, with the unconditional space and the generic coprocessor rows. -/
theorem armBlockBranchCoprocessorDecodeOfEncode : Obligations.ArmBlockBranchCoprocessorDecodeOfEncode :=
  fun _ _ hwf h _ => decodeArm_encode hwf h

/-- Settles O4, by evaluation of the decoder. -/
theorem writtenWordsDecode : Obligations.WrittenWordsDecode := by
  unfold Obligations.WrittenWordsDecode
  decide +kernel

end

section
/-! Bits of words: what the updates of the status register do to its bits, and the shifter as arithmetic (40:R741, 30:R687). -/

namespace Sys2Proof.Machine

open Sys2Proof

/-! ### Bits of a status register -/

@[simp] theorem getLsbD_setBit (w : Word) {i : Nat} (j : Nat) (b : Bool) (hi : i < 32) :
    (setBit w i b).getLsbD j = if j = i then b else w.getLsbD j := by
  unfold setBit
  by_cases hj : j = i
  · subst hj
    cases b <;> simp [hi]
  · cases b <;> simp [hj, Ne.symm hj]
    intro h
    exact BitVec.lt_of_getLsbD h

theorem getLsbD_ofBool (b : Bool) (j : Nat) : (BitVec.ofBool b).getLsbD j = (decide (j = 0) && b) := by
  cases b <;> cases j <;> simp

theorem getLsbD_withNZCV (psr : Word) (n z c v : Bool) {j : Nat} (hj : j < 32) : (withNZCV psr n z c v).getLsbD j =
    if j < 28 then psr.getLsbD j else if j = 28 then v else if j = 29 then c else if j = 30 then z else n := by
  unfold withNZCV
  erw [BitVec.getLsbD_append, BitVec.getLsbD_append, BitVec.getLsbD_append, BitVec.getLsbD_append]
  by_cases h : j < 28
  · simp [h]
  · interval_cases j <;> simp [getLsbD_ofBool]

theorem getLsbD_withNZ (psr : Word) (n z : Bool) {j : Nat} (hj : j < 32) : (withNZ psr n z).getLsbD j =
    if j < 30 then psr.getLsbD j else if j = 30 then z else n := by
  unfold withNZ
  erw [BitVec.getLsbD_append, BitVec.getLsbD_append]
  by_cases h : j < 30
  · simp [h]
  · interval_cases j <;> simp [getLsbD_ofBool]

theorem setNZCV_eq_withNZCV (psr : Word) (n z c v : Bool) : setNZCV psr n z c v = withNZCV psr n z c v := by
  refine BitVec.eq_of_getLsbD_eq fun j hj => ?_
  simp only [setNZCV, getLsbD_withNZCV _ _ _ _ _ hj, getLsbD_setBit, Nat.reduceLT]
  grind

theorem setNZ_eq_withNZ (psr r : Word) : setNZ psr r = withNZ psr r.msb (r == 0#32) := by
  refine BitVec.eq_of_getLsbD_eq fun j hj => ?_
  simp only [setNZ, getLsbD_withNZ _ _ _ hj, getLsbD_setBit, Nat.reduceLT, bit, BitVec.msb_eq_getLsbD_last]
  grind

theorem setNZC_eq_withNZCV (psr r : Word) (c : Bool) : setNZC psr r c = withNZCV psr r.msb (r == 0#32) c (bit psr 28) := by
  refine BitVec.eq_of_getLsbD_eq fun j hj => ?_
  simp only [setNZC, setNZ, getLsbD_withNZCV _ _ _ _ _ hj, getLsbD_setBit, Nat.reduceLT, bit, BitVec.msb_eq_getLsbD_last]
  grind

theorem setQ_eq_withQ (psr : Word) (sat : Bool) : setQ psr sat = withQ psr sat := by
  cases sat <;> rfl

theorem setGE_eq_withGE (psr : Word) (ge : BitVec 4) : setGE psr ge = withGE psr ge := by
  refine BitVec.eq_of_getLsbD_eq fun j hj => ?_
  unfold withGE
  erw [BitVec.getLsbD_append, BitVec.getLsbD_append]
  simp only [setGE, setBits, BitVec.getLsbD_or, BitVec.getLsbD_and, BitVec.getLsbD_not,
    BitVec.getLsbD_shiftLeft, BitVec.getLsbD_setWidth, BitVec.getLsbD_extractLsb', BitVec.getLsbD_allOnes]
  grind

/-! ### Aligned addresses -/

theorem align4_eq (a : Word) : align4 a = a.extractLsb' 2 30 ++ 0#2 := by
  refine BitVec.eq_of_getLsbD_eq fun j hj => ?_
  simp only [align4, BitVec.getLsbD_append]
  interval_cases j <;> simp

theorem align2_eq (a : Word) : align2 a = a.extractLsb' 1 31 ++ 0#1 := by
  refine BitVec.eq_of_getLsbD_eq fun j hj => ?_
  simp only [align2, BitVec.getLsbD_append]
  interval_cases j <;> simp

/-! ### The shifter -/

theorem bit_iff_div (v : Word) (i : Nat) : bit v i = true ↔ v.toNat / 2 ^ i % 2 = 1 := by
  simp [bit, BitVec.getLsbD, Nat.testBit_eq_decide_div_mod_eq]

theorem toNat_rotateRight_of_lt (v : Word) {n : Nat} (hn : n < 32) :
    (v.rotateRight n).toNat = v.toNat / 2 ^ n + v.toNat % 2 ^ n * 2 ^ (32 - n) := by
  have hhigh : v.toNat / 2 ^ n < 2 ^ (32 - n) := by
    rw [Nat.div_lt_iff_lt_mul (by positivity), ← Nat.pow_add, Nat.sub_add_cancel hn.le]
    exact v.isLt
  have hlow : v.toNat * 2 ^ (32 - n) % 2 ^ 32 = 2 ^ (32 - n) * (v.toNat % 2 ^ n) := by
    rw [show 2 ^ 32 = 2 ^ n * 2 ^ (32 - n) by rw [← Nat.pow_add, Nat.add_sub_cancel' hn.le], Nat.mul_mod_mul_right, Nat.mul_comm]
  rw [BitVec.toNat_rotateRight, Nat.mod_eq_of_lt hn, Nat.shiftRight_eq_div_pow, Nat.shiftLeft_eq, hlow, Nat.or_comm,
    ← Nat.two_pow_add_eq_or_of_lt hhigh, Nat.add_comm, Nat.mul_comm]

theorem sshiftRight_31 (v : Word) : v.sshiftRight 31 = if v.msb then 0xFFFFFFFF#32 else 0#32 := by
  refine BitVec.eq_of_getLsbD_eq fun j hj => ?_
  rw [BitVec.getLsbD_sshiftRight, BitVec.msb_eq_getLsbD_last]
  rcases Nat.eq_zero_or_pos j with rfl | hpos
  · cases h : v.getLsbD 31 <;> simp_all
  · have : ¬ 31 + j < 32 := by omega
    cases h : v.getLsbD 31 <;> interval_cases j <;> simp_all [BitVec.msb_eq_getLsbD_last]

theorem ofBit_shiftLeft_or (v : Word) (c : Bool) : (ofBit c <<< 31) ||| (v >>> 1) = BitVec.ofBool c ++ v.extractLsb' 1 31 := by
  refine BitVec.eq_of_getLsbD_eq fun j hj => ?_
  refine Eq.trans ?_ (BitVec.getLsbD_append (x := BitVec.ofBool c) (y := v.extractLsb' 1 31)).symm
  simp only [BitVec.getLsbD_or, BitVec.getLsbD_shiftLeft, BitVec.getLsbD_ushiftRight, BitVec.getLsbD_extractLsb', getLsbD_ofBool]
  by_cases h : j < 31
  · simp [h]
  · obtain rfl : j = 31 := by omega
    cases c <;> simp [ofBit]

end Sys2Proof.Machine

open Sys2Proof Sys2Proof.Machine

/-- Settles O16, amount by amount. -/
theorem shifterResults : Obligations.ShifterResults := by
  intro v n c
  have hasr : ∀ m, 32 ≤ m → shiftC v .asr m c = (if v.msb then 0xFFFFFFFF#32 else 0#32, v.msb) := by
    intro m hm
    simp [shiftC, show m ≠ 0 by omega, show ¬ m < 32 by omega, sshiftRight_31, bit, BitVec.msb_eq_getLsbD_last]
  refine ⟨by simp [shiftC], fun h1 h31 => ?_, by simp [shiftC, bit], by simp [shiftC, bit, BitVec.msb_eq_getLsbD_last],
    fun h => ?_, hasr n, fun h1 h32 => ?_, fun h h32 => ?_, ofBit_shiftLeft_or v c, rfl, fun k hk => ?_,
    by simp [shiftedBy, immShift, shiftC], by simp [shiftedBy, immShift, shiftC, bit, BitVec.msb_eq_getLsbD_last],
    hasr 32 le_rfl, ?_⟩
  · have h0 : n ≠ 0 := by omega
    have hlt : n < 32 := by omega
    have hmod : n % 32 = n := Nat.mod_eq_of_lt hlt
    simp only [shiftC, h0, hlt, hmod, if_false, if_true, bit_iff_div, true_and, and_true]
    refine ⟨by simp [Nat.shiftLeft_eq], by simp [Nat.shiftRight_eq_div_pow], ?_, toNat_rotateRight_of_lt v hlt⟩
    rw [BitVec.toInt_sshiftRight, Int.shiftRight_eq_div_pow]
    norm_cast
  · simp [shiftC, show n ≠ 0 by omega, show ¬ n < 32 by omega, show n ≠ 32 by omega]
  · simp [shiftC, show n ≠ 0 by omega, h32, bit, BitVec.msb_eq_getLsbD_last]
  · simp [shiftC, show n ≠ 0 by omega, h32]
  · have hk0 : k.toNat ≠ 0 := fun h => hk (BitVec.eq_of_toNat_eq h)
    simp [shiftedBy, immShift, hk]
  · exact Prod.ext (ofBit_shiftLeft_or v c) rfl

end

section
/-! The data-processing instructions (40): each runs its operation through one of the shared shapes, and the operations are the formulas
of 40:R742 to R756. -/

namespace Sys2Proof.Machine

open Sys2Proof

/-! ### Going on with a new CPSR -/

/-- Going on after a write of the CPSR that leaves T as it is. -/
theorem State.withCpsr_advance {s : State} {p : Word} (h : p.getLsbD 5 = s.cpsr.getLsbD 5) :
    ({ s with cpsr := p } : State).advance = { s.stepped with cpsr := p } := by
  have hthumb : ({ s with cpsr := p } : State).thumb = s.thumb := h
  have hhalted : ({ s with cpsr := p } : State).halted = s.halted := rfl
  rw [State.advance_eq_stepped, State.stepped, State.pcAfter, State.nextPc, hthumb, hhalted]
  rfl

theorem State.wrote_withCpsr_advance {s : State} {p : Word} (rd : Reg) (v : Word) (h : p.getLsbD 5 = s.cpsr.getLsbD 5) :
    ({ s.setReg rd v with cpsr := p } : State).advance = { s.wrote rd v with cpsr := p } :=
  State.withCpsr_advance (s := s.setReg rd v) h

theorem Alu.flags_getLsbD_5 (op : Alu) (a b : Word) (sc : Bool) (psr : Word) : (op.flags a b sc psr).getLsbD 5 = psr.getLsbD 5 :=
  getLsbD_withNZCV _ _ _ _ _ (by decide)

/-! ### The operations -/

/-- The operation of the model behind each name. -/
def Alu.out (op : Alu) (a : Word) : Word → Bool → Word → AluOut :=
  match op with
  | .and => aluAnd a
  | .eor => aluEor a
  | .sub => aluSub a
  | .rsb => aluRsb a
  | .add => aluAdd a
  | .adc => aluAdc a
  | .sbc => aluSbc a
  | .rsc => aluRsc a
  | .orr => aluOrr a
  | .mov => aluMov
  | .bic => aluBic a
  | .mvn => aluMvn

/-- The result and the flags of an addition, where the exact sums are known. -/
theorem arithmetic_addWithCarry {a b r psr : Word} {c carry overflow : Bool} (hr : (a.toNat + b.toNat + c.toNat) % 2 ^ 32 = r.toNat)
    (hc : 2 ^ 32 ≤ a.toNat + b.toNat + c.toNat ↔ carry = true) (hv : r.toInt ≠ a.toInt + b.toInt + c.toNat ↔ overflow = true) :
    arithmetic (addWithCarry a b c) psr = (r, withNZCV psr r.msb (r == 0#32) carry overflow) := by
  have hresult : BitVec.ofNat 32 (a.toNat + b.toNat + c.toNat) = r := BitVec.eq_of_toNat_eq (by rw [BitVec.toNat_ofNat, hr])
  have hcarry : decide (2 ^ 32 ≤ a.toNat + b.toNat + c.toNat) = carry := by rw [Bool.eq_iff_iff, decide_eq_true_iff, hc]
  have hoverflow : (r.toInt != a.toInt + b.toInt + c.toNat) = overflow := by rw [Bool.eq_iff_iff, bne_iff_ne, hv]
  simp only [arithmetic, addWithCarry, hresult, hcarry, hoverflow, setNZCV_eq_withNZCV, bit, BitVec.msb_eq_getLsbD_last]

theorem logical_eq (r : Word) (sc : Bool) (psr : Word) : logical r sc psr = (r, withNZCV psr r.msb (r == 0#32) sc (bit psr 28)) := by
  rw [logical, setNZC_eq_withNZCV]

/-- The numbers of a complement: no borrow is a carry (40:R742). -/
theorem toNat_not_word (b : Word) : (~~~b).toNat = 2 ^ 32 - 1 - b.toNat := BitVec.toNat_not

theorem toInt_not_word (b : Word) : (~~~b).toInt = -b.toInt - 1 := by
  have := b.isLt
  simp only [BitVec.toInt_eq_toNat_cond, toNat_not_word]
  omega

theorem Alu.out_eq (op : Alu) (a b : Word) (sc : Bool) (psr : Word) :
    op.out a b sc psr = (op.value a b (bit psr 29), op.flags a b sc psr) := by
  have ha := a.isLt
  have hb := b.isLt
  cases op with
  | and | eor | orr | mov | bic | mvn => exact logical_eq ..
  | _ =>
    refine arithmetic_addWithCarry ?result ?carry ?overflow
    case result =>
      cases h : bit psr 29 <;> simp only [Alu.value, carryOf, h, BitVec.toNat_add, BitVec.toNat_sub, toNat_not_word,
        BitVec.toNat_ofNat, Bool.toNat_true, Bool.toNat_false, if_true, if_false, Bool.false_eq_true] <;> omega
    case carry =>
      cases h : bit psr 29 <;> simp only [Alu.carry, carryOf, h, toNat_not_word, decide_eq_true_eq, Bool.toNat_true, Bool.toNat_false,
        Bool.not_true, Bool.not_false] <;> omega
    case overflow =>
      cases h : bit psr 29 <;> simp only [Alu.overflow, carryOf, h, toInt_not_word, decide_eq_true_eq, Bool.toNat_true,
        Bool.toNat_false, Bool.not_true, Bool.not_false] <;> omega

theorem Alu.out_snd (op : Alu) (a b : Word) (sc : Bool) (psr : Word) : (op.out a b sc psr).2 = op.flags a b sc psr := by
  rw [Alu.out_eq]

/-! ### The shared shapes -/

/-- The register fields of the forms with a register shift, but for the destination. -/
def Alu.shiftSources (op : Alu) (rn rs rm : Reg) : List Reg :=
  match op with
  | .mov | .mvn => [rs, rm]
  | .and | .eor | .sub | .rsb | .add | .adc | .sbc | .rsc | .orr | .bic => [rn, rs, rm]

theorem Alu.shiftFields_eq (op : Alu) (rn rd rs rm : Reg) : op.shiftFields rn rd rs rm = rd :: op.shiftSources rn rs rm := by
  cases op <;> rfl

theorem exec_aluImm (op : Alu) (c : Cond) (sBit : Bool) (rn rd : Reg) (rot : BitVec 4) (imm8 : BitVec 8) (s : State) :
    exec (op.imm c sBit rn rd rot imm8) s = finish (dataProc c sBit rd (operandImm rot imm8) (op.out (s.reg rn)) s) := by
  cases op <;> rfl

theorem exec_aluReg (op : Alu) (c : Cond) (sBit : Bool) (rn rd : Reg) (n : BitVec 5) (sh : Shift) (rm : Reg) (s : State) :
    exec (op.reg c sBit rn rd n sh rm) s = finish (dataProc c sBit rd (operandReg n sh rm) (op.out (s.reg rn)) s) := by
  cases op <;> rfl

theorem exec_aluRegShift (op : Alu) (c : Cond) (sBit : Bool) (rn rd rs : Reg) (sh : Shift) (rm : Reg) (s : State) :
    exec (op.regShift c sBit rn rd rs sh rm) s =
      finish (dataProcShift c sBit (op.shiftSources rn rs rm) rd (operandRegShift rs sh rm) (op.out (s.reg rn)) s) := by
  cases op <;> rfl

theorem exec_cpy (c : Cond) (rd rm : Reg) (s : State) :
    exec (.cpy c rd rm) s = finish (dataProc c false rd (operandReg 0#5 .lsl rm) (Alu.mov.out (s.reg 0#4)) s) := rfl

theorem operandImm_eq (rot : BitVec 4) (imm8 : BitVec 8) (s : State) :
    operandImm rot imm8 s = ((imm8.setWidth 32).rotateRight (2 * rot.toNat),
      if rot = 0#4 then bit s.cpsr 29 else ((imm8.setWidth 32).rotateRight (2 * rot.toNat)).msb) := by
  simp only [operandImm, rotatedImm, zext, State.carry, bit, BitVec.msb_eq_getLsbD_last]

theorem operandReg_eq (n : BitVec 5) (sh : Shift) (rm : Reg) (s : State) :
    operandReg n sh rm s = shiftedBy (s.reg rm) sh n (bit s.cpsr 29) := rfl

theorem operandRegShift_eq (rs : Reg) (sh : Shift) (rm : Reg) (s : State) :
    operandRegShift rs sh rm s = shiftC (s.reg rm) (regShift sh) ((s.reg rs).toNat % 256) (bit s.cpsr 29) := by
  simp [operandRegShift, bits, BitVec.extractLsb'_toNat, State.carry]

/-- A result in a register other than R15, with the flags where S is set. -/
theorem writeResult_register {rd : Reg} (h : rd ≠ 15#4) (op : Alu) (sBit : Bool) (a b : Word) (sc : Bool) (s : State) :
    writeResult sBit rd (op.out a b sc s.cpsr) s = .ok { s.wrote rd (op.value a b (bit s.cpsr 29)) with
      cpsr := if sBit then op.flags a b sc s.cpsr else s.cpsr } := by
  rw [writeResult, if_neg h, Alu.out_eq]
  cases sBit with
  | true => exact congrArg Except.ok (State.wrote_withCpsr_advance rd _ (op.flags_getLsbD_5 ..))
  | false => exact congrArg Except.ok (State.setReg_advance ..)

theorem dataProc_eq {c : Cond} {s : State} (hc : condHolds c s.cpsr = true) (sBit : Bool) (rd : Reg) (operand : State → Word × Bool)
    (op : Word → Bool → Word → AluOut) :
    dataProc c sBit rd operand op s = writeResult sBit rd (op (operand s).1 (operand s).2 s.cpsr) s :=
  conditional_pass hc

theorem dataProc_register {c : Cond} {rd : Reg} {s : State} (hc : condHolds c s.cpsr = true) (h : rd ≠ 15#4) (op : Alu) (sBit : Bool)
    (a : Word) (operand : State → Word × Bool) :
    finish (dataProc c sBit rd operand (op.out a) s) = .next { s.wrote rd (op.value a (operand s).1 (bit s.cpsr 29)) with
      cpsr := if sBit then op.flags a (operand s).1 (operand s).2 s.cpsr else s.cpsr } := by
  rw [dataProc_eq hc, writeResult_register h]
  rfl

theorem dataProcShift_register {c : Cond} {rd : Reg} {s : State} {used : List Reg} (hc : condHolds c s.cpsr = true)
    (h : 15#4 ∉ rd :: used) (op : Alu) (sBit : Bool) (a : Word) (operand : State → Word × Bool) :
    finish (dataProcShift c sBit used rd operand (op.out a) s) = .next { s.wrote rd (op.value a (operand s).1 (bit s.cpsr 29)) with
      cpsr := if sBit then op.flags a (operand s).1 (operand s).2 s.cpsr else s.cpsr } := by
  have hrd : rd ≠ 15#4 := fun he => h (he ▸ List.mem_cons_self)
  rw [dataProcShift, conditional_pass hc, noPc_pass h]
  exact congrArg finish (writeResult_register hrd ..)

theorem dataProcShift_refused {c : Cond} {rd : Reg} {s : State} {used : List Reg} (hc : condHolds c s.cpsr = true)
    (h : 15#4 ∈ rd :: used) (sBit : Bool) (operand : State → Word × Bool) (op : Word → Bool → Word → AluOut) :
    finish (dataProcShift c sBit used rd operand op s) = .refused .registerField := by
  rw [dataProcShift, conditional_pass hc, noPc_stop h]
  rfl

/-! ### R15 as the destination -/

/-- A return from an exception writes the bits of a PSR, but for those that the Non-secure world may not change. -/
theorem cpsrWritable_return {s : State} (v : Word) (h : s.privileged = true) :
    cpsrWritable s v 0b1111#4 true = s.statusMask psrMask v := by
  simp only [cpsrWritable, State.statusMask, h, bits, modeMon, psrMask]
  cases s.nsState <;> cases bit s.cp15.scr 5 <;> cases bit s.cp15.scr 4 <;> cases v.extractLsb' 0 5 == 0b10110#5 <;> decide

/-- J and T are among the bits that a return writes in both worlds. -/
theorem getLsbD_returned {s : State} (saved : Word) {j : Nat} (h : j ∈ [5, 24]) : (s.returned saved).getLsbD j = saved.getLsbD j := by
  have hmask : (s.statusMask psrMask saved).getLsbD j = true := by
    simp only [State.statusMask, psrMask]
    fin_cases h <;> cases s.nsState <;> cases bit s.cp15.scr 5 <;> cases bit s.cp15.scr 4 <;>
      cases saved.extractLsb' 0 5 == 0b10110#5 <;> decide
  have hj : j < 32 := by fin_cases h <;> decide
  simp only [State.returned, merged, BitVec.getLsbD_or, BitVec.getLsbD_and, BitVec.getLsbD_not, hmask, hj]
  simp

theorem alignFor_eq_resumeAddress {psr saved : Word} (h5 : psr.getLsbD 5 = saved.getLsbD 5) (h24 : psr.getLsbD 24 = saved.getLsbD 24)
    (target : Word) : alignFor (bit psr 5) (bit psr 24) target = resumeAddress saved target := by
  have ht : bit psr 5 = bit saved 5 := h5
  have hjazelle : bit psr 24 = bit saved 24 := h24
  rw [ht, hjazelle, alignFor, align2_eq, align4_eq]
  rfl

/-- A return from an exception: the CPSR from the saved status, the pipeline flush, the branch (10:R56). -/
theorem exceptionReturn_eq {s : State} {saved : Word} (target : Word) (hrun : s.halted = false) (hp : s.privileged = true)
    (hmode : validMode ((s.returned saved).extractLsb' 0 5) = true) :
    exceptionReturn s saved target = .ok { State.syncFetch { s with cpsr := s.returned saved } with
      pc := resumeAddress saved target } := by
  have hwrite : ∃ old, cpsrWriteByInstr s saved 0b1111#4 true = .ok { s with cpsr := s.returned saved, oldFetch := old } := by
    have hcpsr : mergeBits s.cpsr saved (s.statusMask psrMask saved) = s.returned saved := rfl
    simp only [cpsrWriteByInstr, cpsrWritable_return saved hp, hcpsr, bits, hmode, if_true, State.keepOldFetch]
    split
    · exact ⟨_, rfl⟩
    · split <;> exact ⟨_, rfl⟩
  obtain ⟨old, hwrite⟩ := hwrite
  have halign := alignFor_eq_resumeAddress (getLsbD_returned (s := s) saved (by decide : 5 ∈ [5, 24]))
    (getLsbD_returned (s := s) saved (by decide : 24 ∈ [5, 24])) target
  have hhalted : ({ s with cpsr := s.returned saved, oldFetch := old } : State).syncFetch.halted = false := hrun
  rw [exceptionReturn, hwrite]
  refine congrArg Except.ok ?_
  rw [branchAfterReturn, State.branch, hhalted, ← halign]
  rfl

theorem privileged_of_spsrIndex {s : State} {k : Fin 6} (h : spsrIndex s.mode = some k) : s.privileged = true := by
  have : s.mode ≠ modeUsr := by
    rintro hm
    simp [hm, spsrIndex, modeUsr, modeFiq, modeIrq, modeSvc, modeAbt, modeUnd, modeMon] at h
  simpa [State.privileged] using this

theorem spsrIndex_eq_none {m : BitVec 5} (h : m = 0b10000#5 ∨ m = 0b11111#5) : spsrIndex m = none := by
  rcases h with rfl | rfl <;> decide

theorem dataProc_pc {c : Cond} {s : State} (hc : condHolds c s.cpsr = true) (hrun : s.halted = false) (op : Alu) (a : Word)
    (operand : State → Word × Bool) : finish (dataProc c false 15#4 operand (op.out a) s) =
      .next { s with pc := (op.value a (operand s).1 (bit s.cpsr 29)).extractLsb' 2 30 ++ 0#2 } := by
  rw [dataProc_eq hc]
  refine congrArg finish (?_ : _ = Except.ok _)
  rw [writeResult, if_pos rfl, Alu.out_eq, State.writePc, State.branch, hrun, ← align4_eq]
  rfl

theorem dataProc_return {c : Cond} {s : State} {k : Fin 6} (hc : condHolds c s.cpsr = true) (hrun : s.halted = false)
    (hk : spsrIndex s.mode = some k) (hmode : validMode ((s.returned s.spsrs[k]).extractLsb' 0 5) = true) (op : Alu) (a : Word)
    (operand : State → Word × Bool) : finish (dataProc c true 15#4 operand (op.out a) s) =
      .next { State.syncFetch { s with cpsr := s.returned s.spsrs[k] } with
        pc := resumeAddress s.spsrs[k] (op.value a (operand s).1 (bit s.cpsr 29)) } := by
  have hspsr : s.spsr = .ok s.spsrs[k] := by rw [State.spsr, hk]
  rw [dataProc_eq hc]
  refine congrArg finish (?_ : _ = Except.ok _)
  rw [writeResult, if_pos rfl, if_pos rfl, hspsr, Alu.out_eq]
  exact exceptionReturn_eq _ hrun (privileged_of_spsrIndex hk) hmode

theorem dataProc_noSpsr {c : Cond} {s : State} (hc : condHolds c s.cpsr = true) (hm : s.mode = 0b10000#5 ∨ s.mode = 0b11111#5)
    (operand : State → Word × Bool) (op : Word → Bool → Word → AluOut) :
    finish (dataProc c true 15#4 operand op s) = .refused .noSpsr := by
  have hspsr : s.spsr = .error (.refuse .noSpsr) := by rw [State.spsr, spsrIndex_eq_none hm]
  rw [dataProc_eq hc]
  refine congrArg finish (?_ : _ = Except.error (.refuse .noSpsr))
  rw [writeResult, if_pos rfl, if_pos rfl, hspsr]
  rfl

/-! ### Comparisons and CLZ -/

theorem compare_eq {c : Cond} {s : State} (hc : condHolds c s.cpsr = true) (op : Alu) (a : Word) (operand : State → Word × Bool) :
    finish (compare c operand (op.out a) s) =
      .next { s.stepped with cpsr := op.flags a (operand s).1 (operand s).2 s.cpsr } := by
  rw [← State.withCpsr_advance (op.flags_getLsbD_5 ..), ← Alu.out_snd]
  exact congrArg finish (conditional_pass hc)

theorem compareShift_eq {c : Cond} {s : State} {used : List Reg} (hc : condHolds c s.cpsr = true) (h : 15#4 ∉ used) (op : Alu) (a : Word)
    (operand : State → Word × Bool) : finish (compareShift c used operand (op.out a) s) =
      .next { s.stepped with cpsr := op.flags a (operand s).1 (operand s).2 s.cpsr } := by
  rw [compareShift, conditional_pass hc, noPc_pass h]
  rw [← State.withCpsr_advance (op.flags_getLsbD_5 ..), ← Alu.out_snd]
  rfl

theorem compareShift_refused {c : Cond} {s : State} {used : List Reg} (hc : condHolds c s.cpsr = true) (h : 15#4 ∈ used)
    (operand : State → Word × Bool) (op : Word → Bool → Word → AluOut) :
    finish (compareShift c used operand op s) = .refused .registerField := by
  rw [compareShift, conditional_pass hc, noPc_stop h]
  rfl

theorem countLeadingZeros_le (v : Word) : countLeadingZeros v ≤ 32 := by
  unfold countLeadingZeros
  split <;> omega

/-- The highest one bit is just below the leading zeros. -/
theorem countLeadingZeros_bounds (v : Word) : v.toNat < 2 ^ (32 - countLeadingZeros v) ∧
    (countLeadingZeros v < 32 → 2 ^ (31 - countLeadingZeros v) ≤ v.toNat) := by
  unfold countLeadingZeros
  split
  · next h => simp [h]
  · next h =>
    have hv : v.toNat ≠ 0 := fun h0 => h (BitVec.eq_of_toNat_eq h0)
    have hlog : v.toNat.log2 < 32 := (Nat.log2_lt hv).mpr v.isLt
    rw [show 32 - (31 - v.toNat.log2) = v.toNat.log2 + 1 by omega, show 31 - (31 - v.toNat.log2) = v.toNat.log2 by omega]
    exact ⟨Nat.lt_log2_self, fun _ => Nat.log2_self_le hv⟩

theorem exec_clz {c : Cond} {s : State} {rd rm : Reg} (hc : condHolds c s.cpsr = true) (h : 15#4 ∉ [rd, rm]) :
    exec (.clz c rd rm) s = .next (s.wrote rd (BitVec.ofNat 32 (countLeadingZeros (s.reg rm)))) := by
  change execClz c rd rm s = _
  rw [execClz, conditional_pass hc, noPc_pass h, ← State.setReg_advance]
  rfl

theorem exec_clz_refused {c : Cond} {s : State} {rd rm : Reg} (hc : condHolds c s.cpsr = true) (h : 15#4 ∈ [rd, rm]) :
    exec (.clz c rd rm) s = .refused .registerField := by
  change execClz c rd rm s = _
  rw [execClz, conditional_pass hc, noPc_stop h]
  rfl

end Sys2Proof.Machine

open Sys2Proof Sys2Proof.Machine

/-- Settles O17, through the shared shapes of the instructions. -/
theorem dataProcessingResults : Obligations.DataProcessingResults := by
  intro op c sBit rn rd s hc
  refine ⟨fun rot imm8 hrd => ?_, fun n sh rm hrd => ?_, fun rs sh rm => ⟨fun h => ?_, fun h => ?_⟩, fun rm hrd => ?_⟩
  · rw [exec_aluImm, dataProc_register hc hrd, operandImm_eq]
  · rw [exec_aluReg, dataProc_register hc hrd, operandReg_eq]
  · rw [exec_aluRegShift]
    exact dataProcShift_refused hc (by rwa [← Alu.shiftFields_eq]) ..
  · rw [exec_aluRegShift, dataProcShift_register hc (by rwa [← Alu.shiftFields_eq]), operandRegShift_eq]
  · rw [exec_cpy, dataProc_register hc hrd, operandReg_eq]
    simp [shiftedBy, immShift, shiftC, Alu.value, State.wrote]

/-- Settles O18, through the shared shapes of the instructions and of the return from an exception. -/
theorem dataProcessingIntoPc : Obligations.DataProcessingIntoPc := by
  intro op c rn s hc hrun
  refine ⟨fun rot imm8 => ⟨?_, fun hm => ?_, fun k hk hmode => ?_⟩, fun n sh rm => ⟨?_, fun hm => ?_, fun k hk hmode => ?_⟩, fun rm => ?_⟩
  · rw [exec_aluImm, dataProc_pc hc hrun, operandImm_eq]
  · rw [exec_aluImm, dataProc_noSpsr hc hm]
  · rw [exec_aluImm, dataProc_return hc hrun hk hmode, operandImm_eq]
  · rw [exec_aluReg, dataProc_pc hc hrun, operandReg_eq]
  · rw [exec_aluReg, dataProc_noSpsr hc hm]
  · rw [exec_aluReg, dataProc_return hc hrun hk hmode, operandReg_eq]
  · rw [exec_cpy, dataProc_pc hc hrun, operandReg_eq]
    simp [shiftedBy, immShift, shiftC, Alu.value]

/-- Settles O19: the comparisons through their shared shape, CLZ by the binary logarithm. -/
theorem comparisonsAndLeadingZeros : Obligations.ComparisonsAndLeadingZeros := by
  intro c rn s hc
  refine ⟨fun rd rm => ⟨exec_clz_refused hc, fun h => ⟨_, countLeadingZeros_le _, exec_clz hc h, countLeadingZeros_bounds _⟩⟩,
    fun rot imm8 => ?_, fun n sh rm => ?_, fun rs sh rm => ⟨fun h => ?_, fun h => ?_⟩⟩
  · have out (op : Alu) := compare_eq hc op (s.reg rn) (operandImm rot imm8)
    simp only [operandImm_eq] at out
    exact ⟨out .and, out .eor, out .sub, out .add⟩
  · have out (op : Alu) := compare_eq hc op (s.reg rn) (operandReg n sh rm)
    exact ⟨out .and, out .eor, out .sub, out .add⟩
  · have out (op : Alu) := compareShift_refused hc h (operandRegShift rs sh rm) (op.out (s.reg rn))
    exact ⟨out .and, out .eor, out .sub, out .add⟩
  · have out (op : Alu) := compareShift_eq hc h op (s.reg rn) (operandRegShift rs sh rm)
    simp only [operandRegShift_eq] at out
    exact ⟨out .and, out .eor, out .sub, out .add⟩

end

section
/-! The multiply, saturating and media instructions (41): the shared shapes as results in one register or in a pair, and the exact
integers of the model as words. -/

namespace Sys2Proof.Machine

open Sys2Proof

/-! ### The shared shapes -/

theorem getLsbD_withQ_5 (psr : Word) (sat : Bool) : (withQ psr sat).getLsbD 5 = psr.getLsbD 5 := by
  cases sat <;> simp [withQ]

theorem getLsbD_withNZ_5 (psr : Word) (n z : Bool) : (withNZ psr n z).getLsbD 5 = psr.getLsbD 5 := by
  rw [getLsbD_withNZ _ _ _ (by decide)]
  simp

theorem getLsbD_withGE_5 (psr : Word) (ge : BitVec 4) : (withGE psr ge).getLsbD 5 = psr.getLsbD 5 := by
  unfold withGE
  erw [BitVec.getLsbD_append, BitVec.getLsbD_append]
  simp

/-- An instruction that writes one register. -/
theorem registerResult_of_writeReg {i : Instr} {c : Cond} {used : List Reg} {rd : Reg} {v value : State → Word}
    (hexec : ∀ s, exec i s = finish (writeReg c used rd v s)) (hv : ∀ s, v s = value s) :
    registerResult i c (rd :: used) rd value (·.cpsr) := by
  refine fun s hc => ⟨fun h => ?_, fun h => ?_⟩
  · rw [hexec, writeReg, conditional_pass hc, noPc_stop h]
    rfl
  · rw [hexec, writeReg, conditional_pass hc, noPc_pass h, ← hv]
    exact congrArg Host.Outcome.next (State.setReg_advance ..)

/-- An instruction that writes one register and may set Q. -/
theorem registerResult_of_writeRegQ {i : Instr} {c : Cond} {used : List Reg} {rd : Reg} {v : State → Int × Bool} {value : State → Word}
    {sat : State → Bool} (hexec : ∀ s, exec i s = finish (writeRegQ c used rd v s)) (hv : ∀ s, word (v s).1 = value s)
    (hsat : ∀ s, (v s).2 = sat s) : registerResult i c (rd :: used) rd value (fun s => withQ s.cpsr (sat s)) := by
  refine fun s hc => ⟨fun h => ?_, fun h => ?_⟩
  · rw [hexec, writeRegQ, conditional_pass hc, noPc_stop h]
    rfl
  · rw [hexec, writeRegQ, conditional_pass hc, noPc_pass h]
    change Host.Outcome.next ({ s.setReg rd (word (v s).1) with cpsr := setQ s.cpsr (v s).2 } : State).advance = _
    rw [setQ_eq_withQ, State.wrote_withCpsr_advance rd _ (getLsbD_withQ_5 ..), hv, hsat]

/-- A multiply that writes one register, with N and Z where S is set. -/
theorem registerResult_of_multiply {i : Instr} {c : Cond} {sBit : Bool} {used : List Reg} {rd : Reg} {v : State → Word}
    (hexec : ∀ s, exec i s = finish (multiply c sBit used rd v s)) :
    registerResult i c (rd :: used) rd v (fun s => if sBit then withNZ s.cpsr (v s).msb (v s == 0#32) else s.cpsr) := by
  refine fun s hc => ⟨fun h => ?_, fun h => ?_⟩
  · rw [hexec, multiply, conditional_pass hc, noPc_stop h]
    rfl
  · rw [hexec, multiply, conditional_pass hc, noPc_pass h]
    refine congrArg Host.Outcome.next ?_
    cases sBit with
    | true =>
      change ({ s.setReg rd (v s) with cpsr := setNZ s.cpsr (v s) } : State).advance = _
      rw [setNZ_eq_withNZ]
      exact State.wrote_withCpsr_advance rd _ (getLsbD_withNZ_5 ..)
    | false => exact State.setReg_advance ..

/-- A multiply that writes a pair of registers, with N and Z where S is set. -/
theorem pairResult_of_multiplyLong {i : Instr} {c : Cond} {sBit : Bool} {hi lo rs rm : Reg} {v : State → Int} {value : State → DWord}
    (hexec : ∀ s, exec i s = finish (multiplyLong c sBit hi lo rs rm v s)) (hv : ∀ s, BitVec.ofInt 64 (v s) = value s) :
    pairResult i c hi lo rs rm value (fun s => if sBit then withNZ s.cpsr (value s).msb (value s == 0#64) else s.cpsr) := by
  refine fun s hc => ⟨fun h => ?_, fun ⟨h, hne⟩ => ?_⟩
  · rw [hexec, multiplyLong, conditional_pass hc]
    by_cases h15 : 15#4 ∈ [hi, lo, rs, rm]
    · rw [noPc_stop h15]
      rfl
    · rw [noPc_pass h15, refuseIf_stop (by simpa using h.resolve_left h15)]
      rfl
  · rw [hexec, multiplyLong, conditional_pass hc, noPc_pass h, refuseIf_pass (by simpa using hne)]
    refine congrArg Host.Outcome.next ?_
    simp only [hv]
    have hflags : setBit (setBit s.cpsr 31 (bit (value s) 63)) 30 (value s == 0#64) =
        withNZ s.cpsr (value s).msb (value s == 0#64) := by
      refine BitVec.eq_of_getLsbD_eq fun j hj => ?_
      simp only [getLsbD_withNZ _ _ _ hj, getLsbD_setBit, Nat.reduceLT, bit, BitVec.msb_eq_getLsbD_last]
      grind
    cases sBit with
    | true =>
      rw [if_pos rfl, if_pos rfl, hflags]
      exact State.withCpsr_advance
        (s := (s.setReg hi ((value s).extractLsb' 32 32)).setReg lo ((value s).extractLsb' 0 32)) (getLsbD_withNZ_5 ..)
    | false => exact State.advance_eq_stepped _

/-- A parallel instruction, with GE for the prefixes that write it. -/
theorem registerResult_of_parallel {i : Instr} {c : Cond} {k : Par} {rn rd rm : Reg} {op : Word → Word → Word × BitVec 4}
    {value : Word → Word → Word} {ge : Word → Word → BitVec 4} (hexec : ∀ s, exec i s = finish (parallel c k rn rd rm op s))
    (hv : ∀ a b, (op a b).1 = value a b) (hge : k.writesGE = true → ∀ a b, (op a b).2 = ge a b) :
    registerResult i c [rn, rd, rm] rd (fun s => value (s.reg rn) (s.reg rm))
      (fun s => if k.writesGE then withGE s.cpsr (ge (s.reg rn) (s.reg rm)) else s.cpsr) := by
  refine fun s hc => ⟨fun h => ?_, fun h => ?_⟩
  · rw [hexec, parallel, conditional_pass hc, noPc_stop h]
    rfl
  · rw [hexec, parallel, conditional_pass hc, noPc_pass h]
    beta_reduce
    rw [← hv]
    cases hk : k.writesGE with
    | true =>
      rw [if_pos rfl, ← hge hk]
      rcases op (s.reg rn) (s.reg rm) with ⟨r, g⟩
      rw [← State.wrote_withCpsr_advance rd _ (getLsbD_withGE_5 ..), ← setGE_eq_withGE]
      rfl
    | false =>
      rcases op (s.reg rn) (s.reg rm) with ⟨r, g⟩
      exact congrArg Host.Outcome.next (State.setReg_advance ..)

/-! ### Exact integers as words -/

theorem ofInt_toInt_word (a : Word) : BitVec.ofInt 64 a.toInt = a.signExtend 64 := rfl

theorem half_eq (v : Word) (top : Bool) : half v top = (halfOf v top).toInt := by
  cases top <;> rfl

theorem word_half (v : Word) (top : Bool) : word (half v top) = (halfOf v top).signExtend 32 := by
  rw [half_eq]
  rfl

theorem word_mul (a b : Int) : word (a * b) = word a * word b := BitVec.ofInt_mul ..

theorem word_add (a b : Int) : word (a + b) = word a + word b := BitVec.ofInt_add ..

@[simp] theorem word_toInt (v : Word) : word v.toInt = v := BitVec.ofInt_toInt

theorem ofInt_toInt_mul_two_pow_32 (v : Word) : BitVec.ofInt 64 (v.toInt * 2 ^ 32) = (v ++ 0#32 : DWord) := by
  rw [BitVec.ofInt_mul, ofInt_toInt_word, show BitVec.ofInt 64 (2 ^ 32) = BitVec.twoPow 64 32 from rfl,
    BitVec.mul_twoPow_eq_shiftLeft]
  refine BitVec.eq_of_getLsbD_eq fun j hj => ?_
  refine Eq.trans ?_ (BitVec.getLsbD_append (x := v) (y := 0#32)).symm
  rw [BitVec.getLsbD_shiftLeft, BitVec.getLsbD_signExtend]
  by_cases h : j < 32
  · simp [h]
  · simp [h, show j < 64 from hj, show j - 32 < 32 by omega, show j - 32 < 64 by omega]

theorem ofInt_sub {w : Nat} (a b : Int) : BitVec.ofInt w (a - b) = BitVec.ofInt w a - BitVec.ofInt w b := by
  rw [Int.sub_eq_add_neg, BitVec.ofInt_add, BitVec.ofInt_neg, BitVec.sub_eq_add_neg]

/-! ### Limits -/

theorem signedSat_eq {n : Nat} (v : Int) : signedSat n v = (clampSigned n v, clampSigned n v != v) := by
  have hpos : (0 : Int) < 2 ^ (n - 1) := by positivity
  unfold signedSat clampSigned
  generalize (2 : Int) ^ (n - 1) = m at hpos
  dsimp only
  split
  · refine Prod.ext ?_ ?_ <;> simp <;> omega
  · split
    · refine Prod.ext ?_ ?_ <;> simp <;> omega
    · refine Prod.ext ?_ ?_ <;> simp <;> omega

theorem unsignedSat_eq {n : Nat} (v : Int) : unsignedSat n v = (clampUnsigned n v, clampUnsigned n v != v) := by
  have hpos : (0 : Int) < 2 ^ n := by positivity
  unfold unsignedSat clampUnsigned
  generalize (2 : Int) ^ n = m at hpos
  dsimp only
  split
  · refine Prod.ext ?_ ?_ <;> simp <;> omega
  · split
    · refine Prod.ext ?_ ?_ <;> simp <;> omega
    · refine Prod.ext ?_ ?_ <;> simp <;> omega

theorem overflows_eq (v : Int) : overflows v = decide (v < -2 ^ 31 ∨ 2 ^ 31 ≤ v) := by
  rw [overflows, signedSat_eq, Bool.eq_iff_iff]
  simp only [clampSigned, bne_iff_ne, decide_eq_true_eq]
  norm_num
  omega

theorem overflows_eq_ne_word (v : Int) : overflows v = (v != (word v).toInt) := by
  rw [overflows_eq, Bool.eq_iff_iff, word, BitVec.toInt_ofInt]
  simp only [decide_eq_true_eq, bne_iff_ne]
  constructor
  · intro h heq
    have := Int.bmod_lt (x := v) (m := 2 ^ 32) (by norm_num)
    have := Int.le_bmod (x := v) (m := 2 ^ 32) (by norm_num)
    norm_num at *
    omega
  · intro h
    by_contra hin
    exact h (Int.bmod_eq_of_le (by norm_num at *; omega) (by norm_num at *; omega)).symm

/-- A product of two halfwords is in the signed 32-bit range. -/
theorem toInt_halfProduct (a b : Half) : (a.signExtend 32 * b.signExtend 32).toInt = a.toInt * b.toInt := by
  have ha := BitVec.le_toInt a
  have ha' := BitVec.toInt_lt (x := a)
  have hb := BitVec.le_toInt b
  have hb' := BitVec.toInt_lt (x := b)
  rw [BitVec.toInt_mul, BitVec.toInt_signExtend_of_le (by decide), BitVec.toInt_signExtend_of_le (by decide)]
  norm_num at ha ha' hb hb'
  refine Int.bmod_eq_of_le ?_ ?_ <;> norm_num <;> nlinarith

end Sys2Proof.Machine

open Sys2Proof Sys2Proof.Machine

/-- Settles O20: the products as words. -/
theorem multiplyResults : Obligations.MultiplyResults := by
  intro c sBit rd rn rs rm hi lo u i acc nz32 nz64 mul mla umull umlal smull smlal
  refine ⟨registerResult_of_multiply fun _ => rfl, registerResult_of_multiply fun _ => rfl,
    pairResult_of_multiplyLong (fun _ => rfl) fun s => ?_, pairResult_of_multiplyLong (fun _ => rfl) fun s => ?_,
    pairResult_of_multiplyLong (fun _ => rfl) fun s => ?_, pairResult_of_multiplyLong (fun _ => rfl) fun s => ?_,
    pairResult_of_multiplyLong (sBit := false) (fun _ => rfl) fun s => ?_⟩
  · simp [umull, u, uInt, BitVec.ofInt_mul]
  · simp [umlal, u, uInt, acc, accUnsigned, BitVec.ofInt_mul, BitVec.ofInt_add]
  · simp [smull, i, sInt, BitVec.ofInt_mul, ofInt_toInt_word]
  · simp [smlal, i, sInt, acc, accSigned, BitVec.ofInt_mul, BitVec.ofInt_add, ofInt_toInt_word]
  · simp [u, uInt, BitVec.ofInt_mul, BitVec.ofInt_add]

/-- Settles O21: the limits as clamps, the halfword products as words. -/
theorem saturatingAndHalfwordMultiplyResults : Obligations.SaturatingAndHalfwordMultiplyResults := by
  intro c rd rn rs rm hi lo x y a b d shape
  have hplain {i : Instr} {v : State → Int} (hexec : ∀ s, exec i s = finish (writeRegQ c [rn, rm] rd (fun s => signedSat 32 (v s)) s)) :
      shape i v (fun _ => false) :=
    registerResult_of_writeRegQ hexec (fun s => by rw [signedSat_eq, word]) (fun s => by rw [signedSat_eq, Bool.false_or])
  have hdoubled {i : Instr} {op : Int → Int → Int}
      (hexec : ∀ s, exec i s = finish (writeRegQ c [rn, rm] rd (fun s => doubled (sInt s rm) (sInt s rn) op) s)) :
      shape i (fun s => op (a s) (d s)) (fun s => d s != 2 * b s) :=
    registerResult_of_writeRegQ hexec (fun s => by rw [doubled, signedSat_eq]; dsimp only; rw [signedSat_eq]; rfl)
      (fun s => by rw [doubled, signedSat_eq]; dsimp only; rw [signedSat_eq]; rfl)
  refine ⟨hplain fun _ => rfl, hplain fun _ => rfl, hdoubled fun _ => rfl, hdoubled fun _ => rfl, ?_⟩
  intro p q leaves
  have hp (s : State) : word (halfProduct s rm rs x y) = p s := by
    rw [halfProduct, word_mul, word_half, word_half]
  have hpInt (s : State) : halfProduct s rm rs x y = (p s).toInt := by
    rw [halfProduct, toInt_halfProduct, half_eq, half_eq]
  have hq (s : State) : wideProduct s rm rs y = (q s).toInt := by
    rw [wideProduct, sInt, half_eq, BitVec.ofInt_mul]
    rfl
  refine ⟨registerResult_of_writeReg (fun _ => rfl) hp, registerResult_of_writeRegQ (fun _ => rfl) (fun s => ?_) (fun s => ?_),
    registerResult_of_writeReg (fun _ => rfl) (fun s => ?_), registerResult_of_writeRegQ (fun _ => rfl) (fun s => ?_) (fun s => ?_),
    pairResult_of_multiplyLong (sBit := false) (fun _ => rfl) (fun s => ?_)⟩
  · simp [checked, word_add, hp, sInt]
  · simp [checked, overflows_eq_ne_word, word_add, hpInt, sInt, leaves]
  · simp [hq]
  · simp [checked, word_add, hq, sInt]
  · simp [checked, overflows_eq_ne_word, word_add, hq, sInt, leaves]
  · rw [BitVec.ofInt_add, hpInt]
    simp [accSigned, ofInt_toInt_word]

/-- Settles O22: the exact integers of the products, narrowed. -/
theorem dualAndMostSignificantMultiplyResults : Obligations.DualAndMostSignificantMultiplyResults := by
  intro c rd rn rs rm hi lo hf sum dif q plus one noQ long wide top acc
  have hsum (s : State) (x : Bool) : dualSum s rm rs x = sum x s := by
    simp only [dualSum, dualProducts, half_eq, sum, hf]
  have hdif (s : State) (x : Bool) : dualDifference s rm rs x = dif x s := by
    simp only [dualDifference, dualProducts, half_eq, dif, hf]
  have hone {i : Instr} {used : List Reg} {e f : State → Int} (hef : ∀ s, f s = e s)
      (hexec : ∀ s, exec i s = finish (writeRegQ c used rd (fun s => checked (f s)) s)) : one i (rd :: used) e :=
    registerResult_of_writeRegQ hexec (fun s => by rw [checked, hef, word]) (fun s => by rw [checked, hef, overflows_eq])
  have hnoQ {i : Instr} {e f : State → Int} (hef : ∀ s, f s = e s)
      (hexec : ∀ s, exec i s = finish (writeReg c [rs, rm] rd (fun s => word (f s)) s)) : noQ i e :=
    registerResult_of_writeReg hexec fun s => by rw [hef, word]
  have hlong {i : Instr} {e f : State → Int} (hef : ∀ s, f s = e s)
      (hexec : ∀ s, exec i s = finish (multiplyLong c false hi lo rs rm (fun s => accSigned s hi lo + f s) s)) : long i e :=
    pairResult_of_multiplyLong (sBit := false) hexec fun s => by rw [hef, BitVec.ofInt_add, accSigned, BitVec.ofInt_toInt]
  have htop {i : Instr} {used : List Reg} {v : State → DWord} {f : State → Int} (hv : ∀ s, BitVec.ofInt 64 (f s) = v s)
      (hexec : ∀ s, exec i s = finish (writeReg c used rd (fun s => topWord (f s)) s)) :
      registerResult i c (rd :: used) rd (fun s => top (v s)) (·.cpsr) :=
    registerResult_of_writeReg hexec fun s => by rw [topWord, hv]
  have hprod (s : State) : BitVec.ofInt 64 (sInt s rm * sInt s rs) = wide s rm * wide s rs := BitVec.ofInt_mul ..
  have hacc (s : State) : BitVec.ofInt 64 (sInt s rn * 2 ^ 32) = acc s := ofInt_toInt_mul_two_pow_32 _
  have hround : BitVec.ofInt 64 rounding = 0x80000000#64 := rfl
  refine ⟨hone (hsum · false) fun _ => rfl, hone (hsum · true) fun _ => rfl, hnoQ (hdif · false) fun _ => rfl,
    hnoQ (hdif · true) fun _ => rfl, hone (fun s => ?_) fun _ => rfl, hone (fun s => ?_) fun _ => rfl,
    hone (fun s => ?_) fun _ => rfl, hone (fun s => ?_) fun _ => rfl, hlong (hsum · false) fun _ => rfl,
    hlong (hsum · true) fun _ => rfl, hlong (hdif · false) fun _ => rfl, hlong (hdif · true) fun _ => rfl,
    htop hprod fun _ => rfl, htop (fun s => ?_) fun _ => rfl, htop (fun s => ?_) fun _ => rfl, htop (fun s => ?_) fun _ => rfl,
    htop (fun s => ?_) fun _ => rfl, htop (fun s => ?_) fun _ => rfl⟩
  · rw [hsum, sInt]
  · rw [hsum, sInt]
  · rw [hdif, sInt]
  · rw [hdif, sInt]
  · rw [BitVec.ofInt_add, hprod, hround]
  · rw [BitVec.ofInt_add, hprod, hacc]
  · rw [BitVec.ofInt_add, BitVec.ofInt_add, hprod, hacc, hround]
  · rw [ofInt_sub, hprod, hacc]
  · rw [BitVec.ofInt_add, ofInt_sub, hprod, hacc, hround]

end

section
/-! The parallel additions and subtractions, extensions, saturations, selections and byte reversals (41): lanes as words. -/

namespace Sys2Proof.Machine

open Sys2Proof

/-! ### Lanes -/

theorem ofInt_toNat_setWidth {w n : Nat} (x : BitVec w) : BitVec.ofInt n (x.toNat : Int) = x.setWidth n := by
  rw [BitVec.ofInt_natCast, BitVec.ofNat_toNat]

theorem Par.result_modulo {w : Nat} (add : Bool) (x y : BitVec w) (a b : Int) (ha : BitVec.ofInt w a = x) (hb : BitVec.ofInt w b = y) :
    BitVec.ofInt w (if add then a + b else a - b) = if add then x + y else x - y := by
  cases add with
  | true => exact (BitVec.ofInt_add ..).trans (by rw [ha, hb]; rfl)
  | false => exact (ofInt_sub ..).trans (by rw [ha, hb]; rfl)

/-- Halving an integer is dropping the lowest bit of a word with one bit more. -/
theorem extractLsb'_one_ofInt {w : Nat} (v : Int) : (BitVec.ofInt (w + 1) v).extractLsb' 1 w = BitVec.ofInt w (v / 2) := by
  refine BitVec.eq_of_toNat_eq ?_
  rw [BitVec.extractLsb'_toNat, BitVec.toNat_ofInt, BitVec.toNat_ofInt, Nat.shiftRight_eq_div_pow]
  have hm : (0 : Int) < 2 ^ w := by positivity
  have hdiv : v / 2 = v / (2 ^ w * 2) * 2 ^ w + v % (2 ^ w * 2) / 2 := by
    conv_lhs => rw [← Int.mul_ediv_add_emod v (2 ^ w * 2)]
    rw [show (2 : Int) ^ w * 2 * (v / (2 ^ w * 2)) = v / (2 ^ w * 2) * 2 ^ w * 2 by ring, Int.add_comm, Int.add_mul_ediv_right _ _ (by decide)]
    ring
  have hr := Int.emod_nonneg v (show (2 : Int) ^ w * 2 ≠ 0 by positivity)
  have hmod : v / 2 % 2 ^ w = v % (2 ^ w * 2) / 2 % 2 ^ w := by rw [hdiv, Int.add_comm, Int.add_mul_emod_self_right]
  push_cast
  rw [hmod, pow_succ]
  zify
  rw [Int.toNat_of_nonneg hr]
  exact (Int.toNat_of_nonneg (Int.emod_nonneg _ (by positivity))).symm

theorem Par.result_exact {w : Nat} (k : Par) (add : Bool) (x y : BitVec w) : k.result w (k.exact add x y) = k.lane add x y := by
  cases k with
  | s => exact Par.result_modulo add x y _ _ BitVec.ofInt_toInt BitVec.ofInt_toInt
  | u => exact Par.result_modulo add x y x.toNat y.toNat (by simp) (by simp)
  | q => exact congrArg (BitVec.ofInt w) (congrArg Prod.fst (signedSat_eq _))
  | uq => exact congrArg (BitVec.ofInt w) (congrArg Prod.fst (unsignedSat_eq _))
  | sh =>
    refine (extractLsb'_one_ofInt _).symm.trans (congrArg (BitVec.extractLsb' 1 w) ?_)
    exact Par.result_modulo add _ _ _ _ rfl rfl
  | uh =>
    refine (extractLsb'_one_ofInt _).symm.trans (congrArg (BitVec.extractLsb' 1 w) ?_)
    exact Par.result_modulo add _ _ x.toNat y.toNat (ofInt_toNat_setWidth x) (ofInt_toNat_setWidth y)

/-- The sign of an integer is that of its word, where the word's width holds it. -/
theorem msb_ofInt_of_signed {w : Nat} {v : Int} (hlow : -2 ^ w ≤ v) (hhigh : v < 2 ^ w) :
    (BitVec.ofInt (w + 1) v).msb = decide (v < 0) := by
  have hpow : ((2 ^ (w + 1) : Nat) : Int) = 2 * 2 ^ w := by push_cast; ring
  rw [BitVec.msb_eq_toInt, BitVec.toInt_ofInt, Int.bmod_eq_of_le (by rw [hpow]; omega) (by rw [hpow]; omega)]

/-- The top bit of an unsigned word tells whether the integer has one bit more. -/
theorem msb_ofInt_of_unsigned {w : Nat} {v : Int} (hlow : 0 ≤ v) (hhigh : v < 2 ^ (w + 1)) :
    (BitVec.ofInt (w + 1) v).msb = decide (2 ^ w ≤ v) := by
  rw [BitVec.msb_eq_decide, BitVec.toNat_ofInt]
  push_cast
  rw [Int.emod_eq_of_lt hlow hhigh, Bool.eq_iff_iff, decide_eq_true_iff, decide_eq_true_iff]
  zify
  rw [Int.toNat_of_nonneg hlow]

theorem Par.ge_signed (add : Bool) {n : Nat} (x y : BitVec (n + 1)) :
    Par.s.ge (n + 1) add (Par.s.exact add x y) = Par.s.laneGE add x y := by
  have hx := BitVec.le_toInt x
  have hx' := BitVec.toInt_lt (x := x)
  have hy := BitVec.le_toInt y
  have hy' := BitVec.toInt_lt (x := y)
  rw [Nat.add_sub_cancel] at hx hx' hy hy'
  have hlane : Par.s.laneGE add x y = !(BitVec.ofInt (n + 1 + 1) (if add then x.toInt + y.toInt else x.toInt - y.toInt)).msb := by
    rw [Par.result_modulo add _ _ _ _ (rfl : _ = x.signExtend (n + 1 + 1)) (rfl : _ = y.signExtend (n + 1 + 1))]
    rfl
  have hge : Par.s.ge (n + 1) add (Par.s.exact add x y) = decide (0 ≤ if add then x.toInt + y.toInt else x.toInt - y.toInt) := rfl
  rw [hlane, hge, msb_ofInt_of_signed (by rw [pow_succ]; split <;> omega) (by rw [pow_succ]; split <;> omega), Bool.eq_iff_iff]
  split <;> simp

theorem Par.ge_unsigned (add : Bool) {n : Nat} (x y : BitVec (n + 1)) :
    Par.u.ge (n + 1) add (Par.u.exact add x y) = Par.u.laneGE add x y := by
  have hx := x.isLt
  have hy := y.isLt
  zify at hx hy
  cases add with
  | true =>
    have hlane : Par.u.laneGE true x y = (BitVec.ofInt (n + 1 + 1) ((x.toNat : Int) + y.toNat)).msb := by
      rw [BitVec.ofInt_add, ofInt_toNat_setWidth, ofInt_toNat_setWidth]
      rfl
    rw [hlane, msb_ofInt_of_unsigned (by omega) (by rw [pow_succ _ (n + 1)]; omega)]
    rfl
  | false =>
    have hge : Par.u.ge (n + 1) false (Par.u.exact false x y) = decide (0 ≤ (x.toNat : Int) - y.toNat) := rfl
    have hlane : Par.u.laneGE false x y = decide (y.toNat ≤ x.toNat) := rfl
    rw [hge, hlane, Bool.eq_iff_iff, decide_eq_true_iff, decide_eq_true_iff]
    omega

theorem Par.ge_exact {n : Nat} {k : Par} (add : Bool) (x y : BitVec (n + 1)) (hk : k.writesGE = true) :
    k.ge (n + 1) add (k.exact add x y) = k.laneGE add x y := by
  cases k with
  | s => exact Par.ge_signed add x y
  | u => exact Par.ge_unsigned add x y
  | q | uq | sh | uh => contradiction

/-! ### The parallel instructions -/

/-- The operation of a parallel instruction, as the model computes it. -/
def ParOp.compute (op : ParOp) (k : Par) : Word → Word → Word × BitVec 4 :=
  match op with
  | .add16 => parallel16 k true true false
  | .addsubx => parallel16 k true false true
  | .subaddx => parallel16 k false true true
  | .sub16 => parallel16 k false false false
  | .add8 => parallel8 k true
  | .sub8 => parallel8 k false

theorem exec_parInstr (k : Par) (op : ParOp) (c : Cond) (rn rd rm : Reg) (s : State) :
    exec (k.instr op c rn rd rm) s = finish (parallel c k rn rd rm (op.compute k) s) := by
  cases k <;> cases op <;> rfl

theorem parallel16_fst (k : Par) (addTop addBottom exchange : Bool) (a b : Word) : (parallel16 k addTop addBottom exchange a b).1 =
    k.lane addTop (halfOf a true) (halfOf b (!exchange)) ++ k.lane addBottom (halfOf a false) (halfOf b exchange) := by
  cases exchange <;> exact congrArg₂ (· ++ ·) (Par.result_exact ..) (Par.result_exact ..)

theorem parallel16_snd {k : Par} (hk : k.writesGE = true) (addTop addBottom exchange : Bool) (a b : Word) :
    (parallel16 k addTop addBottom exchange a b).2 =
      let top := BitVec.ofBool (k.laneGE addTop (halfOf a true) (halfOf b (!exchange)))
      let bottom := BitVec.ofBool (k.laneGE addBottom (halfOf a false) (halfOf b exchange))
      top ++ top ++ bottom ++ bottom := by
  have hmask (top bottom : Bool) : (if top then 0b1100#4 else 0#4) ||| (if bottom then 0b0011#4 else 0#4) =
      BitVec.ofBool top ++ BitVec.ofBool top ++ BitVec.ofBool bottom ++ BitVec.ofBool bottom := by
    revert top bottom
    decide
  rw [← Par.ge_exact addTop _ _ hk, ← Par.ge_exact addBottom _ _ hk]
  cases exchange <;> exact hmask ..

theorem parallel8_fst (k : Par) (add : Bool) (a b : Word) : (parallel8 k add a b).1 =
    k.lane add (byteIn a 3) (byteIn b 3) ++ k.lane add (byteIn a 2) (byteIn b 2) ++ k.lane add (byteIn a 1) (byteIn b 1) ++
      k.lane add (byteIn a 0) (byteIn b 0) := by
  simp only [parallel8, Par.result_exact]
  rfl

theorem parallel8_snd {k : Par} (hk : k.writesGE = true) (add : Bool) (a b : Word) :
    let g (i : Nat) := BitVec.ofBool (k.laneGE add (byteIn a i) (byteIn b i))
    (parallel8 k add a b).2 = g 3 ++ g 2 ++ g 1 ++ g 0 := by
  have hbit (v : Bool) : (if v then 1#1 else 0#1) = BitVec.ofBool v := by cases v <;> rfl
  intro g
  simp only [parallel8, hbit, Par.ge_exact _ _ _ hk]
  rfl

theorem ParOp.compute_fst (op : ParOp) (k : Par) (a b : Word) : (op.compute k a b).1 = k.value op a b := by
  cases op with
  | add16 | addsubx | subaddx | sub16 => exact parallel16_fst ..
  | add8 | sub8 => exact parallel8_fst ..

theorem ParOp.compute_snd (op : ParOp) {k : Par} (hk : k.writesGE = true) (a b : Word) :
    (op.compute k a b).2 = k.geValue op a b := by
  cases op with
  | add16 | addsubx | subaddx | sub16 => exact parallel16_snd hk ..
  | add8 | sub8 => exact parallel8_snd hk ..

theorem Par.writesGE_iff (k : Par) : k.writesGE = true ↔ k = .s ∨ k = .u := by
  cases k <;> decide

/-! ### Bytes and halves -/

theorem getLsbD_byteMask (ge : BitVec 4) {j : Nat} (hj : j < 32) : (byteMask ge).getLsbD j = ge.getLsbD (j / 8) := by
  have hite (b : Bool) (m : Word) : (if b then m else 0#32).getLsbD j = (b && m.getLsbD j) := by cases b <;> simp
  rw [byteMask, BitVec.getLsbD_or, BitVec.getLsbD_or, BitVec.getLsbD_or, hite, hite, hite, hite]
  interval_cases j <;> simp [bit]

theorem getLsbD_append_bytes (a b c d : Byte) {j : Nat} (hj : j < 32) : (a ++ b ++ c ++ d : BitVec 32).getLsbD j =
    (if j < 8 then d else if j < 16 then c else if j < 24 then b else a).getLsbD (j % 8) := by
  refine (BitVec.getLsbD_append (x := a ++ b ++ c) (y := d)).trans ?_
  rw [BitVec.getLsbD_append, BitVec.getLsbD_append]
  interval_cases j <;> rfl

theorem mergeBits_byteMask (ge : BitVec 4) (a b : Word) : mergeBits b a (byteMask ge) =
    (if ge.getLsbD 3 then byteIn a 3 else byteIn b 3) ++ (if ge.getLsbD 2 then byteIn a 2 else byteIn b 2) ++
      (if ge.getLsbD 1 then byteIn a 1 else byteIn b 1) ++ (if ge.getLsbD 0 then byteIn a 0 else byteIn b 0) := by
  refine BitVec.eq_of_getLsbD_eq fun j hj => ?_
  have hbyte (k : Nat) (hk : j / 8 = k) : (if ge.getLsbD k then byteIn a k else byteIn b k).getLsbD (j % 8) =
      if ge.getLsbD k then a.getLsbD j else b.getLsbD j := by
    have : 8 * k + j % 8 = j := by omega
    split <;> simp [byteIn, this, Nat.mod_lt]
  rw [getLsbD_append_bytes _ _ _ _ hj]
  simp only [mergeBits, BitVec.getLsbD_or, BitVec.getLsbD_and, BitVec.getLsbD_not, getLsbD_byteMask ge hj, hj, decide_true,
    Bool.true_and]
  have hmerge (x y g : Bool) : (y && !g || x && g) = if g then x else y := by cases g <;> simp
  rw [hmerge]
  by_cases h8 : j < 8
  · rw [if_pos h8, hbyte 0 (by omega), show j / 8 = 0 by omega]
  by_cases h16 : j < 16
  · rw [if_neg h8, if_pos h16, hbyte 1 (by omega), show j / 8 = 1 by omega]
  by_cases h24 : j < 24
  · rw [if_neg h8, if_neg h16, if_pos h24, hbyte 2 (by omega), show j / 8 = 2 by omega]
  · rw [if_neg h8, if_neg h16, if_neg h24, hbyte 3 (by omega), show j / 8 = 3 by omega]

theorem halfOf_append (a b : Half) (top : Bool) : halfOf (a ++ b) top = if top then a else b := by
  cases top with
  | true => exact BitVec.extractLsb'_append_eq_left
  | false => exact BitVec.extractLsb'_append_eq_right

theorem shiftC_asr_fst (v : Word) (n : Nat) (c : Bool) : (shiftC v .asr n c).1 = v.sshiftRight n := by
  change (if n = 0 then (v, c) else if n < 32 then (v.sshiftRight n, bit v (n - 1)) else (v.sshiftRight 31, bit v 31)).1 = _
  split_ifs with h0 h32
  · rw [h0, BitVec.sshiftRight_zero]
  · rfl
  · refine BitVec.eq_of_getLsbD_eq fun j hj => ?_
    rw [BitVec.getLsbD_sshiftRight, BitVec.getLsbD_sshiftRight]
    rcases Nat.eq_zero_or_pos j with rfl | hpos
    · simp [h32, BitVec.msb_eq_getLsbD_last]
    · simp [show ¬ 31 + j < 32 by omega, show ¬ n + j < 32 by omega]

theorem shiftC_lsl_fst (v : Word) {n : Nat} (c : Bool) (hn : n < 32) : (shiftC v .lsl n c).1 = v <<< n := by
  change (if n = 0 then (v, c) else if n < 32 then (v <<< n, bit v (32 - n)) else (0#32, n == 32 && bit v 0)).1 = _
  split_ifs with h0
  · rw [h0, BitVec.shiftLeft_zero]
  · rfl

theorem saturateOperand_eq (s : State) (rm : Reg) (sh : Bool) (n : BitVec 5) : saturateOperand s rm sh n =
    if sh then (s.reg rm).toInt / 2 ^ (if n = 0#5 then 32 else n.toNat) else (s.reg rm <<< n.toNat).toInt := by
  cases sh with
  | true =>
    change (shiftC (s.reg rm) .asr _ false).1.toInt = _
    rw [shiftC_asr_fst, BitVec.toInt_sshiftRight, Int.shiftRight_eq_div_pow]
    rfl
  | false =>
    change (shiftC (s.reg rm) .lsl n.toNat false).1.toInt = _
    rw [shiftC_lsl_fst _ _ n.isLt]
    rfl

theorem absDifferences_eq (a b : Word) :
    let d (k : Nat) : Nat := max (byteIn a k).toNat (byteIn b k).toNat - min (byteIn a k).toNat (byteIn b k).toNat
    absDifferences a b = d 0 + d 1 + d 2 + d 3 := by
  have hd (x y : Nat) : ((x : Int) - y).natAbs = max x y - min x y := by omega
  intro d
  simp only [absDifferences, hd]
  rfl

end Sys2Proof.Machine

open Sys2Proof Sys2Proof.Machine

/-- Settles O23: the model's exact lanes are the lanes as words. -/
theorem parallelAddSubtractResults : Obligations.ParallelAddSubtractResults := by
  intro k op c rn rd rm
  simp only [← Par.writesGE_iff]
  exact registerResult_of_parallel (exec_parInstr k op c rn rd rm) (op.compute_fst k) fun hk => op.compute_snd hk

/-- Settles O24: the extensions are the parts of the rotated word. -/
theorem extensionResults : Obligations.ExtensionResults := by
  intro c rn rd rot rm v one add add16 sb ub sh uh sb16 ub16
  have hadd {i : Instr} {e : State → Word} (hexec : ∀ s, exec i s = finish (writeReg c [rn, rm] rd (fun s => s.reg rn + e s) s)) :
      add i e := registerResult_of_writeReg hexec fun _ => rfl
  exact ⟨registerResult_of_writeReg (fun _ => rfl) fun _ => rfl, registerResult_of_writeReg (fun _ => rfl) fun _ => rfl,
    registerResult_of_writeReg (fun _ => rfl) fun _ => rfl, registerResult_of_writeReg (fun _ => rfl) fun _ => rfl,
    registerResult_of_writeReg (fun _ => rfl) fun _ => rfl, registerResult_of_writeReg (fun _ => rfl) fun _ => rfl,
    hadd fun _ => rfl, hadd fun _ => rfl, hadd fun _ => rfl, hadd fun _ => rfl,
    registerResult_of_writeReg (fun _ => rfl) fun s => by rw [halfOf_append, halfOf_append]; rfl,
    registerResult_of_writeReg (fun _ => rfl) fun s => by rw [halfOf_append, halfOf_append]; rfl⟩

/-- Settles O25: the limits as clamps, the bytes and halves as parts of words. -/
theorem saturateSelectPackReverseResults : Obligations.SaturateSelectPackReverseResults := by
  intro c rn rd rs rm sat5 sat4 n sh operand limited halves difference total plain b pick
  have hlimited {i : Instr} {f : Int → Int} {sat : Int → Int × Bool} (hsat : ∀ v, sat v = (f v, f v != v))
      (hexec : ∀ s, exec i s = finish (writeRegQ c [rm] rd (fun s => sat (saturateOperand s rm sh n)) s)) : limited i f :=
    registerResult_of_writeRegQ hexec (fun s => by rw [hsat, saturateOperand_eq, word]) (fun s => by rw [hsat, saturateOperand_eq])
  have hhalves {i : Instr} {f : Int → Int} {sat : Int → Int × Bool} (hsat : ∀ v, sat v = (f v, f v != v))
      (hexec : ∀ s, exec i s = finish (writeRegQ c [rm] rd (fun s => saturateHalves sat (s.reg rm)) s)) : halves i f :=
    registerResult_of_writeRegQ hexec (fun s => by simp [saturateHalves, hsat, half_eq, packHalves])
      (fun s => by simp [saturateHalves, hsat, half_eq])
  refine ⟨hlimited signedSat_eq fun _ => rfl, hlimited unsignedSat_eq fun _ => rfl, hhalves signedSat_eq fun _ => rfl,
    hhalves unsignedSat_eq fun _ => rfl, registerResult_of_writeReg (fun _ => rfl) fun s => ?_,
    registerResult_of_writeReg (fun _ => rfl) fun s => ?_, registerResult_of_writeReg (fun _ => rfl) fun s => ?_,
    registerResult_of_writeReg (fun _ => rfl) fun s => ?_, registerResult_of_writeReg (fun _ => rfl) fun s => ?_,
    registerResult_of_writeReg (fun _ => rfl) fun s => ?_, registerResult_of_writeReg (fun _ => rfl) fun s => ?_,
    registerResult_of_writeReg (fun _ => rfl) fun s => ?_⟩
  · rw [absDifferences_eq]
  · rw [absDifferences_eq]
  · have hge (k : Nat) (hk : k < 4) : (geBits s.cpsr).getLsbD k = bit s.cpsr (16 + k) := by
      simp [geBits, bits, bit, hk]
    rw [selectBytes, mergeBits_byteMask, hge 0 (by decide), hge 1 (by decide), hge 2 (by decide), hge 3 (by decide)]
  · rfl
  · have hasr : (shiftedBy (s.reg rm) .asr n false).1 = (s.reg rm).sshiftRight (if n = 0#5 then 32 else n.toNat) :=
      shiftC_asr_fst ..
    rw [hasr]
    rfl
  · rfl
  · rfl
  · rfl

end

section
/-! Instructions whose condition fails, and the values of reset. -/

namespace Sys2Proof.Machine

open Sys2Proof

/-- Each instruction with a condition asks it before anything else; the hints alone go on in either case. -/
theorem exec_of_failed {i : Instr} {c : Cond} {s : State} (hi : i.condition = some c) (h : condHolds c s.cpsr = false) :
    ∃ b, exec i s = .next (s.skip b) := by
  have hnop : finish (.ok s.advance) = .next (s.skip false) := by simp [State.skip, finish]
  cases i <;> cases hi
  case nop.refl => exact ⟨false, hnop⟩
  case msrImm.refl rBit fieldMask rot imm8 =>
    by_cases hint : (!rBit && fieldMask == 0#4) = true
    · exact ⟨false, (if_pos hint).trans hnop⟩
    · exact ⟨false, (if_neg hint).trans (congrArg finish (conditional_fail h))⟩
  all_goals exact ⟨_, congrArg finish (conditional_fail h)⟩

theorem State.skip_of_halted {s : State} (h : s.halted = true) (b : Bool) :
    ∃ k : DebugPc, s.skip b = { s with dbg := { s.dbg with pcKnown := k } } := by
  cases b with
  | true => exact ⟨.unknown, by simp [State.skip, h]⟩
  | false => exact ⟨s.dbg.pcKnown, by simp [State.skip, State.advance, h]⟩

theorem condHolds_codes (psr : Word) :
    let holds (code : BitVec 4) : Bool := condHolds (Cond.ofBits code) psr
    let n := bit psr 31
    let z := bit psr 30
    let c := bit psr 29
    let v := bit psr 28
    (holds 0b0000#4 = true ↔ z = true) ∧ (holds 0b0001#4 = true ↔ z = false) ∧ (holds 0b0010#4 = true ↔ c = true) ∧
    (holds 0b0011#4 = true ↔ c = false) ∧ (holds 0b0100#4 = true ↔ n = true) ∧ (holds 0b0101#4 = true ↔ n = false) ∧
    (holds 0b0110#4 = true ↔ v = true) ∧ (holds 0b0111#4 = true ↔ v = false) ∧
    (holds 0b1000#4 = true ↔ c = true ∧ z = false) ∧ (holds 0b1001#4 = true ↔ c = false ∨ z = true) ∧
    (holds 0b1010#4 = true ↔ n = v) ∧ (holds 0b1011#4 = true ↔ n ≠ v) ∧
    (holds 0b1100#4 = true ↔ z = false ∧ n = v) ∧ (holds 0b1101#4 = true ↔ z = true ∨ n ≠ v) ∧ holds 0b1110#4 = true := by
  have hcodes (n z c v : Bool) : (z = true ↔ z = true) ∧ ((!z) = true ↔ z = false) ∧ (c = true ↔ c = true) ∧
      ((!c) = true ↔ c = false) ∧ (n = true ↔ n = true) ∧ ((!n) = true ↔ n = false) ∧ (v = true ↔ v = true) ∧
      ((!v) = true ↔ v = false) ∧ ((c && !z) = true ↔ c = true ∧ z = false) ∧ ((!c || z) = true ↔ c = false ∨ z = true) ∧
      ((n == v) = true ↔ n = v) ∧ ((n != v) = true ↔ n ≠ v) ∧ ((!z && n == v) = true ↔ z = false ∧ n = v) ∧
      ((z || n != v) = true ↔ z = true ∨ n ≠ v) ∧ true = true := by
    revert n z c v
    decide
  exact hcodes ..

end Sys2Proof.Machine

open Sys2Proof Sys2Proof.Machine

/-- Settles O7: the reset state is one value. -/
theorem resetValuesOfTheSpec : Obligations.ResetValuesOfTheSpec := by
  unfold Obligations.ResetValuesOfTheSpec State.wf cleanPsr
  decide +kernel

/-- Settles O14: the table of the codes, and the condition that every conditional instruction asks first. -/
theorem failedConditionOnlyAdvances : Obligations.FailedConditionOnlyAdvances := by
  refine ⟨condHolds_codes, fun i c s hi hc => ?_⟩
  obtain ⟨b, hexec⟩ := exec_of_failed hi hc
  rw [hexec]
  refine ⟨fun h => by rw [State.skip_of_running h], fun h => ?_⟩
  obtain ⟨k, hk⟩ := State.skip_of_halted h b
  exact ⟨k, by rw [hk]⟩

end

section
/-! The Thumb instructions that compute in registers (48), over the operations of the ARM instructions they equal. -/

namespace Sys2Proof.Machine

open Sys2Proof

theorem highReg_eq (h : Bool) (r : LowReg) : highReg h r = BitVec.ofBool h ++ r := by
  revert h r
  decide

theorem lowReg_ne_pc (r : LowReg) : lowReg r ≠ 15#4 := by
  revert r
  decide

theorem words_eq {n : Nat} (hn : n ≤ 30) (v : BitVec n) : words v = (v ++ 0#2 : BitVec (n + 2)).setWidth 32 := by
  have hv : v.toNat < 2 ^ 30 := v.isLt.trans_le (Nat.pow_le_pow_right (by decide) hn)
  refine BitVec.eq_of_toNat_eq ?_
  rw [words, zext, BitVec.toNat_shiftLeft, BitVec.toNat_setWidth, BitVec.toNat_setWidth, BitVec.toNat_append]
  simp [Nat.shiftLeft_eq, Nat.mod_eq_of_lt (show v.toNat < 4294967296 by omega)]

/-- A data-processing result with its flags in a low register. -/
theorem thumbResult_of_alu {i : Instr} {rd : LowReg} {op : Alu} {a b : State → Word} {sc : State → Bool}
    (hexec : ∀ s, exec i s = finish (.ok (thumbAlu rd (op.out (a s) (b s) (sc s) s.cpsr) s))) :
    thumbResult i rd (fun s => op.value (a s) (b s) (bit s.cpsr 29)) (fun s => op.flags (a s) (b s) (sc s) s.cpsr) := by
  intro s
  rw [hexec, Alu.out_eq]
  exact congrArg Host.Outcome.next (State.wrote_withCpsr_advance _ _ (op.flags_getLsbD_5 ..))

/-- The flags of a data-processing result alone. -/
theorem thumbFlags_eq (op : Alu) (a b : Word) (sc : Bool) (s : State) :
    thumbFlags (op.out a b sc s.cpsr) s = { s.stepped with cpsr := op.flags a b sc s.cpsr } := by
  rw [thumbFlags, Alu.out_snd, State.withCpsr_advance (op.flags_getLsbD_5 ..)]

/-- A result without flags in a register other than R15. -/
theorem thumbWrite_register {rd : Reg} (h : rd ≠ 15#4) (v : Word) (s : State) : thumbWrite rd v s = s.wrote rd v := by
  rw [thumbWrite, if_neg h, State.setReg_advance]

theorem thumbResult_of_write {i : Instr} {rd : LowReg} {v value : State → Word}
    (hexec : ∀ s, exec i s = finish (.ok (thumbWrite (lowReg rd) (v s) s))) (hv : ∀ s, v s = value s) :
    thumbResult i rd value (·.cpsr) := by
  intro s
  rw [hexec, thumbWrite_register (lowReg_ne_pc rd), hv]
  rfl

theorem exec_tCmpHigh {h1 h2 : Bool} {rm rn : LowReg} (h : h1 = true ∨ h2 = true) (hpc : highReg h1 rn ≠ 15#4) (s : State) :
    exec (.tCmpHigh h1 h2 rm rn) s =
      .next (thumbFlags (Alu.sub.out (s.reg (highReg h1 rn)) (s.reg (highReg h2 rm)) (bit s.cpsr 29) s.cpsr) s) := by
  change execTCmpHigh h1 h2 rm rn s = _
  rw [execTCmpHigh, refuseIf_pass (by rcases h with rfl | rfl <;> simp [hpc])]
  rfl

theorem exec_tCmpHigh_refused {h1 h2 : Bool} {rm rn : LowReg} (h : (h1 = false ∧ h2 = false) ∨ highReg h1 rn = 15#4) (s : State) :
    exec (.tCmpHigh h1 h2 rm rn) s = .refused .registerField := by
  change execTCmpHigh h1 h2 rm rn s = _
  rw [execTCmpHigh, refuseIf_stop (by rcases h with ⟨rfl, rfl⟩ | h <;> simp [*])]
  rfl

theorem State.reg_pc (s : State) : s.reg 15#4 = s.readPc := if_pos rfl

end Sys2Proof.Machine

open Sys2Proof Sys2Proof.Machine

/-- Settles O58: the operations of the ARM instructions, into low registers. -/
theorem thumbRegisterResults : Obligations.ThumbRegisterResults := by
  intro rd rn rm h1 h2 imm3 imm5 imm7 imm8 r w3 w8 z alu shift compare amount plain d m high sp
  have halu {i : Instr} {op : Alu} {a b : State → Word}
      (hexec : ∀ s, exec i s = finish (.ok (thumbAlu rd (op.out (a s) (b s) (bit s.cpsr 29) s.cpsr) s))) : alu i op a b :=
    thumbResult_of_alu hexec
  have hshift {i : Instr} {x : State → Word × Bool} (hexec : ∀ s, exec i s = finish (.ok (thumbShift rd (x s) s))) : shift i x :=
    thumbResult_of_alu (op := .mov) hexec
  have hcompare {i : Instr} {op : Alu} {a b : State → Word}
      (hexec : ∀ s, exec i s = finish (.ok (thumbFlags (op.out (a s) (b s) (bit s.cpsr 29) s.cpsr) s))) : compare i op a b :=
    fun s => by rw [hexec, thumbFlags_eq]; rfl
  have hamount (s : State) : thumbAmount s rm = amount s := by
    simp [thumbAmount, bits, BitVec.extractLsb'_toNat, amount, low, r]
  have hhigh {i : Instr} {v : State → Word} (hexec : ∀ s, exec i s = finish (.ok (thumbWrite d (v s) s))) : high i v := by
    refine fun s => ⟨fun h => by rw [hexec, thumbWrite_register h]; rfl, fun h hrun => ?_⟩
    rw [hexec, thumbWrite, if_pos h, State.branch, hrun, ← align2_eq]
    rfl
  have hsp {i : Instr} {v value : State → Word} (hexec : ∀ s, exec i s = finish (.ok (thumbWrite 13#4 (v s) s)))
      (hv : ∀ s, v s = value s) : sp i value := fun s => by
    rw [hexec, thumbWrite_register (by decide), hv]; rfl
  have hd : highReg h1 rd = d := highReg_eq ..
  have hm : highReg h2 rm = m := highReg_eq ..
  refine ⟨hshift fun _ => rfl, hshift fun _ => rfl, hshift fun _ => rfl, hshift fun s => ?_, hshift fun s => ?_, hshift fun s => ?_,
    hshift fun s => ?_, halu fun _ => rfl, halu fun _ => rfl, halu fun _ => rfl, halu fun _ => rfl, halu fun _ => rfl,
    halu fun _ => rfl, halu fun _ => rfl, halu fun _ => rfl, halu fun _ => rfl, halu fun _ => rfl, halu fun _ => rfl,
    halu fun _ => rfl, halu fun _ => rfl, halu fun _ => rfl, halu fun _ => rfl, halu fun _ => rfl, fun s => ?_,
    hcompare fun _ => rfl, hcompare fun _ => rfl, hcompare fun _ => rfl, hcompare fun _ => rfl, fun h s => ?_, fun h hpc => ?_,
    hhigh fun s => ?_, hhigh fun s => ?_, thumbResult_of_write (fun _ => rfl) fun s => ?_,
    thumbResult_of_write (fun _ => rfl) fun s => ?_, hsp (fun _ => rfl) fun s => ?_, hsp (fun _ => rfl) fun s => ?_,
    thumbResult_of_write (fun _ => rfl) fun _ => rfl, thumbResult_of_write (fun _ => rfl) fun _ => rfl,
    thumbResult_of_write (fun _ => rfl) fun _ => rfl, thumbResult_of_write (fun _ => rfl) fun _ => rfl,
    thumbResult_of_write (fun _ => rfl) fun _ => rfl, thumbResult_of_write (fun _ => rfl) fun _ => rfl,
    thumbResult_of_write (fun _ => rfl) fun _ => rfl⟩
  · rw [← hamount]
    rfl
  · rw [← hamount]
    rfl
  · rw [← hamount]
    rfl
  · rw [← hamount]
    rfl
  · change finish (.ok (thumbAlu rd (r rm s * r rd s, setNZ s.cpsr (r rm s * r rd s)) s)) = _
    rw [setNZ_eq_withNZ]
    exact congrArg Host.Outcome.next (State.wrote_withCpsr_advance _ _ (getLsbD_withNZ_5 ..))
  · exact exec_tCmpHigh_refused (hd ▸ h) s
  · exact fun s => by rw [exec_tCmpHigh h (hd ▸ hpc), thumbFlags_eq, hd, hm]
  · rw [← hd, ← hm]
    rfl
  · rw [← hd, ← hm]
    rfl
  · rw [thumbPc, words_eq (by decide), align4_eq, State.reg_pc]
  · rw [words_eq (by decide)]
  · rw [words_eq (by decide)]
  · rw [words_eq (by decide)]

end

section
/-! The branches (46), and the status register instructions (45). -/

namespace Sys2Proof.Machine

open Sys2Proof

/-! ### Branching -/

theorem setBit_of_bit {w : Word} {i : Nat} {b : Bool} (hi : i < 32) (h : bit w i = b) : setBit w i b = w := by
  refine BitVec.eq_of_getLsbD_eq fun j _ => ?_
  rw [getLsbD_setBit _ _ _ hi]
  split
  · next hj => rw [hj, ← h, bit]
  · rfl

theorem align2_of_even {v : Word} (h : bit v 0 = false) : align2 v = v := by
  refine BitVec.eq_of_getLsbD_eq fun j hj => ?_
  rcases Nat.eq_zero_or_pos j with rfl | hpos
  · simpa [align2, bit] using h.symm
  · have hmask : (0xFFFFFFFE#32).getLsbD j = true := by interval_cases j <;> rfl
    simp [align2, hmask]

/-- A branch to an odd address goes on in Thumb state. -/
theorem bxWritePc_thumb {s : State} {v : Word} (hrun : s.halted = false) (h : bit v 0 = true) :
    bxWritePc s v = .ok { s with cpsr := s.cpsr ||| 0x20#32, pc := v.extractLsb' 1 31 ++ 0#1 } := by
  have hrun' : (s.setThumb true).halted = false := hrun
  rw [bxWritePc, h, State.branch_of_running hrun', align2_eq]
  rfl

/-- A branch to a word address goes on in ARM state. -/
theorem bxWritePc_arm {s : State} {v : Word} (hrun : s.halted = false) (h0 : bit v 0 = false) (h1 : bit v 1 = false) :
    bxWritePc s v = .ok { s with cpsr := setBit s.cpsr 5 false, pc := v } := by
  have hrun' : (s.setThumb false).halted = false := hrun
  rw [bxWritePc, h0, h1, State.branch_of_running hrun', align2_of_even h0]
  rfl

theorem bxWritePc_refused {v : Word} (h0 : bit v 0 = false) (h1 : bit v 1 = true) (s : State) :
    bxWritePc s v = .error (.refuse .branchTarget) := by
  rw [bxWritePc, h0, h1]
  rfl

/-- An offset in larger units. -/
theorem sext_shiftLeft {n : Nat} (k : Nat) (hk : n + k ≤ 32) (off : BitVec n) :
    sext off <<< k = (off ++ 0#k : BitVec (n + k)).signExtend 32 := by
  have hmsb : (off ++ 0#k).msb = off.msb := by
    rw [BitVec.msb_append]
    split
    · next h => subst h; simp [BitVec.of_length_zero]
    · rfl
  refine BitVec.eq_of_getLsbD_eq fun j hj => ?_
  rw [sext, BitVec.getLsbD_shiftLeft, BitVec.getLsbD_signExtend, BitVec.getLsbD_signExtend, BitVec.getLsbD_append, hmsb]
  by_cases hjk : j < k
  · simp [hjk, hj, show j < n + k by omega]
  · simp only [hjk, hj, show j - k < 32 by omega, show (j - k < n) = (j < n + k) by simp; omega, decide_true, decide_false,
      Bool.true_and, Bool.not_false, Bool.false_and, if_false]

end Sys2Proof.Machine

open Sys2Proof Sys2Proof.Machine

/-- Settles O40: the targets, the link and the new T of each branch. -/
theorem branchResults : Obligations.BranchResults := by
  intro c h off rm s hc hrun hthumb target linked v
  have hread : s.readPc = s.pc + 8#32 := by rw [State.readPc, hrun, hthumb]; rfl
  have hnext : s.nextPc = s.pc + 4#32 := by rw [State.nextPc, hrun, hthumb]; rfl
  have htarget : branchTarget24 s off = target := by
    rw [branchTarget24, hread, sext_shiftLeft 2 (by decide)]
  have harm : setBit s.cpsr 5 false = s.cpsr := setBit_of_bit (by decide) hthumb
  have hbranch (a : Word) : ({ s with regs := linked } : State).branch a = { s with regs := linked, pc := a } :=
    State.branch_of_running (s := { s with regs := linked }) hrun a
  have hlink : s.setReg 14#4 (s.pc + 4#32) = { s with regs := linked } := rfl
  have hbx : exec (.bx c rm) s = finish (bxWritePc s v) := congrArg finish (conditional_pass hc)
  have hbxj : exec (.bxj c rm) s = finish (bxWritePc s v) := congrArg finish (conditional_pass hc)
  have hblx (hrm : rm ≠ 15#4) : exec (.blx2 c rm) s = finish (bxWritePc { s with regs := linked } v) := by
    change execBlx2 c rm s = _
    rw [execBlx2, conditional_pass hc, noPc_pass (by simpa using hrm.symm), hnext, hlink]
    rfl
  refine ⟨?_, ?_, ?_, fun h0 => ?_, fun h0 h1 => ?_, fun h0 h1 => ?_, ?_⟩
  · change execB c off s = _
    rw [execB, conditional_pass hc, State.branch_of_running hrun, htarget]
    rfl
  · change execBl c off s = _
    rw [execBl, conditional_pass hc, hnext, hlink]
    rw [hbranch, htarget]
    rfl
  · change execBlx1 h off s = _
    have hhalf : ofBit h <<< 1 = if h then 2#32 else 0#32 := by cases h <;> rfl
    rw [execBlx1, hnext, hlink, htarget, hhalf]
    exact congrArg Host.Outcome.next
      (State.branch_of_running (s := ({ s with regs := linked } : State).setThumb true) hrun (target + if h then 2#32 else 0#32))
  · rw [hbx, hbxj, bxWritePc_thumb hrun h0]
    exact ⟨rfl, rfl, fun hrm => by rw [hblx hrm, bxWritePc_thumb (s := { s with regs := linked }) hrun h0]; rfl⟩
  · rw [hbx, hbxj, bxWritePc_arm hrun h0 h1, harm]
    refine ⟨rfl, rfl, fun hrm => ?_⟩
    rw [hblx hrm, bxWritePc_arm (s := { s with regs := linked }) hrun h0 h1]
    exact congrArg (fun p => Host.Outcome.next { s with regs := linked, pc := v, cpsr := p }) harm
  · rw [hbx, hbxj, bxWritePc_refused h0 h1]
    exact ⟨rfl, rfl, fun hrm => by rw [hblx hrm, bxWritePc_refused h0 h1]; rfl⟩
  · change execBlx2 c 15#4 s = _
    rw [execBlx2, conditional_pass hc, noPc_stop (by decide)]
    rfl

end

section
/-! The status register instructions (45): which bits of the CPSR an instruction writes in a mode and a world. -/

namespace Sys2Proof.Machine

open Sys2Proof

/-! ### Masks and merges -/

theorem getLsbD_merged (a v m : Word) {j : Nat} (hj : j < 32) :
    (merged a v m).getLsbD j = if m.getLsbD j then v.getLsbD j else a.getLsbD j := by
  simp only [merged, BitVec.getLsbD_or, BitVec.getLsbD_and, BitVec.getLsbD_not, hj, decide_true, Bool.true_and]
  cases m.getLsbD j <;> simp

/-- A merge depends on the mask only where the two words differ. -/
theorem merged_congr {a v m m' : Word} (h : ∀ j < 32, a.getLsbD j = v.getLsbD j ∨ m.getLsbD j = m'.getLsbD j) :
    merged a v m = merged a v m' := by
  refine BitVec.eq_of_getLsbD_eq fun j hj => ?_
  rw [getLsbD_merged _ _ _ hj, getLsbD_merged _ _ _ hj]
  rcases h j hj with h | h <;> simp [h]

theorem mergeBits_eq_merged (a v m : Word) : mergeBits a v m = merged a v m := rfl

/-- The CPSR bits that MSR and CPS write in a privileged mode, by the bytes selected. -/
def privilegedBits (bytes : BitVec 4) : Word :=
  (if bit bytes 3 then 0xF8000000#32 else 0#32) ||| (if bit bytes 2 then 0x000F0000#32 else 0#32) |||
    (if bit bytes 1 then 0x00000300#32 else 0#32) ||| (if bit bytes 0 then 0x000000DF#32 else 0#32)

/-- Those that MSR writes in User mode. -/
def userBits (bytes : BitVec 4) : Word :=
  (if bit bytes 3 then 0xF8000000#32 else 0#32) ||| (if bit bytes 2 then 0x000F0000#32 else 0#32) |||
    (if bit bytes 1 then 0x00000200#32 else 0#32)

theorem getLsbD_userBits_mode (bytes : BitVec 4) : ∀ j < 5, (userBits bytes).getLsbD j = false := by
  revert bytes
  decide

theorem cpsrWritable_privileged {s : State} (h : s.privileged = true) (v : Word) (bytes : BitVec 4) :
    cpsrWritable s v bytes false = s.statusMask (privilegedBits bytes) v := by
  simp only [cpsrWritable, State.statusMask, h, bits, modeMon, privilegedBits]
  cases s.nsState <;> cases bit s.cp15.scr 5 <;> cases bit s.cp15.scr 4 <;> cases v.extractLsb' 0 5 == 0b10110#5 <;>
    revert bytes <;> decide

theorem cpsrWritable_user {s : State} (h : s.privileged = false) (v : Word) (bytes : BitVec 4) :
    cpsrWritable s v bytes false = userBits bytes := by
  simp only [cpsrWritable, h, bits, modeMon, userBits]
  cases s.nsState <;> cases bit s.cp15.scr 5 <;> cases bit s.cp15.scr 4 <;> cases v.extractLsb' 0 5 == 0b10110#5 <;>
    revert bytes <;> decide

theorem byteMask_eq (bytes : BitVec 4) : byteMask bytes = (if bit bytes 3 then 0xFF000000#32 else 0#32) |||
    (if bit bytes 2 then 0x00FF0000#32 else 0#32) ||| (if bit bytes 1 then 0x0000FF00#32 else 0#32) |||
    (if bit bytes 0 then 0x000000FF#32 else 0#32) := by
  revert bytes
  decide

theorem getLsbD_statusMask_congr {s : State} {m m' v : Word} {j : Nat} (h : m.getLsbD j = m'.getLsbD j) :
    (s.statusMask m v).getLsbD j = (s.statusMask m' v).getLsbD j := by
  unfold State.statusMask
  dsimp only
  split_ifs <;> simp [h]

/-- A mask of an instruction has none of J and T. -/
theorem getLsbD_statusMask_of_false {s : State} {m v : Word} {j : Nat} (h : m.getLsbD j = false) : (s.statusMask m v).getLsbD j = false := by
  unfold State.statusMask
  dsimp only
  split_ifs <;> simp [h]

theorem mode_merged_of_none {a v m : Word} (h : ∀ j < 5, m.getLsbD j = false) :
    (merged a v m).extractLsb' 0 5 = a.extractLsb' 0 5 :=
  BitVec.eq_of_getLsbD_eq fun j hj => by simp [BitVec.getLsbD_extractLsb', hj, getLsbD_merged _ _ _ (show j < 32 by omega), h j hj]

theorem mode_merged_of_all {a v m : Word} (h : ∀ j < 5, m.getLsbD j = true) :
    (merged a v m).extractLsb' 0 5 = v.extractLsb' 0 5 :=
  BitVec.eq_of_getLsbD_eq fun j hj => by simp [BitVec.getLsbD_extractLsb', hj, getLsbD_merged _ _ _ (show j < 32 by omega), h j hj]

/-- A mask of the world has all of M or none of it. -/
theorem mode_merged_statusMask {s : State} {a v m : Word} (h : ∀ j < 5, m.getLsbD j = true) :
    (merged a v (s.statusMask m v)).extractLsb' 0 5 = v.extractLsb' 0 5 ∨
      (merged a v (s.statusMask m v)).extractLsb' 0 5 = a.extractLsb' 0 5 := by
  have hand {w k : Word} {j : Nat} (hj : j < 5) (hk : ∀ j < 5, (~~~k).getLsbD j = true) : (w &&& ~~~k).getLsbD j = w.getLsbD j := by
    rw [BitVec.getLsbD_and, hk j hj, Bool.and_true]
  have h100 : ∀ j < 5, (~~~0x100#32).getLsbD j = true := by decide
  have h40 : ∀ j < 5, (~~~0x40#32).getLsbD j = true := by decide
  have hlow : ∀ j < 5, (~~~0x1F#32).getLsbD j = false := by decide
  by_cases hmon : (s.nsState && v.extractLsb' 0 5 == 0b10110#5) = true
  · refine .inr (mode_merged_of_none fun j hj => ?_)
    rw [State.statusMask]
    rw [if_pos hmon, BitVec.getLsbD_and, hlow j hj, Bool.and_false]
  · refine .inl (mode_merged_of_all fun j hj => ?_)
    rw [State.statusMask]
    rw [if_neg hmon]
    split_ifs <;> simp only [hand hj h100, hand hj h40, h j hj]

/-! ### Writing the CPSR -/

/-- A write that keeps J and T, and goes on. -/
theorem State.withCpsrOldFetch_advance {s : State} {p : Word} (old : List OldFetch) (h : p.getLsbD 5 = s.cpsr.getLsbD 5) :
    ({ s with cpsr := p, oldFetch := old } : State).advance = { s.stepped with cpsr := p, oldFetch := old } :=
  State.withCpsr_advance (s := { s with oldFetch := old }) h

/-- A write that leaves the mode as it was changes the CPSR alone. -/
theorem cpsrWriteByInstr_sameMode {s : State} {v : Word} {bytes : BitVec 4} {r : Bool} (hmode : validMode s.mode = true)
    (h : (merged s.cpsr v (cpsrWritable s v bytes r)).extractLsb' 0 5 = s.mode) :
    cpsrWriteByInstr s v bytes r = .ok { s with cpsr := merged s.cpsr v (cpsrWritable s v bytes r) } := by
  have hvalid : validMode (bits (mergeBits s.cpsr v (cpsrWritable s v bytes r)) 0 5) = true := by
    rw [← hmode, ← h]
    rfl
  have hsame : ({ s with cpsr := merged s.cpsr v (cpsrWritable s v bytes r) } : State).mode = s.mode := h
  rw [cpsrWriteByInstr, if_pos hvalid]
  refine congrArg Except.ok (if_pos ?_)
  rw [Bool.and_eq_true, beq_iff_eq, beq_iff_eq]
  exact ⟨congrArg (· != modeUsr) hsame, congrArg (s.cp15.nonSecureIn ·) hsame⟩

theorem cpsrWriteByInstr_refused {s : State} {v : Word} {bytes : BitVec 4} {r : Bool}
    (h : validMode ((merged s.cpsr v (cpsrWritable s v bytes r)).extractLsb' 0 5) = false) :
    cpsrWriteByInstr s v bytes r = .error (.refuse .reservedMode) := by
  have hinvalid : ¬ validMode (bits (mergeBits s.cpsr v (cpsrWritable s v bytes r)) 0 5) = true := by
    rw [Bool.not_eq_true, ← h]
    rfl
  rw [cpsrWriteByInstr, if_neg hinvalid]

theorem cpsrWriteByInstr_valid {s : State} {v : Word} {bytes : BitVec 4} {r : Bool}
    (h : validMode ((merged s.cpsr v (cpsrWritable s v bytes r)).extractLsb' 0 5) = true) :
    ∃ old, cpsrWriteByInstr s v bytes r = .ok { s with cpsr := merged s.cpsr v (cpsrWritable s v bytes r), oldFetch := old } := by
  have hvalid : validMode (bits (mergeBits s.cpsr v (cpsrWritable s v bytes r)) 0 5) = true := h
  obtain ⟨t, ht⟩ : ∃ t, cpsrWriteByInstr s v bytes r = .ok t := ⟨_, by rw [cpsrWriteByInstr, if_pos hvalid]⟩
  obtain ⟨-, hcpsr, hrest⟩ := cpsrWriteByInstr_ok ht
  exact ⟨t.oldFetch, by rw [ht, hrest, hcpsr]; rfl⟩

theorem getLsbD_cpsrWritable_5 (s : State) (v : Word) (bytes : BitVec 4) : (cpsrWritable s v bytes false).getLsbD 5 = false := by
  cases h : s.privileged with
  | true =>
    rw [cpsrWritable_privileged h]
    exact getLsbD_statusMask_of_false (by revert bytes; decide)
  | false =>
    rw [cpsrWritable_user h]
    revert bytes
    decide

theorem getLsbD_merged_cpsrWritable_5 (s : State) (v : Word) (bytes : BitVec 4) :
    (merged s.cpsr v (cpsrWritable s v bytes false)).getLsbD 5 = s.cpsr.getLsbD 5 := by
  rw [getLsbD_merged _ _ _ (by decide), getLsbD_cpsrWritable_5]
  rfl

/-- Writing the CPSR and going on, where the mode stays. -/
theorem cpsrWrite_goesOn_sameMode {s : State} {v : Word} {bytes : BitVec 4} (hmode : validMode s.mode = true)
    (h : (merged s.cpsr v (cpsrWritable s v bytes false)).extractLsb' 0 5 = s.mode) :
    (do let s ← cpsrWriteByInstr s v bytes false; pure s.advance : Result State) =
      .ok { s.stepped with cpsr := merged s.cpsr v (cpsrWritable s v bytes false) } := by
  rw [cpsrWriteByInstr_sameMode hmode h, ← State.withCpsr_advance (getLsbD_merged_cpsrWritable_5 ..)]
  rfl

/-- Writing the CPSR and going on, in the mode that is then valid. -/
theorem cpsrWrite_goesOn {s : State} {v : Word} {bytes : BitVec 4}
    (h : validMode ((merged s.cpsr v (cpsrWritable s v bytes false)).extractLsb' 0 5) = true) :
    ∃ old, (do let s ← cpsrWriteByInstr s v bytes false; pure s.advance : Result State) =
      .ok { s.stepped with cpsr := merged s.cpsr v (cpsrWritable s v bytes false), oldFetch := old } := by
  obtain ⟨old, hwrite⟩ := cpsrWriteByInstr_valid h
  refine ⟨old, ?_⟩
  rw [hwrite, ← State.withCpsrOldFetch_advance old (getLsbD_merged_cpsrWritable_5 ..)]
  rfl

theorem State.afterMsr_of_running {s : State} (h : s.halted = false) : s.afterMsr = s.stepped := by
  rw [State.afterMsr, h, ← State.advance_eq_stepped]
  rfl

/-- MSR of the CPSR outside Debug state. -/
theorem writeStatus_cpsr {s : State} (h : s.halted = false) (bytes : BitVec 4) (v : Word) :
    writeStatus false bytes v s = (do let s ← cpsrWriteByInstr s v bytes false; pure s.advance) := by
  rw [writeStatus, h]
  rfl

/-- MSR of the SPSR outside Debug state. -/
theorem writeStatus_spsr {s : State} {k : Fin 6} (h : s.halted = false) (hk : spsrIndex s.mode = some k) (bytes : BitVec 4) (v : Word) :
    writeStatus true bytes v s =
      .ok { s.stepped with spsrs := s.spsrs.set k (merged s.spsrs[k] v (byteMask bytes) &&& psrMask) } := by
  have hspsr : s.spsr = .ok s.spsrs[k] := by rw [State.spsr, hk]
  have hset (w : Word) : s.setSpsrIn s.mode w = { s with spsrs := s.spsrs.set k (w &&& psrMask) } := by rw [State.setSpsrIn, hk]
  change (do let saved ← s.spsr; pure (s.setSpsrIn s.mode (mergeBits saved v (byteMask bytes))).afterMsr) = _
  rw [hspsr]
  refine congrArg Except.ok ?_
  rw [hset]
  exact State.afterMsr_of_running (s := { s with spsrs := s.spsrs.set k (mergeBits s.spsrs[k] v (byteMask bytes) &&& psrMask) }) h

theorem writeStatus_noSpsr {s : State} (hk : spsrIndex s.mode = none) (bytes : BitVec 4) (v : Word) :
    writeStatus true bytes v s = .error (.refuse .noSpsr) := by
  have hspsr : s.spsr = .error (.refuse .noSpsr) := by rw [State.spsr, hk]
  change (do let saved ← s.spsr; _) = _
  rw [hspsr]
  rfl

/-- The value that CPS writes: the masks selected, set or cleared. -/
theorem maskedCpsr_eq (psr : Word) (a i f value : Bool) :
    let masks : Word := (if a then 0x100#32 else 0#32) ||| (if i then 0x80#32 else 0#32) ||| (if f then 0x40#32 else 0#32)
    maskedCpsr psr a i f value = if value then psr ||| masks else psr &&& ~~~masks := by
  intro masks
  refine BitVec.eq_of_getLsbD_eq fun j hj => ?_
  have hset (w : Word) (k : Nat) (c : Bool) (hk : k < 32) :
      (if c then setBit w k value else w).getLsbD j = if c = true ∧ j = k then value else w.getLsbD j := by
    cases c <;> simp [getLsbD_setBit _ _ _ hk]
  have hmask (k : Nat) (c : Bool) : (if c then BitVec.twoPow 32 k else 0#32).getLsbD j = decide (c = true ∧ j = k) := by
    cases c <;> simp [hj, eq_comm]
  have hmasks : masks.getLsbD j = decide ((a = true ∧ j = 8) ∨ (i = true ∧ j = 7) ∨ (f = true ∧ j = 6)) := by
    change ((if a then BitVec.twoPow 32 8 else 0#32) ||| (if i then BitVec.twoPow 32 7 else 0#32) |||
      (if f then BitVec.twoPow 32 6 else 0#32)).getLsbD j = _
    rw [BitVec.getLsbD_or, BitVec.getLsbD_or, hmask, hmask, hmask]
    simp [Bool.or_assoc]
  rw [maskedCpsr, hset _ _ _ (by decide), hset _ _ _ (by decide), hset _ _ _ (by decide)]
  cases value with
  | true =>
    rw [if_pos rfl, BitVec.getLsbD_or, hmasks]
    grind
  | false =>
    change _ = (psr &&& ~~~masks).getLsbD j
    rw [BitVec.getLsbD_and, BitVec.getLsbD_not, hmasks]
    grind

/-- MSR of the CPSR with either operand. -/
theorem exec_msr_cpsr {c : Cond} {s : State} {bytes rot : BitVec 4} {imm8 : BitVec 8} {rm : Reg} {i : Instr} {v : Word}
    (hc : condHolds c s.cpsr = true) (hrun : s.halted = false) (hmode : validMode s.mode = true)
    (hi : (i = .msrReg c false bytes rm ∧ rm ≠ 15#4 ∧ v = s.reg rm) ∨
      (i = .msrImm c false bytes rot imm8 ∧ v = (imm8.setWidth 32).rotateRight (2 * rot.toNat))) :
    exec i s = finish (do let s ← cpsrWriteByInstr s v bytes false; pure s.advance) := by
  rcases hi with ⟨rfl, hrm, rfl⟩ | ⟨rfl, rfl⟩
  · change execMsrReg c false bytes rm s = _
    rw [execMsrReg, conditional_pass hc, noPc_pass (by simpa using hrm.symm), ← writeStatus_cpsr hrun]
    rfl
  · change execMsrImm c false bytes rot imm8 s = _
    by_cases hhint : bytes = 0#4
    · subst hhint
      have hnone : cpsrWritable s ((imm8.setWidth 32).rotateRight (2 * rot.toNat)) 0#4 false = 0#32 := by
        cases h : s.privileged with
        | true => rw [cpsrWritable_privileged h]; simp [State.statusMask, privilegedBits, bit]
        | false => rw [cpsrWritable_user h]; simp [userBits, bit]
      have hsame (v : Word) : merged s.cpsr v 0#32 = s.cpsr :=
        BitVec.eq_of_getLsbD_eq fun j hj => by rw [getLsbD_merged _ _ _ hj]; simp
      rw [cpsrWrite_goesOn_sameMode hmode (by rw [hnone, hsame]; rfl), hnone, hsame, execMsrImm, State.advance_eq_stepped]
      rfl
    · rw [execMsrImm, if_neg (by simpa using hhint), conditional_pass hc, writeStatus_cpsr hrun]
      rfl

theorem exec_msr_spsr {c : Cond} {s : State} {bytes rot : BitVec 4} {imm8 : BitVec 8} {rm : Reg} {i : Instr} {v : Word}
    (hc : condHolds c s.cpsr = true)
    (hi : (i = .msrReg c true bytes rm ∧ rm ≠ 15#4 ∧ v = s.reg rm) ∨
      (i = .msrImm c true bytes rot imm8 ∧ v = (imm8.setWidth 32).rotateRight (2 * rot.toNat))) :
    exec i s = finish (writeStatus true bytes v s) := by
  rcases hi with ⟨rfl, hrm, rfl⟩ | ⟨rfl, rfl⟩
  · change execMsrReg c true bytes rm s = _
    rw [execMsrReg, conditional_pass hc, noPc_pass (by simpa using hrm.symm)]
    rfl
  · exact congrArg finish (conditional_pass hc)

theorem changeProcessorState_user {s : State} (h : s.privileged = false) (v : Word) :
    changeProcessorState v s = .ok s.stepped := by
  rw [changeProcessorState, h, ← State.advance_eq_stepped]
  rfl

theorem changeProcessorState_privileged {s : State} (h : s.privileged = true) (v : Word) :
    changeProcessorState v s = (do let s ← cpsrWriteByInstr s v 0b0011#4 false; pure s.advance) := by
  rw [changeProcessorState, h]
  rfl

/-- The bits that CPS writes of a value, where the value differs from the CPSR in the bits of `m` alone. -/
theorem merged_cps {s : State} {v m : Word} (hp : s.privileged = true)
    (hm : ∀ j < 32, s.cpsr.getLsbD j = v.getLsbD j ∨ (0x3DF#32).getLsbD j = m.getLsbD j) :
    merged s.cpsr v (cpsrWritable s v 0b0011#4 false) = merged s.cpsr v (s.statusMask m v) := by
  rw [cpsrWritable_privileged hp]
  exact merged_congr fun j hj => (hm j hj).imp_right fun h => getLsbD_statusMask_congr h

/-- CPS that changes the mode, in a privileged mode. -/
theorem changeProcessorState_mode {s : State} {v m : Word} (hp : s.privileged = true) (hvalid : validMode s.mode = true)
    (hm : ∀ j < 32, s.cpsr.getLsbD j = v.getLsbD j ∨ (0x3DF#32).getLsbD j = m.getLsbD j)
    (hv : validMode (v.extractLsb' 0 5) = true) :
    ∃ old, changeProcessorState v s =
      .ok { s.stepped with cpsr := merged s.cpsr v (s.statusMask m v), oldFetch := old } := by
  have hafter : validMode ((merged s.cpsr v (cpsrWritable s v 0b0011#4 false)).extractLsb' 0 5) = true := by
    rw [cpsrWritable_privileged hp]
    rcases mode_merged_statusMask (s := s) (a := s.cpsr) (v := v) (m := privilegedBits 0b0011#4) (by decide) with h | h
    · rwa [h]
    · rw [h]
      exact hvalid
  obtain ⟨old, hwrite⟩ := cpsrWrite_goesOn hafter
  exact ⟨old, by rw [changeProcessorState_privileged hp, hwrite, merged_cps hp hm]⟩

/-- CPS that keeps the mode, in a privileged mode. -/
theorem changeProcessorState_sameMode {s : State} {v m : Word} (hp : s.privileged = true) (hvalid : validMode s.mode = true)
    (hm : ∀ j < 32, s.cpsr.getLsbD j = v.getLsbD j ∨ (0x3DF#32).getLsbD j = m.getLsbD j) (hv : v.extractLsb' 0 5 = s.mode) :
    changeProcessorState v s = .ok { s.stepped with cpsr := merged s.cpsr v (s.statusMask m v) } := by
  have hafter : (merged s.cpsr v (cpsrWritable s v 0b0011#4 false)).extractLsb' 0 5 = s.mode := by
    rw [cpsrWritable_privileged hp]
    rcases mode_merged_statusMask (s := s) (a := s.cpsr) (v := v) (m := privilegedBits 0b0011#4) (by decide) with h | h
    · rw [h, hv]
    · rw [h]
      rfl
  rw [changeProcessorState_privileged hp, cpsrWrite_goesOn_sameMode hvalid hafter, merged_cps hp hm]

theorem getLsbD_setBits {n : Nat} (w : Word) (lo : Nat) (v : BitVec n) (hn : n ≤ 32) {j : Nat} (hj : j < 32) :
    (setBits w lo v).getLsbD j = if lo ≤ j ∧ j < lo + n then v.getLsbD (j - lo) else w.getLsbD j := by
  simp only [setBits, BitVec.getLsbD_or, BitVec.getLsbD_and, BitVec.getLsbD_not, BitVec.getLsbD_shiftLeft, BitVec.getLsbD_setWidth,
    BitVec.getLsbD_allOnes, hj, decide_true, Bool.true_and]
  by_cases h : lo ≤ j
  · by_cases h' : j < lo + n
    · simp [h, h', show j - lo < 32 by omega, show j - lo < n by omega, show ¬ j < lo by omega]
    · simp [h, h', show j - lo < 32 by omega, show ¬ j - lo < n by omega, show ¬ j < lo by omega,
        BitVec.getLsbD_of_ge v (j - lo) (by omega)]
  · simp [h, show j < lo by omega]
theorem setBits_mode (v : Word) (mode : BitVec 5) : setBits v 0 mode = v.extractLsb' 5 27 ++ mode := by
  refine BitVec.eq_of_getLsbD_eq fun j hj => ?_
  refine Eq.trans ?_ (BitVec.getLsbD_append (x := v.extractLsb' 5 27) (y := mode)).symm
  rw [getLsbD_setBits v 0 mode (by decide) hj, BitVec.getLsbD_extractLsb']
  by_cases h5 : j < 5
  · simp [h5]
  · simp [h5, show 5 + (j - 5) = j by omega, show j - 5 < 27 by omega]

theorem getLsbD_maskedCpsr_of_ne {psr : Word} {a i f value : Bool} {j : Nat} (h6 : j ≠ 6) (h7 : j ≠ 7) (h8 : j ≠ 8) :
    (maskedCpsr psr a i f value).getLsbD j = psr.getLsbD j := by
  unfold maskedCpsr
  dsimp only
  split_ifs <;> simp [getLsbD_setBit, h6, h7, h8]

/-- The value of CPS with a mode differs from the CPSR in masks and mode alone. -/
theorem cps_mode_differs {psr v m : Word} (mode : BitVec 5) (hv : ∀ j < 32, (0x3DF#32).getLsbD j = m.getLsbD j ∨ 5 ≤ j ∧ psr.getLsbD j = v.getLsbD j) :
    ∀ j < 32, psr.getLsbD j = (setBits v 0 mode).getLsbD j ∨ (0x3DF#32).getLsbD j = m.getLsbD j := by
  intro j hj
  rcases hv j hj with h | ⟨h5, h⟩
  · exact .inr h
  · exact .inl (by rw [getLsbD_setBits _ _ _ (by decide) hj, if_neg (by omega), h])

theorem mode_setBits (v : Word) (mode : BitVec 5) : (setBits v 0 mode).extractLsb' 0 5 = mode := by
  refine BitVec.eq_of_getLsbD_eq fun j hj => ?_
  rw [BitVec.getLsbD_extractLsb', Nat.zero_add, getLsbD_setBits _ _ _ (by decide) (by omega), if_pos (by omega)]
  simp [hj]

/-- CPS of masks and a mode. -/
theorem exec_cps_masks_mode {mode : BitVec 5} (h : validMode mode = true) (disable a i f : Bool) (s : State) :
    exec (.cps (1#1 ++ BitVec.ofBool disable) true a i f mode) s =
      finish (changeProcessorState (setBits (maskedCpsr s.cpsr a i f disable) 0 mode) s) := by
  change execCps _ true a i f mode s = _
  rw [execCps]
  dsimp only
  rw [refuseIf_pass (by cases disable <;> simp [bit]), refuseIf_pass (by simp [h])]
  cases disable <;> rfl

/-- CPS of masks alone. -/
theorem exec_cps_masks (disable a i f : Bool) (s : State) : exec (.cps (1#1 ++ BitVec.ofBool disable) false a i f 0#5) s =
    finish (changeProcessorState (maskedCpsr s.cpsr a i f disable) s) := by
  change execCps _ false a i f 0#5 s = _
  rw [execCps]
  dsimp only
  rw [refuseIf_pass (by cases disable <;> simp [bit]), refuseIf_pass (by simp)]
  cases disable <;> rfl

/-- CPS of a mode alone. -/
theorem exec_cps_mode {mode : BitVec 5} (h : validMode mode = true) (s : State) :
    exec (.cps 0b00#2 true false false false mode) s = finish (changeProcessorState (setBits s.cpsr 0 mode) s) := by
  change execCps 0b00#2 true false false false mode s = _
  rw [execCps]
  dsimp only
  rw [refuseIf_pass (by simp), refuseIf_pass (by simp [h])]
  rfl

theorem exec_tCps {a i f : Bool} (h : a = true ∨ i = true ∨ f = true) (value : Bool) (s : State) :
    exec (.tCps value a i f) s = finish (changeProcessorState (maskedCpsr s.cpsr a i f value) s) := by
  change execTCps value a i f s = _
  rw [execTCps, refuseIf_pass (by rcases h with rfl | rfl | rfl <;> simp)]
  rfl

end Sys2Proof.Machine

open Sys2Proof Sys2Proof.Machine

/-- Settles O39: the bits that each mode and world writes, as merges. -/
theorem statusRegisterAccess : Obligations.StatusRegisterAccess := by
  intro c rd rm mask rot imm8 s hc hrun field userMask fullMask spsrBits imm
  have himm : rotatedImm rot imm8 = imm := rfl
  have hmrs (r : Bool) (hrd : rd ≠ 15#4) : exec (.mrs c r rd) s =
      finish ((if r then s.spsr else .ok (s.cpsr &&& psrMask)) >>= fun v => pure (s.setReg rd v).advance) := by
    change execMrs c r rd s = _
    rw [execMrs, conditional_pass hc, noPc_pass (by simpa using hrd.symm)]
    cases r <;> rfl
  have huser (hm : s.mode = 0b10000#5) : s.privileged = false := by rw [State.privileged, hm]; decide
  have hpriv (hm : s.mode ≠ 0b10000#5) : s.privileged = true := by simpa [State.privileged, modeUsr] using hm
  refine ⟨fun hrd => ⟨?_, fun k hk => ?_, fun hk => ?_⟩, fun i v hi => ⟨fun hm => ?_, fun hm hvalid => ?_⟩,
    fun i v hi => ⟨fun k hk => ?_, fun hk => ?_⟩, fun a i f disable mode hany hmode => ⟨fun hm => ?_, fun hm hvalid => ?_⟩,
    fun mode hmode => ⟨fun hm => ?_, fun hm hvalid => ?_⟩⟩
  · rw [hmrs _ hrd, ← State.setReg_advance]
    rfl
  · have hspsr : s.spsr = .ok s.spsrs[k] := by rw [State.spsr, hk]
    rw [hmrs _ hrd, ← State.setReg_advance, if_pos rfl, hspsr]
    rfl
  · have hspsr : s.spsr = .error (.refuse .noSpsr) := by rw [State.spsr, hk]
    rw [hmrs _ hrd, if_pos rfl, hspsr]
    rfl
  · have hmode : validMode s.mode = true := by rw [hm]; decide
    have hkeep : (merged s.cpsr v (cpsrWritable s v mask false)).extractLsb' 0 5 = s.mode := by
      rw [cpsrWritable_user (huser hm)]
      exact mode_merged_of_none (getLsbD_userBits_mode mask)
    rw [exec_msr_cpsr hc hrun hmode hi, cpsrWrite_goesOn_sameMode hmode hkeep, cpsrWritable_user (huser hm)]
    rfl
  · have hbits : cpsrWritable s v mask false = s.statusMask fullMask v := cpsrWritable_privileged (hpriv hm) v mask
    refine ⟨fun hafter => ?_, fun hafter => ?_⟩
    · rw [← hbits] at hafter ⊢
      obtain ⟨old, hwrite⟩ := cpsrWrite_goesOn hafter
      exact ⟨_, by rw [exec_msr_cpsr hc hrun hvalid hi, hwrite]; rfl, rfl⟩
    · rw [← hbits] at hafter
      rw [exec_msr_cpsr hc hrun hvalid hi, cpsrWriteByInstr_refused hafter]
      rfl
  · rw [exec_msr_spsr hc hi, writeStatus_spsr hrun hk, byteMask_eq]
    rfl
  · rw [exec_msr_spsr hc hi, writeStatus_noSpsr hk]
    rfl
  · rw [exec_cps_masks_mode hmode, exec_tCps hany, changeProcessorState_user (huser hm), changeProcessorState_user (huser hm)]
    exact ⟨rfl, rfl⟩
  · intro value kept
    have hkept : maskedCpsr s.cpsr a i f disable = _ := maskedCpsr_eq s.cpsr a i f disable
    have hother {j : Nat} (h : j ≠ 6 ∧ j ≠ 7 ∧ j ≠ 8) : s.cpsr.getLsbD j = (maskedCpsr s.cpsr a i f disable).getLsbD j :=
      (getLsbD_maskedCpsr_of_ne h.1 h.2.1 h.2.2).symm
    have hsame : (maskedCpsr s.cpsr a i f disable).extractLsb' 0 5 = s.mode :=
      BitVec.eq_of_getLsbD_eq fun j hj => by
        rw [BitVec.getLsbD_extractLsb', ← hother (by omega)]
        simp [State.mode, bits]
    have hkeeps := changeProcessorState_sameMode (m := 0x1C0#32) (hpriv hm) hvalid (fun j hj => by
      by_cases h : j ≠ 6 ∧ j ≠ 7 ∧ j ≠ 8
      · exact .inl (hother h)
      · obtain rfl | rfl | rfl : j = 6 ∨ j = 7 ∨ j = 8 := by omega
        all_goals exact .inr rfl) hsame
    refine ⟨?_, ?_, ?_⟩
    · obtain ⟨old, hwrite⟩ := changeProcessorState_mode (m := 0x1DF#32) (hpriv hm) hvalid
        (cps_mode_differs mode fun j hj => by
          by_cases h : j = 9
          · subst h
            exact .inr ⟨by decide, hother (by decide)⟩
          · exact .inl (by revert j; decide)) (by rw [mode_setBits]; exact hmode)
      rw [exec_cps_masks_mode hmode, hwrite, setBits_mode, hkept]
      exact ⟨_, rfl, rfl⟩
    · rw [exec_cps_masks, hkeeps, hkept]
      rfl
    · rw [exec_tCps hany, hkeeps, hkept]
      rfl
  · rw [exec_cps_mode hmode, changeProcessorState_user (huser hm)]
    rfl
  · obtain ⟨old, hwrite⟩ := changeProcessorState_mode (s := s) (m := 0x1F#32) (hpriv hm) hvalid
      (cps_mode_differs mode fun j hj => by
        by_cases h : 5 ≤ j
        · exact .inr ⟨h, rfl⟩
        · exact .inl (by revert j; decide)) (by rw [mode_setBits]; exact hmode)
    rw [exec_cps_mode hmode, hwrite, setBits_mode]
    exact ⟨_, rfl, rfl⟩

end

section
/-! Taking an exception (60), and the instructions whose effect is one. -/

namespace Sys2Proof.Machine

open Sys2Proof

/-! ### Exception entry -/

/-- The state with SCR.NS cleared where an exception leaves Secure Monitor mode (60:R1264). -/
def State.entering (s : State) : State :=
  if s.mode = modeMon then { s with cp15 := { s.cp15 with scr := setBit s.cp15.scr 0 false } } else s

theorem State.entering_eq (s : State) : ∃ scr, s.entering = { s with cp15 := { s.cp15 with scr := scr } } ∧
    scr = (if s.mode = modeMon then s.cp15.scr &&& ~~~1#32 else s.cp15.scr) := by
  unfold State.entering
  split
  · exact ⟨_, rfl, rfl⟩
  · exact ⟨_, rfl, rfl⟩

theorem State.entering_nsBit (s : State) : s.entering.cp15.nsBit = s.nsState := by
  unfold State.entering State.nsState Cp15.nonSecureIn
  split
  · next h =>
    rw [Cp15.nsBit, bit, getLsbD_setBit _ _ _ (by decide), if_pos rfl, h]
    simp
  · next h => simp [h]

theorem bit_entering_scr (s : State) {j : Nat} (hj : 0 < j) : bit s.entering.cp15.scr j = bit s.cp15.scr j := by
  unfold State.entering
  split
  · simp [bit, getLsbD_setBit, hj.ne']
  · rfl

theorem routedToMonitor_entering (s : State) (k : Exc) (ext : Bool) :
    routedToMonitor s.entering k ext = (entryMode s k ext == 0b10110#5) := by
  have hite (c : Bool) (m : BitVec 5) (hm : m ≠ 0b10110#5) : ((if c then 0b10110#5 else m) == 0b10110#5) = c := by
    cases c <;> simp [hm]
  cases k with
  | undef | svc | smc => rfl
  | irq => simp only [routedToMonitor, entryMode, bit_entering_scr s (show 0 < 1 by decide)]; exact (hite _ _ (by decide)).symm
  | fiq => simp only [routedToMonitor, entryMode, bit_entering_scr s (show 0 < 2 by decide)]; exact (hite _ _ (by decide)).symm
  | prefetchAbort | dataAbort =>
    simp only [routedToMonitor, entryMode, bit_entering_scr s (show 0 < 3 by decide)]
    exact (hite _ _ (by decide)).symm

theorem entryMode_eq (s : State) (k : Exc) (ext : Bool) :
    (if entryMode s k ext == 0b10110#5 then modeMon else k.mode) = entryMode s k ext := by
  have hite (c : Bool) (m : BitVec 5) (hm : m ≠ 0b10110#5) :
      (if (if c then 0b10110#5 else m) == 0b10110#5 then modeMon else m) = if c then 0b10110#5 else m := by
    cases c <;> simp [hm, modeMon]
  cases k with
  | undef | svc | smc => rfl
  | irq | fiq | prefetchAbort | dataAbort => exact hite _ _ (by decide)

theorem Exc.decide_eq_fiq (k : Exc) : decide (k = .fiq) = (k == .fiq) := by
  cases k <;> rfl

theorem Exc.decide_eq_irq (k : Exc) : decide (k = .irq) = (k == .irq) := by
  cases k <;> rfl

theorem Exc.masksAborts_eq (k : Exc) : k.masksAborts = (k == .prefetchAbort || k == .dataAbort || k == .irq || k == .fiq) := by
  cases k <;> rfl

theorem vectorAddress_entering (s : State) (k : Exc) (monitor ns : Bool) : vectorAddress s.entering k monitor ns =
    if monitor then s.cp15.mvbar + k.offset
    else if k = .irq ∧ bit (s.cp15.control ns) 24 = true then s.pins.irqaddr.extractLsb' 2 30 ++ 0#2
    else plainVector s.cp15 ns k.offset := by
  obtain ⟨scr, hentering, -⟩ := s.entering_eq
  rw [hentering, vectorAddress, ← align4_eq, plainVector]
  rw [apply_ite (· + k.offset)]
  rfl

/-- The bits of the CPSR after an entry. -/
theorem getLsbD_entryCpsr (s : State) (k : Exc) (toMonitor ns : Bool) {j : Nat} (hj : j < 32) :
    (entryCpsr s k toMonitor ns).getLsbD j =
      if j = 9 then bit (s.cp15.control ns) 25
      else if j = 8 then bit s.cpsr 8 || toMonitor || (k.masksAborts && (!ns || bit s.cp15.scr 5))
      else if j = 6 then bit s.cpsr 6 || toMonitor || (k == .fiq && (!ns || bit s.cp15.scr 4))
      else if j = 7 then true else if j = 24 then false else if j = 5 then false
      else if j < 5 then (if toMonitor then modeMon else k.mode).getLsbD j else s.cpsr.getLsbD j := by
  have hset (w : Word) (i : Nat) (c : Prop) [Decidable c] (hi : i < 32) :
      (if c then setBit w i true else w).getLsbD j = if j = i then w.getLsbD j || decide c else w.getLsbD j := by
    split_ifs with hc hji hji
    · simp [getLsbD_setBit _ _ _ hi, hji, hc]
    · simp [getLsbD_setBit _ _ _ hi, hji]
    · simp [hji, hc]
    · rfl
  unfold entryCpsr
  dsimp only
  rw [getLsbD_setBit _ _ _ (by decide), hset _ _ _ (by decide), hset _ _ _ (by decide), getLsbD_setBit _ _ _ (by decide),
    getLsbD_setBit _ _ _ (by decide), getLsbD_setBit _ _ _ (by decide), getLsbD_setBits _ _ _ (by decide) hj]
  by_cases h9 : j = 9
  · simp [h9]
  by_cases h8 : j = 8
  · simp [h8, bit, Bool.or_assoc]
  by_cases h6 : j = 6
  · simp [h6, bit, Bool.or_assoc]
    rw [Exc.decide_eq_fiq]
  simp [h9, h8, h6]

/-- Taking an exception outside Debug state. -/
theorem takeException_running {s : State} (h : s.halted = false) (k : Exc) (ext : Bool) (ret : Word) :
    takeException k ext ret s =
      let m := entryMode s k ext
      let monitor := m == 0b10110#5
      let ns := s.nsState && !monitor
      traceException k <| State.syncFetch { (s.entering.setRegIn m 14#4 ret).setSpsrIn m s.cpsr with
        cpsr := entryCpsr s.entering k monitor ns
        pc := vectorAddress s.entering k monitor ns
        irqack := k = .irq && !monitor && bit (s.cp15.control ns) 24 } := by
  have hcpsr : s.entering.cpsr = s.cpsr := by unfold State.entering; split <;> rfl
  have hcontrol (ns : Bool) : s.entering.cp15.control ns = s.cp15.control ns := by unfold State.entering; split <;> rfl
  rw [takeException, if_neg (by simp [h])]
  change traceException k (State.syncFetch { (s.entering.setRegIn (if routedToMonitor s.entering k ext then modeMon else k.mode) 14#4
    ret).setSpsrIn (if routedToMonitor s.entering k ext then modeMon else k.mode) s.entering.cpsr with
      cpsr := entryCpsr s.entering k (routedToMonitor s.entering k ext) (s.entering.cp15.nsBit && !routedToMonitor s.entering k ext)
      pc := vectorAddress s.entering k (routedToMonitor s.entering k ext) (s.entering.cp15.nsBit && !routedToMonitor s.entering k ext)
      irqack := k = .irq && !routedToMonitor s.entering k ext &&
        bit (s.entering.cp15.control (s.entering.cp15.nsBit && !routedToMonitor s.entering k ext)) 24 }) = _
  rw [routedToMonitor_entering, entryMode_eq, State.entering_nsBit, hcpsr, hcontrol]

/-! ### Instructions that are Undefined -/

theorem raisesUndefined_of_conditional {i : Instr} {c : Cond} {s : State} {body : Result State}
    (hexec : exec i s = finish (conditional c false s body)) (hc : condHolds c s.cpsr = true) (hbody : body = undefined s) :
    raisesUndefined i s := by
  rw [raisesUndefined, hexec, conditional_pass hc, hbody]
  rfl

theorem attached_eq_false {cp : BitVec 4} {s : State} (h : cp.toNat ∉ s.impl.extCoprocessors ∨ cp ∈ [10#4, 11#4, 14#4, 15#4]) :
    attached cp s = false := by
  rcases h with h | h
  · simp [attached, h]
  · have hnone : ∀ cp ∈ [10#4, 11#4, 14#4, 15#4], (coprocessor cp == .external) = false := by decide
    rw [attached, hnone cp h, Bool.false_and]

theorem externalOnly_of_not_attached {cp : BitVec 4} {s : State} (h : attached cp s = false) (accepted : State → Result State) :
    externalOnly cp s accepted = undefined s := by
  rw [externalOnly, h]
  rfl

theorem coprocessor_eq_of_ne {cp : BitVec 4} (h14 : cp ≠ 14#4) (h15 : cp ≠ 15#4) : coprocessor cp = .vfp ∨ coprocessor cp = .external := by
  simp only [coprocessor, if_neg h14, if_neg h15]
  split <;> simp

theorem moveToCoprocessor_undefined {cp : BitVec 4} {s : State} (h : attached cp s = false) (h14 : cp ≠ 14#4) (h15 : cp ≠ 15#4)
    (o1 : BitVec 3) (crn : BitVec 4) (rd : Reg) (o2 : BitVec 3) (crm : BitVec 4) :
    moveToCoprocessor o1 crn rd cp o2 crm s = undefined s := by
  rcases coprocessor_eq_of_ne h14 h15 with hcp | hcp
  · rw [moveToCoprocessor, hcp]
  · rw [moveToCoprocessor, hcp]
    exact externalOnly_of_not_attached h _

theorem moveFromCoprocessor_undefined {cp : BitVec 4} {s : State} (h : attached cp s = false) (h14 : cp ≠ 14#4) (h15 : cp ≠ 15#4)
    (o1 : BitVec 3) (crn : BitVec 4) (rd : Reg) (o2 : BitVec 3) (crm : BitVec 4) :
    moveFromCoprocessor o1 crn rd cp o2 crm s = undefined s := by
  rcases coprocessor_eq_of_ne h14 h15 with hcp | hcp
  · rw [moveFromCoprocessor, hcp]
  · rw [moveFromCoprocessor, hcp]
    exact externalOnly_of_not_attached h _

theorem movePairToCoprocessor_undefined {cp : BitVec 4} {s : State} (h : attached cp s = false) (h14 : cp ≠ 14#4) (h15 : cp ≠ 15#4)
    (rn rd : Reg) (opc crm : BitVec 4) : movePairToCoprocessor rn rd cp opc crm s = undefined s := by
  rcases coprocessor_eq_of_ne h14 h15 with hcp | hcp
  · rw [movePairToCoprocessor, hcp]
  · rw [movePairToCoprocessor, hcp]
    exact externalOnly_of_not_attached h _

theorem secondForm_undefined {cp : BitVec 4} {s : State} {body : Result State} (h : cp ≠ 15#4 → body = undefined s) :
    secondForm cp s body = undefined s := by
  by_cases h15 : cp = 15#4
  · rw [secondForm, h15]
    rfl
  · rw [secondForm, h h15]
    exact ite_self _

theorem isDtrTransfer_eq_false {cp crd : BitVec 4} {nb : Bool} (h : cp ≠ 14#4 ∨ crd ≠ 5#4 ∨ nb = true) :
    isDtrTransfer cp crd nb = false := by
  have h14 : ∀ cp : BitVec 4, (coprocessor cp == .debugUnit) = true → cp = 14#4 := by decide
  rcases h with h | h | h
  · have : (coprocessor cp == .debugUnit) = false := by rw [← Bool.not_eq_true]; exact fun hcp => h (h14 cp hcp)
    rw [isDtrTransfer, this]
    rfl
  · simp [isDtrTransfer, h]
  · simp [isDtrTransfer, h]

theorem loadCoprocessor_undefined {cp crd : BitVec 4} {nb : Bool} {s : State} (h : attached cp s = false)
    (hdtr : cp ≠ 14#4 ∨ crd ≠ 5#4 ∨ nb = true) (p u w : Bool) (rn : Reg) (off8 : BitVec 8) :
    loadCoprocessor p u nb w rn crd cp off8 s = undefined s := by
  rw [loadCoprocessor, isDtrTransfer_eq_false hdtr, if_neg Bool.false_ne_true]
  exact externalOnly_of_not_attached h _

theorem storeCoprocessor_undefined {cp crd : BitVec 4} {nb : Bool} {s : State} (h : attached cp s = false)
    (hdtr : cp ≠ 14#4 ∨ crd ≠ 5#4 ∨ nb = true) (p u w : Bool) (rn : Reg) (off8 : BitVec 8) :
    storeCoprocessor p u nb w rn crd cp off8 s = undefined s := by
  rw [storeCoprocessor, isDtrTransfer_eq_false hdtr, if_neg Bool.false_ne_true]
  exact externalOnly_of_not_attached h _

theorem eventMode_of_noDebug {s : State} (h : s.pins.dbgen = false) : s.eventMode = .none := by
  rw [State.eventMode, State.debugPermitted, h]
  rfl

/-- BKPT where no debug is permitted. -/
theorem breakpoint_of_noDebug {s : State} (hrun : s.halted = false) (h : s.pins.dbgen = false) : breakpoint s =
    takeException .prefetchAbort false (s.pc + 4#32)
      { s with cp15 := s.cp15.setBank s.nsState { s.cp15.bank s.nsState with ifsr := 0x2#32 } } := by
  rw [breakpoint, hrun, instructionDebugEvent, eventMode_of_noDebug h]
  rfl

/-- All that an entry writes outside Debug state. -/
theorem takeException_frame {s t : State} {k : Exc} {ext : Bool} {ret : Word} (h : s.halted = false)
    (ht : t = takeException k ext ret s) : t = { s with
      regs := t.regs, pc := t.pc, cpsr := t.cpsr, spsrs := t.spsrs, irqack := t.irqack, trace := t.trace, stale := t.stale
      oldFetch := t.oldFetch, cp15 := { s.cp15 with scr := t.cp15.scr } } := by
  obtain ⟨scr, hentering, -⟩ := s.entering_eq
  simp only [ht, takeException_running h, hentering]
  unfold State.setSpsrIn
  cases spsrIndex (entryMode s k ext) <;> rfl

end Sys2Proof.Machine

open Sys2Proof Sys2Proof.Machine

/-- Settles O41: the entry, field by field. -/
theorem exceptionEntry : Obligations.ExceptionEntry := by
  intro k ext ret s hrun t m monitor ns c
  have ht : t = _ := takeException_running hrun k ext ret
  obtain ⟨scr, hentering, hscr⟩ := s.entering_eq
  have hbits {j : Nat} (hj : j < 32) : t.cpsr.getLsbD j = _ := (congrArg (fun t : State => t.cpsr.getLsbD j) ht).trans
    (getLsbD_entryCpsr s.entering k monitor ns hj)
  have hbit (j : Nat) (hj : j < 32) : bit t.cpsr j = _ := hbits hj
  have hregs : t.regs = s.regs.set (bankedReg m 14#4) ret := by
    rw [ht, hentering]
    simp [traceException, State.setRegIn, m]
  have hspsrs : t.spsrs = match spsrIndex m with
      | some i => s.spsrs.set i (s.cpsr &&& psrMask)
      | none => s.spsrs := by
    rw [ht, hentering]
    change (State.setSpsrIn _ m s.cpsr).spsrs = _
    unfold State.setSpsrIn
    cases spsrIndex m <;> rfl
  refine ⟨?_, ?_, fun j hj => ?_, fun j hj => ?_, fun j hj => ?_, hbit 5 (by decide), hbit 24 (by decide), hbit 7 (by decide),
    ?_, ?_, ?_, ?_, ?_, ?_, ?_, ?_, ?_, ?_, ?_, ?_, ?_, ?_, ?_, ?_⟩
  · refine (BitVec.eq_of_getLsbD_eq fun j hj => ?_).trans (entryMode_eq s k ext)
    rw [State.mode, bits, BitVec.getLsbD_extractLsb', Nat.zero_add, hbits (by omega), if_neg (by omega), if_neg (by omega),
      if_neg (by omega), if_neg (by omega), if_neg (by omega), if_neg (by omega), if_pos hj, decide_eq_true hj, Bool.true_and]
  · simp [State.regIn, hregs]
  · simp [hspsrs, hj]
  · rw [hspsrs]
    cases hm : spsrIndex m with
    | none => rfl
    | some i =>
      have hne : (i : Nat) ≠ j := fun h => hj (hm.trans (congrArg some (Fin.ext h)))
      simp [Vector.getElem_set, hne]
  · have hne : (bankedReg m 14#4 : Nat) ≠ j := fun h => hj (Fin.ext h).symm
    simp [hregs, Vector.getElem_set, hne]
  · refine (hbit 6 (by decide)).trans ?_
    rw [if_neg (by decide), if_neg (by decide), if_pos rfl, bit_entering_scr s (by decide), hentering]
  · refine (hbit 8 (by decide)).trans ?_
    rw [if_neg (by decide), if_pos rfl, bit_entering_scr s (by decide), k.masksAborts_eq, hentering]
  · refine (hbit 9 (by decide)).trans ?_
    rw [if_pos rfl, hentering]
    rfl
  · have hmask : ∀ j < 32, j < 10 ∨ j = 24 ∨ (j ≠ 9 ∧ j ≠ 8 ∧ j ≠ 6 ∧ j ≠ 7 ∧ j ≠ 24 ∧ j ≠ 5 ∧ ¬ j < 5) := by omega
    have hlow : ∀ j < 10, (0xFEFFFC00#32).getLsbD j = false := by decide
    refine BitVec.eq_of_getLsbD_eq fun j hj => ?_
    rw [BitVec.getLsbD_and, BitVec.getLsbD_and]
    rcases hmask j hj with h | rfl | ⟨h9, h8, h6, h7, h24, h5, hm⟩
    · rw [hlow j h, Bool.and_false, Bool.and_false]
    · exact (Bool.and_false _).trans (Bool.and_false _).symm
    · rw [hbits hj, if_neg h9, if_neg h8, if_neg h6, if_neg h7, if_neg h24, if_neg h5, if_neg hm, hentering]
  · rw [← vectorAddress_entering, ht]
    rfl
  · refine Eq.trans ?_ hscr
    change t.cp15.scr = scr
    rw [ht, hentering]
    simp [traceException]
  · have hirqack : t.irqack = (decide (k = .irq) && !monitor && bit (s.cp15.control ns) 24) := congrArg State.irqack ht
    rw [hirqack, Exc.decide_eq_irq]
  case refine_21 => exact congrArg State.oldFetch ht
  all_goals
    rw [ht, hentering]
    simp [traceException]

/-- Settles O42: what each of these instructions does before its effect is passed. -/
theorem exceptionInstructions : Obligations.ExceptionInstructions := by
  intro c l r12 r4 a1 a2 a3 a4 o1 o2 r8 r10 r20 r24 r28 p u nb w s hc hrun svc debugEvent bkpt
  have hexec {i : Instr} {body : Result State} (h : exec i s = finish body) (hbody : body = undefined s) : raisesUndefined i s := by
    rw [raisesUndefined, h, hbody]
    rfl
  have huncond {i : Instr} (h : exec i s = finish (undefined s)) : raisesUndefined i s := h
  refine ⟨congrArg finish (conditional_pass hc), rfl, fun hm => ?_, fun hm => ?_, fun hdbg => ?_,
    raisesUndefined_of_conditional rfl hc rfl, raisesUndefined_of_conditional rfl hc rfl, rfl, rfl, rfl, rfl, fun h => ?_⟩
  · have hp : s.privileged = true := by simpa [State.privileged, modeUsr] using hm
    change execSmc c r12 r4 s = _
    rw [execSmc, conditional_pass hc, hp]
    rfl
  · have hp : (s.privileged || s.halted) = false := by rw [State.privileged, hm, hrun]; decide
    exact raisesUndefined_of_conditional rfl hc (if_neg (by simp [hp]))
  · have hb := breakpoint_of_noDebug hrun hdbg
    exact ⟨congrArg Host.Outcome.next hb, congrArg Host.Outcome.next hb⟩
  · have hno := attached_eq_false h
    refine ⟨raisesUndefined_of_conditional rfl hc (externalOnly_of_not_attached hno _),
      raisesUndefined_of_conditional rfl hc (externalOnly_of_not_attached hno _), hexec rfl (externalOnly_of_not_attached hno _),
      hexec rfl (externalOnly_of_not_attached hno _), hexec rfl (externalOnly_of_not_attached hno _), fun h14 => ⟨?_, ?_⟩,
      fun hdtr => ⟨?_, ?_⟩, fun h14 h15 => ⟨?_, ?_, ?_⟩, fun hdtr => ⟨?_, ?_⟩⟩
    · exact hexec rfl (secondForm_undefined fun h15 => moveToCoprocessor_undefined hno h14 h15 ..)
    · exact hexec rfl (secondForm_undefined fun h15 => moveFromCoprocessor_undefined hno h14 h15 ..)
    · exact hexec rfl (loadCoprocessor_undefined hno hdtr ..)
    · exact hexec rfl (storeCoprocessor_undefined hno hdtr ..)
    · exact raisesUndefined_of_conditional rfl hc (moveToCoprocessor_undefined hno h14 h15 ..)
    · exact raisesUndefined_of_conditional rfl hc (moveFromCoprocessor_undefined hno h14 h15 ..)
    · exact raisesUndefined_of_conditional rfl hc (movePairToCoprocessor_undefined hno h14 h15 ..)
    · exact raisesUndefined_of_conditional rfl hc (loadCoprocessor_undefined hno hdtr ..)
    · exact raisesUndefined_of_conditional rfl hc (storeCoprocessor_undefined hno hdtr ..)

end

section
/-! Steps of the machine: what comes before an instruction, the instruction, a reset (60:R1201, 24:R1535). -/

namespace Sys2Proof.Machine

open Sys2Proof

/-! ### The core in a settled state -/

theorem step_of_quiet {s : State} (hreset : s.pins.nreset = true) (hpower : s.pins.nporeset = true) (hvfp : s.pins.nvfpreset = true)
    (hinput : s.dbg.requests = []) (hscan : s.dbg.tap.pending = none) (hitr : s.dbg.instCompl = true) :
    step s = finish (coreStep s.begun >>= background) := by
  have hpin : vfpPin s.begun = s.begun := by
    have : s.begun.pins.nvfpreset = true := hvfp
    simp [vfpPin, this]
  have hrequests : s.begun.dbg.requests = [] := hinput
  have hpending : s.begun.dbg.tap.pending = none := hscan
  have hcompl : s.begun.dbg.instCompl = true := hitr
  have htap : tapStep s.begun = .ok s.begun := by simp [tapStep, tapProgress, hpending, hcompl, hrequests]
  simp [step, machineStep, hreset, hpower, hpin, htap, bind, Except.bind]

/-- A settled step in which the core goes on without a stop. -/
theorem step_of_coreActs {s t : State} (h : s.settled) (hacts : coreActs s.begun = .ok t) :
    step s = finish (background (withdrawHalt t)) := by
  rw [step_settled h, coreStep_settled (settled_begun h), hacts]
  rfl

theorem interruptsIgnored_eq_false {s : State} (hmask : bit s.dbg.dscr 11 = false) (hvic : s.pins.irqaddrv = false) :
    interruptsIgnored s = false := by
  rw [interruptsIgnored, hmask, hvic]
  rfl

theorem coreActs_interrupt {s : State} {k : Exc} (h : s.settled) (hrun : s.halted = false) (hjazelle : bit s.cpsr 24 = true → bit s.cpsr 5 = true)
    (hk : interruptTaken s = some k) : coreActs s = .ok (takeException k false (s.pc + 4#32) s) := by
  have hj : (s.jazelle && !s.thumb) = false := by
    rw [State.jazelle, State.thumb]
    cases h24 : bit s.cpsr 24 with
    | true => rw [hjazelle h24]; rfl
    | false => rfl
  rw [coreActs_settled h hrun hj, hk]
  rfl

theorem withdrawHalt_takeException {s : State} (h : s.halted = false) (hno : s.dbg.haltPending = false) (k : Exc) (ext : Bool) (ret : Word) :
    withdrawHalt (takeException k ext ret s) = takeException k ext ret s := by
  have hdbg : (takeException k ext ret s).dbg = s.dbg := by
    rw [takeException_frame (k := k) (ext := ext) (ret := ret) h rfl]
  exact withdrawHalt_none (hdbg ▸ hno)

/-! ### One instruction -/

/-- An instruction that the fetched bytes name, executed. -/
theorem executeFetched_instr {f : State} {bytes : List Byte} {i : Instr} (hj : bit f.cpsr 24 = false)
    (hdecode : decodeBytes f.thumb bytes = .instr i) : executeFetched bytes f =
      (ofOutcome (exec i f.committing) >>= fun t =>
        pure (afterInstruction (traceWord f.committing (ofBytesLE (bytes.take f.fetchSize)) t))) := by
  have hdecoded : decodeFetched f.committing bytes = .instr i := by
    have hjazelle : f.committing.jazelle = false := hj
    rw [decodeFetched, hjazelle, ← hdecode]
    rfl
  rw [executeFetched, hdecoded]
  rfl

/-- With no debug permitted and no abort to be taken, the core runs what it has fetched. -/
theorem runInstruction_of_fetch {s f : State} {bytes : List Byte} (hfetch : fetch s = .ok (bytes, f)) (hdbg : f.pins.dbgen = false)
    (habort : f.pendingAbort = none ∨ bit f.cpsr 8 = true) : runInstruction s = executeFetched bytes f := by
  rw [runInstruction, hfetch]
  change (fetchDebugEvent f (f.mva f.fetchAddress) f.fetchSize >>= _) = _
  rw [fetchDebugEvent_none hdbg]
  change (match f.pendingAbort with
    | some p => if bit f.cpsr 8 then executeFetched bytes f else pure (takeImpreciseAbort p f)
    | none => executeFetched bytes f) = _
  rcases habort with h | h
  · rw [h]
  · rw [h]
    cases f.pendingAbort <;> rfl

theorem interruptTaken_none {s : State} (hirq : s.pins.nirq = true) (hfiq : s.pins.nfiq = true) : interruptTaken s = none := by
  simp [interruptTaken, fiqRequested, irqRequested, hirq, hfiq]

/-- A settled step with no interrupt runs the instruction that the fetch gives. -/
theorem step_of_fetch {s f : State} {bytes : List Byte} {i : Instr} (h : s.settled) (hrun : s.halted = false) (hirq : s.pins.nirq = true)
    (hfiq : s.pins.nfiq = true) (hj : bit s.cpsr 24 = false) (hfetch : fetch s.begun = .ok (bytes, f))
    (habort : f.pendingAbort = none ∨ bit f.cpsr 8 = true) (hdbg : f.pins.dbgen = false) (hfj : bit f.cpsr 24 = false)
    (hdecode : decodeBytes f.thumb bytes = .instr i) : step s = finish (conclude (ofOutcome (exec i f.committing) >>= fun t =>
      pure (afterInstruction (traceWord f.committing (ofBytesLE (bytes.take f.fetchSize)) t))) >>= fun t =>
        background (withdrawHalt t)) := by
  have hb := settled_begun h
  have hjazelle : (s.begun.jazelle && !s.begun.thumb) = false := by
    have : s.begun.jazelle = false := hj
    rw [this]
    rfl
  rw [step_settled h, coreStep_settled hb, coreActs_settled hb hrun hjazelle, interruptTaken_none (s := s.begun) hirq hfiq]
  change finish ((conclude (runInstruction s.begun) >>= fun t => pure (withdrawHalt t)) >>= background) = _
  rw [runInstruction_of_fetch hfetch hdbg habort, executeFetched_instr hfj hdecode, bind_assoc]
  rfl

theorem afterInstruction_of_noWatch {t : State} (h : t.watchHit = none) : afterInstruction t = t := by
  rw [afterInstruction, h]

/-- The decoding of a fetch looks at the bytes of one instruction. -/
theorem decodeBytes_four (thumb : Bool) (g : Nat → Byte) :
    decodeBytes thumb ((List.range (if thumb then 2 else 4)).map g) = decodeBytes thumb ((List.range 4).map g) := by
  cases thumb <;> rfl

end Sys2Proof.Machine

open Sys2Proof Sys2Proof.Machine

/-- Settles O6: what the core does before an instruction, in the order of its tests. -/
theorem interruptsInPriorityOrder : Obligations.InterruptsInPriorityOrder := by
  intro s hs hjazelle
  have hb := settled_begun hs
  refine ⟨fun hh hdscr => ?_, fun hrun hmask hvic => ⟨fun hfiq h6 => ?_, fun hno hirq h7 => ?_⟩, fun v hv hpins hrun => ?_⟩
  · have hacts : coreActs s.begun = .ok s.begun := by
      have hh' : s.begun.halted = true := hh
      have hdscr' : bit s.begun.dbg.dscr 1 = true := hdscr
      rw [coreActs, hh', if_pos rfl, coreHalted, hdscr', if_pos rfl]
    rw [step_of_coreActs hs hacts, withdrawHalt_none hb.noHalt]
  · have hk : interruptTaken s.begun = some .fiq := by
      have hreq : fiqRequested s.begun = true := by
        rw [fiqRequested, interruptsIgnored_eq_false (s := s.begun) hmask hvic]
        have hfiq' : s.begun.pins.nfiq = false := hfiq
        rw [hfiq']
        rfl
      have h6' : bit s.begun.cpsr 6 = false := h6
      rw [interruptTaken, hreq, h6']
      rfl
    rw [step_of_coreActs hs (coreActs_interrupt hb hrun hjazelle hk), withdrawHalt_takeException (s := s.begun) hrun hb.noHalt]
    rfl
  · have hk : interruptTaken s.begun = some .irq := by
      have hfiq : (fiqRequested s.begun && !bit s.begun.cpsr 6) = false := by
        rw [fiqRequested, interruptsIgnored_eq_false (s := s.begun) hmask hvic]
        rcases hno with h | h
        · have : s.begun.pins.nfiq = true := h
          simp [this]
        · have : bit s.begun.cpsr 6 = true := h
          simp [this]
      have hreq : irqRequested s.begun = true := by
        rw [irqRequested, interruptsIgnored_eq_false (s := s.begun) hmask hvic]
        have hirq' : s.begun.pins.nirq = false := hirq
        rw [hirq']
        rfl
      have h7' : bit s.begun.cpsr 7 = false := h7
      rw [interruptTaken, hfiq, hreq, h7']
      rfl
    rw [step_of_coreActs hs (coreActs_interrupt hb hrun hjazelle hk), withdrawHalt_takeException (s := s.begun) hrun hb.noHalt]
    rfl
  · intro address
    have hdbg : v.dbg = s.dbg := by rw [hv]
    have hreset : v.pins.nreset = true := by rw [hpins]; exact hs.noReset
    have hpower : v.pins.nporeset = true := by rw [hpins]; exact hs.noPowerOn
    have hvfp : v.pins.nvfpreset = true := by rw [hpins]; exact hs.noVfpReset
    have hstep : step v = finish (background (sampleVector v.begun)) := by
      have hack : v.begun.irqack = true := by change v.irqack = true; rw [hv]
      have hmode : validMode v.begun.mode = true := by change validMode v.mode = true; rw [hv]; exact hs.mode
      have hrun' : v.begun.halted = false := by change v.halted = false; rw [hv]; exact hrun
      have hawake : v.begun.standby = false := by change v.standby = false; rw [hv]; exact hs.awake
      have habort : v.begun.inflight = [] := by change v.inflight = []; rw [hv]; exact hs.noAbort
      have hacts : coreActs v.begun = .ok (sampleVector v.begun) := by
        simp [coreActs, coreRuns, hrun', hawake, hack]
      rw [step_of_quiet hreset hpower hvfp (by rw [hdbg, hs.noInput]) (by rw [hdbg, hs.noScan]) (by rw [hdbg, hs.noItr]), coreStep,
        if_neg (by simp [hmode]), deliverAborts_none habort, hacts, hack]
      rfl
    have hirqaddr : v.begun.pins.irqaddr = s.pins.irqaddr := by change v.pins.irqaddr = _; rw [hpins]
    have hns : v.begun.nsState = s.nsState := by change v.nsState = _; rw [hv]; rfl
    have hcp15 : v.begun.cp15 = s.cp15 := by change v.cp15 = _; rw [hv]
    refine ⟨fun hlow => ?_, fun hhigh => ?_⟩
    · have hlow' : v.begun.pins.irqaddrv = false := hlow
      rw [hstep, sampleVector, hlow', Bool.and_false]
      rfl
    · have hhigh' : v.begun.pins.irqaddrv = true := hhigh
      have hack : v.begun.irqack = true := by change v.irqack = true; rw [hv]
      rw [hstep, sampleVector, hhigh', hack, hirqaddr, hns, hcp15, align4_eq]
      rfl

/-- Settles O5: the step up to the instruction, and the plain fetch. -/
theorem stepRunsTheDecodedInstruction : Obligations.StepRunsTheDecodedInstruction := by
  intro s i hs hrun hirq hfiq hj hdbg runs
  have hruns {bytes : List Byte} {f : State} (hfetch : fetch s.begun = .ok (bytes, f))
      (habort : f.pendingAbort = none ∨ bit f.cpsr 8 = true) (hfdbg : f.pins.dbgen = false) (hfj : bit f.cpsr 24 = false)
      (hdecode : decodeBytes f.thumb bytes = .instr i) : runs f bytes := by
    have hstep := step_of_fetch hs hrun hirq hfiq hj hfetch habort hfdbg hfj hdecode
    refine ⟨fun r hr => ?_, fun r hr => ?_, fun t ht hwatch => ?_⟩
    · rw [hstep, hr]
      rfl
    · rw [hstep, hr]
      rfl
    · have hshown : (traceWord f.committing (ofBytesLE (bytes.take f.fetchSize)) t).watchHit = none := by
        obtain ⟨tr, acp, htrace⟩ := traceWord_eq f.committing (ofBytesLE (bytes.take f.fetchSize)) t
        rw [htrace]
        exact hwatch
      rw [hstep, ht]
      change finish (background (withdrawHalt (afterInstruction _))) = _
      rw [afterInstruction_of_noWatch hshown]
  refine ⟨fun bytes f => hruns, fun hplain hcache hstale hclean hold habort haligned hdecode => ?_⟩
  have hfetch := fetch_plain (plainMemory_begun hplain) hcache hstale hclean hold hj haligned
  have hbytes : (List.range s.begun.fetchSize).map (s.begun.memByte s.begun.pc) = (List.range (if s.thumb then 2 else 4)).map (s.memByte s.pc) :=
    rfl
  rw [hbytes] at hfetch
  have hsame : runs s.begun ((List.range (if s.thumb then 2 else 4)).map (s.memByte s.pc)) :=
    hruns hfetch habort hdbg hj ((decodeBytes_four s.thumb _).trans hdecode)
  have htake : ((List.range 4).map (s.memByte s.pc)).take s.begun.fetchSize =
      ((List.range (if s.thumb then 2 else 4)).map (s.memByte s.pc)).take s.begun.fetchSize := by
    have hsize : s.begun.fetchSize = if s.thumb then 2 else 4 := rfl
    rw [hsize]
    cases s.thumb <;> rfl
  simp only [runs] at hsame ⊢
  rw [htake]
  exact hsame

end

section
/-! A processor reset through the pins (24:R1535, 60:R1221): what each part of it writes. -/

namespace Sys2Proof.Machine

open Sys2Proof

/-! ### What each part of a reset leaves -/

theorem drawWords_snd (n : Nat) (s : State) : (drawWords n s).2 = { s with freeCtr := s.freeCtr + n } := by
  induction n generalizing s with
  | zero => rfl
  | succ n ih =>
    change (drawWords n (drawWord s).2).2 = _
    rw [ih, drawWord_snd, Nat.add_assoc, Nat.add_comm 1 n]

theorem resetLocked_snd (n : Nat) (s : State) : ∃ k, (resetLocked n s).2 = { s with freeCtr := k } := by
  induction n generalizing s with
  | zero => exact ⟨_, rfl⟩
  | succ n ih => exact ih _

theorem vfpPin_frame (s : State) : vfpPin s = { s with vfp := (vfpPin s).vfp, freeCtr := (vfpPin s).freeCtr } := by
  unfold vfpPin
  split
  · rfl
  · unfold resetVfp
    dsimp only
    rw [drawWord_snd, drawWords_snd]

theorem drainOne_frame (s : State) : ∃ b k, drainOne s = { s with writeBuffer := b, freeCtr := k } := by
  unfold drainOne
  dsimp only
  split <;> exact ⟨_, _, rfl⟩

theorem drainSome_frame (s : State) : ∃ b k, drainSome s = { s with writeBuffer := b, freeCtr := k } := by
  unfold drainSome
  split
  · exact ⟨_, _, rfl⟩
  · obtain ⟨b, k, h⟩ := drainOne_frame s
    obtain ⟨b', k', h'⟩ := drainOne_frame (drainOne s)
    exact ⟨b', k', by rw [h', h]⟩

theorem drainSome_of_empty {s : State} (h : s.writeBuffer = []) : drainSome s = s := by
  rw [drainSome, h]
  rfl

/-- Two states that differ in the memories alone. -/
def onlyMemories (s t : State) : Prop := t = { s with mem := t.mem, memNs := t.memNs, itcm := t.itcm, dtcm := t.dtcm }

theorem onlyMemories_refl (s : State) : onlyMemories s s := rfl

theorem onlyMemories_trans {s t u : State} (hst : onlyMemories s t) (htu : onlyMemories t u) : onlyMemories s u := by
  unfold onlyMemories at *
  rw [htu, hst]

theorem onlyMemories_setCells (s : State) (p : Place) (cs : List Host.Cell) : onlyMemories s (s.setCells p cs) := by
  cases p <;> rfl

theorem onlyMemories_foldl {α : Type} {f : State → α → State} (hf : ∀ s x, onlyMemories s (f s x)) (l : List α) (s : State) :
    onlyMemories s (l.foldl f s) := by
  induction l generalizing s with
  | nil => exact onlyMemories_refl s
  | cons x l ih => exact onlyMemories_trans (hf s x) (ih _)

/-- A loss of buffered writes touches the memories alone. -/
theorem loseBuffered_frame (s : State) : onlyMemories { s with writeBuffer := [] } (loseBuffered s) := by
  have h := onlyMemories_foldl (f := fun (s : State) (w : BufferedWrite) =>
    w.bytes.foldl (fun s x => s.setCells w.place (writeCell (s.cells w.place) x.1 x.2)) s)
    (fun s w => onlyMemories_foldl (fun s x => onlyMemories_setCells ..) w.bytes s) s.writeBuffer.reverse s
  unfold onlyMemories at h ⊢
  unfold loseBuffered
  dsimp only
  rw [h]

theorem loseBuffered_of_empty {s : State} (h : s.writeBuffer = []) : loseBuffered s = s := by
  cases s
  dsimp only at h
  subst h
  rfl

theorem resetCore_frame (s : State) : ∃ flags, resetCore s = { s with
    regs := (resetCore s).regs, spsrs := (resetCore s).spsrs, freeCtr := (resetCore s).freeCtr, pc := resetPc s.pins.vinithi
    cpsr := mergeBits (resetCpsr s.pins.bigendinit s.pins.ubitinit) flags 0xF80F0000#32 } := by
  refine ⟨(drawWord (drawWords 6 (drawWords 32 s).2).2).1, ?_⟩
  unfold resetCore
  dsimp only
  rw [drawWord_snd, drawWords_snd, drawWords_snd]

theorem resetCp15_frame (s : State) : ∃ dma locked irqS irqN, resetCp15 s = { s with
    freeCtr := (resetCp15 s).freeCtr
    cp15 := { Cp15.reset s.impl s.pins with
      dma := dma, tlbLocked := locked
      secure := { Cp15Bank.reset s.pins with lastIrqAddr := irqS }
      nonSecure := { Cp15Bank.reset s.pins with lastIrqAddr := irqN } } } := by
  obtain ⟨k, hk⟩ := resetLocked_snd 8 (resetChannel (resetChannel s).2).2
  have hcp15 : (resetCp15 s).cp15 = { Cp15.reset s.impl s.pins with
      dma := (resetCp15 s).cp15.dma, tlbLocked := (resetCp15 s).cp15.tlbLocked
      secure := { Cp15Bank.reset s.pins with lastIrqAddr := (resetCp15 s).cp15.secure.lastIrqAddr }
      nonSecure := { Cp15Bank.reset s.pins with lastIrqAddr := (resetCp15 s).cp15.nonSecure.lastIrqAddr } } := by
    unfold resetCp15
    dsimp only
    rw [drawWord_snd, drawWord_snd, hk]
    rfl
  refine ⟨_, _, _, _, Eq.trans ?_ (congrArg (fun c => ({ s with freeCtr := (resetCp15 s).freeCtr, cp15 := c } : State)) hcp15)⟩
  unfold resetCp15
  dsimp only
  rw [drawWord_snd, drawWord_snd, hk]
  rfl

theorem resetRams_of_processorReset {s : State} (h : s.pins.nporeset = true) : resetRams s = s := by
  rw [resetRams, h]
  rfl

/-- What a processor reset goes through; the pins stay as they are. -/
theorem applyReset_eq {s : State} (h : s.pins.nporeset = true) :
    applyReset s = abandonDebugState (resetCp15 (resetCore (abandonAll (loseBuffered (drainSome s))))) := by
  obtain ⟨b, k, hdrain⟩ := drainSome_frame s
  have hlose := loseBuffered_frame (drainSome s)
  have hpins : (abandonAll (loseBuffered (drainSome s))).pins = s.pins := by
    rw [abandonAll, hlose, hdrain]
  generalize ha : abandonAll (loseBuffered (drainSome s)) = a at hpins
  obtain ⟨flags, hcore⟩ := resetCore_frame a
  obtain ⟨dma, locked, irqS, irqN, hcp15⟩ := resetCp15_frame (resetCore a)
  unfold applyReset
  dsimp only
  rw [ha, resetRams_of_processorReset (hpins ▸ h), hcp15, hcore]
  exact if_pos (hpins ▸ h)

theorem reset_memories (s : State) : (abandonDebugState (resetCp15 (resetCore s))).mem = s.mem ∧
    (abandonDebugState (resetCp15 (resetCore s))).memNs = s.memNs ∧ (abandonDebugState (resetCp15 (resetCore s))).itcm = s.itcm ∧
    (abandonDebugState (resetCp15 (resetCore s))).dtcm = s.dtcm := by
  obtain ⟨flags, hcore⟩ := resetCore_frame s
  obtain ⟨dma, locked, irqS, irqN, hcp15⟩ := resetCp15_frame (resetCore s)
  rw [abandonDebugState, hcp15]
  dsimp only
  rw [hcore]
  exact ⟨rfl, rfl, rfl, rfl⟩

theorem applyReset_memories {s : State} (h : s.pins.nporeset = true) (hempty : s.writeBuffer = []) :
    (applyReset s).mem = s.mem ∧ (applyReset s).memNs = s.memNs ∧ (applyReset s).itcm = s.itcm ∧ (applyReset s).dtcm = s.dtcm := by
  rw [applyReset_eq h, drainSome_of_empty hempty, loseBuffered_of_empty hempty]
  exact reset_memories (abandonAll s)

/-- A processor reset outside the memories. -/
theorem applyReset_frame {s : State} (h : s.pins.nporeset = true) : ∃ flags dma locked irqS irqN, applyReset s = { s with
    mem := (applyReset s).mem, memNs := (applyReset s).memNs, itcm := (applyReset s).itcm, dtcm := (applyReset s).dtcm
    regs := (applyReset s).regs, spsrs := (applyReset s).spsrs, freeCtr := (applyReset s).freeCtr
    pc := resetPc s.pins.vinithi
    cpsr := mergeBits (resetCpsr s.pins.bigendinit s.pins.ubitinit) flags 0xF80F0000#32
    cp15 := { Cp15.reset s.impl s.pins with
      dma := dma, tlbLocked := locked
      secure := { Cp15Bank.reset s.pins with lastIrqAddr := irqS }
      nonSecure := { Cp15Bank.reset s.pins with lastIrqAddr := irqN } }
    dbg := (abandonDebugState s).dbg
    standby := false, irqack := false, writeBuffer := [], inflight := [], pendingAbort := none, watchHit := none, committed := none
    trace := Trace.none, acpEnabled := none, clamped := s.clamped || s.pins.ramclamp
    localMon := none, stale := [], oldMap := [], oldFetch := [] } := by
  obtain ⟨b, k, hdrain⟩ := drainSome_frame s
  have hlose := loseBuffered_frame (drainSome s)
  obtain ⟨m, n, i, d, hl⟩ : ∃ m n i d, loseBuffered (drainSome s) =
      { s with mem := m, memNs := n, itcm := i, dtcm := d, writeBuffer := [], freeCtr := k } := ⟨_, _, _, _, hlose.trans (by rw [hdrain])⟩
  generalize ha : abandonAll (loseBuffered (drainSome s)) = a
  obtain ⟨flags, hcore⟩ := resetCore_frame a
  obtain ⟨dma, locked, irqS, irqN, hcp15⟩ := resetCp15_frame (resetCore a)
  have hreset : applyReset s = abandonDebugState (resetCp15 (resetCore a)) := by
    rw [← ha]
    exact applyReset_eq h
  refine ⟨flags, dma, locked, irqS, irqN, ?_⟩
  rw [hreset, hcp15, hcore, ← ha, hl]
  rfl

theorem getLsbD_resetCpsr (bigend ubit : Bool) : (∀ j < 5, (resetCpsr bigend ubit).getLsbD j = (0b10011#5).getLsbD j) ∧
    (resetCpsr bigend ubit).getLsbD 5 = false ∧ (resetCpsr bigend ubit).getLsbD 24 = false ∧
    ∀ j ∈ [6, 7, 8], (resetCpsr bigend ubit).getLsbD j = true := by
  revert bigend ubit
  decide

theorem bit_resetControl (vinithi ubit bigend : Bool) :
    let control := resetControlBanked vinithi ubit bigend ||| resetControlShared ubit bigend ||| 0x00000078#32
    bit control 0 = false ∧ bit control 2 = false ∧ bit control 12 = false ∧ bit control 13 = vinithi ∧ bit control 22 = ubit := by
  revert vinithi ubit bigend
  decide

end Sys2Proof.Machine

open Sys2Proof Sys2Proof.Machine

/-- Settles O8: the reset's frame, and the memories where nothing is buffered. -/
theorem resetPinResetsTheCore : Obligations.ResetPinResetsTheCore := by
  intro s hreset hpower
  have hstep : step s = .next (applyReset (vfpPin s)) := by
    rw [step, machineStep, hreset]
    rfl
  have hvfp := vfpPin_frame s
  generalize vfpPin s = r at hstep hvfp
  have hpins : r.pins = s.pins := by rw [hvfp]
  obtain ⟨flags, dma, locked, irqS, irqN, ht⟩ := applyReset_frame (s := r) (hpins ▸ hpower)
  generalize happlied : applyReset r = t at hstep ht
  have hcpsr (j : Nat) (hj : j < 32) (hm : (0xF80F0000#32).getLsbD j = false) :
      t.cpsr.getLsbD j = (resetCpsr s.pins.bigendinit s.pins.ubitinit).getLsbD j := by
    rw [ht, hpins, mergeBits_eq_merged, getLsbD_merged _ _ _ hj, hm]
    rfl
  obtain ⟨hmode, h5, h24, h678⟩ := getLsbD_resetCpsr s.pins.bigendinit s.pins.ubitinit
  have hdbg : r.dbg = s.dbg := by rw [hvfp]
  have hmask {j : Nat} (hj : j ∈ [6, 7, 8]) : bit t.cpsr j = true := by
    have hlt : j < 32 ∧ (0xF80F0000#32).getLsbD j = false := by revert j; decide
    exact (hcpsr j hlt.1 hlt.2).trans (h678 j hj)
  refine ⟨t, hstep, BitVec.eq_of_getLsbD_eq fun j hj => ?_, (hcpsr 5 (by decide) (by decide)).trans h5,
    (hcpsr 24 (by decide) (by decide)).trans h24, hmask (by decide), hmask (by decide), hmask (by decide), ?_, fun ns => ?_,
    by rw [ht]; rfl, by rw [ht], ?_, by rw [ht], fun i => ?_, by rw [ht], by rw [ht], by rw [ht], fun hempty => ?_, by rw [ht, hvfp],
    by rw [ht, hvfp], by rw [ht, hvfp]; rfl, by rw [ht, hvfp]; rfl, by rw [ht, hvfp]⟩
  · have hlow : ∀ j < 5, (0xF80F0000#32).getLsbD j = false := by decide
    rw [State.mode, bits, BitVec.getLsbD_extractLsb', Nat.zero_add, hcpsr j (by omega) (hlow j hj), hmode j hj, decide_eq_true hj,
      Bool.true_and]
  · rw [ht, hpins]
    rfl
  · have hcontrol : t.cp15.control ns = resetControlBanked s.pins.vinithi s.pins.ubitinit s.pins.bigendinit |||
        resetControlShared s.pins.ubitinit s.pins.bigendinit ||| 0x00000078#32 := by
      rw [ht, hpins]
      cases ns <;> rfl
    rw [hcontrol]
    exact bit_resetControl ..
  · have h0 : (setBit (setBit (setBit r.dbg.dscr 0 false) 1 true) 19 false).getLsbD 0 = false := by
      rw [getLsbD_setBit _ _ _ (by decide), getLsbD_setBit _ _ _ (by decide), getLsbD_setBit _ _ _ (by decide)]
      rfl
    rw [State.halted, ht]
    exact h0
  · rw [ht]
    exact ⟨Vector.getElem_replicate .., Vector.getElem_replicate ..⟩
  · have hbuffer : r.writeBuffer = [] := by rw [hvfp]; exact hempty
    have hmem := happlied ▸ applyReset_memories (hpins ▸ hpower) hbuffer
    rwa [hvfp] at hmem

end

section
/-! The loads and stores of one register (42): the addressing forms, the results, the refusals. -/

namespace Sys2Proof.Machine

open Sys2Proof

/-! ### The addressing forms -/

theorem writesBase_iff {p w : Bool} : writesBase p w = true ↔ (p = false ∨ w = true) := by
  cases p <;> cases w <;> decide

theorem writesBase_eq_false {p w : Bool} (h : ¬(p = false ∨ w = true)) : writesBase p w = false :=
  Bool.eq_false_iff.mpr fun hw => h (writesBase_iff.mp hw)

theorem indexed_fst (p u w : Bool) (base offset : Word) :
    (indexed p u (writesBase p w) base offset).1 = accessAddress p u base offset := by
  cases p <;> rfl

/-- The base update of a form, as registers. -/
theorem writeBase_indexed (p u w : Bool) (rn : Reg) (offset : Word) (s t : State) (hm : t.mode = s.mode) (hr : t.regs = s.regs) :
    writeBase t rn (indexed p u (writesBase p w) (s.reg rn) offset).2 = { t with regs := s.baseUpdated p u w rn offset } := by
  cases p <;> cases w
  case true.false => exact congrArg (fun r : Vector Word 32 => { t with regs := r }) hr
  all_goals
    refine (congrArg (fun r : Vector Word 32 => { t with regs := r }) ?_ : t.setReg rn _ = _)
    rw [hm, hr]
    rfl

theorem checkBase_pass {p w : Bool} {rn : Reg} {rds : List Reg} (h : p = false ∨ w = true → rn ≠ 15#4 ∧ rn ∉ rds) :
    checkBase p w rn rds = .ok () := by
  refine refuseIf_pass ?_
  by_cases hw : p = false ∨ w = true
  · simp [h hw]
  · simp [writesBase_eq_false hw]

theorem checkBase_stop {p w : Bool} {rn : Reg} {rds : List Reg} (hw : p = false ∨ w = true) (h : rn = 15#4 ∨ rn ∈ rds) :
    checkBase p w rn rds = .error (.refuse .writeback) :=
  refuseIf_stop (by simpa [writesBase_iff.mpr hw] using h)

theorem checkOffset_pass {p w : Bool} {rn rm : Reg} (h : legalOffset p w rn rm) : checkOffset p w rn rm = .ok () := by
  rw [checkOffset, noPc_pass (by simpa using Ne.symm h.1)]
  refine refuseIf_pass ?_
  by_cases hw : p = false ∨ w = true
  · simp [h.2 hw]
  · simp [writesBase_eq_false hw]

theorem checkOffset_pc (p w : Bool) (rn : Reg) : checkOffset p w rn 15#4 = .error (.refuse .registerField) := by
  rw [checkOffset, noPc_stop (by decide)]
  rfl

theorem checkOffset_base {p w : Bool} {rn : Reg} (hw : p = false ∨ w = true) (h : rn ≠ 15#4) :
    checkOffset p w rn rn = .error (.refuse .writeback) := by
  rw [checkOffset, noPc_pass (by simpa using Ne.symm h)]
  exact refuseIf_stop (by simp [writesBase_iff.mpr hw])

theorem checkMode3_pass {p w : Bool} (h : legalMode3 p w) : checkMode3 p w = .ok () :=
  refuseIf_pass (by rcases h with rfl | rfl <;> simp)

/-- A check before another. -/
theorem check_pass {x y : Result Unit} (h : x = .ok ()) : (x >>= fun _ => y) = y := by rw [h]; rfl

theorem check_stop {x y : Result Unit} {e : Stop} (h : x = .error e) : (x >>= fun _ => y) = .error e := by rw [h]; rfl

/-- With L4 = 0 a load into the PC is a branch that may change the state. -/
theorem loadToPc_interworking {s : State} {v : Word} (h : s.controlBit 15 = false) : loadToPc s v = bxWritePc s v := by
  rw [loadToPc, h]
  rfl

/-! ### What the shared operations do -/

theorem endLoad_indexed {p u w : Bool} {rn rd : Reg} {offset : Word} {s : State} (v : Word) :
    endLoad s rn rd (indexed p u (writesBase p w) (s.reg rn) offset).2 v = .ok { s with
      regs := (s.baseUpdated p u w rn offset).set (bankedReg s.mode rd) v
      pc := s.pcAfter } := by
  rw [endLoad, writeBase_indexed p u w rn offset s s rfl rfl, State.setReg_advance]
  rfl

section
variable {c : Cond} {p u w : Bool} {rn rd : Reg} {offset : Word} {check : Result Unit} {s : State} (hc : condHolds c s.cpsr = true)
include hc

theorem loadReg_eq {read : Word → State → Result (Word × State)} {v : Word} (hrd : rd ≠ 15#4)
    (hbase : p = false ∨ w = true → rn ≠ 15#4 ∧ rn ≠ rd) (hcheck : check = .ok ())
    (hread : read (accessAddress p u (s.reg rn) offset) s = .ok (v, s)) :
    finish (loadReg c p u w rn rd offset check read s) = .next { s with
      regs := (s.baseUpdated p u w rn offset).set (bankedReg s.mode rd) v
      pc := s.pcAfter } := by
  rw [loadReg, conditional_pass hc, noPc_pass (by simpa using Ne.symm hrd), checkBase_pass (by simpa using hbase), hcheck]
  change finish (read (indexed p u (writesBase p w) (s.reg rn) offset).1 s >>= fun x =>
    endLoad x.2 rn rd (indexed p u (writesBase p w) (s.reg rn) offset).2 x.1) = _
  rw [indexed_fst, hread]
  exact congrArg finish (endLoad_indexed v)

theorem loadRegOrPc_eq (hrd : rd ≠ 15#4) (hbase : p = false ∨ w = true → rn ≠ 15#4 ∧ rn ≠ rd) (hcheck : check = .ok ()) {v : Word}
    (hread : loadWord false false (accessAddress p u (s.reg rn) offset) s = .ok (v, s)) :
    finish (loadRegOrPc c p u w rn rd offset check s) = .next { s with
      regs := (s.baseUpdated p u w rn offset).set (bankedReg s.mode rd) v
      pc := s.pcAfter } := by
  rw [loadRegOrPc, conditional_pass hc, checkBase_pass (by simpa using hbase), hcheck]
  change finish (if rd = 15#4 then _ else loadWord false false (indexed p u (writesBase p w) (s.reg rn) offset).1 s >>= fun x =>
    endLoad x.2 rn rd (indexed p u (writesBase p w) (s.reg rn) offset).2 x.1) = _
  rw [if_neg hrd, indexed_fst, hread]
  exact congrArg finish (endLoad_indexed v)

/-- A load of an aligned word into the PC. -/
theorem loadRegOrPc_pc (h : s.plainMemory) (hbase : p = false ∨ w = true → rn ≠ 15#4) (hcheck : check = .ok ())
    (ha : (accessAddress p u (s.reg rn) offset).toNat % 4 = 0) :
    finish (loadRegOrPc c p u w rn 15#4 offset check s) =
      finish (loadToPc { s with regs := s.baseUpdated p u w rn offset } (s.memWord (accessAddress p u (s.reg rn) offset))) := by
  have hbits : bits (accessAddress p u (s.reg rn) offset) 0 2 = 0#2 := bits_of_aligned (k := 2) ha (by omega)
  rw [loadRegOrPc, conditional_pass hc, checkBase_pass fun hw => ⟨hbase hw, by simpa using hbase hw⟩, hcheck]
  change finish (loadPcFrom rn (indexed _ _ _ _ _).2 (indexed _ _ _ _ _).1 s) = _
  rw [loadPcFrom, indexed_fst, hbits, loadWord_plain h ha, ← writeBase_indexed p u w rn offset s s rfl rfl]
  rfl

theorem storeReg_eq {write : Word → Word → State → Result State} {t : State}
    (hbase : p = false ∨ w = true → rn ≠ 15#4 ∧ rn ≠ rd) (hcheck : check = .ok ())
    (hwrite : write (accessAddress p u (s.reg rn) offset) (storeValue s rd) s = .ok t)
    (hframe : t = { s with mem := t.mem, stale := t.stale }) :
    finish (storeReg c p u w rn rd offset check write s) =
      .next { s with mem := t.mem, stale := t.stale, regs := s.baseUpdated p u w rn offset, pc := s.pcAfter } := by
  rw [storeReg, conditional_pass hc, checkBase_pass (by simpa using hbase), hcheck]
  change finish (write (indexed p u (writesBase p w) (s.reg rn) offset).1 (storeValue s rd) s >>= fun x =>
    pure (writeBase x rn (indexed p u (writesBase p w) (s.reg rn) offset).2).advance) = _
  rw [indexed_fst, hwrite]
  refine congrArg Host.Outcome.next (Eq.trans (State.advance_eq_stepped _) ?_)
  rw [writeBase_indexed p u w rn offset s t (by rw [hframe]; rfl) (by rw [hframe]), hframe]
  rfl

/-! ### Where they refuse -/

theorem loadReg_pc {read : Word → State → Result (Word × State)} :
    finish (loadReg c p u w rn 15#4 offset check read s) = .refused .registerField := by
  rw [loadReg, conditional_pass hc, noPc_stop (by decide)]
  rfl

theorem loadReg_base {read : Word → State → Result (Word × State)} (hrd : rd ≠ 15#4) (hw : p = false ∨ w = true)
    (h : rn = 15#4 ∨ rn = rd) : finish (loadReg c p u w rn rd offset check read s) = .refused .writeback := by
  rw [loadReg, conditional_pass hc, noPc_pass (by simpa using Ne.symm hrd), checkBase_stop hw (by simpa using h)]
  rfl

theorem loadReg_check {read : Word → State → Result (Word × State)} {r : Refusal} (hrd : rd ≠ 15#4)
    (hbase : p = false ∨ w = true → rn ≠ 15#4 ∧ rn ≠ rd) (hcheck : check = .error (.refuse r)) :
    finish (loadReg c p u w rn rd offset check read s) = .refused r := by
  rw [loadReg, conditional_pass hc, noPc_pass (by simpa using Ne.symm hrd), checkBase_pass (by simpa using hbase), hcheck]
  rfl

theorem loadRegOrPc_base (hw : p = false ∨ w = true) (h : rn = 15#4 ∨ rn = rd) :
    finish (loadRegOrPc c p u w rn rd offset check s) = .refused .writeback := by
  rw [loadRegOrPc, conditional_pass hc, checkBase_stop hw (by simpa using h)]
  rfl

theorem loadRegOrPc_check {r : Refusal} (hbase : p = false ∨ w = true → rn ≠ 15#4 ∧ rn ≠ rd) (hcheck : check = .error (.refuse r)) :
    finish (loadRegOrPc c p u w rn rd offset check s) = .refused r := by
  rw [loadRegOrPc, conditional_pass hc, checkBase_pass (by simpa using hbase), hcheck]
  rfl

theorem storeReg_base {write : Word → Word → State → Result State} (hw : p = false ∨ w = true) (h : rn = 15#4 ∨ rn = rd) :
    finish (storeReg c p u w rn rd offset check write s) = .refused .writeback := by
  rw [storeReg, conditional_pass hc, checkBase_stop hw (by simpa using h)]
  rfl

theorem storeReg_check {write : Word → Word → State → Result State} {r : Refusal}
    (hbase : p = false ∨ w = true → rn ≠ 15#4 ∧ rn ≠ rd) (hcheck : check = .error (.refuse r)) :
    finish (storeReg c p u w rn rd offset check write s) = .refused r := by
  rw [storeReg, conditional_pass hc, checkBase_pass (by simpa using hbase), hcheck]
  rfl

end

/-! ### The reads and writes, in the plain setting -/

/-- The low bits of a number in a wider word. -/
theorem bits_setWidth {n : Nat} (hn : n ≤ 32) (x : BitVec n) : bits (x.setWidth 32) 0 n = x := by
  refine BitVec.eq_of_getLsbD_eq fun j hj => ?_
  simp [bits, hj, show j < 32 by omega]

section
variable {s : State} (h : s.plainMemory)
include h

theorem readByte_plain (user : Bool) (va : Word) : readByte user va s = .ok ((s.memByte va 0).setWidth 32, s) := by
  rw [readByte, memRead_plain h (t := .byte) (Nat.mod_one _) user false (by decide), assemble_memByte]

theorem readSignedByte_plain (va : Word) : readSignedByte va s = .ok ((s.memByte va 0).signExtend 32, s) := by
  rw [readSignedByte, memRead_plain h (t := .byte) (Nat.mod_one _) false false (by decide), assemble_memByte]
  exact congrArg (fun b : Byte => Except.ok (b.signExtend 32, s)) (bits_setWidth (by decide) _)

theorem readHalf_plain {va : Word} (ha : va.toNat % 2 = 0) : readHalf va s = .ok ((s.memHalf va).setWidth 32, s) := by
  rw [readHalf, memRead_plain h (t := .half) ha false false (by decide), assemble_memHalf]

theorem readSignedHalf_plain {va : Word} (ha : va.toNat % 2 = 0) : readSignedHalf va s = .ok ((s.memHalf va).signExtend 32, s) := by
  rw [readSignedHalf, memRead_plain h (t := .half) ha false false (by decide), assemble_memHalf]
  exact congrArg (fun b : Half => Except.ok (b.signExtend 32, s)) (bits_setWidth (by decide) _)

end

/-! ### Results of an instruction that is one of the shared operations -/

section
variable {i : Instr} {c : Cond} {p u w : Bool} {rn rd : Reg} {offset : State → Word} {size : Nat} {legal : Prop} {check : Result Unit}

theorem loadResult_of_loadReg {value : State → Word → Word} {read : Word → State → Result (Word × State)}
    (hi : ∀ s, exec i s = finish (loadReg c p u w rn rd (offset s) check read s)) (hcheck : legal → check = .ok ())
    (hread : ∀ s a, s.plainMemory → a.toNat % size = 0 → read a s = .ok (value s a, s)) :
    loadResult i c p u w rn rd offset size legal value := by
  intro s hc hs hrd hlegal hbase ha
  rw [hi, loadReg_eq hc hrd hbase (hcheck hlegal) (hread s _ hs ha)]

theorem loadResult_of_loadRegOrPc (hi : ∀ s, exec i s = finish (loadRegOrPc c p u w rn rd (offset s) check s))
    (hcheck : legal → check = .ok ()) : loadResult i c p u w rn rd offset 4 legal State.memWord := by
  intro s hc hs hrd hlegal hbase ha
  rw [hi, loadRegOrPc_eq hc hrd hbase (hcheck hlegal) (loadWord_plain hs ha false false)]

theorem storeResult_of_storeReg {x : AccessType} {user : Bool}
    (hi : ∀ s, exec i s = finish (storeReg c p u w rn rd (offset s) check (memWrite x user (2 ^ x.logSize)) s))
    (hcheck : legal → check = .ok ()) : storeResult i c p u w rn rd offset (2 ^ x.logSize) legal := by
  intro s hc hs hlegal hbase ha
  obtain ⟨t, hwrite, hbytes, hframe, -⟩ := memWrite_plain hs ha user (Nat.le_refl _) (storeValue s rd)
  refine ⟨_, (hi s).trans (storeReg_eq hc hbase (hcheck hlegal) hwrite hframe), ?_, rfl⟩
  rw [hframe] at hbytes
  exact hbytes

end

end Sys2Proof.Machine

open Sys2Proof Sys2Proof.Machine

/-- Settles O26: each load is one of the two shared operations, with the read of its size. -/
theorem loadResults : Obligations.LoadResults := by
  intro c p u w rn rd rm off12 n sh immH immL imm scaled split index word byte sbyte half shalf
  have mode3 (x : Result Unit) (h : legalMode3 p w) : (checkMode3 p w >>= fun _ => x) = x := check_pass (checkMode3_pass h)
  have hword (user : Bool) : ∀ s a, s.plainMemory → a.toNat % 4 = 0 → loadWord user false a s = .ok (word s a, s) :=
    fun _ _ hs ha => loadWord_plain hs ha user false
  have hbyte (user : Bool) : ∀ s a, s.plainMemory → a.toNat % 1 = 0 → readByte user a s = .ok (byte s a, s) :=
    fun _ a hs _ => readByte_plain hs user a
  have hsbyte : ∀ s a, s.plainMemory → a.toNat % 1 = 0 → readSignedByte a s = .ok (sbyte s a, s) :=
    fun _ a hs _ => readSignedByte_plain hs a
  have hhalf : ∀ s a, s.plainMemory → a.toNat % 2 = 0 → readHalf a s = .ok (half s a, s) := fun _ _ hs ha => readHalf_plain hs ha
  have hshalf : ∀ s a, s.plainMemory → a.toNat % 2 = 0 → readSignedHalf a s = .ok (shalf s a, s) :=
    fun _ _ hs ha => readSignedHalf_plain hs ha
  exact ⟨loadResult_of_loadRegOrPc (fun _ => rfl) fun _ => rfl,
    loadResult_of_loadReg (fun _ => rfl) (fun _ => rfl) (hbyte false),
    loadResult_of_loadReg (fun _ => rfl) (fun _ => rfl) (hword true),
    loadResult_of_loadReg (fun _ => rfl) (fun _ => rfl) (hbyte true),
    loadResult_of_loadRegOrPc (fun _ => rfl) checkOffset_pass,
    loadResult_of_loadReg (fun _ => rfl) checkOffset_pass (hbyte false),
    loadResult_of_loadReg (fun _ => rfl) checkOffset_pass (hword true),
    loadResult_of_loadReg (fun _ => rfl) checkOffset_pass (hbyte true),
    loadResult_of_loadReg (fun _ => rfl) checkMode3_pass hhalf,
    loadResult_of_loadReg (fun _ => rfl) checkMode3_pass hsbyte,
    loadResult_of_loadReg (fun _ => rfl) checkMode3_pass hshalf,
    loadResult_of_loadReg (fun _ => rfl) (fun h => (mode3 _ h.1).trans (checkOffset_pass h.2)) hhalf,
    loadResult_of_loadReg (fun _ => rfl) (fun h => (mode3 _ h.1).trans (checkOffset_pass h.2)) hsbyte,
    loadResult_of_loadReg (fun _ => rfl) (fun h => (mode3 _ h.1).trans (checkOffset_pass h.2)) hshalf⟩

/-- Settles O27: each store is the shared operation with the write of its size. -/
theorem storeResults : Obligations.StoreResults := by
  intro c p u w rn rd rm off12 n sh immH immL imm scaled split index plain
  have notPc (x : Result Unit) (h : plain) : (noPc [rd] >>= fun _ => x) = x := check_pass (noPc_pass (by simpa using Ne.symm h))
  have mode3 (x : Result Unit) (h : legalMode3 p w) : (checkMode3 p w >>= fun _ => x) = x := check_pass (checkMode3_pass h)
  exact ⟨storeResult_of_storeReg (x := .wStore) (fun _ => rfl) fun _ => rfl,
    storeResult_of_storeReg (x := .byte) (fun _ => rfl) fun h => notPc _ h,
    storeResult_of_storeReg (x := .wStore) (fun _ => rfl) fun _ => rfl,
    storeResult_of_storeReg (x := .byte) (fun _ => rfl) fun h => notPc _ h,
    storeResult_of_storeReg (x := .wStore) (fun _ => rfl) checkOffset_pass,
    storeResult_of_storeReg (x := .byte) (fun _ => rfl) fun h => (notPc _ h.1).trans (checkOffset_pass h.2),
    storeResult_of_storeReg (x := .wStore) (fun _ => rfl) checkOffset_pass,
    storeResult_of_storeReg (x := .byte) (fun _ => rfl) fun h => (notPc _ h.1).trans (checkOffset_pass h.2),
    storeResult_of_storeReg (x := .half) (fun _ => rfl) fun h => (notPc _ h.1).trans (checkMode3_pass h.2),
    storeResult_of_storeReg (x := .half) (fun _ => rfl) fun h =>
      (notPc _ h.1).trans ((mode3 _ h.2.1).trans (checkOffset_pass h.2.2))⟩

/-- Settles O28: the loaded word, and what L4 makes of it. -/
theorem loadIntoPcResults : Obligations.LoadIntoPcResults := by
  intro c p u w rn rm off12 n sh s hc hs hrun hthumb hbase claim
  have key (i : Instr) (offset : Word) {check : Result Unit} (hi : exec i s = finish (loadRegOrPc c p u w rn 15#4 offset check s))
      (hcheck : check = .ok ()) : claim i offset := by
    intro ha v t
    have hexec : exec i s = finish (loadToPc t v) := hi.trans (loadRegOrPc_pc hc hs hbase hcheck ha)
    have hcontrol : t.controlBit 15 = s.controlBit 15 := rfl
    refine ⟨fun hl4 => ?_, fun hl4 h0 => ?_, fun hl4 h0 h1 => ?_, fun hl4 h0 h1 => ?_⟩
    · rw [hexec, loadToPc, hcontrol, hl4, if_pos rfl, State.writePc, State.branch_of_running (s := t) hrun,
        show t.thumb = s.thumb from rfl, hthumb, show t.halted = s.halted from rfl, hrun, if_neg Bool.false_ne_true,
        if_neg Bool.false_ne_true, align4_eq]
      rfl
    all_goals rw [hexec, loadToPc_interworking (hcontrol.trans hl4)]
    · rw [bxWritePc_thumb (s := t) hrun h0]
      rfl
    · rw [bxWritePc_arm (s := t) hrun h0 h1, show t.cpsr = s.cpsr from rfl, setBit_of_bit (by decide) hthumb]
      rfl
    · rw [bxWritePc_refused h0 h1]
      rfl
  exact ⟨key _ _ rfl rfl, fun hoffset => key _ _ rfl (checkOffset_pass hoffset)⟩
end

section
/-! The doubleword transfers (42:R874, R880), the swaps (44:R954, R955), and where the addressing forms stop. -/

namespace Sys2Proof.Machine

open Sys2Proof

/-! ### Blocks of words in the plain setting -/

/-- A block of words from the aligned address that the alignment rule gives. -/
theorem loadWords_of_checked {s : State} (h : s.plainMemory) {x : AccessType} {va a : Word} (hx : checkAlignment x false va s = .ok a)
    (ha : a.toNat % 4 = 0) (precise : Bool) (n : Nat) :
    loadWords x precise n va s = .ok ((List.range n).map fun k => s.memWord (a + BitVec.ofNat 32 (4 * k)), s) := by
  simp only [loadWords, checkEndian_plain h, hx, bind, Except.bind]
  cases n with
  | zero => simp [loadBytes, traceAccess_plain h, pure, Except.pure, wordsOf]
  | succ n =>
    simp only [loadBytes_plain h _ (n + 1) (n + 1) ha (Nat.le_refl _) (Nat.succ_pos n), bigEndian_plain h, wordsOf_block,
      traceAccess_plain h, pure, Except.pure]

theorem length_storeOrder (s : State) (n : Nat) (v : Word) : (s.storeOrder n v).length = n := by simp [State.storeOrder]

theorem length_flatMap_storeOrder (s : State) (ws : List Word) : (ws.flatMap (s.storeOrder 4)).length = 4 * ws.length := by
  simp only [List.length_flatMap, length_storeOrder, List.map_const', List.sum_replicate_nat, Nat.mul_comm]

/-- A block of words that stays in its line. -/
theorem storeWords_inLine {s : State} (h : s.plainMemory) {x : AccessType} {va a : Word} (hx : checkAlignment x true va s = .ok a)
    (ws : List Word) (hr : 4 * ws.length ≤ roomAt a) (hws : ws ≠ []) :
    ∃ t, storeWords x ws va s = .ok t ∧ bytesStored s t a (ws.flatMap (s.storeOrder 4)) ∧
      t = { s with mem := t.mem, stale := t.stale } ∧ t.plainMemory := by
  have hd : disassemble s.bigEndian 4 = s.storeOrder 4 := funext fun w => by rw [bigEndian_plain h, disassemble_eq]
  obtain ⟨t, ht, hs, hf, hp⟩ := storePart_plain h
    { plainAccess s with unaligned := normalUnaligned s.unalignedOn x va, multiple := true } (ws.flatMap (s.storeOrder 4)) a
  obtain ⟨m, hm⟩ : ∃ m, ws.length = m + 1 := ⟨ws.length - 1, by have := List.length_pos_iff.mpr hws; omega⟩
  refine ⟨t, ?_, hs, hf, hp⟩
  simp only [storeWords, checkEndian_plain h, hx, bind, Except.bind, hd, hm, storeBytes, length_flatMap_storeOrder]
  rw [hm] at hr
  simp only [hr, if_true, ht, traceAccess_plain hp, pure, Except.pure]

/-- Two words that lie side by side. -/
theorem wordsStored_pair {s t : State} {a v1 v2 : Word} (ha : a.toNat % 32 + 4 < 32)
    (h : bytesStored s t a (s.storeOrder 4 v1 ++ s.storeOrder 4 v2)) : wordsStored s t [(a, v1), (a + 4#32, v2)] := by
  have hnext : (s.mva (a + 4#32)).toNat = (s.mva a).toNat + 4 := mva_add (d := 4) ha
  have hlen : (s.storeOrder 4 v1 ++ s.storeOrder 4 v2).length = 8 := by simp [length_storeOrder]
  simp only [bytesStored, hlen] at h
  simp only [wordsStored, List.mem_cons, List.not_mem_nil, or_false, forall_eq_or_imp, forall_eq, hnext]
  refine ⟨⟨fun k hk => ?_, fun k hk => ?_⟩, fun b hb => ?_⟩
  · rw [h, if_pos (by omega), Nat.add_sub_cancel_left, List.getD_append _ _ _ _ (by rw [length_storeOrder]; exact hk)]
  · rw [h, if_pos (by omega), show (s.mva a).toNat + 4 + k - (s.mva a).toNat = 4 + k by omega,
      List.getD_append_right _ _ _ _ (by rw [length_storeOrder]; omega), length_storeOrder, Nat.add_sub_cancel_left]
  · rw [h, if_neg (by omega)]

/-! ### Doublewords -/

theorem checkPair_odd {rd : Reg} (h : bit rd 0 = true) (s : State) : checkPair rd s = undefined s := if_pos h

theorem checkPair_last (s : State) : checkPair 14#4 s = .error (.refuse .registerField) := rfl

theorem checkPair_pass {rd : Reg} (h0 : bit rd 0 = false) (h14 : rd ≠ 14#4) (s : State) : checkPair rd s = .ok () := by
  rw [checkPair, h0, if_neg Bool.false_ne_true, refuseIf_pass (by simpa using h14)]

section
variable {c : Cond} {p u w : Bool} {rn rd : Reg} {offset : Word} {check : Result Unit} {s : State} (hc : condHolds c s.cpsr = true)
include hc

theorem loadPair_odd (h : bit rd 0 = true) :
    finish (loadPair c p u w rn rd offset check s) = .next (takeException .undef false s.nextPc s) := by
  rw [loadPair, conditional_pass hc, checkPair_odd h]
  rfl

theorem storePair_odd (h : bit rd 0 = true) :
    finish (storePair c p u w rn rd offset check s) = .next (takeException .undef false s.nextPc s) := by
  rw [storePair, conditional_pass hc, checkPair_odd h]
  rfl

theorem loadPair_last : finish (loadPair c p u w rn 14#4 offset check s) = .refused .registerField := by
  rw [loadPair, conditional_pass hc, checkPair_last]
  rfl

theorem storePair_last : finish (storePair c p u w rn 14#4 offset check s) = .refused .registerField := by
  rw [storePair, conditional_pass hc, checkPair_last]
  rfl

section
variable (h0 : bit rd 0 = false) (h14 : rd ≠ 14#4)
include h0 h14

theorem loadPair_mode3 : finish (loadPair c false u true rn rd offset check s) = .refused .writeback := by
  rw [loadPair, conditional_pass hc, checkPair_pass h0 h14]
  rfl

theorem storePair_mode3 : finish (storePair c false u true rn rd offset check s) = .refused .writeback := by
  rw [storePair, conditional_pass hc, checkPair_pass h0 h14]
  rfl

theorem loadPair_base (hmode : legalMode3 p w) (hw : p = false ∨ w = true) (h : rn = 15#4 ∨ rn = rd ∨ rn = rd + 1#4) :
    finish (loadPair c p u w rn rd offset check s) = .refused .writeback := by
  rw [loadPair, conditional_pass hc, checkPair_pass h0 h14, checkMode3_pass hmode, checkBase_stop hw (by simpa [pairReg] using h)]
  rfl

theorem storePair_base (hmode : legalMode3 p w) (hw : p = false ∨ w = true) (h : rn = 15#4 ∨ rn = rd) :
    finish (storePair c p u w rn rd offset check s) = .refused .writeback := by
  rw [storePair, conditional_pass hc, checkPair_pass h0 h14, checkMode3_pass hmode, checkBase_stop hw (by simpa using h)]
  rfl

theorem loadPair_check {r : Refusal} (hmode : legalMode3 p w)
    (hbase : p = false ∨ w = true → rn ≠ 15#4 ∧ rn ≠ rd ∧ rn ≠ rd + 1#4) (hcheck : check = .error (.refuse r)) :
    finish (loadPair c p u w rn rd offset check s) = .refused r := by
  rw [loadPair, conditional_pass hc, checkPair_pass h0 h14, checkMode3_pass hmode, checkBase_pass (by simpa [pairReg] using hbase),
    hcheck]
  rfl

theorem storePair_check {r : Refusal} (hmode : legalMode3 p w) (hbase : p = false ∨ w = true → rn ≠ 15#4 ∧ rn ≠ rd)
    (hcheck : check = .error (.refuse r)) : finish (storePair c p u w rn rd offset check s) = .refused r := by
  rw [storePair, conditional_pass hc, checkPair_pass h0 h14, checkMode3_pass hmode, checkBase_pass (by simpa using hbase), hcheck]
  rfl

theorem loadPair_eq (h : s.plainMemory) (hmode : legalMode3 p w)
    (hbase : p = false ∨ w = true → rn ≠ 15#4 ∧ rn ≠ rd ∧ rn ≠ rd + 1#4) (hcheck : check = .ok ())
    (ha : (accessAddress p u (s.reg rn) offset).toNat % 8 = 0) :
    finish (loadPair c p u w rn rd offset check s) = .next { s with
      regs := ((s.baseUpdated p u w rn offset).set (bankedReg s.mode rd) (s.memWord (accessAddress p u (s.reg rn) offset))).set
        (bankedReg s.mode (rd + 1#4)) (s.memWord (accessAddress p u (s.reg rn) offset + 4#32))
      pc := s.pcAfter } := by
  rw [loadPair, conditional_pass hc, checkPair_pass h0 h14, checkMode3_pass hmode, checkBase_pass (by simpa [pairReg] using hbase),
    hcheck]
  change finish (loadWords .twoWord false 2 (indexed p u (writesBase p w) (s.reg rn) offset).1 s >>= fun x =>
    pure ((writeBase x.2 rn (indexed p u (writesBase p w) (s.reg rn) offset).2).setRegsIn x.2.mode
      ([rd, pairReg rd].zip x.1)).advance) = _
  rw [indexed_fst, loadWords_of_checked h (checkAlignment_of_aligned (t := .twoWord) ha false s) (by omega)]
  refine congrArg Host.Outcome.next (Eq.trans (State.advance_eq_stepped _) ?_)
  rw [writeBase_indexed p u w rn offset s s rfl rfl]
  rw [show (List.range 2).map (fun k => s.memWord (accessAddress p u (s.reg rn) offset + BitVec.ofNat 32 (4 * k))) =
    [s.memWord (accessAddress p u (s.reg rn) offset), s.memWord (accessAddress p u (s.reg rn) offset + 4#32)] by
      simp [List.range, List.range.loop]]
  rfl

theorem storePair_eq (h : s.plainMemory) (hmode : legalMode3 p w) (hbase : p = false ∨ w = true → rn ≠ 15#4 ∧ rn ≠ rd)
    (hcheck : check = .ok ()) (ha : (accessAddress p u (s.reg rn) offset).toNat % 8 = 0) :
    ∃ t, finish (storePair c p u w rn rd offset check s) = .next t ∧
      wordsStored s t [(accessAddress p u (s.reg rn) offset, s.reg rd),
        (accessAddress p u (s.reg rn) offset + 4#32, s.reg (rd + 1#4))] ∧
      t = { s with mem := t.mem, stale := t.stale, regs := s.baseUpdated p u w rn offset, pc := s.pcAfter } := by
  obtain ⟨t, hstore, hbytes, hframe, -⟩ := storeWords_inLine h
    (checkAlignment_of_aligned (t := .twoWord) ha true s) [s.reg rd, s.reg (pairReg rd)] (by unfold roomAt; simp; omega) (by simp)
  refine ⟨{ s with mem := t.mem, stale := t.stale, regs := s.baseUpdated p u w rn offset, pc := s.pcAfter }, ?_, ?_, rfl⟩
  · rw [storePair, conditional_pass hc, checkPair_pass h0 h14, checkMode3_pass hmode, checkBase_pass (by simpa using hbase), hcheck]
    change finish (storeWords .twoWord [s.reg rd, s.reg (pairReg rd)] (indexed p u (writesBase p w) (s.reg rn) offset).1 s >>= fun x =>
      pure (writeBase x rn (indexed p u (writesBase p w) (s.reg rn) offset).2).advance) = _
    rw [indexed_fst, hstore]
    refine congrArg Host.Outcome.next (Eq.trans (State.advance_eq_stepped _) ?_)
    rw [writeBase_indexed p u w rn offset s t (by rw [hframe]; rfl) (by rw [hframe]), hframe]
    rfl
  · refine wordsStored_pair (by omega) ?_
    rw [hframe, List.flatMap_cons, List.flatMap_singleton] at hbytes
    exact hbytes

end

/-! ### Swaps -/

theorem swap_refused {rm : Reg} {op : Word → Word → State → Result (Word × State)} (h : 15#4 ∈ [rn, rd, rm] ∨ rn = rd ∨ rn = rm) :
    finish (swap c rn rd rm op s) = .refused .registerField := by
  rw [swap, conditional_pass hc]
  by_cases hpc : 15#4 ∈ [rn, rd, rm]
  · rw [noPc_stop hpc]
    rfl
  · rw [noPc_pass hpc]
    change finish (refuseIf _ _ >>= _) = _
    rw [refuseIf_stop (by simpa using h.resolve_left hpc)]
    rfl

theorem swap_eq {rm : Reg} {op : Word → Word → State → Result (Word × State)} (hpc : 15#4 ∉ [rn, rd, rm]) (hrd : rn ≠ rd)
    (hrm : rn ≠ rm) {t : State} {v : Word} (hop : op (s.reg rn) (s.reg rm) s = .ok (v, t))
    (hframe : t = { s with mem := t.mem, stale := t.stale }) :
    finish (swap c rn rd rm op s) =
      .next { s with mem := t.mem, stale := t.stale, regs := s.regs.set (bankedReg s.mode rd) v, pc := s.pcAfter } := by
  rw [swap, conditional_pass hc, noPc_pass hpc, refuseIf_pass (by simp [hrd, hrm])]
  change finish (op (s.reg rn) (s.reg rm) s >>= fun x => pure (x.2.setReg rd x.1).advance) = _
  rw [hop]
  refine congrArg Host.Outcome.next (Eq.trans (State.setReg_advance _ _ _) ?_)
  rw [hframe]
  rfl

end

theorem rotateLoaded_of_aligned {a : Word} (ha : a.toNat % 4 = 0) (s : State) (w : Word) : rotateLoaded s a w = w := by
  have hbits : bits a 0 2 = 0#2 := bits_of_aligned (k := 2) ha (by omega)
  have hrot : w.rotateRight (8 * (0#2).toNat) = w := by simp [BitVec.rotateRight, BitVec.rotateRightAux]
  rw [rotateLoaded, hbits, hrot, ite_self]

/-- A write that follows a read in the plain setting. -/
theorem swapWord_plain {s : State} (h : s.plainMemory) {a : Word} (ha : a.toNat % 4 = 0) (v : Word) :
    ∃ t, swapWord a v s = .ok (s.memWord a, t) ∧ bytesStored s t a (s.storeOrder 4 v) ∧
      t = { s with mem := t.mem, stale := t.stale } := by
  have key (load store : AccessType) (hl : load.logSize = 2) (hs : store.logSize = 2) :
      ∃ t, (readAs (swapAccess s) load 4 a s >>= fun x => writeAs (swapAccess s) store 4 a v x.2 >>= fun t =>
          pure (rotateLoaded t a x.1, t)) = (.ok (s.memWord a, t) : Result (Word × State)) ∧
        bytesStored s t a (s.storeOrder 4 v) ∧ t = { s with mem := t.mem, stale := t.stale } := by
    obtain ⟨t, hwrite, hbytes, hframe, -⟩ := writeAs_plain h (swapAccess s) (x := store) (va := a) (by rw [hs]; exact ha)
      (n := 4) (by rw [hs]; decide) v
    refine ⟨t, ?_, hbytes, hframe⟩
    rw [readAs_plain h (swapAccess s) (t := load) (by rw [hl]; exact ha) (n := 4) (by rw [hl]; decide), assemble_memWord]
    change (writeAs (swapAccess s) store 4 a v s >>= _) = _
    rw [hwrite]
    exact congrArg (fun w => Except.ok (w, t)) (rotateLoaded_of_aligned ha t _)
  refine key _ _ ?_ ?_ <;> split <;> rfl

theorem swapByte_plain {s : State} (h : s.plainMemory) (a v : Word) :
    ∃ t, swapByte a v s = .ok ((s.memByte a 0).setWidth 32, t) ∧ bytesStored s t a (s.storeOrder 1 v) ∧
      t = { s with mem := t.mem, stale := t.stale } := by
  obtain ⟨t, hwrite, hbytes, hframe, -⟩ := writeAs_plain h (swapAccess s) (x := .byte) (Nat.mod_one a.toNat) (n := 1) (by decide) v
  refine ⟨t, ?_, hbytes, hframe⟩
  rw [swapByte, readAs_plain h (swapAccess s) (t := .byte) (Nat.mod_one _) (by decide), assemble_memByte]
  change (writeAs (swapAccess s) .byte 1 a v s >>= _) = _
  rw [hwrite]
  rfl

section
variable {c : Cond} {p u w : Bool} {rn rd : Reg} {offset : Word} {check : Result Unit} {s : State} (hc : condHolds c s.cpsr = true)
include hc

/-- A check that fails for R15, whether Rd is R15 or not. -/
theorem loadReg_field {read : Word → State → Result (Word × State)} (hbase : p = false ∨ w = true → rn ≠ 15#4 ∧ rn ≠ rd)
    (hcheck : check = .error (.refuse .registerField)) :
    finish (loadReg c p u w rn rd offset check read s) = .refused .registerField := by
  by_cases hrd : rd = 15#4
  · rw [hrd]
    exact loadReg_pc hc
  · exact loadReg_check hc hrd hbase hcheck

/-- A check that fails for the base, whether the base is allowed or not. -/
theorem loadReg_writeback {read : Word → State → Result (Word × State)} (hrd : rd ≠ 15#4) (hcheck : check = .error (.refuse .writeback)) :
    finish (loadReg c p u w rn rd offset check read s) = .refused .writeback := by
  by_cases hbase : p = false ∨ w = true → rn ≠ 15#4 ∧ rn ≠ rd
  · exact loadReg_check hc hrd hbase hcheck
  · rw [Classical.not_imp, not_and_or, not_not, not_not] at hbase
    exact loadReg_base hc hrd hbase.1 hbase.2

theorem storeReg_writeback {write : Word → Word → State → Result State} (hcheck : check = .error (.refuse .writeback)) :
    finish (storeReg c p u w rn rd offset check write s) = .refused .writeback := by
  by_cases hbase : p = false ∨ w = true → rn ≠ 15#4 ∧ rn ≠ rd
  · exact storeReg_check hc hbase hcheck
  · rw [Classical.not_imp, not_and_or, not_not, not_not] at hbase
    exact storeReg_base hc hbase.1 hbase.2

end

theorem next_ne_pc : ∀ {r : Reg}, r ≠ 14#4 → r + 1#4 ≠ 15#4 := by decide

theorem checkMode3_stop : checkMode3 false true = .error (.refuse .writeback) := rfl

/-- A check of R15 as Rd before a check that refuses for the same reason. -/
theorem noPc_then {rd : Reg} {x : Result Unit} (h : x = .error (.refuse .registerField)) :
    (noPc [rd] >>= fun _ => x) = .error (.refuse .registerField) := by
  by_cases hrd : rd = 15#4
  · exact check_stop (noPc_stop (by simp [hrd]))
  · rw [check_pass (noPc_pass (by simpa using Ne.symm hrd)), h]

end Sys2Proof.Machine

open Sys2Proof Sys2Proof.Machine

/-- Settles O29: both directions, from the rules for a pair. -/
theorem doublewordTransfers : Obligations.DoublewordTransfers := by
  intro c p u w rn rd rm immH immL s hc split
  refine ⟨fun h => ⟨loadPair_odd hc h, loadPair_odd hc h, storePair_odd hc h, storePair_odd hc h⟩, ?_, fun hs h0 h14 hmode => ?_⟩
  · rintro rfl
    exact ⟨loadPair_last hc, loadPair_last hc, storePair_last hc, storePair_last hc⟩
  · refine ⟨fun ha hbase => loadPair_eq hc h0 h14 hs hmode hbase rfl ha, fun hoff hrd hrd' ha hbase => ?_,
      fun ha hbase => storePair_eq hc h0 h14 hs hmode hbase rfl ha,
      fun hoff ha hbase => storePair_eq hc h0 h14 hs hmode hbase (checkOffset_pass hoff) ha⟩
    refine loadPair_eq hc h0 h14 hs hmode hbase ((check_pass (checkOffset_pass hoff)).trans (refuseIf_pass ?_)) ha
    simpa [pairReg] using And.intro hrd hrd'

/-- Settles O33: a read, then a write of the same bytes. -/
theorem swapResults : Obligations.SwapResults := by
  intro c rn rd rm s hc
  refine ⟨fun h => ⟨swap_refused hc h, swap_refused hc h⟩, fun hs hpc hrd hrm => ⟨fun ha => ?_, ?_⟩⟩
  · obtain ⟨t, hswap, hbytes, hframe⟩ := swapWord_plain hs ha (s.reg rm)
    refine ⟨_, swap_eq hc hpc hrd hrm hswap hframe, ?_, rfl⟩
    rw [hframe] at hbytes
    exact hbytes
  · obtain ⟨t, hswap, hbytes, hframe⟩ := swapByte_plain hs (s.reg rn) (s.reg rm)
    refine ⟨_, swap_eq hc hpc hrd hrm hswap hframe, ?_, rfl⟩
    rw [hframe] at hbytes
    exact hbytes

/-- Settles O30: each refusal is that of the first check that fails. -/
theorem addressingFormRefusals : Obligations.AddressingFormRefusals := by
  intro c p u w rn rd rm off12 n sh immH immL s hc badField badBase updates narrow user stores
  have notPc {x : Result Unit} (h : rd ≠ 15#4) : (noPc [rd] >>= fun _ => x) = x := check_pass (noPc_pass (by simpa using Ne.symm h))
  have mode3 {x : Result Unit} (h : legalMode3 p w) : (checkMode3 p w >>= fun _ => x) = x := check_pass (checkMode3_pass h)
  simp only [badField, badBase, narrow, user, stores, List.forall_mem_append, List.forall_mem_cons, List.not_mem_nil,
    false_implies, implies_true, and_true]
  refine ⟨?_, fun hbase => ?_, fun hrn => ?_, fun hw hbase => ⟨?_, fun hrd => ?_⟩, fun hbase => ⟨?_, fun hrd => ?_⟩,
    fun hbase => ⟨?_, fun hmode => ?_⟩, fun hrn hne => ?_, fun hrd => ?_, fun h0 h14 => ⟨?_, fun hmode => ?_⟩⟩
  · and_intros <;> exact loadReg_pc hc
  · and_intros <;> exact storeReg_check hc (fun hw => ⟨hbase hw, hbase hw⟩) (check_stop (noPc_stop (List.mem_singleton.mpr rfl)))
  · and_intros <;> exact storeReg_check hc (fun _ => ⟨hrn, hrn⟩) (check_stop (noPc_stop (List.mem_singleton.mpr rfl)))
  · exact ⟨⟨loadRegOrPc_base hc hw hbase, loadRegOrPc_base hc hw hbase, storeReg_base hc hw hbase, storeReg_base hc hw hbase⟩,
      storeReg_base hc hw hbase, storeReg_base hc hw hbase, storeReg_base hc hw hbase, storeReg_base hc hw hbase⟩
  · and_intros <;> exact loadReg_base hc hrd hw hbase
  · and_intros <;> exact storeReg_base hc (.inl rfl) hbase
  · and_intros <;> exact loadReg_base hc hrd (.inl rfl) hbase
  · have hpc := checkOffset_pc p w rn
    exact ⟨loadRegOrPc_check hc hbase hpc, loadReg_field hc hbase hpc, storeReg_check hc hbase hpc,
      storeReg_check hc hbase (noPc_then hpc)⟩
  · have hpc := (mode3 hmode).trans (checkOffset_pc p w rn)
    exact ⟨loadReg_field hc hbase hpc, loadReg_field hc hbase hpc, loadReg_field hc hbase hpc,
      storeReg_check hc hbase (noPc_then hpc)⟩
  · have hpc := checkOffset_pc false true rn
    have huser := checkOffset_base (p := false) (w := true) (.inl rfl) hrn
    refine ⟨⟨loadReg_field hc (fun _ => ⟨hrn, hne⟩) hpc, loadReg_field hc (fun _ => ⟨hrn, hne⟩) hpc,
        storeReg_check hc (fun _ => ⟨hrn, hne⟩) hpc, storeReg_check hc (fun _ => ⟨hrn, hne⟩) (noPc_then hpc)⟩,
      storeReg_writeback hc huser, fun hrd => ⟨loadReg_writeback hc hrd huser, loadReg_writeback hc hrd huser,
        storeReg_writeback hc ((notPc hrd).trans huser)⟩, fun hw => ?_⟩
    have hoff := checkOffset_base hw hrn
    exact ⟨⟨loadRegOrPc_check hc (fun _ => ⟨hrn, hne⟩) hoff, storeReg_writeback hc hoff⟩,
      fun hrd => ⟨loadReg_writeback hc hrd hoff, storeReg_writeback hc ((notPc hrd).trans hoff)⟩,
      fun hrd hmode => ⟨loadReg_writeback hc hrd ((mode3 hmode).trans hoff), loadReg_writeback hc hrd ((mode3 hmode).trans hoff),
        loadReg_writeback hc hrd ((mode3 hmode).trans hoff),
        storeReg_writeback hc ((notPc hrd).trans ((mode3 hmode).trans hoff))⟩⟩
  · have hindexed (m : Reg) := check_stop (y := checkOffset false true rn m) checkMode3_stop
    exact ⟨loadReg_writeback hc hrd checkMode3_stop, loadReg_writeback hc hrd (hindexed rm),
      loadReg_writeback hc hrd checkMode3_stop, loadReg_writeback hc hrd (hindexed rm),
      loadReg_writeback hc hrd checkMode3_stop, loadReg_writeback hc hrd (hindexed rm),
      storeReg_writeback hc ((notPc hrd).trans checkMode3_stop), storeReg_writeback hc ((notPc hrd).trans (hindexed rm))⟩
  · exact ⟨loadPair_mode3 hc h0 h14, loadPair_mode3 hc h0 h14, storePair_mode3 hc h0 h14, storePair_mode3 hc h0 h14⟩
  · have hrd : rd ≠ 15#4 := by rintro rfl; exact absurd h0 (by decide)
    have hrd' : rd + 1#4 ≠ 15#4 := next_ne_pc h14
    refine ⟨fun hw hbase => ?_, fun hw hbase => ?_, fun hbase => ⟨?_, fun hw => ?_⟩⟩
    · have hbase' : rn = 15#4 ∨ rn = rd ∨ rn = rd + 1#4 := hbase.imp_right .inl
      exact ⟨loadPair_base hc h0 h14 hmode hw hbase', loadPair_base hc h0 h14 hmode hw hbase',
        storePair_base hc h0 h14 hmode hw hbase, storePair_base hc h0 h14 hmode hw hbase⟩
    · and_intros <;> exact loadPair_base hc h0 h14 hmode hw (.inr (.inr hbase))
    · have hpc := checkOffset_pc p w rn
      exact ⟨loadPair_check hc h0 h14 hmode hbase (check_stop hpc),
        storePair_check hc h0 h14 hmode (fun hw => ⟨(hbase hw).1, (hbase hw).2.1⟩) hpc,
        loadPair_check hc h0 h14 hmode hbase ((check_pass (checkOffset_pass ⟨hrd, fun hw => Ne.symm (hbase hw).2.1⟩)).trans
          (refuseIf_stop (by simp))),
        loadPair_check hc h0 h14 hmode hbase ((check_pass (checkOffset_pass ⟨hrd', fun hw => Ne.symm (hbase hw).2.2⟩)).trans
          (refuseIf_stop (by simp [pairReg])))⟩
    · have hoff := checkOffset_base hw (hbase hw).1
      exact ⟨loadPair_check hc h0 h14 hmode hbase (check_stop hoff),
        storePair_check hc h0 h14 hmode (fun hw => ⟨(hbase hw).1, (hbase hw).2.1⟩) hoff⟩
end

section
/-! The Thumb loads and stores of one register (48), and the exclusive accesses (44:R940 to R951). -/

namespace Sys2Proof.Machine

open Sys2Proof

/-! ### Thumb -/

theorem zext_shiftLeft {n : Nat} (k : Nat) (hk : n + k ≤ 32) (v : BitVec n) :
    zext v <<< k = (v ++ 0#k : BitVec (n + k)).setWidth 32 := by
  have hlt : v.toNat * 2 ^ k < 2 ^ 32 := calc
    v.toNat * 2 ^ k < 2 ^ n * 2 ^ k := Nat.mul_lt_mul_of_pos_right v.isLt (Nat.two_pow_pos k)
    _ = 2 ^ (n + k) := (Nat.pow_add 2 n k).symm
    _ ≤ 2 ^ 32 := Nat.pow_le_pow_right (by decide) hk
  have hv : v.toNat < 2 ^ 32 := v.isLt.trans_le (Nat.pow_le_pow_right (by decide) (by omega))
  refine BitVec.eq_of_toNat_eq ?_
  rw [zext, BitVec.toNat_shiftLeft, BitVec.toNat_setWidth, BitVec.toNat_setWidth, BitVec.toNat_append, BitVec.toNat_ofNat,
    Nat.zero_mod, Nat.or_zero, Nat.mod_eq_of_lt hv, Nat.shiftLeft_eq]

theorem thumbLoadResult_of_thumbLoad {i : Instr} {rd : LowReg} {address : State → Word} {size : Nat} {value : State → Word → Word}
    {read : Word → State → Result (Word × State)} {raw : State → Word} (hi : ∀ s, exec i s = finish (thumbLoad rd read (raw s) s))
    (haddress : ∀ s, raw s = address s)
    (hread : ∀ s a, s.plainMemory → a.toNat % size = 0 → read a s = .ok (value s a, s)) : thumbLoadResult i rd address size value := by
  intro s hs ha
  rw [hi, haddress, thumbLoad, hread s _ hs ha]
  exact congrArg Host.Outcome.next (State.setReg_advance _ _ _)

theorem thumbStoreResult_of_thumbStore {i : Instr} {rd : LowReg} {address : State → Word} {x : AccessType} {raw : State → Word}
    (hi : ∀ s, exec i s = finish (thumbStore rd (memWrite x false (2 ^ x.logSize)) (raw s) s)) (haddress : ∀ s, raw s = address s) :
    thumbStoreResult i rd address (2 ^ x.logSize) := by
  intro s hs ha
  obtain ⟨t, hwrite, hbytes, hframe, -⟩ := memWrite_plain hs ha false (Nat.le_refl _) (s.reg (lowReg rd))
  refine ⟨{ s with mem := t.mem, stale := t.stale, pc := s.pcAfter }, ?_, ?_, rfl⟩
  · rw [hi, haddress, thumbStore, low, hwrite]
    refine congrArg Host.Outcome.next (Eq.trans (State.advance_eq_stepped t) ?_)
    rw [hframe]
    rfl
  · rw [hframe] at hbytes
    exact hbytes

/-! ### Accesses of one line, with a translation -/

/-- An exclusive access of a Shared region. -/
def monitoredAccess (s : State) : Access := { plainAccess s with lock := .exclusive }

theorem exclusiveAccess_plain (s : State) (va : Word) :
    exclusiveAccess (plainAccess s) (plainTranslation s va) = .ok (monitoredAccess s) := rfl

section
variable {s : State} (h : s.plainMemory)
include h

theorem loadError_plain (acc : Access) (n : Nat) (va : Word) : loadError s acc (plainTranslation s va) n va = none := by
  simp [loadError, dataHit, dcacheUsed_plain h, (noError_plain h _ _).2]

theorem loadAt_plain (acc : Access) (n : Nat) (va : Word) :
    loadAt acc (plainTranslation s va) n va s = .ok ((List.range n).map (s.memByte va), s) := by
  have hb : s.be32 = false := h.notBe32
  have hu := dcacheUsed_plain h (plainTranslation s va)
  have hf : dataFills s acc (plainTranslation s va) = false := by simp [dataFills, hu]
  simp only [loadAt, dataHit, hu, dataElsewhere, drainTo_plain h, readData_plain h, hf, loadError_plain h, byteAddresses, hb,
    Bool.and_false, Bool.false_and, Bool.false_eq_true, if_false, List.map_map]
  rfl

theorem storeHit_plain (va : Word) : storeHit s (plainTranslation s va) va = none := by
  simp [storeHit, h.noForcing, dataHit, dcacheUsed_plain h]

theorem storeAt_plain (acc : Access) (bs : List Byte) (va : Word) :
    ∃ t, storeAt acc (plainTranslation s va) bs va s = .ok t ∧ bytesStored s t va bs ∧
      t = { s with mem := t.mem, stale := t.stale } ∧ t.plainMemory := by
  have hb : s.be32 = false := h.notBe32
  have hu := dcacheUsed_plain h (plainTranslation s va)
  have ht := setBytesAt_frame s (((List.range bs.length).map fun i => (s.mva va).toNat + i).zip bs)
  refine ⟨_, ?_, fun a => byteAt_setBytesAt_range h.form _ _ a, ht,
    plainMemory_of_frame h ht (State.memoryWf_setBytesAt h.form ..) (outstanding_setBytesAt h.complete ..)⟩
  simp only [storeAt, storeHit_plain h, hu, dataElsewhere, storePast, (noError_plain h _ []).1, byteAddresses, hb, Bool.and_false,
    Bool.false_and, Bool.false_eq_true, if_false]
  rfl

/-! ### Exclusive accesses -/

/-- Marking the monitors leaves the plain setting. -/
theorem plainMemory_marked (l g : Option Tag) : State.plainMemory { s with localMon := l, globalMon := g } :=
  ⟨h.noDebug, h.noForcing, h.form, h.mmuOff, h.notBe32, h.noRemap, h.quietBus, h.noPort, h.complete, h.tcmsOff, h.noEtm⟩

/-- The tag of an access. -/
def exclusiveTag (s : State) (va : Word) (size : Nat) : Tag := { addr := s.mva va, size := size, ns := s.nsState }

theorem loadExclusive_plain {size : Nat} {va : Word} (ha : checkAlignment (exclusiveType size) false va s = .ok va) :
    loadExclusive size va s = .ok (some (exclusiveWords (bit s.cpsr 9) ((List.range size).map (s.memByte va))),
      { s with localMon := some (exclusiveTag s va size), globalMon := some (exclusiveTag s va size) }) := by
  have hm := plainMemory_marked h (some (exclusiveTag s va size)) (some (exclusiveTag s va size))
  have hload := loadAt_plain hm (monitoredAccess s) size va
  have hwatch := watchAccess_plain hm (monitoredAccess s) (plainTranslation s va) va size false
  have htrace := traceAccess_plain hm false va va
  have hbig := bigEndian_plain hm
  simp only [exclusiveTag] at hload hwatch htrace hbig ⊢
  simp only [loadExclusive, checkEndian_plain h, ha, dataTranslate_plain h, exclusiveAccess_plain, orderBefore_plain h, bind, Except.bind,
    loadError_plain h, Option.isSome_none, Bool.not_false, if_true]
  erw [hload]
  simp only [hwatch]
  erw [htrace]
  simp only [hbig, pure, Except.pure]
  rfl

theorem traceFailed_plain (va a : Word) (bs : List Byte) : traceFailed va a bs s = s := by simp [traceFailed, recordAccess, h.noEtm]

/-- On a quiet bus the answer to an exclusive write is what the global monitor holds. -/
theorem exclusivePasses_plain (tag : Tag) {rs : List BusRequest} (hne : rs ≠ []) (ht : ∀ r ∈ rs, 0 < r.transfers) :
    exclusivePasses s tag rs = (s.globalMon == some tag) := by
  have hanswer (r : BusRequest) (i : Nat) : busAnswer s.bus r i = none := by simp [busAnswer, busRegion, h.quietBus]
  simp only [exclusivePasses, hanswer]
  cases s.globalMon == some tag
  case true => simp
  case false =>
    obtain ⟨r, rs, rfl⟩ := List.exists_cons_of_ne_nil hne
    have := ht r List.mem_cons_self
    simp only [List.all_cons, Bool.and_eq_false_iff]
    exact .inl (by simpa using ⟨0, this⟩)

end

/-- A data access on the data port makes at least one transfer. -/
theorem dataRequests_transfers {r : BusRequest} (hport : r.port ≠ .peripheral) (streamed be32 : Bool) (a : Nat) {n : Nat} (hn : 0 < n) :
    dataRequests r streamed be32 a n ≠ [] ∧ ∀ x ∈ dataRequests r streamed be32 a n, 0 < x.transfers := by
  have hpiece (a n : Nat) : (pieceRequest r be32 a n).transfers = 1 := rfl
  have hwords {m : Nat} (hm : 0 < m) : 0 < (wordsRequest r streamed be32 a m).transfers := by
    unfold wordsRequest BusRequest.burstOf
    dsimp only
    split
    · exact Nat.div_pos (by omega) (by decide)
    · split
      · exact Nat.div_pos (by omega) (by decide)
      · exact hm
  unfold dataRequests narrowRequests
  rw [if_neg hport]
  split
  · next hw => exact ⟨by simp, by simpa using hwords (m := n / 4) (by omega)⟩
  · dsimp only
    split
    · exact ⟨by simp, by simp [hpiece]⟩
    · exact ⟨by simp, by simp [hpiece]⟩

/-- The bytes of an exclusive store as they lie in memory. -/
def State.exclusiveOrder (s : State) (size : Nat) (v1 v2 : Word) : List Byte :=
  if size = 8 then s.storeOrder 4 v1 ++ s.storeOrder 4 v2 else s.storeOrder size v1

theorem exclusiveBytes_plain {s : State} (h : s.plainMemory) (size : Nat) (v1 v2 : Word) :
    exclusiveBytes s.bigEndian size v1 v2 = s.exclusiveOrder size v1 v2 := by
  simp only [exclusiveBytes, bigEndian_plain h, disassemble_eq, State.exclusiveOrder]

section
variable {s : State} (h : s.plainMemory) {size : Nat} {va : Word} (ha : checkAlignment (exclusiveType size) true va s = .ok va)
  (hsize : 0 < size) (v1 v2 : Word)
include h ha hsize

omit ha in
/-- What decides a store-exclusive in the plain setting. -/
theorem storeExclusive_passes_iff : (exclusivePasses s (exclusiveTag s va size)
      ((plainRequests s (monitoredAccess s) (plainTranslation s va) true size).map
        (·.carry ((byteAddresses s.be32 (plainTranslation s va).offset size).zip (s.exclusiveOrder size v1 v2)))) = true) ↔
    s.globalMon = some (exclusiveTag s va size) := by
  have hplain : plainRequests s (monitoredAccess s) (plainTranslation s va) true size =
      dataRequests (requestShape .data true .exclusive .stronglyOrdered s.nsState s.privileged) false s.be32 (s.mva va).toNat size := rfl
  obtain ⟨hne, htransfers⟩ := dataRequests_transfers
    (r := requestShape .data true .exclusive .stronglyOrdered s.nsState s.privileged) (show Port.data ≠ .peripheral by decide) false s.be32 (s.mva va).toNat hsize
  rw [hplain, exclusivePasses_plain h, beq_iff_eq]
  · simpa using hne
  · simpa [BusRequest.carry] using htransfers

theorem storeExclusive_fails (hm : s.localMon ≠ some (exclusiveTag s va size) ∨ s.globalMon ≠ some (exclusiveTag s va size)) :
    storeExclusive size v1 v2 va s = .ok (1#32, { s with localMon := none }) := by
  have hpasses := (storeExclusive_passes_iff h (va := va) hsize v1 v2).not
  simp only [storeExclusive, checkEndian_plain h, ha, dataTranslate_plain h, exclusiveAccess_plain, orderBefore_plain h, bind, Except.bind,
    exclusiveBytes_plain h, (noError_plain h _ []).1, Option.isSome_none, Bool.and_false, Bool.or_false]
  refine (if_neg ?_).trans ?_
  · rw [Bool.and_eq_true, not_and_or]
    exact hm.imp (fun hl => by simpa using! hl) hpasses.mpr
  · simp only [watchAccess_plain h, traceFailed_plain h, pure, Except.pure]

theorem storeExclusive_passes (hl : s.localMon = some (exclusiveTag s va size)) (hg : s.globalMon = some (exclusiveTag s va size)) :
    ∃ t, storeExclusive size v1 v2 va s = .ok (0#32, { s with mem := t.mem, stale := t.stale, localMon := none, globalMon := none }) ∧
      bytesStored s t va (s.exclusiveOrder size v1 v2) ∧ t = { s with mem := t.mem, stale := t.stale } := by
  have hpasses := (storeExclusive_passes_iff h hsize v1 v2).mpr hg
  obtain ⟨t, hstore, hstored, hframe, hp⟩ := storeAt_plain h (monitoredAccess s) (s.exclusiveOrder size v1 v2) va
  refine ⟨t, ?_, hstored, hframe⟩
  simp only [storeExclusive, checkEndian_plain h, ha, dataTranslate_plain h, exclusiveAccess_plain, orderBefore_plain h, bind, Except.bind, exclusiveBytes_plain h,
    (noError_plain h _ []).1, Option.isSome_none, Bool.and_false, Bool.or_false]
  refine (if_pos ?_).trans ?_
  · exact (Bool.and_eq_true _ _).mpr ⟨decide_eq_true hl, hpasses⟩
  · simp only [hstore, watchAccess_plain hp, traceAccess_plain hp, Bool.false_eq_true, if_false, pure, Except.pure]
    rw [hframe]
    rfl

end

/-! ### The instructions -/

theorem exclusiveWords_fst (s : State) (va : Word) {n : Nat} (hn : n ≤ 4) :
    (exclusiveWords (bit s.cpsr 9) ((List.range n).map (s.memByte va))).1 =
      assemble (bit s.cpsr 9) ((List.range n).map (s.memByte va)) := by
  rw [exclusiveWords, List.take_of_length_le (by simpa using hn)]

theorem exclusiveWords_pair (s : State) {va : Word} (ha : va.toNat % 8 = 0) :
    exclusiveWords (bit s.cpsr 9) ((List.range 8).map (s.memByte va)) = (s.memWord va, s.memWord (va + 4#32)) := by
  have hnext : (s.mva (va + 4#32)).toNat = (s.mva va).toNat + 4 := mva_add (d := 4) (by omega)
  have htake : ((List.range 8).map (s.memByte va)).take 4 = (List.range 4).map (s.memByte va) := rfl
  have hdrop : ((List.range 8).map (s.memByte va)).drop 4 = (List.range 4).map (s.memByte (va + 4#32)) := by
    simp [List.range, List.range.loop, State.memByte, hnext, Nat.add_assoc]
  rw [exclusiveWords, htake, hdrop, assemble_memWord, assemble_memWord]

section
variable {c : Cond} {rn rd rm : Reg} {s : State} (hc : condHolds c s.cpsr = true) (h : s.plainMemory)
include hc h

theorem loadExclusiveReg_eq {size : Nat} (hpc : 15#4 ∉ [rn, rd]) (hsize : size ≤ 4)
    (ha : checkAlignment (exclusiveType size) false (s.reg rn) s = .ok (s.reg rn)) :
    finish (loadExclusiveReg c size rn rd s) = .next { s with
      regs := s.regs.set (bankedReg s.mode rd) (assemble (bit s.cpsr 9) ((List.range size).map (s.memByte (s.reg rn))))
      localMon := some (exclusiveTag s (s.reg rn) size)
      globalMon := some (exclusiveTag s (s.reg rn) size)
      pc := s.pcAfter } := by
  rw [loadExclusiveReg, conditional_pass hc, noPc_pass hpc]
  change finish (loadExclusive size (s.reg rn) s >>= _) = _
  rw [loadExclusive_plain h ha, ← exclusiveWords_fst s _ hsize]
  exact congrArg Host.Outcome.next (State.setReg_advance _ _ _)

theorem ldrexd_eq (hrn : rn ≠ 15#4) (h0 : bit rd 0 = false) (h14 : rd ≠ 14#4) (ha : (s.reg rn).toNat % 8 = 0) :
    exec (.ldrexd c rn rd) s = .next { s with
      regs := (s.regs.set (bankedReg s.mode rd) (s.memWord (s.reg rn))).set (bankedReg s.mode (rd + 1#4))
        (s.memWord (s.reg rn + 4#32))
      localMon := some (exclusiveTag s (s.reg rn) 8)
      globalMon := some (exclusiveTag s (s.reg rn) 8)
      pc := s.pcAfter } := by
  change execLdrexd c rn rd s = _
  rw [execLdrexd, conditional_pass hc, noPc_pass (by simpa using Ne.symm hrn), refuseIf_pass (by simp [h0, h14])]
  change finish (loadExclusive 8 (s.reg rn) s >>= _) = _
  rw [loadExclusive_plain h (checkAlignment_of_aligned (t := exclusiveType 8) ha false s), exclusiveWords_pair s ha]
  exact congrArg Host.Outcome.next (State.setReg_advance _ _ _)

omit h in
/-- The end of a store-exclusive: its status, as loaded by the shared operation. -/
theorem storeExclusiveReg_eq {size : Nat} (hpc : 15#4 ∉ [rn, rd, rm]) (hrn : rd ≠ rn) (hrm : rd ≠ rm) {status : Word} {t : State}
    (hstore : storeExclusive size (s.reg rm) 0#32 (s.reg rn) s = .ok (status, t)) :
    finish (storeExclusiveReg c size rn rd rm s) = .next (t.wrote rd status) := by
  rw [storeExclusiveReg, conditional_pass hc, noPc_pass hpc, refuseIf_pass (by simp [hrn, hrm])]
  change finish (storeExclusive size _ _ _ s >>= _) = _
  rw [hstore]
  exact congrArg Host.Outcome.next (State.setReg_advance _ _ _)

omit h in
theorem strexd_eq (hpc : 15#4 ∉ [rn, rd, rm]) (h0 : bit rm 0 = false) (h14 : rm ≠ 14#4) (hrn : rd ≠ rn) (hrm : rd ≠ rm)
    (hrm' : rd ≠ rm + 1#4) {status : Word} {t : State}
    (hstore : storeExclusive 8 (s.reg rm) (s.reg (rm + 1#4)) (s.reg rn) s = .ok (status, t)) :
    exec (.strexd c rn rd rm) s = .next (t.wrote rd status) := by
  change execStrexd c rn rd rm s = _
  rw [execStrexd, conditional_pass hc, noPc_pass hpc, refuseIf_pass (by simp [h0, h14, hrn, hrm, pairReg, hrm'])]
  change finish (storeExclusive 8 _ _ _ s >>= _) = _
  rw [show pairReg rm = rm + 1#4 from rfl, hstore]
  exact congrArg Host.Outcome.next (State.setReg_advance _ _ _)

end

end Sys2Proof.Machine

open Sys2Proof Sys2Proof.Machine

/-- Settles O59: the shared load and store, at the address of each form. -/
theorem thumbLoadsAndStores : Obligations.ThumbLoadsAndStores := by
  intro rd rn rm imm5 imm8 index at1 at2 at4 words' sp pc word byte half
  have hword : ∀ s a, s.plainMemory → a.toNat % 4 = 0 → loadWord false false a s = .ok (word s a, s) :=
    fun _ _ hs ha => loadWord_plain hs ha false false
  have hbyte : ∀ s a, s.plainMemory → a.toNat % 1 = 0 → readByte false a s = .ok (byte s a, s) :=
    fun _ a hs _ => readByte_plain hs false a
  have hhalf : ∀ s a, s.plainMemory → a.toNat % 2 = 0 → readHalf a s = .ok (half s a, s) := fun _ _ hs ha => readHalf_plain hs ha
  have hindex (s : State) : low s rn + low s rm = index s := rfl
  have hat1 (s : State) : low s rn + zext imm5 = at1 s := rfl
  have hat2 (s : State) : low s rn + (zext imm5 <<< 1) = at2 s := congrArg (s.reg (lowReg rn) + ·) (zext_shiftLeft 1 (by decide) imm5)
  have hat4 (s : State) : low s rn + words imm5 = at4 s := congrArg (s.reg (lowReg rn) + ·) (zext_shiftLeft 2 (by decide) imm5)
  have hwords : words imm8 = words' := zext_shiftLeft 2 (by decide) imm8
  have hsp (s : State) : s.reg 13#4 + words imm8 = sp s := congrArg (s.reg 13#4 + ·) hwords
  have hpc (s : State) : thumbPc s + words imm8 = pc s := by rw [thumbPc, align4_eq, ← State.reg_pc, hwords]
  exact ⟨thumbLoadResult_of_thumbLoad (fun _ => rfl) hpc hword, thumbLoadResult_of_thumbLoad (fun _ => rfl) hsp hword,
    thumbLoadResult_of_thumbLoad (fun _ => rfl) hindex hword, thumbLoadResult_of_thumbLoad (fun _ => rfl) hat4 hword,
    thumbLoadResult_of_thumbLoad (fun _ => rfl) hindex hhalf, thumbLoadResult_of_thumbLoad (fun _ => rfl) hat2 hhalf,
    thumbLoadResult_of_thumbLoad (fun _ => rfl) hindex hbyte, thumbLoadResult_of_thumbLoad (fun _ => rfl) hat1 hbyte,
    thumbLoadResult_of_thumbLoad (fun _ => rfl) hindex fun _ a hs _ => readSignedByte_plain hs a,
    thumbLoadResult_of_thumbLoad (fun _ => rfl) hindex fun _ _ hs ha => readSignedHalf_plain hs ha,
    thumbStoreResult_of_thumbStore (x := .wStore) (fun _ => rfl) hsp, thumbStoreResult_of_thumbStore (x := .wStore) (fun _ => rfl) hindex,
    thumbStoreResult_of_thumbStore (x := .wStore) (fun _ => rfl) hat4, thumbStoreResult_of_thumbStore (x := .half) (fun _ => rfl) hindex,
    thumbStoreResult_of_thumbStore (x := .half) (fun _ => rfl) hat2, thumbStoreResult_of_thumbStore (x := .byte) (fun _ => rfl) hindex,
    thumbStoreResult_of_thumbStore (x := .byte) (fun _ => rfl) hat1⟩

/-- Settles O34: the shared operations in the plain setting, and the status that they give. -/
theorem exclusiveAccessResults : Obligations.ExclusiveAccessResults := by
  intro c rn rd rm s hc hs hrn a tag loaded passes fails set
  have aligned (size : Nat) (write : Bool) {k : Nat} (hk : (exclusiveType size).logSize = k) (ha : a.toNat % 2 ^ k = 0) :
      checkAlignment (exclusiveType size) write a s = .ok a := checkAlignment_of_aligned (by rw [hk]; exact ha) write s
  refine ⟨fun hrd => ?_, fun hrd => ?_, fun hrm => ?_, fun h0 h14 ha => ⟨_, ldrexd_eq hc hs hrn h0 h14 ha, rfl⟩,
    fun hrd hrm hdn hdm => ?_⟩
  · have hpc : 15#4 ∉ [rn, rd] := by simpa using ⟨Ne.symm hrn, Ne.symm hrd⟩
    refine ⟨fun ha => ⟨_, (loadExclusiveReg_eq hc hs hpc (size := 4) (by decide) (aligned 4 false (k := 2) rfl ha)).trans ?_, rfl⟩,
      fun ha => ⟨_, (loadExclusiveReg_eq hc hs hpc (size := 2) (by decide) (aligned 2 false (k := 1) rfl ha)).trans ?_, rfl⟩,
      fun ha => ⟨_, (loadExclusiveReg_eq hc hs hpc (size := 1) (by decide) (aligned 1 false (k := 0) rfl ha)).trans ?_, rfl⟩⟩
    · rw [assemble_memWord]; rfl
    · rw [assemble_memHalf]; rfl
    · rw [assemble_memByte]; rfl
  · change execLdrexd c rn rd s = _
    rw [execLdrexd, conditional_pass hc, noPc_pass (by simpa using Ne.symm hrn)]
    change finish (refuseIf _ _ >>= _) = _
    rw [refuseIf_stop (by simpa using hrd)]
    rfl
  · change execStrexd c rn rd rm s = _
    rw [execStrexd, conditional_pass hc]
    by_cases hpc : 15#4 ∈ [rn, rd, rm]
    · rw [noPc_stop hpc]
      rfl
    · rw [noPc_pass hpc]
      change finish (refuseIf _ _ >>= _) = _
      rw [refuseIf_stop (by rcases hrm with h | h <;> simp [h])]
      rfl
  · have hpc : 15#4 ∉ [rn, rd, rm] := by simpa using ⟨Ne.symm hrn, Ne.symm hrd, Ne.symm hrm⟩
    have single (i : Instr) (size : Nat) (hi : exec i s = finish (storeExclusiveReg c size rn rd rm s)) (hpos : 0 < size) (hlt : size < 8)
        (halign : a.toNat % size = 0 → checkAlignment (exclusiveType size) true a s = .ok a) :
        passes i size [] (s.storeOrder size (s.reg rm)) ∧ fails i size := by
      refine ⟨fun ha hl hg => ?_, fun ha hm => ?_⟩
      · obtain ⟨t, hstore, hbytes, hframe⟩ := storeExclusive_passes hs (halign ha) hpos (s.reg rm) 0#32 hl hg
        refine ⟨_, hi.trans (storeExclusiveReg_eq hc hpc hdn hdm hstore), fun h8 => absurd h8 (Nat.ne_of_lt hlt), fun _ => ?_, rfl⟩
        rw [hframe, State.exclusiveOrder, if_neg (Nat.ne_of_lt hlt)] at hbytes
        exact hbytes
      · exact hi.trans (storeExclusiveReg_eq hc hpc hdn hdm (storeExclusive_fails hs (halign ha) hpos (s.reg rm) 0#32 hm))
    refine ⟨single _ 4 rfl (by decide) (by decide) (aligned 4 true (k := 2) rfl),
      single _ 2 rfl (by decide) (by decide) (aligned 2 true (k := 1) rfl),
      single _ 1 rfl (by decide) (by decide) (aligned 1 true (k := 0) rfl), fun h0 h14 hdm' => ⟨fun ha hl hg => ?_, fun ha hm => ?_⟩⟩
    · obtain ⟨t, hstore, hbytes, hframe⟩ := storeExclusive_passes hs (aligned 8 true (k := 3) rfl ha) (by decide) (s.reg rm)
        (s.reg (rm + 1#4)) hl hg
      refine ⟨_, strexd_eq hc hpc h0 h14 hdn hdm hdm' hstore, fun _ => wordsStored_pair (by omega) ?_, fun h8 => absurd h8 (by decide), rfl⟩
      rw [hframe] at hbytes
      exact hbytes
    · exact strexd_eq hc hpc h0 h14 hdn hdm hdm' (storeExclusive_fails hs (aligned 8 true (k := 3) rfl ha) (by decide) (s.reg rm)
        (s.reg (rm + 1#4)) hm)
end

section
/-! LDM and STM (43): register lists, the addresses of their words, what a block writes. -/

namespace Sys2Proof.Machine

open Sys2Proof

/-! ### Register lists -/

/-- The members of a filtered range, by how many members are smaller. -/
theorem map_count_filter_range (p : Nat → Bool) (m : Nat) :
    ((List.range m).filter p).map (fun i => ((List.range i).filter p).length) = List.range ((List.range m).filter p).length := by
  induction m with
  | zero => rfl
  | succ m ih =>
    rw [List.range_succ, List.filter_append, List.map_append, ih, List.length_append]
    cases hm : p m
    · simp [hm]
    · simp [hm, List.range_succ]

theorem mem_regList {list : BitVec 16} {r : Reg} : r ∈ regList list ↔ bit list r.toNat = true := by
  simp only [regList, List.mem_map, List.mem_filter, List.mem_range]
  constructor
  · rintro ⟨i, ⟨hi, hbit⟩, rfl⟩
    rwa [BitVec.toNat_ofNat, Nat.mod_eq_of_lt hi]
  · exact fun h => ⟨r.toNat, ⟨r.isLt, h⟩, by simp⟩

theorem regList_length (list : BitVec 16) : (regList list).length = listSize list := by rw [regList, List.length_map, listSize]

/-- The listed registers lie in rising order. -/
theorem regList_map_below (list : BitVec 16) : (regList list).map (below list) = List.range (listSize list) := by
  rw [regList, List.map_map, listSize, ← map_count_filter_range]
  refine List.map_congr_left fun i hi => ?_
  have hi : i < 16 := by simpa using (List.mem_filter.mp hi).1
  rw [Function.comp_apply, below, BitVec.toNat_ofNat, Nat.mod_eq_of_lt hi]

theorem below_getElem {list : BitVec 16} {k : Nat} (hk : k < (regList list).length) : below list (regList list)[k] = k := by
  have h := List.getElem_of_eq (regList_map_below list) (i := k) (by simpa using hk)
  simpa using h

theorem getElem_below {list : BitVec 16} {r : Reg} (h : bit list r.toNat = true) :
    ∃ hk : below list r < (regList list).length, (regList list)[below list r] = r := by
  obtain ⟨k, hk, rfl⟩ := List.getElem_of_mem (mem_regList.mpr h)
  exact ⟨by rwa [below_getElem], by simp only [below_getElem]⟩

theorem regList_eq_nil {list : BitVec 16} : regList list = [] ↔ list = 0#16 := by
  refine ⟨fun h => BitVec.eq_of_getLsbD_eq fun j hj => ?_, fun h => h ▸ rfl⟩
  have hj' : (BitVec.ofNat 4 j).toNat = j := by rw [BitVec.toNat_ofNat, Nat.mod_eq_of_lt hj]
  have hmem : BitVec.ofNat 4 j ∉ regList list := by simp [h]
  rw [mem_regList, hj'] at hmem
  simpa [bit] using hmem

theorem contains_regList {list : BitVec 16} {r : Reg} : (regList list).contains r = bit list r.toNat := by
  rw [Bool.eq_iff_iff, List.contains_iff_mem, mem_regList]

/-- A register is the lowest of its list where none is below it. -/
theorem head_regList {list : BitVec 16} {r : Reg} (h : bit list r.toNat = true) :
    (regList list).head? = some r ↔ below list r = 0 := by
  obtain ⟨hk, hr⟩ := getElem_below h
  rw [List.head?_eq_getElem?]
  constructor
  · intro h0
    obtain ⟨h0, heq⟩ := List.getElem?_eq_some_iff.mp h0
    rw [← heq, below_getElem]
  · intro h0
    simp only [h0] at hk hr
    rw [List.getElem?_eq_getElem hk, hr]

theorem setWidth_ne_zero {l : BitVec 15} (h : l ≠ 0#15) : (l.setWidth 16 : BitVec 16) ≠ 0#16 := by
  intro h0
  refine h (BitVec.eq_of_toNat_eq ?_)
  have := congrArg BitVec.toNat h0
  simpa [Nat.mod_eq_of_lt (show l.toNat < 65536 by omega)] using this

/-! ### Where a block refuses -/

theorem refuse_empty {list : BitVec 16} (h : list ≠ 0#16) (r : Refusal) : refuseIf (regList list).isEmpty r = .ok () :=
  refuseIf_pass (by simpa [regList_eq_nil] using h)

theorem checkBlock_pc {list : BitVec 16} (h : list ≠ 0#16) : checkBlock 15#4 (regList list) = .error (.refuse .registerField) := by
  rw [checkBlock, refuse_empty h]
  rfl

theorem checkBlock_pass {list : BitVec 16} {rn : Reg} (h : list ≠ 0#16) (hrn : rn ≠ 15#4) : checkBlock rn (regList list) = .ok () := by
  rw [checkBlock, refuse_empty h]
  exact noPc_pass (by simpa using Ne.symm hrn)

theorem list_ne_zero {list : BitVec 16} {r : Reg} (h : bit list r.toNat = true) : list ≠ 0#16 := by
  rintro rfl
  simp [bit] at h

theorem checkLoadBase_pass {w : Bool} {rn : Reg} {list : BitVec 16} (h : w = true → bit list rn.toNat = false) :
    checkLoadBase w rn (regList list) = .ok () := by
  refine refuseIf_pass ?_
  rw [contains_regList]
  cases w
  · rfl
  · rw [h rfl]
    rfl

theorem checkLoadBase_stop {rn : Reg} {list : BitVec 16} (h : bit list rn.toNat = true) :
    checkLoadBase true rn (regList list) = .error (.refuse .registerList) :=
  refuseIf_stop (by rw [contains_regList, h]; rfl)

theorem storeBase_eq {rn : Reg} {list : BitVec 16} :
    ((regList list).contains rn && (regList list).head? != some rn) = true ↔ bit list rn.toNat = true ∧ below list rn ≠ 0 := by
  rw [contains_regList, Bool.and_eq_true, bne_iff_ne]
  exact and_congr_right fun h => (head_regList h).not

theorem checkStoreBase_pass {w : Bool} {rn : Reg} {list : BitVec 16} (h : w = true → bit list rn.toNat = true → below list rn = 0) :
    checkStoreBase w rn (regList list) = .ok () := by
  refine refuseIf_pass ?_
  cases w
  · rfl
  · rw [Bool.true_and]
    exact Bool.eq_false_iff.mpr fun hbad => (storeBase_eq.mp hbad).2 (h rfl (storeBase_eq.mp hbad).1)

theorem checkStoreBase_stop {rn : Reg} {list : BitVec 16} (h : bit list rn.toNat = true) (hb : below list rn ≠ 0) :
    checkStoreBase true rn (regList list) = .error (.refuse .registerList) :=
  refuseIf_stop (by rw [Bool.true_and]; exact storeBase_eq.mpr ⟨h, hb⟩)

/-! ### The registers of a mode -/

theorem bankedReg_inj {m : BitVec 5} {r r' : Reg} (hr : r ≠ 15#4) (hr' : r' ≠ 15#4) (h : bankedReg m r = bankedReg m r') : r = r' := by
  have hlt : r.toNat < 15 := by have := r.isLt; have : r.toNat ≠ 15 := fun e => hr (BitVec.eq_of_toNat_eq e); omega
  have hlt' : r'.toNat < 15 := by have := r'.isLt; have : r'.toNat ≠ 15 := fun e => hr' (BitVec.eq_of_toNat_eq e); omega
  refine BitVec.eq_of_toNat_eq ?_
  rw [Fin.ext_iff] at h
  simp only [bankedReg, Fin.val_ofNat] at h
  have hbase : bankBase m = 13 ∨ (20 ≤ bankBase m ∧ bankBase m ≤ 30) := by unfold bankBase; split_ifs <;> simp
  split_ifs at h <;> omega

theorem regIn_setRegIn {m : BitVec 5} {r r' : Reg} (hr : r ≠ 15#4) (hr' : r' ≠ 15#4) (s : State) (v : Word) :
    (s.setRegIn m r v).regIn m r' = if r' = r then v else s.regIn m r' := by
  split
  · next h => rw [h, State.regIn_setRegIn_same]
  · next h => exact State.regIn_setRegIn_ne _ _ _ _ _ _ fun e => h (bankedReg_inj hr hr' e).symm

theorem modeRegs_refl (s : State) (m : BitVec 5) : modeRegs s s m (s.regIn m) := ⟨fun _ _ => rfl, fun _ _ => rfl⟩

theorem modeRegs_congr {s t t' : State} {m : BitVec 5} {v v' : Reg → Word} (ht : t'.regs = t.regs) (hv : ∀ r, r ≠ 15#4 → v r = v' r)
    (h : modeRegs s t m v) : modeRegs s t' m v' := by
  refine ⟨fun r hr => ?_, fun j hj => by rw [ht]; exact h.2 j hj⟩
  rw [← hv r hr, ← h.1 r hr, State.regIn, State.regIn, ht]

theorem modeRegs_setRegIn {s t : State} {m : BitVec 5} {v : Reg → Word} (h : modeRegs s t m v) {r : Reg} (hr : r ≠ 15#4) (x : Word) :
    modeRegs s (t.setRegIn m r x) m fun r' => if r' = r then x else v r' := by
  refine ⟨fun r' hr' => ?_, fun j hj => ?_⟩
  · rw [regIn_setRegIn hr hr', h.1 r' hr']
  · have hne : (bankedReg m r).val ≠ j.val := fun e => hj r hr (Fin.ext e)
    rw [← h.2 j hj]
    simp [State.setRegIn, hne]

/-- A list of registers, each with its value. -/
theorem modeRegs_setRegsIn {s : State} {m : BitVec 5} (f : Reg → Word) {l : List Reg} (hl : 15#4 ∉ l) {t : State} {v : Reg → Word}
    (h : modeRegs s t m v) :
    modeRegs s (t.setRegsIn m (l.map fun r => (r, f r))) m fun r => if r ∈ l then f r else v r := by
  induction l generalizing t v with
  | nil => exact modeRegs_congr rfl (fun _ _ => rfl) h
  | cons a l ih =>
    obtain ⟨ha, hl⟩ : 15#4 ≠ a ∧ 15#4 ∉ l := by simpa using hl
    refine modeRegs_congr rfl (fun r _ => ?_) (ih hl (modeRegs_setRegIn h (Ne.symm ha) (f a)))
    by_cases hra : r = a
    · simp [hra]
    · simp [hra]

theorem setRegsIn_frame (s : State) (m : BitVec 5) (l : List (Reg × Word)) :
    s.setRegsIn m l = { s with regs := (s.setRegsIn m l).regs } := by
  induction l generalizing s with
  | nil => rfl
  | cons x l ih => exact ih _

/-! ### The words of a block -/

/-- The address of a listed register's word, where the block starts at `a`. -/
def wordAddress (a : Word) (list : BitVec 16) (r : Reg) : Word := a + BitVec.ofNat 32 (4 * below list r)

theorem loadBlock_eq {s : State} (h : s.plainMemory) {p u precise : Bool} {base a : Word} {list : BitVec 16}
    (hx : checkAlignment .multiWord false (blockStart p u base (listSize list)) s = .ok a) (ha : a.toNat % 4 = 0) :
    loadBlock p u precise base (regList list) s =
      .ok ((regList list).map fun r => (r, s.memWord (wordAddress a list r)), s) := by
  rw [loadBlock, regList_length, loadWords_of_checked h hx ha, ← regList_map_below, List.map_map]
  refine congrArg (fun l => Except.ok (l, s)) ?_
  exact List.zip_map_right ▸ (by rw [List.zip_eq_zipWith, List.zipWith_self, List.map_map]; rfl)

theorem lookup_map {f : Reg → Word} {l : List Reg} {r : Reg} (h : r ∈ l) : (l.map fun r => (r, f r)).lookup r = some (f r) := by
  induction l with
  | nil => simp at h
  | cons a l ih =>
    rw [List.map_cons, List.lookup_cons]
    by_cases hra : r = a
    · simp [hra]
    · rw [beq_false_of_ne hra, ih ((List.mem_cons.mp h).resolve_left hra)]

theorem pcWord_eq {list : BitVec 16} (f : Reg → Word) (h : bit list 15 = true) :
    pcWord ((regList list).map fun r => (r, f r)) = f 15#4 := by
  rw [pcWord, lookup_map (mem_regList.mpr h), Option.getD_some]

theorem plainRegs_eq (list : BitVec 16) (f : Reg → Word) : plainRegs ((regList list).map fun r => (r, f r)) =
    ((regList list).filter (· != 15#4)).map fun r => (r, f r) := by
  rw [plainRegs, List.filter_map]
  rfl

theorem mem_plainList {list : BitVec 16} {r : Reg} (hr : r ≠ 15#4) :
    r ∈ (regList list).filter (· != 15#4) ↔ bit list r.toNat = true := by
  simp [mem_regList, hr]

/-- What a block load leaves in the registers of a mode. -/
theorem modeRegs_block {s t : State} {m : BitVec 5} {v : Reg → Word} (h : modeRegs s t m v) (list : BitVec 16) (f : Reg → Word) :
    modeRegs s (t.setRegsIn m (plainRegs ((regList list).map fun r => (r, f r)))) m
      fun r => if bit list r.toNat then f r else v r := by
  rw [plainRegs_eq]
  refine modeRegs_congr rfl (fun r hr => ?_) (modeRegs_setRegsIn f (by simp) h)
  by_cases hb : bit list r.toNat = true
  · rw [if_pos hb, if_pos ((mem_plainList hr).mpr hb)]
  · rw [if_neg hb, if_neg fun hmem => hb ((mem_plainList hr).mp hmem)]

/-- What the base update of a block leaves there. -/
theorem modeRegs_blockBase (s : State) {rn : Reg} (hrn : rn ≠ 15#4) (w : Bool) (b : Word) :
    modeRegs s (writeBase s rn (if w then some b else none)) s.mode fun r => if w && r == rn then b else s.regIn s.mode r := by
  cases w
  · exact modeRegs_refl s s.mode
  · refine modeRegs_congr rfl (fun r _ => ?_) (modeRegs_setRegIn (modeRegs_refl s s.mode) hrn b)
    by_cases hr : r = rn <;> simp [hr]

/-- A block of words from the aligned address that the alignment rule gives, with the PID 0. -/
theorem storeWords_of_checked {s : State} (h : s.plainMemory) (hf : (s.cp15.bank s.nsState).fcse = 0#32) (ws : List Word) {x : AccessType}
    {va a : Word} (hx : checkAlignment x true va s = .ok a) (ha : a.toNat % 4 = 0) (hn : ws.length ≤ 1024) :
    ∃ t, storeWords x ws va s = .ok t ∧
      (∀ k (hk : k < ws.length), ∀ j < 4, t.byteAt .external ((a + BitVec.ofNat 32 (4 * k)).toNat + j) =
        (s.storeOrder 4 ws[k]).getD j 0#8) ∧
      (∀ b, (∀ k < ws.length, ¬((a + BitVec.ofNat 32 (4 * k)).toNat ≤ b ∧ b < (a + BitVec.ofNat 32 (4 * k)).toNat + 4)) →
        t.byteAt .external b = s.byteAt .external b) ∧
      t = { s with mem := t.mem, stale := t.stale } ∧ t.plainMemory := by
  have hsplit (k j : Nat) (hj : j < 4) : (a + BitVec.ofNat 32 (4 * k + j)).toNat = (a + BitVec.ofNat 32 (4 * k)).toNat + j := by
    simp only [BitVec.toNat_add, BitVec.toNat_ofNat]; omega
  have hd : disassemble s.bigEndian 4 = s.storeOrder 4 := funext fun w => by rw [bigEndian_plain h, disassemble_eq]
  have hl := length_flatMap_storeOrder s ws
  obtain ⟨t, hstore, hbytes, hrest, hframe, hp⟩ := storeBytes_plain h hf
    { plainAccess s with unaligned := normalUnaligned s.unalignedOn x va, multiple := true } ws.length
    (ws.flatMap (s.storeOrder 4)) ha (by omega) (by omega) (by omega)
  rw [hl] at hbytes hrest
  refine ⟨t, ?_, fun k hk j hj => ?_, fun b hb => hrest b fun i hi e => ?_, hframe, hp⟩
  · simp only [storeWords, checkEndian_plain h, hx, bind, Except.bind, hd, hstore, traceAccess_plain hp, pure, Except.pure]
  · rw [← hsplit k j hj, hbytes _ (by omega), getD_flatMap s ws hk hj]
  · have := hsplit (i / 4) (i % 4) (by omega)
    rw [show 4 * (i / 4) + i % 4 = i by omega] at this
    exact hb (i / 4) (by omega) (by omega)

theorem listSize_le (list : BitVec 16) : listSize list ≤ 16 := (List.length_filter_le _ _).trans (by simp)

/-- A store of the listed registers. -/
theorem storeBlock_eq {s : State} (h : s.plainMemory) (hf : (s.cp15.bank s.nsState).fcse = 0#32) {list : BitVec 16} {va a : Word}
    (hx : checkAlignment .multiWord true va s = .ok a) (ha : a.toNat % 4 = 0) {f value : Reg → Word} (hv : ∀ r, r ≠ 15#4 → f r = value r) :
    ∃ t, storeWords .multiWord ((regList list).map f) va s = .ok t ∧ blockStored s t list (wordAddress a list) value ∧
      t = { s with mem := t.mem, stale := t.stale } := by
  have hlen : ((regList list).map f).length = (regList list).length := List.length_map _
  have hle := regList_length list ▸ listSize_le list
  obtain ⟨t, hstore, hbytes, hrest, hframe, -⟩ := storeWords_of_checked h hf ((regList list).map f) hx ha (by omega)
  refine ⟨t, hstore, ⟨fun r hr hpc j hj => ?_, fun b hb => hrest b fun k hk => ?_⟩, hframe⟩
  · obtain ⟨hk, hget⟩ := getElem_below hr
    rw [mva_of_pid_zero hf, wordAddress, hbytes _ (by rwa [hlen]) j hj, List.getElem_map, hget, hv r hpc]
  · rw [hlen] at hk
    have := hb (regList list)[k] (mem_regList.mp (List.getElem_mem hk))
    rwa [mva_of_pid_zero hf, wordAddress, below_getElem] at this

/-! ### The instructions -/

section
variable {c : Cond} {p u w : Bool} {rn : Reg} {list : BitVec 16} {s : State} (hc : condHolds c s.cpsr = true)
include hc

theorem ldm1_stop {r : Refusal} (h : (checkBlock rn (regList list) >>= fun _ => checkLoadBase w rn (regList list)) = .error (.refuse r)) :
    exec (.ldm1 c p u w rn list) s = .refused r := by
  change finish (conditional c _ s (checkBlock rn (regList list) >>= fun _ => checkLoadBase w rn (regList list) >>= fun _ => _)) = _
  rw [conditional_pass hc, ← bind_assoc, h]
  rfl

theorem ldm2_stop {l : BitVec 15} {r : Refusal}
    (h : (checkBlock rn (regList (l.setWidth 16)) >>= fun _ => needsSpsr s) = .error (.refuse r)) :
    exec (.ldm2 c p u rn l) s = .refused r := by
  change finish (conditional c _ s (checkBlock rn (regList (l.setWidth 16)) >>= fun _ => needsSpsr s >>= fun _ => _)) = _
  rw [conditional_pass hc, ← bind_assoc, h]
  rfl

theorem stm1_stop {r : Refusal} (h : (checkBlock rn (regList list) >>= fun _ => checkStoreBase w rn (regList list)) = .error (.refuse r)) :
    exec (.stm1 c p u w rn list) s = .refused r := by
  change finish (conditional c _ s (checkBlock rn (regList list) >>= fun _ => checkStoreBase w rn (regList list) >>= fun _ => _)) = _
  rw [conditional_pass hc, ← bind_assoc, h]
  rfl

theorem stm2_stop {r : Refusal} (h : (checkBlock rn (regList list) >>= fun _ => needsSpsr s) = .error (.refuse r)) :
    exec (.stm2 c p u rn list) s = .refused r := by
  change finish (conditional c _ s (checkBlock rn (regList list) >>= fun _ => needsSpsr s >>= fun _ => _)) = _
  rw [conditional_pass hc, ← bind_assoc, h]
  rfl

section
variable {a : Word} (h : s.plainMemory) (hlist : list ≠ 0#16) (hrn : rn ≠ 15#4) (ha : a.toNat % 4 = 0)
include h hlist hrn ha

theorem ldm1_eq (hx : checkAlignment .multiWord false (blockStart p u (s.reg rn) (listSize list)) s = .ok a)
    (hbase : w = true → bit list rn.toNat = false) :
    ∃ t, exec (.ldm1 c p u w rn list) s =
        finish (if bit list 15 then loadToPc t (s.memWord (wordAddress a list 15#4)) else .ok t.advance) ∧
      (modeRegs s t s.mode fun r =>
        if bit list r.toNat then s.memWord (wordAddress a list r)
        else if w && r == rn then blockEnd u (s.reg rn) (listSize list) else s.regIn s.mode r) ∧
      t = { s with regs := t.regs } := by
  have hframe : ∀ l, (writeBase s rn (blockBase u w (s.reg rn) (listSize list))).setRegsIn s.mode l =
      { s with regs := ((writeBase s rn (blockBase u w (s.reg rn) (listSize list))).setRegsIn s.mode l).regs } := by
    intro l
    cases w <;> exact setRegsIn_frame _ _ _
  refine ⟨_, ?_, modeRegs_block (modeRegs_blockBase s hrn w (blockEnd u (s.reg rn) (listSize list))) list
    (fun r => s.memWord (wordAddress a list r)), hframe _⟩
  change finish (conditional c _ s (checkBlock rn (regList list) >>= fun _ => checkLoadBase w rn (regList list) >>= fun _ =>
    loadBlock p u (bit list 15) (s.reg rn) (regList list) s >>= fun x =>
      if bit list 15 then loadToPc ((writeBase x.2 rn (blockBase u w (x.2.reg rn) (regList list).length)).setRegsIn x.2.mode
          (plainRegs x.1)) (pcWord x.1)
        else pure ((writeBase x.2 rn (blockBase u w (x.2.reg rn) (regList list).length)).setRegsIn x.2.mode (plainRegs x.1)).advance)) = _
  rw [conditional_pass hc, checkBlock_pass hlist hrn, checkLoadBase_pass hbase, loadBlock_eq h hx ha, regList_length]
  refine congrArg finish ?_
  cases h15 : bit list 15
  · rfl
  · exact congrArg (loadToPc _) (pcWord_eq _ h15)

theorem ldm2_eq (hx : checkAlignment .multiWord false (blockStart p u (s.reg rn) (listSize list)) s = .ok a)
    (h15 : bit list 15 = false) (hspsr : (spsrIndex s.mode).isSome = true) :
    ∃ t, exec (.ldm2 c p u rn (list.setWidth 15)) s = .next t.advance ∧
      (modeRegs s t modeUsr fun r => if bit list r.toNat then s.memWord (wordAddress a list r) else s.regIn modeUsr r) ∧
      t = { s with regs := t.regs } := by
  have hwidth : (list.setWidth 15).setWidth 16 = list := by
    refine BitVec.eq_of_getLsbD_eq fun j hj => ?_
    have : list.getLsbD 15 = false := h15
    by_cases hj15 : j = 15
    · subst hj15
      simpa using! this.symm
    · simp [hj, show j < 15 by omega]
  have hplain : plainRegs ((regList list).map fun r => (r, s.memWord (wordAddress a list r))) =
      (regList list).map fun r => (r, s.memWord (wordAddress a list r)) := by
    refine List.filter_eq_self.mpr fun x hx => ?_
    obtain ⟨r, hr, rfl⟩ := List.mem_map.mp hx
    have hr : bit list r.toNat = true := mem_regList.mp hr
    have : r ≠ 15#4 := by rintro rfl; exact absurd hr (by rw [show (15#4).toNat = 15 from rfl, h15]; decide)
    simpa using this
  have hmode := modeRegs_block (modeRegs_refl s modeUsr) list fun r => s.memWord (wordAddress a list r)
  rw [hplain] at hmode
  refine ⟨_, ?_, hmode, setRegsIn_frame _ _ _⟩
  change finish (conditional c _ s (checkBlock rn (regList ((list.setWidth 15).setWidth 16)) >>= fun _ => needsSpsr s >>= fun _ =>
    loadBlock p u false (s.reg rn) (regList ((list.setWidth 15).setWidth 16)) s >>= fun x => pure (x.2.setRegsIn modeUsr x.1).advance)) = _
  rw [hwidth, conditional_pass hc, checkBlock_pass hlist hrn, needsSpsr, refuseIf_pass (by simpa using hspsr), loadBlock_eq h hx ha]
  rfl

section
variable (hf : (s.cp15.bank s.nsState).fcse = 0#32)
include hf

theorem stm1_eq (hx : checkAlignment .multiWord true (blockStart p u (s.reg rn) (listSize list)) s = .ok a)
    (hbase : w = true → bit list rn.toNat = true → below list rn = 0) :
    ∃ t, exec (.stm1 c p u w rn list) s = .next t ∧ blockStored s t list (wordAddress a list) s.reg ∧
      t = { s with
        mem := t.mem
        stale := t.stale
        regs := if w then s.regs.set (bankedReg s.mode rn) (blockEnd u (s.reg rn) (listSize list)) else s.regs
        pc := s.pcAfter } := by
  obtain ⟨t, hstore, hblock, hframe⟩ := storeBlock_eq h hf hx ha (f := storeValue s) (value := s.reg) (list := list)
    fun r hr => if_neg hr
  refine ⟨{ s with
      mem := t.mem
      stale := t.stale
      regs := if w then s.regs.set (bankedReg s.mode rn) (blockEnd u (s.reg rn) (listSize list)) else s.regs
      pc := s.pcAfter }, ?_, ?_, rfl⟩
  · change finish (conditional c _ s (checkBlock rn (regList list) >>= fun _ => checkStoreBase w rn (regList list) >>= fun _ =>
      storeWords .multiWord ((regList list).map (storeValue s)) (blockStart p u (s.reg rn) (regList list).length) s >>= fun t =>
        pure (writeBase t rn (blockBase u w (s.reg rn) (regList list).length)).advance)) = _
    rw [conditional_pass hc, checkBlock_pass hlist hrn, checkStoreBase_pass hbase, regList_length]
    change finish (storeWords _ _ _ s >>= _) = _
    rw [hstore]
    refine congrArg Host.Outcome.next (Eq.trans (State.advance_eq_stepped _) ?_)
    rw [hframe]
    cases w <;> rfl
  · rw [hframe] at hblock
    exact hblock

theorem stm2_eq (hx : checkAlignment .multiWord true (blockStart p u (s.reg rn) (listSize list)) s = .ok a)
    (hspsr : (spsrIndex s.mode).isSome = true) :
    ∃ t, exec (.stm2 c p u rn list) s = .next t ∧ blockStored s t list (wordAddress a list) (s.regIn modeUsr) ∧
      t = { s with mem := t.mem, stale := t.stale, pc := s.pcAfter } := by
  obtain ⟨t, hstore, hblock, hframe⟩ := storeBlock_eq h hf hx ha
    (f := fun r => if r = 15#4 then storeValue s r else s.regIn modeUsr r) (value := s.regIn modeUsr) (list := list)
    fun r hr => if_neg hr
  refine ⟨{ s with mem := t.mem, stale := t.stale, pc := s.pcAfter }, ?_, ?_, rfl⟩
  · change finish (conditional c _ s (checkBlock rn (regList list) >>= fun _ => needsSpsr s >>= fun _ =>
      storeWords .multiWord ((regList list).map fun r => if r = 15#4 then storeValue s r else s.regIn modeUsr r)
        (blockStart p u (s.reg rn) (regList list).length) s >>= fun t => pure t.advance)) = _
    rw [conditional_pass hc, checkBlock_pass hlist hrn, needsSpsr, refuseIf_pass (by simpa using hspsr), regList_length]
    change finish (storeWords _ _ _ s >>= _) = _
    rw [hstore]
    refine congrArg Host.Outcome.next (Eq.trans (State.advance_eq_stepped _) ?_)
    rw [hframe]
    rfl
  · rw [hframe] at hblock
    exact hblock

end
end
end

/-- Every word of a block lies at an aligned address where the base does. -/
theorem blockStart_aligned (p u : Bool) {base : Word} (n : Nat) (h : base.toNat % 4 = 0) : (blockStart p u base n).toNat % 4 = 0 := by
  have hlen : (BitVec.ofNat 32 (4 * n)).toNat % 4 = 0 := by rw [BitVec.toNat_ofNat]; omega
  cases p <;> cases u <;> simp only [blockStart] <;> bv_omega

theorem State.pcAfter_arm {s : State} (hrun : s.halted = false) (ht : s.thumb = false) : s.pcAfter = s.pc + 4#32 := by
  rw [State.pcAfter, hrun, State.nextPc, ht]
  rfl

/-- A load into the PC in ARM state. -/
theorem loadToPc_arm {s : State} {v : Word} (hrun : s.halted = false) (ht : s.thumb = false)
    (h : s.controlBit 15 = true ∨ bit v 0 = true ∨ bit v 1 = false) : loadToPc s v = .ok { s with
      cpsr := if s.controlBit 15 = false ∧ bit v 0 = true then s.cpsr ||| 0x20#32 else s.cpsr
      pc := if s.controlBit 15 = false ∧ bit v 0 = true then v.extractLsb' 1 31 ++ 0#1 else v.extractLsb' 2 30 ++ 0#2 } := by
  cases hl4 : s.controlBit 15
  · rw [loadToPc_interworking hl4]
    cases h0 : bit v 0
    · have h1 : bit v 1 = false := by simpa [hl4, h0] using h
      have halign : v.extractLsb' 2 30 ++ 0#2 = v := by
        rw [← align4_eq]
        refine align4_of_aligned ?_
        have h0' := (bit_iff_div v 0).not
        have h1' := (bit_iff_div v 1).not
        rw [h0] at h0'
        rw [h1] at h1'
        simp only [Bool.false_eq_true, not_false_eq_true, true_iff] at h0' h1'
        omega
      rw [bxWritePc_arm hrun h0 h1, setBit_of_bit (by decide) ht]
      simp [halign]
    · rw [bxWritePc_thumb hrun h0]
      simp
  · rw [loadToPc, hl4, if_pos rfl, State.writePc, State.branch_of_running hrun, hrun, if_neg Bool.false_ne_true, ht,
      if_neg Bool.false_ne_true, align4_eq]
    simp

end Sys2Proof.Machine

open Sys2Proof Sys2Proof.Machine

/-- Settles O35: the rules for a block that loads. -/
theorem loadMultipleResults : Obligations.LoadMultipleResults := by
  intro c p u w rn list s hc
  refine ⟨?_, ?_, fun hrn hb => ?_, ?_, fun l hl => ⟨?_, fun hrn hm => ?_⟩, fun b n => ⟨rfl, rfl, rfl, rfl, rfl, rfl⟩,
    fun hs hrun hthumb hlist hrn ha => ?_⟩
  · rintro rfl
    exact ldm1_stop hc rfl
  · rintro hlist rfl
    exact ldm1_stop hc (check_stop (checkBlock_pc hlist))
  · exact ldm1_stop hc (by rw [checkBlock_pass (list_ne_zero hb) hrn]; exact checkLoadBase_stop hb)
  · exact ldm2_stop hc rfl
  · exact ldm2_stop hc (check_stop (checkBlock_pc (setWidth_ne_zero hl)))
  · exact ldm2_stop hc (by rw [checkBlock_pass (setWidth_ne_zero hl) hrn, needsSpsr, spsrIndex_eq_none hm]; rfl)
  · have hx := checkAlignment_of_aligned (t := .multiWord) (blockStart_aligned p u (listSize list) ha) false s
    have hstart := blockStart_aligned p u (listSize list) ha
    refine ⟨fun hbase h15 => ?_, fun hbase h15 hv => ?_, fun h15 hspsr => ?_⟩
    · obtain ⟨t, hexec, hmode, hframe⟩ := ldm1_eq hc hs hlist hrn hstart hx hbase
      refine ⟨t.advance, by rw [hexec, h15]; rfl, ?_, ?_⟩
      · exact modeRegs_congr (by rw [State.advance_eq_stepped]; rfl) (fun _ _ => rfl) hmode
      · rw [State.advance_eq_stepped, hframe, ← State.pcAfter_arm hrun hthumb]
        rfl
    · obtain ⟨t, hexec, hmode, hframe⟩ := ldm1_eq hc hs hlist hrn hstart hx hbase
      have hcontrol : t.controlBit 15 = s.controlBit 15 := by rw [hframe]; rfl
      have hload := loadToPc_arm (s := t) (by rw [hframe]; exact hrun) (by rw [hframe]; exact hthumb) (by rw [hcontrol]; exact hv)
      rw [h15, if_pos rfl] at hexec
      refine ⟨_, hexec.trans (congrArg finish hload), modeRegs_congr rfl (fun _ _ => rfl) hmode, ?_⟩
      rw [hcontrol, hframe]
    · obtain ⟨t, hexec, hmode, hframe⟩ := ldm2_eq hc hs hlist hrn hstart hx h15 hspsr
      refine ⟨t.advance, hexec, ?_, ?_⟩
      · exact modeRegs_congr (by rw [State.advance_eq_stepped]; rfl) (fun _ _ => rfl) hmode
      · rw [State.advance_eq_stepped, hframe, ← State.pcAfter_arm hrun hthumb]
        rfl

/-- Settles O36: the rules for a block that stores. -/
theorem storeMultipleResults : Obligations.StoreMultipleResults := by
  intro c p u w rn list s hc
  refine ⟨?_, ?_, fun hrn hb hlow => ?_, ?_, fun hlist => ⟨?_, fun hrn hm => ?_⟩, fun b => ?_, fun hs hf hlist hrn ha => ?_⟩
  · rintro rfl
    exact stm1_stop hc rfl
  · rintro hlist rfl
    exact stm1_stop hc (check_stop (checkBlock_pc hlist))
  · exact stm1_stop hc (by rw [checkBlock_pass (list_ne_zero hb) hrn]; exact checkStoreBase_stop hb hlow)
  · exact stm2_stop hc rfl
  · exact stm2_stop hc (check_stop (checkBlock_pc hlist))
  · exact stm2_stop hc (by rw [checkBlock_pass hlist hrn, needsSpsr, spsrIndex_eq_none hm]; rfl)
  · have hsize : listSize 6#16 = 2 := by decide
    have h1 : below 6#16 1#4 = 0 := by decide
    have h2 : below 6#16 2#4 = 1 := by decide
    simp only [slotAddress, blockStart, hsize, h1, h2]
    and_intros <;> bv_omega
  · have hx := checkAlignment_of_aligned (t := .multiWord) (blockStart_aligned p u (listSize list) ha) true s
    have hstart := blockStart_aligned p u (listSize list) ha
    exact ⟨stm1_eq hc hs hlist hrn hstart hf hx, stm2_eq hc hs hlist hrn hstart hf hx⟩
end

section
/-! Data Aborts (60:R1219), and the misaligned accesses that take one (20:R513, R518). -/

namespace Sys2Proof.Machine

open Sys2Proof

/-- A precise Data Abort that is not external, taken outside Debug state. -/
structure DataAborted (s t : State) (mva : Word) (status : Word) : Prop where
  mode : t.mode = 0b10111#5
  link : t.regIn 0b10111#5 14#4 = s.pc + 8#32
  saved : t.spsrs[3] = s.cpsr &&& psrMask
  far : (t.cp15.bank s.nsState).far = mva
  dfsr : (t.cp15.bank s.nsState).dfsr = status
  pc : t.pc = plainVector s.cp15 s.nsState 0x10#32
  regs : ∀ j : Fin 32, j ≠ 25 → t.regs[j] = s.regs[j]
  mem : t.mem = s.mem
  memNs : t.memNs = s.memNs
  dcache : t.dcache = s.dcache
  itcm : t.itcm = s.itcm
  dtcm : t.dtcm = s.dtcm
  writeBuffer : t.writeBuffer = s.writeBuffer

/-- The DFSR of an abort that is not external (12:R173). -/
def faultStatus (write : Bool) (code : BitVec 5) (domain : BitVec 4) : Word :=
  (ofBit false <<< 12) ||| (ofBit write <<< 11) ||| (ofBit (bit code 4) <<< 10) ||| (zext domain <<< 4) ||| zext (code.setWidth 4)

theorem Cp15.bank_setBank (c : Cp15) (ns : Bool) (b : Cp15Bank) : (c.setBank ns b).bank ns = b := by
  cases ns <;> rfl

theorem Cp15.nonSecureIn_setBank (c : Cp15) (ns : Bool) (b : Cp15Bank) (m : BitVec 5) :
    (c.setBank ns b).nonSecureIn m = c.nonSecureIn m := by
  cases ns <;> rfl

theorem Cp15.plainVector_setBank (c : Cp15) (ns : Bool) (b : Cp15Bank) (hcontrol : b.control = (c.bank ns).control)
    (hvbar : b.vbar = (c.bank ns).vbar) (offset : Word) : plainVector (c.setBank ns b) ns offset = plainVector c ns offset := by
  have hshared : (c.setBank ns b).controlShared = c.controlShared := by cases ns <;> rfl
  rw [plainVector, plainVector, Cp15.control, Cp15.control, Cp15.bank_setBank, hcontrol, hvbar, hshared]

theorem Cp15.bank_withScr (c : Cp15) (scr : Word) (ns : Bool) : Cp15.bank { c with scr := scr } ns = c.bank ns := by
  cases ns <;> rfl

/-- The entry of a Data Abort after the fault registers are written. -/
theorem dataAborted_entry {s : State} (hrun : s.halted = false) (mva status : Word) (freeCtr : Nat) :
    DataAborted s (takeException .dataAbort false (s.pc + 8#32) { s with
      freeCtr := freeCtr
      cp15 := s.cp15.setBank s.nsState { s.cp15.bank s.nsState with dfsr := status, far := mva } }) mva status := by
  generalize hu : ({ s with
      freeCtr := freeCtr
      cp15 := s.cp15.setBank s.nsState { s.cp15.bank s.nsState with dfsr := status, far := mva } } : State) = u
  have hrun' : u.halted = false := by rw [← hu]; exact hrun
  have hns : u.nsState = s.nsState := by
    rw [← hu]
    exact Cp15.nonSecureIn_setBank _ _ _ _
  have hbank : u.cp15.bank s.nsState = { s.cp15.bank s.nsState with dfsr := status, far := mva } := by
    rw [← hu, Cp15.bank_setBank]
  have hentry := exceptionEntry .dataAbort false (s.pc + 8#32) u hrun'
  obtain ⟨t, ht⟩ : ∃ t, t = takeException .dataAbort false (s.pc + 8#32) u := ⟨_, rfl⟩
  simp only [← ht] at hentry ⊢
  obtain ⟨hmode, hlink, hsaved, -, hregs, -, -, -, -, -, -, -, hpc, -, -, hmem, hmemNs, hdcache, hitcm, hdtcm, -⟩ := hentry
  have hframe := takeException_frame hrun' ht
  have hcp15 : t.cp15.bank s.nsState = u.cp15.bank s.nsState := by
    have hcp15 : t.cp15 = { u.cp15 with scr := t.cp15.scr } := congrArg State.cp15 hframe
    rw [hcp15, Cp15.bank_withScr]
  have hvector : plainVector u.cp15 s.nsState 0x10#32 = plainVector s.cp15 s.nsState 0x10#32 := by
    have hcp15 : u.cp15 = s.cp15.setBank s.nsState { s.cp15.bank s.nsState with dfsr := status, far := mva } := by rw [← hu]
    rw [hcp15]
    exact Cp15.plainVector_setBank s.cp15 s.nsState { s.cp15.bank s.nsState with dfsr := status, far := mva } rfl rfl 0x10#32
  constructor
  case mode => exact hmode
  case link => exact hlink
  case saved => exact (hsaved 3 rfl).trans (by rw [← hu])
  case far => rw [hcp15, hbank]
  case dfsr => rw [hcp15, hbank]
  case pc =>
    have hm : (entryMode u .dataAbort false == 0b10110#5) = false := rfl
    have hns' : (u.nsState && !false) = s.nsState := by rw [Bool.not_false, Bool.and_true, hns]
    rw [hpc, hm, if_neg Bool.false_ne_true, if_neg fun h => nomatch h.1]
    exact (congrArg (plainVector u.cp15 · 0x10#32) hns').trans hvector
  case regs => exact fun j hj => (hregs j hj).trans (by rw [← hu])
  case mem => rw [hmem, ← hu]
  case memNs => rw [hmemNs, ← hu]
  case dcache => rw [hdcache, ← hu]
  case itcm => rw [hitcm, ← hu]
  case dtcm => rw [hdtcm, ← hu]
  case writeBuffer => rw [hframe, ← hu]

/-- A fault of the MMU or of alignment. -/
theorem dataAborted_fault {s : State} (hrun : s.halted = false) (code : BitVec 5) (domain : Option (BitVec 4)) (mva : Word) (write : Bool) :
    ∃ d : BitVec 4, (∀ x, domain = some x → d = x) ∧
      DataAborted s (takeDataAbort { code := code, domain := domain, external := false, slverr := false } mva write s) mva
        (faultStatus write code d) := by
  have hbank : abortBank s { code := code, domain := domain, external := false, slverr := false } = s.nsState := by
    simp [abortBank]
  cases domain with
  | some d =>
    refine ⟨d, fun x hx => Option.some.inj hx, ?_⟩
    rw [takeDataAbort, hbank]
    exact dataAborted_entry hrun mva _ s.freeCtr
  | none =>
    rw [takeDataAbort, hbank]
    exact ⟨bits (drawWord s).1 0 4, by simp, dataAborted_entry hrun mva _ (s.freeCtr + 1)⟩

/-! ### Alignment faults -/

theorem bits_low_ne_zero {va : Word} {k : Nat} (h : va.toNat % 2 ^ k ≠ 0) : (bits va 0 k != 0#k) = true := by
  rw [bne_iff_ne]
  intro h0
  have := congrArg BitVec.toNat h0
  rw [bits, BitVec.extractLsb'_toNat] at this
  simp at this
  exact h this

theorem checkAlignment_fault {s : State} {x : AccessType} {write : Bool} {va : Word}
    (h : alignedAddress s.alignCheck s.unalignedOn x va = none) : checkAlignment x write va s = alignmentFault va write s := by
  rw [checkAlignment, h]

theorem alignedAddress_word {a u : Bool} {va : Word} {x : AccessType} (hx : x = .wLoad ∨ x = .wStore) (ha : a = true)
    (h : va.toNat % 4 ≠ 0) : alignedAddress a u x va = none := by
  rcases hx with rfl | rfl <;> simp only [alignedAddress, ha, if_true, bits_low_ne_zero (k := 2) h]

theorem alignedAddress_sync {a u : Bool} {va : Word} (hau : a = true ∨ u = true) (h : va.toNat % 4 ≠ 0) :
    alignedAddress a u .wSync va = none := by
  simp only [alignedAddress, Bool.or_eq_true, hau, if_true, bits_low_ne_zero (k := 2) h]

theorem alignedAddress_half {a u : Bool} {va : Word} (ha : a = true) (h : va.toNat % 2 ≠ 0) : alignedAddress a u .half va = none := by
  have h0 : bit va 0 = true := (bit_iff_div va 0).mpr (by omega)
  simp only [alignedAddress, ha, if_true, h0]

theorem checkEndian_little {s : State} (h : bit s.cpsr 9 = false) : checkEndian s = .ok () := refuseIf_pass (by rw [h]; rfl)

section
variable {s : State} (he : bit s.cpsr 9 = false) {x : AccessType} {va : Word}
  (h : alignedAddress s.alignCheck s.unalignedOn x va = none)
include he h

theorem readAs_fault (acc : Access) (n : Nat) : readAs acc x n va s = alignmentFault va false s := by
  rw [readAs, checkEndian_little he, checkAlignment_fault h]
  rfl

theorem writeAs_fault (acc : Access) (n : Nat) (v : Word) : writeAs acc x n va v s = alignmentFault va true s := by
  rw [writeAs, checkEndian_little he, checkAlignment_fault h]
  rfl

end

/-- The state after an Alignment fault. -/
def State.misaligned (s : State) (va : Word) (write : Bool) : State :=
  takeDataAbort { code := 0b00001#5, domain := none, external := false, slverr := false } (s.mva va) write s

section
variable {c : Cond} {p u w : Bool} {rn rd : Reg} {offset : Word} {check : Result Unit} {s : State} (hc : condHolds c s.cpsr = true)
  (hbase : p = false ∨ w = true → rn ≠ 15#4 ∧ rn ≠ rd) (hcheck : check = .ok ())
include hc hbase hcheck

theorem loadReg_fault {read : Word → State → Result (Word × State)} (hrd : rd ≠ 15#4)
    (hread : read (accessAddress p u (s.reg rn) offset) s = alignmentFault (accessAddress p u (s.reg rn) offset) false s) :
    finish (loadReg c p u w rn rd offset check read s) = .next (s.misaligned (accessAddress p u (s.reg rn) offset) false) := by
  rw [loadReg, conditional_pass hc, noPc_pass (by simpa using Ne.symm hrd), checkBase_pass (by simpa using hbase), hcheck]
  change finish (read (indexed p u (writesBase p w) (s.reg rn) offset).1 s >>= _) = _
  rw [indexed_fst, hread]
  rfl

theorem loadRegOrPc_fault (hrd : rd ≠ 15#4)
    (hread : loadWord false false (accessAddress p u (s.reg rn) offset) s =
      alignmentFault (accessAddress p u (s.reg rn) offset) false s) :
    finish (loadRegOrPc c p u w rn rd offset check s) = .next (s.misaligned (accessAddress p u (s.reg rn) offset) false) := by
  rw [loadRegOrPc, conditional_pass hc, checkBase_pass (by simpa using hbase), hcheck]
  change finish (if rd = 15#4 then _ else loadWord false false (indexed p u (writesBase p w) (s.reg rn) offset).1 s >>= _) = _
  rw [if_neg hrd, indexed_fst, hread]
  rfl

theorem storeReg_fault {write : Word → Word → State → Result State}
    (hwrite : ∀ v, write (accessAddress p u (s.reg rn) offset) v s = alignmentFault (accessAddress p u (s.reg rn) offset) true s) :
    finish (storeReg c p u w rn rd offset check write s) = .next (s.misaligned (accessAddress p u (s.reg rn) offset) true) := by
  rw [storeReg, conditional_pass hc, checkBase_pass (by simpa using hbase), hcheck]
  change finish (write (indexed p u (writesBase p w) (s.reg rn) offset).1 _ s >>= _) = _
  rw [indexed_fst, hwrite]
  rfl

end

end Sys2Proof.Machine

open Sys2Proof Sys2Proof.Machine

/-- Settles O31: each access stops at its alignment check. -/
theorem misalignedAccessesAbort : Obligations.MisalignedAccessesAbort := by
  intro c p u w rn rd rm off12 immH immL s hc hrun he hrd hrn hrm hnd hnm aborts word half
  have hbase : p = false ∨ w = true → rn ≠ 15#4 ∧ rn ≠ rd := fun _ => ⟨hrn, hnd⟩
  have key (i : Instr) (va status : Word) (write : Bool) (hi : exec i s = .next (s.misaligned va write))
      (hstatus : ∀ d : BitVec 4, faultStatus write 1#5 d &&& 0x1C0F#32 = status) : aborts i va status := by
    obtain ⟨d, -, h⟩ := dataAborted_fault hrun 1#5 none (s.mva va) write
    exact ⟨_, hi, h.mode, h.link, h.saved, h.far, (congrArg (· &&& 0x1C0F#32) h.dfsr).trans (hstatus d), h.pc, h.regs, h.mem, h.memNs, h.dcache, h.itcm, h.dtcm⟩
  have hload : ∀ d : BitVec 4, faultStatus false 1#5 d &&& 0x1C0F#32 = 0x001#32 := by decide
  have hstore : ∀ d : BitVec 4, faultStatus true 1#5 d &&& 0x1C0F#32 = 0x801#32 := by decide
  refine ⟨fun hA hva => ⟨key _ _ _ false ?_ hload, key _ _ _ true ?_ hstore⟩,
    fun hA hva hmode => ⟨key _ _ _ false ?_ hload, key _ _ _ true ?_ hstore⟩,
    fun hAU hva => ⟨key _ _ _ false ?_ hload, key _ _ _ false ?_ hload⟩⟩
  · refine loadRegOrPc_fault hc hbase rfl hrd ?_
    change (readAs _ .wLoad 4 word s >>= _) = _
    rw [readAs_fault he (alignedAddress_word (.inl rfl) hA hva)]
    rfl
  · exact storeReg_fault hc hbase rfl fun v => writeAs_fault he (alignedAddress_word (.inr rfl) hA hva) _ _ v
  · exact loadReg_fault hc hbase (checkMode3_pass hmode) hrd (readAs_fault he (alignedAddress_half hA hva) _ _)
  · exact storeReg_fault hc hbase ((check_pass (noPc_pass (by simpa using Ne.symm hrd))).trans (checkMode3_pass hmode)) fun v =>
      writeAs_fault he (alignedAddress_half hA hva) _ _ v
  · change finish (loadExclusiveReg c 4 rn rd s) = _
    rw [loadExclusiveReg, conditional_pass hc, noPc_pass (by simpa using ⟨Ne.symm hrn, Ne.symm hrd⟩)]
    change finish (loadExclusive 4 (s.reg rn) s >>= _) = _
    rw [loadExclusive, checkEndian_little he, checkAlignment_fault (x := exclusiveType 4) (alignedAddress_sync hAU hva)]
    rfl
  · change finish (swap c rn rd rm swapWord s) = _
    rw [swap, conditional_pass hc, noPc_pass (by simpa using ⟨Ne.symm hrn, Ne.symm hrd, Ne.symm hrm⟩),
      refuseIf_pass (by simp [hnd, hnm])]
    change finish (swapWord (s.reg rn) (s.reg rm) s >>= _) = _
    have hread : readAs (swapAccess s) (if s.unalignedOn then AccessType.wSync else AccessType.wLoad) 4 (s.reg rn) s =
        alignmentFault (s.reg rn) false s := by
      refine readAs_fault he ?_ _ _
      cases hU : s.unalignedOn
      · have hA : s.alignCheck = true := hAU.resolve_right (by rw [show s.controlBit 22 = s.unalignedOn from rfl, hU]; decide)
        exact alignedAddress_word (.inl rfl) hA hva
      · exact alignedAddress_sync (.inr rfl) hva
    rw [swapWord, hread]
    rfl
end

section
/-! RFE, LDM (3) and SRS (43:R916, R919, R920), and accesses at any address with A = 0 (20:R514 to R520). -/

namespace Sys2Proof.Machine

open Sys2Proof

/-! ### Returns from an exception that load -/

theorem spsr_of_index {s : State} {k : Fin 6} (h : spsrIndex s.mode = some k) : s.spsr = .ok s.spsrs[k] := by rw [State.spsr, h]

theorem spsr_missing {s : State} (h : s.mode = 0b10000#5 ∨ s.mode = 0b11111#5) : s.spsr = .error (.refuse .noSpsr) := by
  rw [State.spsr, spsrIndex_eq_none h]

section
variable {p u w : Bool} {rn : Reg} {s : State}

theorem rfe_noSpsr (h : s.mode = 0b10000#5 ∨ s.mode = 0b11111#5) (hrn : rn ≠ 15#4) : exec (.rfe p u w rn) s = .refused .noSpsr := by
  change finish (noPc [rn] >>= fun _ => s.spsr >>= fun _ => _) = _
  rw [noPc_pass (by simpa using Ne.symm hrn), spsr_missing h]
  rfl

theorem srs_body {mode : BitVec 5} (hmode : validMode mode = true) (hm : s.nsState = true → mode ≠ 0b10110#5) :
    exec (.srs p u w mode) s = finish (s.spsr >>= fun saved =>
      storeWords .multiWord [s.reg 14#4, saved] (blockStart p u (s.regIn mode 13#4) 2) s >>= fun t =>
        pure (if w then t.setRegIn mode 13#4 (blockEnd u (s.regIn mode 13#4) 2) else t).advance) := by
  have hmon : ¬(s.nsState && mode == modeMon) = true := by simpa [modeMon] using hm
  change finish (if s.nsState && mode == modeMon then undefined s else refuseIf (!validMode mode) .srsMode >>= fun _ => _) = _
  rw [if_neg hmon, hmode]
  rfl

theorem srs_noSpsr {mode : BitVec 5} (h : s.mode = 0b10000#5 ∨ s.mode = 0b11111#5) (hmode : validMode mode = true)
    (hm : s.nsState = true → mode ≠ 0b10110#5) : exec (.srs p u w mode) s = .refused .noSpsr := by
  rw [srs_body hmode hm, spsr_missing h]
  rfl

section
variable (h : s.plainMemory)
include h

theorem rfe_eq (hrun : s.halted = false) {k : Fin 6} (hk : spsrIndex s.mode = some k) (hrn : rn ≠ 15#4)
    (ha : (s.reg rn).toNat % 4 = 0) {saved : Word} (hsaved : s.memWord (blockStart p u (s.reg rn) 2 + 4#32) = saved)
    (hmode : validMode ((s.returned saved).extractLsb' 0 5) = true) :
    exec (.rfe p u w rn) s = .next { State.syncFetch { s with
        regs := if w then s.regs.set (bankedReg s.mode rn) (blockEnd u (s.reg rn) 2) else s.regs
        cpsr := s.returned saved } with
      pc := resumeAddress saved (s.memWord (blockStart p u (s.reg rn) 2)) } := by
  have hstart := blockStart_aligned p u 2 ha
  have hwords : (List.range 2).map (fun k => s.memWord (blockStart p u (s.reg rn) 2 + BitVec.ofNat 32 (4 * k))) =
      [s.memWord (blockStart p u (s.reg rn) 2), saved] := by
    rw [← hsaved]
    simp [List.range, List.range.loop]
  change finish (noPc [rn] >>= fun _ => s.spsr >>= fun _ => loadWords .multiWord true 2 (blockStart p u (s.reg rn) 2) s >>= fun x =>
    exceptionReturn (writeBase x.2 rn (blockBase u w (x.2.reg rn) 2)) (x.1.getD 1 0#32) (x.1.getD 0 0#32)) = _
  rw [noPc_pass (by simpa using Ne.symm hrn), spsr_of_index hk, loadWords_plain h true 2 hstart, hwords]
  change finish (exceptionReturn (writeBase s rn (blockBase u w (s.reg rn) 2)) saved _) = _
  have hbase : writeBase s rn (blockBase u w (s.reg rn) 2) =
      { s with regs := if w then s.regs.set (bankedReg s.mode rn) (blockEnd u (s.reg rn) 2) else s.regs } := by
    cases w <;> rfl
  have hprivileged := privileged_of_spsrIndex hk
  rw [hbase]
  exact congrArg finish (exceptionReturn_eq (s := { s with
    regs := if w then s.regs.set (bankedReg s.mode rn) (blockEnd u (s.reg rn) 2) else s.regs }) _ hrun hprivileged hmode)

theorem srs_eq {mode : BitVec 5} {k : Fin 6} (hk : spsrIndex s.mode = some k) (hmode : validMode mode = true)
    (hm : s.nsState = true → mode ≠ 0b10110#5) (hf : (s.cp15.bank s.nsState).fcse = 0#32) (ha : (s.regIn mode 13#4).toNat % 4 = 0) :
    ∃ t, exec (.srs p u w mode) s = .next t ∧
      wordsStored s t [(blockStart p u (s.regIn mode 13#4) 2, s.reg 14#4), (blockStart p u (s.regIn mode 13#4) 2 + 4#32, s.spsrs[k])] ∧
      t = { s with
        mem := t.mem
        stale := t.stale
        regs := if w then s.regs.set (bankedReg mode 13#4) (blockEnd u (s.regIn mode 13#4) 2) else s.regs
        pc := s.pcAfter } := by
  have hstart := blockStart_aligned p u 2 ha
  obtain ⟨t, hstore, hbytes, hrest, hframe, -⟩ := storeWords_plain h hf [s.reg 14#4, s.spsrs[k]] hstart (by simp)
  refine ⟨{ s with
      mem := t.mem
      stale := t.stale
      regs := if w then s.regs.set (bankedReg mode 13#4) (blockEnd u (s.regIn mode 13#4) 2) else s.regs
      pc := s.pcAfter }, ?_, ?_, rfl⟩
  · rw [srs_body hmode hm, spsr_of_index hk]
    change finish (storeWords _ [s.reg 14#4, s.spsrs[k]] _ s >>= _) = _
    rw [hstore]
    refine congrArg Host.Outcome.next (Eq.trans (State.advance_eq_stepped _) ?_)
    rw [hframe]
    cases w <;> rfl
  · have hmem (b : Nat) : State.byteAt { s with
          mem := t.mem
          stale := t.stale
          regs := if w then s.regs.set (bankedReg mode 13#4) (blockEnd u (s.regIn mode 13#4) 2) else s.regs
          pc := s.pcAfter } .external b = t.byteAt .external b := by
      rw [hframe]
      rfl
    have h0 := hbytes 0 (by simp)
    have h1 := hbytes 1 (by simp)
    simp only [Nat.mul_zero, BitVec.add_zero, Nat.mul_one, List.getElem_cons_zero, List.getElem_cons_succ]
      at h0 h1
    simp only [wordsStored, List.mem_cons, List.not_mem_nil, or_false, forall_eq_or_imp, forall_eq, mva_of_pid_zero hf, hmem]
    refine ⟨⟨h0, h1⟩, fun b hb => hrest b fun j hj => ?_⟩
    obtain rfl | rfl : j = 0 ∨ j = 1 := by simp at hj; omega
    · simpa using hb.1
    · exact hb.2

theorem ldm3_eq {c : Cond} {list : BitVec 16} {k : Fin 6} (hc : condHolds c s.cpsr = true) (hrun : s.halted = false)
    (hk : spsrIndex s.mode = some k) (hmode : validMode ((s.returned s.spsrs[k]).extractLsb' 0 5) = true) (hrn : rn ≠ 15#4)
    (h15 : bit list 15 = true) (hbase : w = true → bit list rn.toNat = false) (ha : (s.reg rn).toNat % 4 = 0) :
    ∃ t, exec (.ldm3 c p u w rn (list.setWidth 15)) s = .next t ∧
      (modeRegs s t s.mode fun r =>
        if bit list r.toNat then s.memWord (slotAddress p u (s.reg rn) list r)
        else if w && r == rn then blockEnd u (s.reg rn) (listSize list) else s.regIn s.mode r) ∧
      t = { State.syncFetch { s with cpsr := s.returned s.spsrs[k] } with
        regs := t.regs
        pc := resumeAddress s.spsrs[k] (s.memWord (slotAddress p u (s.reg rn) list 15#4)) } := by
  have hlist : (list.setWidth 15).setWidth 16 ||| 0x8000#16 = list := by
    have : list.getLsbD 15 = true := h15
    refine BitVec.eq_of_getLsbD_eq fun j hj => ?_
    interval_cases j <;> simp_all
  have hne : list ≠ 0#16 := list_ne_zero (r := 15#4) h15
  have hstart := blockStart_aligned p u (listSize list) ha
  have hx := checkAlignment_of_aligned (t := .multiWord) hstart false s
  obtain ⟨t, ht⟩ : ∃ t, t = (writeBase s rn (blockBase u w (s.reg rn) (listSize list))).setRegsIn s.mode
    (plainRegs ((regList list).map fun r => (r, s.memWord (slotAddress p u (s.reg rn) list r)))) := ⟨_, rfl⟩
  have hframe : t = { s with regs := t.regs } := by rw [ht]; cases w <;> exact setRegsIn_frame _ _ _
  have hexec : exec (.ldm3 c p u w rn (list.setWidth 15)) s =
      finish (exceptionReturn t s.spsrs[k] (s.memWord (slotAddress p u (s.reg rn) list 15#4))) := by
    change finish (conditional c _ s (checkBlock rn (regList ((list.setWidth 15).setWidth 16 ||| 0x8000#16)) >>= fun _ =>
      checkLoadBase w rn (regList ((list.setWidth 15).setWidth 16 ||| 0x8000#16)) >>= fun _ => s.spsr >>= fun saved =>
      loadBlock p u true (s.reg rn) (regList ((list.setWidth 15).setWidth 16 ||| 0x8000#16)) s >>= fun x =>
        exceptionReturn ((writeBase x.2 rn (blockBase u w (x.2.reg rn)
          (regList ((list.setWidth 15).setWidth 16 ||| 0x8000#16)).length)).setRegsIn x.2.mode (plainRegs x.1)) saved (pcWord x.1))) = _
    rw [hlist, conditional_pass hc, checkBlock_pass hne hrn, checkLoadBase_pass hbase, spsr_of_index hk, loadBlock_eq h hx hstart,
      regList_length, ht, ← pcWord_eq (fun r => s.memWord (slotAddress p u (s.reg rn) list r)) h15]
    rfl
  have hmodes : modeRegs s t s.mode fun r =>
      if bit list r.toNat then s.memWord (slotAddress p u (s.reg rn) list r)
      else if w && r == rn then blockEnd u (s.reg rn) (listSize list) else s.regIn s.mode r := by
    rw [ht]
    exact modeRegs_block (modeRegs_blockBase s hrn w (blockEnd u (s.reg rn) (listSize list))) list _
  have hreturn := exceptionReturn_eq (s := t) (saved := s.spsrs[k]) (s.memWord (slotAddress p u (s.reg rn) list 15#4))
    (by rw [hframe]; exact hrun) (by rw [hframe]; exact privileged_of_spsrIndex hk) (by rw [hframe]; exact hmode)
  refine ⟨_, hexec.trans (congrArg finish hreturn), modeRegs_congr rfl (fun _ _ => rfl) hmodes, ?_⟩
  rw [hframe]
  rfl

end
end

/-! ### The alignment rule with A = 0 -/

theorem toNat_align4 (x : Word) : (align4 x).toNat = x.toNat / 4 * 4 := by
  rw [align4_eq, BitVec.toNat_append, BitVec.extractLsb'_toNat]
  have : x.toNat < 2 ^ 32 := x.isLt
  simp only [BitVec.toNat_ofNat, Nat.zero_mod, Nat.or_zero, Nat.shiftRight_eq_div_pow, Nat.shiftLeft_eq]
  omega

theorem toNat_align2 (x : Word) : (align2 x).toNat = x.toNat / 2 * 2 := by
  rw [align2_eq, BitVec.toNat_append, BitVec.extractLsb'_toNat]
  have : x.toNat < 2 ^ 32 := x.isLt
  simp only [BitVec.toNat_ofNat, Nat.zero_mod, Nat.or_zero, Nat.shiftRight_eq_div_pow, Nat.shiftLeft_eq]
  omega

theorem align4_aligned (x : Word) : (align4 x).toNat % 4 = 0 := by rw [toNat_align4, Nat.mul_mod_left]

theorem align2_aligned (x : Word) : (align2 x).toNat % 2 = 0 := by rw [toNat_align2, Nat.mul_mod_left]

theorem align4_add (x : Word) (k : Nat) : align4 (x + BitVec.ofNat 32 (4 * k)) = align4 x + BitVec.ofNat 32 (4 * k) := by
  refine BitVec.eq_of_toNat_eq ?_
  rw [toNat_align4, BitVec.toNat_add, BitVec.toNat_add, BitVec.toNat_ofNat, toNat_align4]
  omega

theorem toNat_bits_two (x : Word) : (bits x 0 2).toNat = x.toNat % 4 := by
  simp [bits, BitVec.extractLsb'_toNat]

section
variable {s : State} (hA : s.controlBit 1 = false)
include hA

section
variable (hU : s.controlBit 22 = false)
include hU

theorem checkAlignment_legacy_word {x : AccessType} (hx : x = .wLoad ∨ x = .wStore ∨ x = .multiWord) (write : Bool) (va : Word) :
    checkAlignment x write va s = .ok (align4 va) := by
  have hA : s.alignCheck = false := hA
  have hU : s.unalignedOn = false := hU
  rcases hx with rfl | rfl | rfl <;> simp [checkAlignment, alignedAddress, hA, hU]

theorem checkAlignment_legacy_half (write : Bool) (va : Word) : checkAlignment .half write va s = .ok (align2 va) := by
  have hA : s.alignCheck = false := hA
  have hU : s.unalignedOn = false := hU
  simp [checkAlignment, alignedAddress, hA, hU]

end

theorem checkAlignment_unaligned (hU : s.controlBit 22 = true) {x : AccessType} (hx : x = .wLoad ∨ x = .wStore ∨ x = .half) (write : Bool)
    (va : Word) : checkAlignment x write va s = .ok va := by
  have hA : s.alignCheck = false := hA
  have hU : s.unalignedOn = true := hU
  rcases hx with rfl | rfl | rfl <;> simp [checkAlignment, alignedAddress, hA, hU]

end

/-! ### Numbers at any address -/

section
variable {s : State} (h : s.plainMemory)
include h

theorem readAs_of_checked {x : AccessType} {va a v : Word} (hx : checkAlignment x false va s = .ok a) (acc : Access) {n : Nat}
    (hload : ∀ acc, loadNumber acc n a s = .ok (v, s)) : readAs acc x n va s = .ok (v, s) := by
  simp only [readAs, checkEndian_plain h, hx, bind, Except.bind, hload, traceAccess_plain h, pure, Except.pure]

theorem writeAs_of_checked {x : AccessType} {va a v : Word} (hx : checkAlignment x true va s = .ok a) {acc : Access} {n : Nat} {t : State}
    (hstore : storeNumber { acc with unaligned := normalUnaligned s.unalignedOn x va } n v a s = .ok t) (ht : t.plainMemory) :
    writeAs acc x n va v s = .ok t := by
  simp only [writeAs, checkEndian_plain h, hx, bind, Except.bind, hstore, traceAccess_plain ht, pure, Except.pure]

omit h in
/-- The bytes from an address up, each at its own MVA. -/
theorem memByte_add {va : Word} {k : Nat} (hk : va.toNat % 32 + k < 32) : s.memByte (va + BitVec.ofNat 32 k) 0 = s.memByte va k := by
  rw [State.memByte, State.memByte, mva_add hk, Nat.add_zero]

theorem loadNumber_anywhere (acc : Access) {n : Nat} (hn : n ≤ 4) (va : Word) : loadNumber acc n va s =
    .ok (assemble (bit s.cpsr 9) ((List.range n).map fun k => s.memByte (va + BitVec.ofNat 32 k) 0), s) := by
  have inLine {va : Word} {n : Nat} (hr : n ≤ roomAt va) :
      (List.range n).map (s.memByte va) = (List.range n).map fun k => s.memByte (va + BitVec.ofNat 32 k) 0 := by
    refine List.map_congr_left fun k hk => (memByte_add ?_).symm
    rw [List.mem_range] at hk
    unfold roomAt at hr
    omega
  by_cases hr : n ≤ roomAt va
  · rw [loadNumber_plain h acc hr, inLine hr]
  · have hroom : roomAt va ≤ n := by omega
    have hnext : n - roomAt va ≤ roomAt (va + BitVec.ofNat 32 (roomAt va)) := by
      unfold roomAt at hr ⊢
      simp only [BitVec.toNat_add, BitVec.toNat_ofNat]
      omega
    have hbytes : (List.range (roomAt va)).map (s.memByte va) ++
        (List.range (n - roomAt va)).map (s.memByte (va + BitVec.ofNat 32 (roomAt va))) =
          (List.range n).map fun k => s.memByte (va + BitVec.ofNat 32 k) 0 := by
      rw [inLine (Nat.le_refl _), inLine hnext, ← Nat.add_sub_of_le hroom, List.range_add, List.map_append, List.map_map,
        Nat.add_sub_cancel_left]
      refine congrArg _ (List.map_congr_left fun k _ => ?_)
      rw [add_add_ofNat]
      rfl
    simp only [loadNumber, loadBytes, hr, if_false, loadPart_plain h, bind, Except.bind, hnext, if_true, pure, Except.pure,
      bigEndian_plain h, hbytes]

theorem storeNumber_anywhere (acc : Access) {n : Nat} (hn : n ≤ 4) (v va : Word)
    (hva : (s.cp15.bank s.nsState).fcse = 0#32 ∨ va.toNat % 32 + n ≤ 32) :
    ∃ t, storeNumber acc n v va s = .ok t ∧
      (∀ k < n, t.byteAt .external (s.mva (va + BitVec.ofNat 32 k)).toNat = (s.storeOrder n v).getD k 0#8) ∧
      (∀ b : Nat, (∀ k < n, b ≠ (s.mva (va + BitVec.ofNat 32 k)).toNat) → t.byteAt .external b = s.byteAt .external b) ∧
      t = { s with mem := t.mem, stale := t.stale } ∧ t.plainMemory := by
  by_cases hr : n ≤ roomAt va
  · obtain ⟨t, hstore, hbytes, hframe, hp⟩ := storeNumber_plain h acc v hr
    unfold roomAt at hr
    rw [bytesStored, length_storeOrder] at hbytes
    refine ⟨t, hstore, fun k hk => ?_, fun b hb => ?_, hframe, hp⟩
    · rw [mva_add (by omega), hbytes, if_pos (by omega), Nat.add_sub_cancel_left]
    · rw [hbytes, if_neg]
      rintro ⟨hle, hlt⟩
      refine hb (b - (s.mva va).toNat) (by omega) ?_
      rw [mva_add (by omega)]
      omega
  · have hf : (s.cp15.bank s.nsState).fcse = 0#32 := hva.resolve_right (by unfold roomAt at hr; omega)
    have hlen := length_storeOrder s n v
    obtain ⟨t, hlow, hlowBytes, hlowFrame, hp⟩ := storePart_plain h acc ((s.storeOrder n v).take (roomAt va)) va
    obtain ⟨t', hhigh, hhighBytes, hhighFrame, hp'⟩ := storePart_plain hp acc ((s.storeOrder n v).drop (roomAt va))
      (va + BitVec.ofNat 32 (roomAt va))
    have hf' : (t.cp15.bank t.nsState).fcse = 0#32 := by rw [hlowFrame]; exact hf
    have hnext : n - roomAt va ≤ roomAt (va + BitVec.ofNat 32 (roomAt va)) := by
      unfold roomAt at hr ⊢
      simp only [BitVec.toNat_add, BitVec.toNat_ofNat]
      omega
    rw [bytesStored, List.length_take, hlen, Nat.min_eq_left (by omega), mva_of_pid_zero hf] at hlowBytes
    rw [bytesStored, List.length_drop, hlen, mva_of_pid_zero hf'] at hhighBytes
    refine ⟨t', ?_, fun k hk => ?_, fun b hb => ?_, by rw [hhighFrame, hlowFrame], hp'⟩
    · simp only [storeNumber, storeBytes, bigEndian_plain h, disassemble_eq, hlen, hr, if_false, hlow, bind, Except.bind,
        List.length_drop, hnext, if_true, hhigh]
    all_goals
      unfold roomAt at hr hlowBytes hhighBytes
      simp only [BitVec.toNat_add, BitVec.toNat_ofNat] at hhighBytes
    · rw [mva_of_pid_zero hf, BitVec.toNat_add, BitVec.toNat_ofNat, hhighBytes]
      by_cases hlt : k < 32 - va.toNat % 32
      · rw [if_neg (by omega), hlowBytes, if_pos (by omega), List.getD_eq_getElem?_getD, List.getElem?_take_of_lt (by omega),
          ← List.getD_eq_getElem?_getD]
        congr 1
        omega
      · rw [if_pos (by omega), List.getD_eq_getElem?_getD, List.getElem?_drop, ← List.getD_eq_getElem?_getD]
        congr 1
        omega
    · rw [hhighBytes, if_neg, hlowBytes, if_neg]
      · rintro ⟨hle, hlt⟩
        refine hb (b - va.toNat) (by omega) ?_
        rw [mva_of_pid_zero hf, BitVec.toNat_add, BitVec.toNat_ofNat]
        omega
      · rintro ⟨hle, hlt⟩
        refine hb (32 - va.toNat % 32 + (b - (va.toNat + (32 - va.toNat % 32) % 2 ^ 32) % 2 ^ 32)) (by omega) ?_
        rw [mva_of_pid_zero hf, BitVec.toNat_add, BitVec.toNat_ofNat]
        omega

end

/-- A store with an offset, from what the store of its number gives. -/
theorem storeReg_offset {c : Cond} {u : Bool} {rn rd : Reg} {offset : Word} {check : Result Unit} {s : State} {x : AccessType} {n : Nat}
    {a : Word} {stored : State → Prop} (hc : condHolds c s.cpsr = true) (h : s.plainMemory) (hrd : rd ≠ 15#4) (hcheck : check = .ok ())
    (hx : checkAlignment x true (offsetAddress u (s.reg rn) offset) s = .ok a)
    (hstore : ∀ acc, ∃ t, storeNumber acc n (s.reg rd) a s = .ok t ∧ stored t ∧ t = { s with mem := t.mem, stale := t.stale } ∧
      t.plainMemory) :
    ∃ t, finish (storeReg c true u false rn rd offset check (memWrite x false n) s) =
        .next { s with mem := t.mem, stale := t.stale, pc := s.pcAfter } ∧
      stored t ∧ t = { s with mem := t.mem, stale := t.stale } := by
  obtain ⟨t, ht, hstored, hframe, hp⟩ := hstore { plainAccess s with
    privileged := s.privileged && !false, unaligned := normalUnaligned s.unalignedOn x (offsetAddress u (s.reg rn) offset) }
  refine ⟨t, storeReg_eq hc (by simp) hcheck (t := t) ?_ hframe, hstored, hframe⟩
  rw [storeValue, if_neg hrd]
  exact writeAs_of_checked h hx ht hp

end Sys2Proof.Machine

open Sys2Proof Sys2Proof.Machine

/-- Settles O37: each return loads its words, then returns; SRS stores two words. -/
theorem returnAndStoreReturnState : Obligations.ReturnAndStoreReturnState := by
  intro c p u w rn list mode s hs hrun
  refine ⟨fun hm => ⟨rfe_noSpsr hm, srs_noSpsr hm⟩, fun hspsr hrn ha hmode => ?_,
    fun k hc hk hmode hrn h15 hbase ha => ldm3_eq hs hc hrun hk hmode hrn h15 hbase ha,
    fun k hk hmode hm hf ha => srs_eq hs hk hmode hm hf ha⟩
  obtain ⟨k, hk⟩ := Option.isSome_iff_exists.mp hspsr
  exact rfe_eq hs hrun hk hrn ha rfl hmode

/-- Settles O32: what the alignment rule makes of the address, then the access there. -/
theorem unalignedAccesses : Obligations.UnalignedAccesses := by
  intro c p u w rn rd off12 immH immL list s hc hs hrd hA a h even low ldr str ldrh ldrsh strh stores
  have hbase : true = false ∨ false = true → rn ≠ 15#4 ∧ rn ≠ rd := by simp
  have hmode : checkMode3 true false = .ok () := rfl
  have hnotPc : (noPc [rd] >>= fun _ => checkMode3 true false) = .ok () := check_pass (noPc_pass (by simpa using Ne.symm hrd))
  have hvalue : storeValue s rd = s.reg rd := if_neg hrd
  have hlow (x : Word) : low x = align4 x := (align4_eq x).symm
  have heven (x : Word) : even x = align2 x := (align2_eq x).symm
  have word (v : Word) (hread : readAs { plainAccess s with privileged := s.privileged && !false, precise := false } .wLoad 4 a s =
      .ok (v, s)) : exec ldr s = .next (s.wrote rd (rotateLoaded s a v)) := by
    refine loadRegOrPc_eq hc hrd hbase rfl ?_
    change (readAs _ .wLoad 4 a s >>= _) = _
    rw [hread]
    rfl
  have half (v : Half) (hread : ∀ acc, readAs acc .half 2 h s = .ok (v.setWidth 32, s)) :
      exec ldrh s = .next (s.wrote rd (v.setWidth 32)) ∧ exec ldrsh s = .next (s.wrote rd (v.signExtend 32)) := by
    refine ⟨loadReg_eq hc hrd hbase hmode (hread _), loadReg_eq hc hrd hbase hmode ?_⟩
    change (readAs _ .half 2 h s >>= _) = _
    rw [hread]
    exact congrArg (fun b : Half => Except.ok (b.signExtend 32, s)) (bits_setWidth (by decide) v)
  refine ⟨fun hU => ?_, fun hU => ?_⟩
  · have hrotate : rotateLoaded s a (s.memWord (align4 a)) = (s.memWord (align4 a)).rotateRight (8 * (a.toNat % 4)) := by
      rw [rotateLoaded, show s.unalignedOn = false from hU, toNat_bits_two]
      rfl
    have hwordLoad (acc : Access) := loadNumber_plain hs acc (n := 4) (va := align4 a)
      (roomAt_of_aligned (k := 2) (align4_aligned a) (by decide) (by decide))
    have hhalfLoad (acc : Access) := loadNumber_plain hs acc (n := 2) (va := align2 h)
      (roomAt_of_aligned (k := 1) (align2_aligned h) (by decide) (by decide))
    have hread : readAs { plainAccess s with privileged := s.privileged && !false, precise := false } .wLoad 4 a s =
        .ok (s.memWord (align4 a), s) := by
      refine readAs_of_checked hs (checkAlignment_legacy_word hA hU (.inl rfl) false a) _ fun acc => ?_
      rw [hwordLoad, assemble_memWord]
    have hhalf := half (s.memHalf (align2 h)) fun acc => by
      refine readAs_of_checked hs (checkAlignment_legacy_half hA hU false h) _ fun acc => ?_
      rw [hhalfLoad, assemble_memHalf]
    have hslot (r : Reg) : low (slotAddress p u (s.reg rn) list r) =
        wordAddress (align4 (blockStart p u (s.reg rn) (listSize list))) list r := (hlow _).trans (align4_add _ _)
    have hstart := align4_aligned (blockStart p u (s.reg rn) (listSize list))
    have hblock (write : Bool) := checkAlignment_legacy_word hA hU (x := .multiWord) (.inr (.inr rfl)) write
      (blockStart p u (s.reg rn) (listSize list))
    refine ⟨?_, ?_, ?_, ?_, ?_, fun hlist hrn => ⟨fun hwb h15 => ?_, fun hf hwb => ?_⟩⟩
    · rw [word _ hread, hrotate, hlow]
    · obtain ⟨t, hexec, hstored, hframe⟩ := storeReg_offset hc hs hrd rfl (checkAlignment_legacy_word hA hU (.inr (.inl rfl)) true a)
        fun acc => storeNumber_plain hs acc (n := 4) (s.reg rd) (roomAt_of_aligned (k := 2) (align4_aligned a) (by decide) (by decide))
      refine ⟨_, hexec, ?_, rfl⟩
      rw [hframe, ← hlow] at hstored
      exact hstored
    · rw [heven]
      exact hhalf.1
    · rw [heven]
      exact hhalf.2
    · obtain ⟨t, hexec, hstored, hframe⟩ := storeReg_offset hc hs hrd hnotPc (checkAlignment_legacy_half hA hU true h)
        fun acc => storeNumber_plain hs acc (n := 2) (s.reg rd) (roomAt_of_aligned (k := 1) (align2_aligned h) (by decide) (by decide))
      refine ⟨_, hexec, ?_, rfl⟩
      rw [hframe, ← heven] at hstored
      exact hstored
    · obtain ⟨t, hexec, hregs, hframe⟩ := ldm1_eq (p := p) (u := u) hc hs hlist hrn hstart (hblock false) hwb
      refine ⟨t.advance, by rw [hexec, h15]; rfl, modeRegs_congr (by rw [State.advance_eq_stepped]; rfl) (fun r _ => ?_) hregs, ?_⟩
      · rw [hslot]
      · rw [State.advance_eq_stepped, hframe]
        rfl
    · simp only [hslot]
      exact stm1_eq hc hs hlist hrn hstart hf (hblock true) hwb
  · intro byte half' word' storesBytes
    have hbig (b0 b1 b2 b3 : Byte) : assemble (bit s.cpsr 9) [b0, b1, b2, b3] =
        if bit s.cpsr 9 then b0 ++ b1 ++ b2 ++ b3 else b3 ++ b2 ++ b1 ++ b0 := by
      unfold assemble
      split <;> simp [ofBytesLE_four]
    have hbig2 (b0 b1 : Byte) : assemble (bit s.cpsr 9) [b0, b1] = (if bit s.cpsr 9 then b0 ++ b1 else b1 ++ b0 : Half).setWidth 32 := by
      unfold assemble
      split <;> simp [ofBytesLE_two]
    have hrotate : rotateLoaded s a word' = word' := by rw [rotateLoaded, show s.unalignedOn = true from hU]; rfl
    have hhalf := half half' fun acc => readAs_of_checked hs (checkAlignment_unaligned hA hU (.inr (.inr rfl)) false h) _ fun acc =>
      (loadNumber_anywhere hs acc (by decide) h).trans (congrArg (fun v => Except.ok (v, s)) (hbig2 (byte h 0) (byte h 1)))
    refine ⟨?_, hhalf.1, hhalf.2, fun hva => ?_, fun hva => ?_⟩
    · rw [word word', hrotate]
      exact readAs_of_checked hs (checkAlignment_unaligned hA hU (.inl rfl) false a) _ fun acc =>
        (loadNumber_anywhere hs acc (by decide) a).trans
          (congrArg (fun v => Except.ok (v, s)) (hbig (byte a 0) (byte a 1) (byte a 2) (byte a 3)))
    · obtain ⟨t, hexec, ⟨hbytes, hrest⟩, hframe⟩ := storeReg_offset hc hs hrd rfl
        (checkAlignment_unaligned hA hU (.inr (.inl rfl)) true a)
        fun acc => by
          obtain ⟨t, h1, h2, h3, h4⟩ := storeNumber_anywhere hs acc (n := 4) (by decide) (s.reg rd) a (hva.imp_right (by omega))
          exact ⟨t, h1, And.intro h2 h3, h4⟩
      rw [hframe] at hbytes hrest
      exact ⟨_, hexec, hbytes, hrest, rfl⟩
    · obtain ⟨t, hexec, ⟨hbytes, hrest⟩, hframe⟩ := storeReg_offset hc hs hrd hnotPc
        (checkAlignment_unaligned hA hU (.inr (.inr rfl)) true h)
        fun acc => by
          obtain ⟨t, h1, h2, h3, h4⟩ := storeNumber_anywhere hs acc (n := 2) (by decide) (s.reg rd) h (hva.imp_right (by omega))
          exact ⟨t, h1, And.intro h2 h3, h4⟩
      rw [hframe] at hbytes hrest
      exact ⟨_, hexec, hbytes, hrest, rfl⟩
end

section
/-! PUSH, POP, STMIA, LDMIA, and the branches of Thumb state (48). -/

namespace Sys2Proof.Machine

open Sys2Proof

theorem stackList_link : ∀ (regs : BitVec 8) (extra : Bool),
    stackList regs extra 14#4 = regList (regs.setWidth 16 ||| if extra then 0x4000#16 else 0#16) := by decide +kernel

theorem stackList_pc : ∀ (regs : BitVec 8) (extra : Bool),
    stackList regs extra 15#4 = regList (regs.setWidth 16 ||| if extra then 0x8000#16 else 0#16) := by decide +kernel

theorem bit_popped_pc : ∀ (regs : BitVec 8) (extra : Bool),
    bit (regs.setWidth 16 ||| if extra then 0x8000#16 else 0#16) 15 = extra := by decide +kernel

theorem lowReg_toNat (r : LowReg) : (lowReg r).toNat = r.toNat := by
  rw [lowReg, BitVec.toNat_setWidth, Nat.mod_eq_of_lt (by omega)]

theorem or_thumb {s : State} (ht : s.thumb = true) : s.cpsr ||| 0x20#32 = s.cpsr := setBit_of_bit (i := 5) (by decide) ht

theorem State.pcAfter_thumb {s : State} (hrun : s.halted = false) (ht : s.thumb = true) : s.pcAfter = s.pc + 2#32 := by
  rw [State.pcAfter, hrun, State.nextPc, ht, hrun]
  rfl

theorem State.readPc_thumb {s : State} (hrun : s.halted = false) (ht : s.thumb = true) : s.readPc = s.pc + 4#32 := by
  rw [State.readPc, hrun, ht]
  rfl

theorem State.nextPc_thumb {s : State} (hrun : s.halted = false) (ht : s.thumb = true) : s.nextPc = s.pc + 2#32 := by
  rw [State.nextPc, hrun, ht]
  rfl

/-- A load into the PC in Thumb state that stays there. -/
theorem loadToPc_thumb {s : State} {v : Word} (hrun : s.halted = false) (ht : s.thumb = true)
    (h : s.controlBit 15 = true ∨ bit v 0 = true) : loadToPc s v = .ok { s with pc := v.extractLsb' 1 31 ++ 0#1 } := by
  cases hl4 : s.controlBit 15
  · rw [loadToPc_interworking hl4, bxWritePc_thumb hrun (h.resolve_left (by rw [hl4]; decide)), or_thumb ht]
  · rw [loadToPc, hl4, if_pos rfl, State.writePc, State.branch_of_running hrun, hrun, if_neg Bool.false_ne_true, ht, if_pos rfl,
      align2_eq]

/-! ### Blocks -/

section
variable {s : State} (h : s.plainMemory) (hrun : s.halted = false) (ht : s.thumb = true)
include h hrun ht

/-- The end of a store of a block: the base, then the next instruction. -/
theorem thumbStoreBlock {list : BitVec 16} (hf : (s.cp15.bank s.nsState).fcse = 0#32) {start : Word} (ha : start.toNat % 4 = 0) (b : Reg)
    (v : Word) :
    ∃ t, finish (storeWords .multiWord ((regList list).map s.reg) start s >>= fun t => pure (t.setReg b v).advance) = .next t ∧
      blockStored s t list (wordAddress start list) s.reg ∧
      t = { s with mem := t.mem, stale := t.stale, regs := s.regs.set (bankedReg s.mode b) v, pc := s.pc + 2#32 } := by
  obtain ⟨t, hstore, hblock, hframe⟩ := storeBlock_eq h hf (list := list) (checkAlignment_of_aligned (t := .multiWord) ha true s) ha
    (f := s.reg) (value := s.reg) fun _ _ => rfl
  refine ⟨{ s with mem := t.mem, stale := t.stale, regs := s.regs.set (bankedReg s.mode b) v, pc := s.pc + 2#32 }, ?_, ?_, rfl⟩
  · rw [hstore, ← State.pcAfter_thumb hrun ht]
    refine congrArg Host.Outcome.next (Eq.trans (State.setReg_advance _ _ _) ?_)
    rw [hframe]
    rfl
  · rw [hframe] at hblock
    exact hblock

omit hrun ht in
/-- What a block load leaves, before what follows it. -/
theorem thumbLoadBlock {list : BitVec 16} {precise : Bool} {base : Word} (ha : base.toNat % 4 = 0) {b : Reg} (hb : b ≠ 15#4) (v : Word) :
    ∃ t, (∀ k : State → Word → Result State, (loadBlock false true precise base (regList list) s >>= fun x =>
        k ((x.2.setReg b v).setRegsIn x.2.mode (plainRegs x.1)) (pcWord x.1)) =
          k t (pcWord ((regList list).map fun r => (r, s.memWord (slotAddress false true base list r))))) ∧
      (modeRegs s t s.mode fun r =>
        if bit list r.toNat then s.memWord (slotAddress false true base list r) else if r = b then v else s.regIn s.mode r) ∧
      t = { s with regs := t.regs } := by
  have hx := checkAlignment_of_aligned (t := .multiWord) (blockStart_aligned false true (listSize list) ha) false s
  refine ⟨_, fun k => ?_, modeRegs_block (modeRegs_setRegIn (modeRegs_refl s s.mode) hb v) list
    fun r => s.memWord (slotAddress false true base list r), setRegsIn_frame _ _ _⟩
  rw [loadBlock_eq h hx (blockStart_aligned false true _ ha)]
  rfl

end

theorem plainRegs_of_low {list : BitVec 16} (h15 : bit list 15 = false) (f : Reg → Word) :
    plainRegs ((regList list).map fun r => (r, f r)) = (regList list).map fun r => (r, f r) := by
  refine List.filter_eq_self.mpr fun x hx => ?_
  obtain ⟨r, hr, rfl⟩ := List.mem_map.mp hx
  have hr : bit list r.toNat = true := mem_regList.mp hr
  have : r ≠ 15#4 := by rintro rfl; exact absurd hr (by rw [show (15#4).toNat = 15 from rfl, h15]; decide)
  simpa using this

end Sys2Proof.Machine

open Sys2Proof Sys2Proof.Machine

/-- Settles O60: the rules for blocks, and each branch. -/
theorem thumbBlocksAndBranches : Obligations.ThumbBlocksAndBranches := by
  intro c extra h2 rm regs off8 off10 off11 s ht hrun base stack list pushed popped loaded stored return1 linked v even arm target
  have hcheck {l : BitVec 16} (hl : l ≠ 0#16) := refuse_empty hl .registerList
  refine ⟨⟨rfl, rfl, rfl, rfl, fun hb hlow => ?_⟩, fun hs hf ha hne => ?_, fun hs ha hne => ?_, fun hs ha hne => ⟨fun hf hlow => ?_, ?_⟩,
    ?_⟩
  · change finish (refuseIf (regList list).isEmpty .registerList >>= fun _ => refuseIf _ .registerList >>= fun _ => _) = _
    rw [hcheck (list_ne_zero (r := lowReg rm) (by rw [lowReg_toNat]; exact hb)),
      refuseIf_stop (storeBase_eq.mpr ⟨by rw [lowReg_toNat]; exact hb, hlow⟩)]
    rfl
  · have hexec : exec (.tPush extra regs) s = finish (storeWords .multiWord ((regList pushed).map s.reg)
        (blockStart true false stack (listSize pushed)) s >>= fun t =>
          pure (t.setReg 13#4 (blockEnd false stack (listSize pushed))).advance) := by
      change finish (refuseIf (stackList regs extra 14#4).isEmpty .registerList >>= fun _ =>
        storeWords .multiWord ((stackList regs extra 14#4).map s.reg) (blockStart true false stack (stackList regs extra 14#4).length) s
          >>= fun t => pure (t.setReg 13#4 (blockEnd false stack (stackList regs extra 14#4).length)).advance) = _
      rw [stackList_link, hcheck hne, regList_length]
      rfl
    rw [hexec]
    exact thumbStoreBlock hs hrun ht hf (blockStart_aligned true false _ ha) 13#4 _
  · obtain ⟨t, hload, hmode, hframe⟩ := thumbLoadBlock hs (list := popped) (precise := extra) ha (b := 13#4) (by decide)
      (blockEnd true stack (listSize popped))
    have hexec : exec (.tPop extra regs) s = finish (if extra then loadToPc t (pcWord ((regList popped).map fun r =>
        (r, s.memWord (slotAddress false true stack popped r)))) else .ok t.advance) := by
      change finish (refuseIf (stackList regs extra 15#4).isEmpty .registerList >>= fun _ =>
        loadBlock false true extra stack (stackList regs extra 15#4) s >>= fun x =>
          if extra then loadToPc ((x.2.setReg 13#4 (blockEnd true stack (stackList regs extra 15#4).length)).setRegsIn x.2.mode
            (plainRegs x.1)) (pcWord x.1)
          else pure ((x.2.setReg 13#4 (blockEnd true stack (stackList regs extra 15#4).length)).setRegsIn x.2.mode
            (plainRegs x.1)).advance) = _
      rw [stackList_pc, hcheck hne, regList_length]
      exact congrArg finish (hload fun t p => if extra then loadToPc t p else .ok t.advance)
    have hpop (hextra : extra = true) : exec (.tPop extra regs) s =
        finish (loadToPc t (s.memWord (slotAddress false true stack popped 15#4))) := by
      have h15 : bit popped 15 = true := (bit_popped_pc regs extra).trans hextra
      rw [hexec, pcWord_eq _ h15, hextra]
      rfl
    have hrun' : t.halted = false := by rw [hframe]; exact hrun
    have ht' : t.thumb = true := by rw [hframe]; exact ht
    have hcontrol : t.controlBit 15 = s.controlBit 15 := by rw [hframe]; rfl
    refine ⟨fun hextra => ⟨t.advance, by rw [hexec, hextra]; rfl, ?_, ?_⟩, fun hextra hp => ?_, fun hextra hl4 h0 h1 => ?_,
      fun hextra hl4 h0 h1 => ?_⟩
    · exact modeRegs_congr (by rw [State.advance_eq_stepped]; rfl) (fun _ _ => rfl) hmode
    · rw [State.advance_eq_stepped, hframe, ← State.pcAfter_thumb hrun ht]
      rfl
    · refine ⟨_, (hpop hextra).trans (congrArg finish (loadToPc_thumb hrun' ht' (hcontrol ▸ hp))),
        modeRegs_congr rfl (fun _ _ => rfl) hmode, ?_⟩
      rw [hframe]
    · refine ⟨_, (hpop hextra).trans (congrArg finish ((loadToPc_interworking (hcontrol.trans hl4)).trans (bxWritePc_arm hrun' h0 h1))),
        modeRegs_congr rfl (fun _ _ => rfl) hmode, ?_⟩
      rw [hframe]
      rfl
    · rw [hpop hextra, loadToPc_interworking (hcontrol.trans hl4), bxWritePc_refused h0 h1]
      rfl
  · have hbad : ((regList list).contains (lowReg rm) && (regList list).head? != some (lowReg rm)) = false := by
      refine Bool.eq_false_iff.mpr fun hbad => ?_
      obtain ⟨hb, hb'⟩ := storeBase_eq.mp hbad
      exact hb' (hlow (by rwa [lowReg_toNat] at hb))
    have hexec : exec (.tStmia rm regs) s = finish (storeWords .multiWord ((regList list).map s.reg)
        (blockStart false true base (listSize list)) s >>= fun t =>
          pure (t.setReg (lowReg rm) (blockEnd true base (listSize list))).advance) := by
      change finish (refuseIf (regList list).isEmpty .registerList >>= fun _ =>
        refuseIf ((regList list).contains (lowReg rm) && (regList list).head? != some (lowReg rm)) .registerList >>= fun _ =>
        storeWords .multiWord ((regList list).map s.reg) (blockStart false true base (regList list).length) s >>= fun t =>
          pure (t.setReg (lowReg rm) (blockEnd true base (regList list).length)).advance) = _
      rw [hcheck hne, refuseIf_pass hbad, regList_length]
      rfl
    rw [hexec]
    exact thumbStoreBlock hs hrun ht hf (blockStart_aligned false true _ ha) (lowReg rm) _
  · have h15 : bit list 15 = false := by
      simp [list, bit]
    have hx := checkAlignment_of_aligned (t := .multiWord) (blockStart_aligned false true (listSize list) ha) false s
    obtain ⟨t, hdef⟩ : ∃ t, t = (s.setReg (lowReg rm) (blockEnd true base (listSize list))).setRegsIn s.mode
      (plainRegs ((regList list).map fun r => (r, s.memWord (slotAddress false true base list r)))) := ⟨_, rfl⟩
    have hexec : exec (.tLdmia rm regs) s = .next t.advance := by
      change finish (refuseIf (regList list).isEmpty .registerList >>= fun _ => loadBlock false true false base (regList list) s >>=
        fun x => pure (((x.2.setReg (lowReg rm) (blockEnd true base (regList list).length)).setRegsIn x.2.mode x.1).advance)) = _
      rw [hcheck hne, loadBlock_eq hs hx (blockStart_aligned false true _ ha), regList_length, hdef, plainRegs_of_low h15]
      rfl
    have hframe : t = { s with regs := t.regs } := by rw [hdef]; exact setRegsIn_frame _ _ _
    refine ⟨t.advance, hexec, modeRegs_congr (t := t) (by rw [State.advance_eq_stepped]; rfl) (fun _ _ => rfl) ?_, ?_⟩
    · rw [hdef]
      exact modeRegs_block (modeRegs_setRegIn (modeRegs_refl s s.mode) (lowReg_ne_pc rm) (blockEnd true base (listSize list))) list _
    · rw [State.advance_eq_stepped, hframe, ← State.pcAfter_thumb hrun ht]
      rfl
  · have hread := State.readPc_thumb hrun ht
    have hlink : s.setReg 14#4 (s.nextPc ||| 1#32) = { s with regs := linked } := by rw [State.nextPc_thumb hrun ht]; rfl
    have hv : s.reg (highReg h2 rm) = v := by rw [highReg_eq]
    have hbranch (t : State) (hrun : t.halted = false) (a : Word) : finish (.ok (t.branch a)) = .next { t with pc := a } :=
      congrArg Host.Outcome.next (State.branch_of_running hrun a)
    have htarget : s.reg 14#4 + (zext off11 <<< 1) = target := congrArg (s.reg 14#4 + ·) (zext_shiftLeft 1 (by decide) off11)
    have hbx : exec (.tBx h2 rm) s = finish (bxWritePc s v) := congrArg (fun a => finish (bxWritePc s a)) hv
    have hblx (hpc : (BitVec.ofBool h2 ++ rm : BitVec 4) ≠ 15#4) :
        exec (.tBlx2 h2 rm) s = finish (bxWritePc { s with regs := linked } v) := by
      change finish (noPc [highReg h2 rm] >>= fun _ => bxWritePc (s.setReg 14#4 (s.nextPc ||| 1#32)) (s.reg (highReg h2 rm))) = _
      rw [hv, highReg_eq, noPc_pass (by simpa using Ne.symm hpc), hlink]
      rfl
    refine ⟨?_, fun hc => ?_, ?_, fun h0 => ?_, fun h0 => ?_, ?_, fun h0 => ⟨?_, fun hpc => ?_⟩, fun h0 h1 => ⟨?_, fun hpc => ?_⟩,
      fun h0 h1 => ?_, rfl⟩
    · refine (hbranch s hrun _).trans ?_
      rw [hread, sext_shiftLeft 1 (by decide)]
    · change finish (conditional c true s _) = _
      rw [conditional_pass hc, hread, sext_shiftLeft 1 (by decide)]
      exact hbranch s hrun _
    · refine (congrArg Host.Outcome.next (State.setReg_advance _ _ _)).trans ?_
      rw [hread, sext_shiftLeft 12 (by decide)]
    · change finish (refuseIf (bit (s.reg 14#4 + (zext off11 <<< 1)) 0) .branchTarget >>= fun _ =>
        pure ((s.setReg 14#4 (s.nextPc ||| 1#32)).branch (s.reg 14#4 + (zext off11 <<< 1)))) = _
      rw [htarget, refuseIf_pass h0, hlink]
      exact hbranch { s with regs := linked } hrun _
    · change finish (refuseIf (bit (s.reg 14#4 + (zext off11 <<< 1)) 0) .branchTarget >>= fun _ => _) = _
      rw [htarget, refuseIf_stop h0]
      rfl
    · change finish (.ok (((s.setReg 14#4 (s.nextPc ||| 1#32)).setThumb false).branch (align4 (s.reg 14#4 + words off10)))) = _
      rw [hlink, words_eq (by decide), align4_eq]
      exact hbranch (({ s with regs := linked } : State).setThumb false) hrun _
    · rw [hbx, bxWritePc_thumb hrun h0, or_thumb ht]
      rfl
    · rw [hblx hpc, bxWritePc_thumb (s := { s with regs := linked }) hrun h0]
      exact congrArg (fun p => Host.Outcome.next { s with regs := linked, cpsr := p, pc := even v }) (or_thumb ht)
    · rw [hbx, bxWritePc_arm hrun h0 h1]
      rfl
    · rw [hblx hpc, bxWritePc_arm (s := { s with regs := linked }) hrun h0 h1]
      rfl
    · rw [hbx, bxWritePc_refused h0 h1]
      rfl
end

section
/-! The registers of CP15 as MRC and MCR reach them: who may, what is read, what a write changes. -/

namespace Sys2Proof.Machine

open Sys2Proof

/-! ### MRC and MCR of CP15 -/

@[simp] theorem require_true (s : State) : require true s = .ok () := rfl

@[simp] theorem require_false (s : State) : require false s = undefined s := rfl

theorem withSources_one {rd : Reg} (h : rd ≠ 15#4) (s : State) (r : Result State) : withSources [rd] s r = r := by
  simp [withSources, Ne.symm h]

/-- What an MRC of a CP15 register does that reads as `v`, without another effect. -/
theorem mrc_eq {c : Cond} {s : State} (hc : condHolds c s.cpsr = true) (o1 : BitVec 3) (crn : BitVec 4) (rd : Reg) (o2 : BitVec 3)
    (crm : BitVec 4) {v : Word} (hread : readCp15 o1 crn crm o2 s = .ok (v, s)) :
    exec (.mrc c o1 crn rd 15#4 o2 crm) s = .next (mrcResult rd v s).advance := by
  change finish (conditional c false s (readCp15 o1 crn crm o2 s >>= fun x => pure (mrcResult rd x.1 x.2).advance)) = _
  rw [conditional_pass hc, hread]
  rfl

/-- What an MCR of a CP15 register does whose write gives `u`. -/
theorem mcr_eq {c : Cond} {s u : State} (hc : condHolds c s.cpsr = true) (o1 : BitVec 3) (crn : BitVec 4) {rd : Reg} (hrd : rd ≠ 15#4)
    (o2 : BitVec 3) (crm : BitVec 4) (hwrite : writeCp15 o1 crn crm o2 (s.reg rd) s = .ok u) :
    exec (.mcr c o1 crn rd 15#4 o2 crm) s = .next u.advance := by
  change finish (conditional c false s (withSources [rd] s (writeCp15 o1 crn crm o2 (s.reg rd) s) >>= fun x => pure x.advance)) = _
  rw [conditional_pass hc, withSources_one hrd, hwrite]
  rfl

theorem mcr_refused {c : Cond} {s : State} (hc : condHolds c s.cpsr = true) (o1 : BitVec 3) (crn : BitVec 4) {rd : Reg} (hrd : rd ≠ 15#4)
    (o2 : BitVec 3) (crm : BitVec 4) {why : Refusal} (hwrite : writeCp15 o1 crn crm o2 (s.reg rd) s = .error (.refuse why)) :
    exec (.mcr c o1 crn rd 15#4 o2 crm) s = .refused why := by
  change finish (conditional c false s (withSources [rd] s (writeCp15 o1 crn crm o2 (s.reg rd) s) >>= fun x => pure x.advance)) = _
  rw [conditional_pass hc, withSources_one hrd, hwrite]
  rfl

theorem mrc_undefined {c : Cond} {s : State} (hc : condHolds c s.cpsr = true) {o1 : BitVec 3} {crn : BitVec 4} (rd : Reg) {o2 : BitVec 3}
    {crm : BitVec 4} (hread : readCp15 o1 crn crm o2 s = undefined s) : raisesUndefined (.mrc c o1 crn rd 15#4 o2 crm) s := by
  refine raisesUndefined_of_conditional (body := readCp15 o1 crn crm o2 s >>= fun x => pure (mrcResult rd x.1 x.2).advance) rfl hc ?_
  rw [hread]
  rfl

theorem mcr_undefined {c : Cond} {s : State} (hc : condHolds c s.cpsr = true) {o1 : BitVec 3} {crn : BitVec 4} {rd : Reg} (hrd : rd ≠ 15#4)
    {o2 : BitVec 3} {crm : BitVec 4} (hwrite : writeCp15 o1 crn crm o2 (s.reg rd) s = undefined s) :
    raisesUndefined (.mcr c o1 crn rd 15#4 o2 crm) s := by
  refine raisesUndefined_of_conditional
    (body := withSources [rd] s (writeCp15 o1 crn crm o2 (s.reg rd) s) >>= fun x => pure x.advance) rfl hc ?_
  rw [withSources_one hrd, hwrite]
  rfl

/-- The flags of an MRC are the top four bits of its word. -/
theorem mergeBits_flags (a v : Word) : mergeBits a v 0xF0000000#32 = v.extractLsb' 28 4 ++ a.extractLsb' 0 28 := by
  ext i hi
  have hmask : ∀ i < 32, (0xF0000000#32).getLsbD i = decide (28 ≤ i) := by decide
  simp only [mergeBits, ← BitVec.getLsbD_eq_getElem, BitVec.getLsbD_append, BitVec.getLsbD_extractLsb', BitVec.getLsbD_or,
    BitVec.getLsbD_and, BitVec.getLsbD_not, hmask i hi, hi]
  by_cases h : 28 ≤ i
  · simp [h, show ¬ i < 28 by omega, show i - 28 < 4 by omega]
  · simp [h, show i < 28 by omega]

theorem advance_mrcResult {s : State} (rd : Reg) (v : Word) :
    (rd ≠ 15#4 → (mrcResult rd v s).advance = s.wrote rd v) ∧
    (rd = 15#4 → (mrcResult rd v s).advance = { s.stepped with cpsr := v.extractLsb' 28 4 ++ s.cpsr.extractLsb' 0 28 }) := by
  constructor
  · intro hrd
    rw [mrcResult, if_neg hrd, State.setReg_advance]
  · intro hrd
    rw [mrcResult, if_pos hrd, setFlagsFrom, mergeBits_flags]
    exact State.withCpsr_advance (by rw [BitVec.getLsbD_append, if_pos (by decide), BitVec.getLsbD_extractLsb']; rfl)

/-! ### Protection (11:R102) -/

theorem State.cp15Privileged_of_user {s : State} (hmode : s.mode = modeUsr) (hrun : s.halted = false) : s.cp15Privileged = false := by
  simp [State.cp15Privileged, State.privileged, hmode, hrun]

theorem State.cp15Privileged_of_privileged {s : State} (hmode : s.mode ≠ modeUsr) : s.cp15Privileged = true := by
  simp [State.cp15Privileged, State.privileged, hmode]

/-- The registers that no access without privilege reaches, by CRn. -/
def privilegedCrn : List (BitVec 4) := [0#4, 1#4, 2#4, 3#4, 5#4, 6#4, 8#4, 9#4, 10#4, 12#4]

theorem readCp15_unprivileged {s : State} (hp : s.cp15Privileged = false) {crn : BitVec 4} (hcrn : crn ∈ privilegedCrn)
    (o1 o2 : BitVec 3) (crm : BitVec 4) : readCp15 o1 crn crm o2 s = undefined s := by
  have h15 : crn ≠ 15#4 := by
    rintro rfl
    exact absurd hcrn (by decide)
  by_cases ho : o1 = 0#3
  · subst ho
    simp only [privilegedCrn, List.mem_cons, List.not_mem_nil, or_false] at hcrn
    rcases hcrn with rfl | rfl | rfl | rfl | rfl | rfl | rfl | rfl | rfl | rfl <;>
      simp [readCp15, readC0, readC1, readC2, readC3, readC5, readC6, readC9, readC10, readC12, hp] <;> rfl
  · simp [readCp15, ho, h15]

theorem writeCp15_unprivileged {s : State} (hp : s.cp15Privileged = false) {crn : BitVec 4} (hcrn : crn ∈ privilegedCrn)
    (o1 o2 : BitVec 3) (crm : BitVec 4) (v : Word) : writeCp15 o1 crn crm o2 v s = undefined s := by
  have h15 : crn ≠ 15#4 := by
    rintro rfl
    exact absurd hcrn (by decide)
  by_cases ho : o1 = 0#3
  · subst ho
    simp only [privilegedCrn, List.mem_cons, List.not_mem_nil, or_false] at hcrn
    rcases hcrn with rfl | rfl | rfl | rfl | rfl | rfl | rfl | rfl | rfl | rfl <;>
      simp [writeCp15, writeC1, writeC2, writeC3, writeC5, writeC6, writeC8, writeC9, writeC10, writeC12, hp] <;> rfl
  · simp [writeCp15, ho, h15]

/-! ### Reads (11 to 14) -/

theorem State.bank_eq_selected (s : State) : s.bank = s.selected := rfl

theorem State.dmaChannel_eq (s : State) : s.dmaChannel = s.channelNumber := by
  have h : ∀ b : BitVec 1, Fin.ofNat 2 b.toNat = if b.getLsbD 0 then (1 : Fin 2) else 0 := by decide
  rw [State.dmaChannel, State.channelNumber, h]
  simp [bits, bit]

theorem selectedTcm_eq {s : State} (hns : s.nsState = false) : selectedTcm s = s.tcmNumber := by
  have h : ∀ b : BitVec 1, Fin.ofNat 2 b.toNat = if b.getLsbD 0 then (1 : Fin 2) else 0 := by decide
  rw [selectedTcm, State.tcmNumber, h, hns]
  simp [bits, bit, Cp15.bank]

theorem DmaChannel.state_beq (c : DmaChannel) (n : BitVec 2) : (c.state == n.toNat) = (c.status.extractLsb' 0 2 == n) := by
  rw [Bool.eq_iff_iff, beq_iff_eq, beq_iff_eq]
  exact BitVec.toNat_inj

theorem dmaFlags_eq (s : State) (p : DmaChannel → Bool) : dmaFlags s p = dmaBits p s := by
  have h : ∀ a b : Bool, ofBit a ||| (ofBit b <<< 1) = (BitVec.ofBool b ++ BitVec.ofBool a).setWidth 32 := by decide
  exact h _ _

theorem dmaFlags_state (s : State) (n : BitVec 2) :
    dmaFlags s (fun c => c.state == n.toNat) = dmaBits (fun c => c.status.extractLsb' 0 2 == n) s := by
  rw [dmaFlags_eq]
  exact congrArg (dmaBits · s) (funext fun c => c.state_beq n)

theorem tcmNsAccess_eq {s : State} (hns : s.nsState = false) (data : Bool) :
    tcmNsAccess data s = if data then s.cp15.dtcmNsAccess[s.tcmNumber] else s.cp15.itcmNsAccess[s.tcmNumber] := by
  simp only [tcmNsAccess, selectedTcm_eq hns]

theorem ofBit_eq (b : Bool) : ofBit b = (BitVec.ofBool b).setWidth 32 := by cases b <;> rfl

theorem bind_ok {α β : Type} (a : α) (f : α → Result β) : ((Except.ok a : Result α) >>= f) = f a := rfl

theorem plainRead_ok (v : Word) (s : State) : plainRead (.ok v) s = .ok (v, s) := rfl

/-- The reads of the Secure privileged modes. -/
theorem readCp15_secure {s : State} (hp : s.cp15Privileged = true) (hns : s.nsState = false) :
    ∀ row ∈ cp15Reads, readCp15 row.1.1 row.1.2.1 row.1.2.2.1 row.1.2.2.2 s = .ok (row.2 s, s) := by
  simp only [cp15Reads, List.forall_mem_cons, List.not_mem_nil, false_implies, implies_true, and_true]
  and_intros <;>
    simp [readCp15, readC0, readC1, readC2, readC3, readC5, readC6, readC7, readC9, readC10, readC11, readC12, readC13, readC15Op0,
      mayLockCache, mayLockTlb, mayManageDma, mayUseNumber, State.dmaWorld, hp, hns] <;> rfl

theorem readCp15_units {s : State} (hp : s.cp15Privileged = true) (hns : s.nsState = false) :
    ∀ row ∈ cp15UnitReads, readCp15 row.1.1 row.1.2.1 row.1.2.2.1 row.1.2.2.2 s = .ok (row.2 s, s) := by
  have hqueued := dmaFlags_state s 1#2
  have hrunning := dmaFlags_state s 2#2
  have hflag := dmaFlags_eq s (·.interrupt)
  simp only [BitVec.toNat_ofNat, Nat.reduceMod, Nat.reducePow] at hqueued hrunning
  simp only [cp15UnitReads, List.forall_mem_cons, List.not_mem_nil, false_implies, implies_true, and_true]
  and_intros <;>
    simp [readCp15, readC9, readC11, readC15Op0, readC15Other, mayManageDma, mayUseChannel, mayMonitor, State.dmaWorld, hp, hns, bind_ok,
      plainRead_ok, tcmNsAccess_eq hns, State.dmaChannel_eq, hqueued, hrunning, hflag, behaviorMask, State.channel, ofBit_eq, zext]

theorem cpacrMask_default {s : State} (hns : s.nsState = false) (himpl : s.impl = {}) : cpacrMask s = 0x00F00000#32 := by
  have hfields : copFields (fun n => n == 10 || n == 11) = 0x00F00000#32 := by decide
  simpa [cpacrMask, copExists, himpl, hns] using hfields

theorem tcmExists_default {s : State} (himpl : s.impl = {}) (data : Bool) : tcmExists data s = true := by
  have hbanks : ∀ (n : Fin 2) (d : Bool), decide (n.val < tcmBanks (if d then ({} : Implementation).dtcmKB else ({} : Implementation).itcmKB)) = true := by
    decide
  rw [tcmExists, himpl]
  exact hbanks _ data

theorem readCp15_default {s : State} (hp : s.cp15Privileged = true) (hns : s.nsState = false) (himpl : s.impl = {}) :
    ∀ row ∈ cp15DefaultReads, readCp15 row.1.1 row.1.2.1 row.1.2.2.1 row.1.2.2.2 s = .ok (row.2 s, s) := by
  have hid : mainId s = 0x410FB767#32 := by rw [mainId, himpl]; rfl
  have htype : cacheType s = 0x1D152152#32 := by rw [cacheType, himpl]; rfl
  have hstatus : tcmStatus s = 0x00020002#32 := by rw [tcmStatus, himpl]; rfl
  have hpresent : dmaPresent s = 3#32 := by rw [dmaPresent, himpl]; rfl
  simp only [cp15DefaultReads, List.forall_mem_cons, List.not_mem_nil, false_implies, implies_true, and_true]
  and_intros <;>
    simp [readCp15, readC0, readC1, readC9, readC11, readTcmRegion, mayManageDma, State.dmaWorld, hp, hns, bind_ok, plainRead_ok,
      hid, htype, hstatus, hpresent, tcmExists_default himpl, selectedTcm_eq hns, cpacrMask_default hns himpl]

/-! ### Writes -/

/-- `u` is `s` with CP15 replaced by `after`, but for the old settings that fetches and the DMA may go on using. -/
def OnlyCp15 (s : State) (after : Cp15) (u : State) : Prop := u = { s with cp15 := after, oldFetch := u.oldFetch, oldMap := u.oldMap }

/-- This access of CP15 leaves `after` and nothing else. -/
def Writes (s : State) (after : Cp15) (r : Result State) : Prop := ∃ u, r = .ok u ∧ OnlyCp15 s after u

theorem OnlyCp15.plain (s : State) (after : Cp15) : OnlyCp15 s after { s with cp15 := after } := rfl

theorem OnlyCp15.keepOldFetch {s u : State} {after : Cp15} (h : OnlyCp15 s after u) (old : State) :
    OnlyCp15 s after (u.keepOldFetch old) := by
  rw [State.keepOldFetch]
  split
  · exact h
  · rw [h, OnlyCp15]

theorem OnlyCp15.keepOldMap {s u : State} {after : Cp15} (h : OnlyCp15 s after u) (old : State) :
    OnlyCp15 s after (u.keepOldMap old) := by
  rw [State.keepOldMap]
  split
  · rw [h, OnlyCp15]
  · exact h

@[simp] theorem Writes.plain (s : State) (after : Cp15) : Writes s after (.ok { s with cp15 := after }) := ⟨_, rfl, .plain s after⟩

@[simp] theorem Writes.fetch (s : State) (after : Cp15) : Writes s after (.ok ({ s with cp15 := after }.keepOldFetch s)) :=
  ⟨_, rfl, (OnlyCp15.plain s after).keepOldFetch s⟩

@[simp] theorem Writes.fetchMap (s : State) (after : Cp15) : Writes s after (.ok (({ s with cp15 := after }.keepOldFetch s).keepOldMap s)) :=
  ⟨_, rfl, ((OnlyCp15.plain s after).keepOldFetch s).keepOldMap s⟩

@[simp] theorem Writes.fetchUnless (s : State) (after : Cp15) (p : Prop) [Decidable p] :
    Writes s after (.ok (if p then { s with cp15 := after } else { s with cp15 := after }.keepOldFetch s)) := by
  split
  · exact Writes.plain s after
  · exact Writes.fetch s after

theorem State.setBank_eq (s : State) (b : Cp15Bank) : s.setBank b = { s with cp15 := s.withSelected b } := rfl

/-- The MCR of such an access. -/
theorem mcr_of_writes {c : Cond} {s : State} (hc : condHolds c s.cpsr = true) {o1 : BitVec 3} {crn : BitVec 4} {rd : Reg} (hrd : rd ≠ 15#4)
    {o2 : BitVec 3} {crm : BitVec 4} {after : Cp15} (hwrite : Writes s after (writeCp15 o1 crn crm o2 (s.reg rd) s)) :
    ∃ t, exec (.mcr c o1 crn rd 15#4 o2 crm) s = .next t ∧
      t = { s.stepped with cp15 := after, oldFetch := t.oldFetch, oldMap := t.oldMap } := by
  obtain ⟨u, hu, hframe⟩ := hwrite
  refine ⟨_, mcr_eq hc o1 crn hrd o2 crm hu, ?_⟩
  have hstep : ({ s with cp15 := after, oldFetch := u.oldFetch, oldMap := u.oldMap } : State).advance =
      { s.stepped with cp15 := after, oldFetch := u.oldFetch, oldMap := u.oldMap } := State.advance_eq_stepped _
  rw [hframe, hstep]

/-- A Secure access with CP15SDISABLE LOW is locked nowhere. -/
theorem lockedBanked_eq_false {s : State} (h : s.pins.cp15sdisable = false) : lockedBanked s = false := by simp [lockedBanked, h]

theorem lockedSingle_eq_false {s : State} (h : s.pins.cp15sdisable = false) : lockedSingle s = false := by simp [lockedSingle, h]

/-- The writes of the Secure privileged modes. -/
theorem writeCp15_secure {s : State} (hp : s.cp15Privileged = true) (hns : s.nsState = false) (hlock : s.pins.cp15sdisable = false)
    (v : Word) :
    ∀ row ∈ cp15Writes, Writes s (row.2 s v) (writeCp15 row.1.1 row.1.2.1 row.1.2.2.1 row.1.2.2.2 v s) := by
  simp only [cp15Writes, List.forall_mem_cons, List.not_mem_nil, false_implies, implies_true, and_true]
  and_intros <;>
    simp [writeCp15, writeC1, writeC2, writeC3, writeC5, writeC6, writeC9, writeC10, writeC11, writeC12, writeC13, writeC15Op0,
      mayLockCache, mayLockTlb, mayManageDma, mayUseNumber, State.dmaWorld, hp, hns, bind_ok, lockedBanked_eq_false hlock,
      lockedSingle_eq_false hlock, State.setBank_eq, State.bank_eq_selected]

theorem countersOf_eq (v : Word) : countersOf v = flagged v := rfl

/-- The other bits of a word do not matter for the flags in it. -/
theorem flagged_masked (w v : Word) : flagged (w &&& 0x700#32 &&& v) = flagged (w &&& v) := by
  simp [flagged, bit]

/-- Which selections of a TCM a default processor takes. -/
theorem selectTcm_default {i : Implementation} (hi : i = {}) (v old : Word) : selectTcm i v old = if v.extractLsb' 1 1 = 0#1 then v &&& 1#32 else old := by
  have hbanks : (tcmBanks ({} : Implementation).dtcmKB == 2 || tcmBanks ({} : Implementation).itcmKB == 2) = true := by decide
  have hhigh : v.extractLsb' 1 1 = (bits v 0 2).extractLsb' 1 1 := by
    ext i hi
    simp [bits, show i = 0 by omega]
  have hlow : v &&& 1#32 = (bits v 0 2 &&& 1#2).setWidth 32 := by
    ext i hi
    have hone : ∀ i < 32, (1#32).getLsbD i = decide (i = 0) := by decide
    simp only [← BitVec.getLsbD_eq_getElem, BitVec.getLsbD_and, hone i hi]
    rcases i with _ | i
    · simp [bits]
    · simp
  have hcases : ∀ n : BitVec 2, n = 0#2 ∨ n = 1#2 ∨ n = 2#2 ∨ n = 3#2 := by decide
  rw [hi, selectTcm, hbanks, hhigh, hlow]
  rcases hcases (bits v 0 2) with h | h | h | h <;> simp [h]

theorem writeCp15_units {s : State} (hp : s.cp15Privileged = true) (hns : s.nsState = false) (hlock : s.pins.cp15sdisable = false)
    (v : Word) :
    ∀ row ∈ cp15UnitWrites, Writes s (row.2 s v) (writeCp15 row.1.1 row.1.2.1 row.1.2.2.1 row.1.2.2.2 v s) := by
  simp only [cp15UnitWrites, List.forall_mem_cons, List.not_mem_nil, false_implies, implies_true, and_true]
  and_intros <;>
    simp [writeCp15, writeC9, writeC11, writeC15Op0, writeC15Other, mayUseChannel, mayMonitor, State.dmaWorld, behaviorMask, writePmnc, hp, hns, bind_ok,
      lockedSingle_eq_false hlock, State.setDma, State.dmaChannel_eq, State.withChannel, State.channel, countersOf_eq, flagged_masked, bits,
      mergeBits_eq_merged]

theorem writeCp15_default {s : State} (hp : s.cp15Privileged = true) (hns : s.nsState = false) (hlock : s.pins.cp15sdisable = false)
    (himpl : s.impl = {}) (v : Word) :
    ∀ row ∈ cp15DefaultWrites, Writes s (row.2 s v) (writeCp15 row.1.1 row.1.2.1 row.1.2.2.1 row.1.2.2.2 v s) := by
  simp only [cp15DefaultWrites, List.forall_mem_cons, List.not_mem_nil, false_implies, implies_true, and_true]
  and_intros <;>
    simp [writeCp15, writeC1, writeC9, writeTcmNsAccess, hp, hns, bind_ok, lockedSingle_eq_false hlock, State.setBank_eq, State.bank_eq_selected,
      cpacrMask_default hns himpl, tcmExists_default himpl, selectedTcm_eq hns, mergeBits_eq_merged, selectTcm_default himpl]

/-! ### Registers that a DMA channel in operation guards (13:R260, 14:R303) -/

theorem State.dma_selected (s : State) : s.cp15.dma[(s.dmaChannel : Nat)] = s.channel := by
  simp only [State.dmaChannel_eq]
  rfl

theorem State.setDma_selected (s : State) (ch : DmaChannel) : s.setDma s.dmaChannel ch = { s with cp15 := s.withChannel ch } := by
  rw [State.dmaChannel_eq]
  rfl

theorem State.channel_busy (s : State) : s.channel.busy = s.channelBusy := by
  have hqueued := s.channel.state_beq 1#2
  have hrunning := s.channel.state_beq 2#2
  simp only [BitVec.toNat_ofNat, Nat.reduceMod, Nat.reducePow] at hqueued hrunning
  rw [DmaChannel.busy, hqueued, hrunning, State.channelBusy, Bool.eq_iff_iff]
  simp

theorem State.withChannel_channel (s : State) : s.withChannel s.channel = s.cp15 := by
  simp [State.withChannel, State.channel]

theorem writes_channel {s : State} (hp : s.cp15Privileged = true) (hns : s.nsState = false) (hbusy : s.channelBusy = false) (v : Word) :
    Writes s (s.withChannel { s.channel with control := (v &&& 0xF40FFF03#32) ||| 0x08000000#32 }) (writeCp15 0 11 4 0 v s) ∧
    Writes s (s.withChannel { s.channel with intStart := v }) (writeCp15 0 11 5 0 v s) ∧
    Writes s (s.withChannel { s.channel with extStart := v }) (writeCp15 0 11 6 0 v s) ∧
    Writes s (s.withChannel { s.channel with contextId := v }) (writeCp15 0 11 15 0 v s) := by
  have hfree := s.channel_busy.trans hbusy
  simp [writeCp15, writeC11, mayUseChannel, mayManageDma, State.dmaWorld, hp, hns, bind_ok, writeDmaControl, writeDmaStart, writeDmaContext,
    State.dma_selected, State.setDma_selected, hfree]

theorem writes_busyChannel {s : State} (hp : s.cp15Privileged = true) (hns : s.nsState = false) (hbusy : s.channelBusy = true) (v : Word) :
    Writes s s.cp15 (writeCp15 0 11 4 0 v s) ∧ Writes s s.cp15 (writeCp15 0 11 15 0 v s) ∧
    writeCp15 0 11 5 0 v s = .error (.refuse .dmaUnpredictable) ∧ writeCp15 0 11 6 0 v s = .error (.refuse .dmaUnpredictable) := by
  have hrun := s.channel_busy.trans hbusy
  have hsame : Writes s s.cp15 (.ok s) := Writes.plain s s.cp15
  simp [writeCp15, writeC11, mayUseChannel, mayManageDma, State.dmaWorld, hp, hns, bind_ok, writeDmaControl, writeDmaStart, writeDmaContext,
    State.dma_selected, State.setDma_selected, hrun, State.withChannel_channel, hsame]
  rfl

theorem dmaRuns_iff (s : State) :
    dmaRuns s = true ↔ s.cp15.dma[0].status.extractLsb' 0 2 = 2#2 ∨ s.cp15.dma[1].status.extractLsb' 0 2 = 2#2 := by
  have hrunning : ∀ ch : DmaChannel, (ch.state == 2) = (ch.status.extractLsb' 0 2 == 2#2) := fun ch => ch.state_beq 2#2
  simp [dmaRuns, hrunning]

theorem writeTcmRegion_refused {s : State} (hp : s.cp15Privileged = true) (hns : s.nsState = false) (hlock : s.pins.cp15sdisable = false)
    (hruns : dmaRuns s = true) (v : Word) :
    writeCp15 0 9 1 0 v s = .error (.refuse .tcmRegionDuringDma) ∧ writeCp15 0 9 1 1 v s = .error (.refuse .tcmRegionDuringDma) := by
  simp [writeCp15, writeC9, writeTcmRegion, hp, hns, hruns, lockedSingle_eq_false hlock, bind_ok, refuseIf]
  exact ⟨rfl, rfl⟩

theorem writes_tcmRegion {s : State} (hp : s.cp15Privileged = true) (hns : s.nsState = false) (hlock : s.pins.cp15sdisable = false)
    (hruns : dmaRuns s = false) (himpl : s.impl = {}) (v : Word) :
    Writes s { s.cp15 with dtcmRegion := s.cp15.dtcmRegion.set s.tcmNumber (merged s.cp15.dtcmRegion[s.tcmNumber] v 0xFFFFF001#32) }
      (writeCp15 0 9 1 0 v s) ∧
    Writes s { s.cp15 with itcmRegion := s.cp15.itcmRegion.set s.tcmNumber (merged s.cp15.itcmRegion[s.tcmNumber] v 0xFFFFF001#32) }
      (writeCp15 0 9 1 1 v s) := by
  simp [writeCp15, writeC9, writeTcmRegion, hp, hns, hruns, lockedSingle_eq_false hlock, bind_ok, tcmExists_default himpl, selectedTcm_eq hns,
    mergeBits_eq_merged, refuseIf]

/-- The Control Register in the Secure world: its banked copy, and the bits that exist once. -/
theorem writes_control {s : State} (hp : s.cp15Privileged = true) (hns : s.nsState = false) (hlock : s.pins.cp15sdisable = false)
    (v : Word) :
    Writes s
      { s.withSelected { s.selected with control := v &&& 0x33C03B07#32 } with
        controlShared := (s.cp15.controlShared &&& ~~~0x0025C080#32) ||| (v &&& 0x0025C080#32) }
      (writeCp15 0 1 0 0 v s) := by
  have hwrite : writeCp15 0 1 0 0 v s = .ok (((writeControl v s).keepOldFetch s).keepOldMap s) := by
    simp [writeCp15, writeC1, hp, lockedBanked_eq_false hlock, bind_ok]
  have hmask : (controlSecureMask ||| controlTcmMask) = 0x0025C080#32 := by decide
  have hcontrol : writeControl v s = { s with cp15 :=
      { s.withSelected { s.selected with control := v &&& 0x33C03B07#32 } with
        controlShared := (s.cp15.controlShared &&& ~~~0x0025C080#32) ||| (v &&& 0x0025C080#32) } } := by
    cases hb : bit s.cp15.scr 0 <;>
      simp [writeControl, hns, hmask, State.setBank_eq, State.withSelected, hb, mergeBits, State.bank_eq_selected, controlBankedMask]
  rw [hwrite, hcontrol]
  exact Writes.fetchMap s _

end Sys2Proof.Machine

open Sys2Proof Sys2Proof.Machine

/-- Settles O48: without privilege no access to these registers goes on; in the Non-secure world each of the named ones is stopped too,
with or without privilege. -/
theorem systemControlProtection : Obligations.SystemControlProtection := by
  intro c rd s hc hrun hrd
  refine ⟨fun hmode crn hcrn o1 o2 crm => ?_, fun hns x hx => ?_, fun hns x hx => ?_⟩
  · have hp := State.cp15Privileged_of_user hmode hrun
    exact ⟨mrc_undefined hc rd (readCp15_unprivileged hp hcrn o1 o2 crm), mcr_undefined hc hrd (writeCp15_unprivileged hp hcrn o1 o2 crm _)⟩
  · simp only [List.mem_cons, List.not_mem_nil, or_false] at hx
    refine ⟨mrc_undefined hc rd ?_, mcr_undefined hc hrd ?_⟩ <;> rcases hx with rfl | rfl | rfl <;> cases hp : s.cp15Privileged <;>
      simp [readCp15, writeCp15, readC1, writeC1, readC12, writeC12, hp, hns] <;> rfl
  · simp only [List.mem_cons, List.not_mem_nil, or_false] at hx
    refine mcr_undefined hc hrd ?_
    rcases hx with rfl | rfl <;> cases hp : s.cp15Privileged <;> simp [writeCp15, writeC1, hp, hns] <;> rfl

/-- Settles O45: each row's write gives CP15 after it, a channel in operation and a running DMA guarding theirs. -/
theorem systemControlWrites : Obligations.SystemControlWrites := by
  intro c rd s hc hrun hmode hns hlock hrd
  have hp := State.cp15Privileged_of_privileged hmode
  refine ⟨fun row hrow => mcr_of_writes hc hrd ?_, fun hbusy => ?_, fun hbusy => ?_, ⟨fun hruns => ?_, fun hruns himpl => ?_⟩,
    mcr_of_writes hc hrd (writes_control hp hns hlock _)⟩
  · rcases List.mem_append.mp hrow with hrow | hrow
    · rcases List.mem_append.mp hrow with hrow | hrow
      · exact writeCp15_secure hp hns hlock _ row hrow
      · exact writeCp15_units hp hns hlock _ row hrow
    · split at hrow
      next himpl => exact writeCp15_default hp hns hlock himpl _ row hrow
      next => exact absurd hrow List.not_mem_nil
  · obtain ⟨hcontrol, hint, hext, hcontext⟩ := writes_channel hp hns hbusy (s.reg rd)
    exact ⟨mcr_of_writes hc hrd hcontrol, mcr_of_writes hc hrd hint, mcr_of_writes hc hrd hext, mcr_of_writes hc hrd hcontext⟩
  · obtain ⟨hcontrol, hcontext, hint, hext⟩ := writes_busyChannel hp hns hbusy (s.reg rd)
    exact ⟨mcr_of_writes hc hrd hcontrol, mcr_of_writes hc hrd hcontext, mcr_refused hc _ _ hrd _ _ hint, mcr_refused hc _ _ hrd _ _ hext⟩
  · obtain ⟨hdata, hinstruction⟩ := writeTcmRegion_refused hp hns hlock ((dmaRuns_iff s).mpr hruns) (s.reg rd)
    exact ⟨mcr_refused hc _ _ hrd _ _ hdata, mcr_refused hc _ _ hrd _ _ hinstruction⟩
  · have hidle : dmaRuns s = false := Bool.eq_false_iff.mpr fun h => hruns ((dmaRuns_iff s).mp h)
    obtain ⟨hdata, hinstruction⟩ := writes_tcmRegion hp hns hlock hidle himpl (s.reg rd)
    exact ⟨mcr_of_writes hc hrd hdata, mcr_of_writes hc hrd hinstruction⟩

/-- Settles O44: each row's read gives its value, and MRC puts it into Rd or the flags. -/
theorem systemControlReads : Obligations.SystemControlReads := by
  intro c rd s hc hrun hmode hns row hrow
  have hp := State.cp15Privileged_of_privileged hmode
  have hread : readCp15 row.1.1 row.1.2.1 row.1.2.2.1 row.1.2.2.2 s = .ok (row.2 s, s) := by
    rcases List.mem_append.mp hrow with hrow | hrow
    · rcases List.mem_append.mp hrow with hrow | hrow
      · exact readCp15_secure hp hns row hrow
      · exact readCp15_units hp hns row hrow
    · split at hrow
      next himpl => exact readCp15_default hp hns himpl row hrow
      next => exact absurd hrow List.not_mem_nil
  obtain ⟨hreg, hflags⟩ := advance_mrcResult (s := s) rd (row.2 s)
  exact ⟨fun hrd => (mrc_eq hc _ _ rd _ _ hread).trans (congrArg _ (hreg hrd)),
    fun hrd => (mrc_eq hc _ _ rd _ _ hread).trans (congrArg _ (hflags hrd))⟩

end

section
/-! External coprocessors and the debug unit, as the coprocessor instructions reach them. -/

namespace Sys2Proof.Machine

open Sys2Proof

/-! ### The answer of an external coprocessor -/

theorem coprocessor_external {cp : BitVec 4} (h : cp ∉ [10#4, 11#4, 14#4, 15#4]) : coprocessor cp = .external := by
  revert h
  revert cp
  decide

theorem requireCoprocessor_allowed {s : State} {n : Nat} (hold : s.oldFetch = []) (hcp : bits s.cp15.cpacr (2 * n) 2 = 0b11#2)
    (hns : s.nsState = true → bit s.cp15.nsacr n = true) : requireCoprocessor n s = .ok s := by
  have hallowed : coprocessorAllowed s.cp15 s.mode n = true := by
    have hworld : (!s.cp15.nonSecureIn s.mode || bit s.cp15.nsacr n) = true := by
      cases h : s.cp15.nonSecureIn s.mode
      · rfl
      · simpa using hns h
    rw [coprocessorAllowed, hworld, hcp]
    rfl
  rw [requireCoprocessor, hold, hallowed]
  rfl

/-- The state from which an external coprocessor goes on that has answered. -/
def State.answered (s : State) : State := { s with freeCtr := s.freeCtr + 1 }

theorem State.answered_reg {s : State} (h : s.halted = false) (r : Reg) : s.answered.reg r = s.reg r := by
  have hanswered : s.answered.halted = false := h
  simp only [State.reg, State.readPc, h, hanswered]
  rfl

/-- An external coprocessor that is attached and that the program may use. -/
structure Usable (cp : BitVec 4) (s : State) : Prop where
  running : s.halted = false
  external : coprocessor cp = .external
  attached : cp.toNat ∈ s.impl.extCoprocessors
  allowed : requireCoprocessor cp.toNat s = .ok s

/-- One free choice decides: the coprocessor accepts the instruction, which leads to `t`, or it is Undefined. -/
def Answers (s t : State) (r : Result State) : Prop := r = if Config.freeBit s.freeCtr then .ok t else undefined s.answered

theorem Usable.answers {cp : BitVec 4} {s t : State} (h : Usable cp s) {accepted : State → Result State}
    (haccepted : accepted s.answered = .ok t) : Answers s t (externalOnly cp s accepted) := by
  have hat : Machine.attached cp s = true := by simp [Machine.attached, h.external, h.attached]
  rw [Answers, externalOnly, hat, if_pos rfl, h.allowed, ← haccepted]
  rfl

theorem Answers.exec {i : Instr} {s t : State} {r : Result State} (h : Answers s t r) (hexec : exec i s = finish r) :
    exec i s = .next (if Config.freeBit s.freeCtr then t else takeException .undef false s.nextPc s.answered) := by
  rw [hexec, h]
  cases Config.freeBit s.freeCtr <;> rfl

theorem drawItems_eq (n : Nat) (s : State) : ∃ ws, drawItems n s = (ws, { s with freeCtr := s.freeCtr + n }) ∧ ws.length = n := by
  induction n generalizing s with
  | zero => exact ⟨[], rfl, rfl⟩
  | succ n ih =>
    obtain ⟨ws, hdraw, hlen⟩ := ih (drawWord s).2
    refine ⟨(drawWord s).1 :: ws, ?_, congrArg Nat.succ hlen⟩
    refine (congrArg (fun r : List Word × State => ((drawWord s).1 :: r.1, r.2)) hdraw).trans ?_
    exact congrArg (fun k => ((drawWord s).1 :: ws, { s with freeCtr := k })) (Nat.add_right_comm ..)

/-! ### Words stored anywhere: what they leave -/

/-- Storing words leaves every byte outside them, whatever the FCSE PID is. -/
theorem storeBytes_frame {s : State} (h : s.plainMemory) (acc : Access) (parts n : Nat) (bs : List Byte) {va : Word}
    (hva : va.toNat % 4 = 0) (hlen : bs.length = 4 * n) :
    ∃ t, storeBytes acc parts bs va s = .ok t ∧
      (∀ x, (∀ k < n, ¬((s.mva (va + BitVec.ofNat 32 (4 * k))).toNat ≤ x ∧ x < (s.mva (va + BitVec.ofNat 32 (4 * k))).toNat + 4)) →
        t.byteAt .external x = s.byteAt .external x) ∧
      t = { s with mem := t.mem, stale := t.stale } ∧ t.plainMemory := by
  have part {s : State} {va : Word} {bs : List Byte} {m x : Nat} (hm : bs.length = 4 * m) (hr : bs.length ≤ roomAt va) {t : State}
      (hva : va.toNat % 4 = 0) (hstored : bytesStored s t va bs)
      (hx : ∀ k < m, ¬((s.mva (va + BitVec.ofNat 32 (4 * k))).toNat ≤ x ∧ x < (s.mva (va + BitVec.ofNat 32 (4 * k))).toNat + 4)) :
      t.byteAt .external x = s.byteAt .external x := by
    rw [hstored x, if_neg]
    rintro ⟨hlow, hhigh⟩
    have hk : (x - (s.mva va).toNat) / 4 < m := by omega
    have hword : (s.mva (va + BitVec.ofNat 32 (4 * ((x - (s.mva va).toNat) / 4)))).toNat =
        (s.mva va).toNat + 4 * ((x - (s.mva va).toNat) / 4) := mva_add (by unfold roomAt at hr; omega)
    exact hx _ hk (by rw [hword]; omega)
  induction parts generalizing s va bs n with
  | zero => exact ⟨s, rfl, fun _ _ => rfl, rfl, h⟩
  | succ parts ih =>
    rw [storeBytes]
    split
    next hr =>
      obtain ⟨t, hstore, hstored, hframe, hp⟩ := storePart_plain h acc bs va
      exact ⟨t, hstore, fun x hx => part hlen hr hva hstored hx, hframe, hp⟩
    next hr =>
      obtain ⟨m, hm⟩ : ∃ m, roomAt va = 4 * m := ⟨roomAt va / 4, by unfold roomAt; omega⟩
      have hmn : m ≤ n := by omega
      obtain ⟨t₁, hstore₁, hstored₁, hframe₁, hp₁⟩ := storePart_plain h acc (bs.take (roomAt va)) va
      have hnext : (va + BitVec.ofNat 32 (roomAt va)).toNat % 4 = 0 := by
        simp only [BitVec.toNat_add, BitVec.toNat_ofNat]; omega
      obtain ⟨t, hstore, hrest, hframe, hp⟩ := ih (n := n - m) hp₁ (bs.drop (roomAt va)) hnext (by simp; omega)
      have hmva : t₁.mva = s.mva := by rw [hframe₁]; rfl
      refine ⟨t, ?_, fun x hx => ?_, by rw [hframe, hframe₁], hp⟩
      · simp only [hstore₁, bind, Except.bind]
        exact hstore
      · rw [hrest x, part (m := m) (by simp; omega) (by simp) hva hstored₁ fun k hk => hx k (by omega)]
        intro k hk
        rw [hmva, hm, add_add_ofNat, ← Nat.mul_add]
        exact hx (m + k) (by omega)

theorem storeWords_frame {s : State} (h : s.plainMemory) (ws : List Word) {x : AccessType} {va a : Word}
    (hx : checkAlignment x true va s = .ok a) (ha : a.toNat % 4 = 0) :
    ∃ t, storeWords x ws va s = .ok t ∧
      (∀ x, (∀ k < ws.length, ¬((s.mva (a + BitVec.ofNat 32 (4 * k))).toNat ≤ x ∧ x < (s.mva (a + BitVec.ofNat 32 (4 * k))).toNat + 4)) →
        t.byteAt .external x = s.byteAt .external x) ∧
      t = { s with mem := t.mem, stale := t.stale } := by
  have hd : disassemble s.bigEndian 4 = s.storeOrder 4 := funext fun w => by rw [bigEndian_plain h, disassemble_eq]
  obtain ⟨t, hstore, hrest, hframe, hp⟩ := storeBytes_frame h
    { plainAccess s with unaligned := normalUnaligned s.unalignedOn x va, multiple := true } ws.length ws.length
    (ws.flatMap (s.storeOrder 4)) ha (length_flatMap_storeOrder s ws)
  refine ⟨t, ?_, hrest, hframe⟩
  simp only [storeWords, checkEndian_plain h, hx, bind, Except.bind, hd, hstore, traceAccess_plain hp, pure, Except.pure]

/-! ### Base updates of the coprocessor transfers -/

/-- The registers after the base update of a coprocessor transfer. -/
def State.transferRegs (s : State) (u w : Bool) (rn : Reg) (offset : Word) : Vector Word 32 :=
  if w then s.baseUpdated true u true rn offset else s.regs

theorem transfer_address (p u w : Bool) (base offset : Word) : (indexed p u w base offset).1 = accessAddress p u base offset := by
  cases p <;> rfl

theorem transfer_writeBase (p u w : Bool) (rn : Reg) (offset : Word) {s t : State} (hm : t.mode = s.mode) (hr : t.regs = s.regs) :
    writeBase t rn (if w then (indexed p u w (s.reg rn) offset).2 else none) = { t with regs := s.transferRegs u w rn offset } := by
  cases w
  · exact congrArg (fun r : Vector Word 32 => { t with regs := r }) hr
  · have hbase : (indexed p u true (s.reg rn) offset).2 = some (offsetAddress u (s.reg rn) offset) := by cases p <;> rfl
    rw [if_pos rfl, hbase]
    refine (congrArg (fun r : Vector Word 32 => { t with regs := r }) ?_ : t.setReg rn _ = _)
    rw [hm, hr]
    rfl

theorem writeback_pass {w : Bool} {rn : Reg} (h : w = true → rn ≠ 15#4) : refuseIf (w && rn == 15#4) .writeback = .ok () := by
  cases w
  · rfl
  · rw [refuseIf, beq_eq_false_iff_ne.mpr (h rfl)]
    rfl

theorem State.plainMemory.withFreeCtr {s : State} (h : s.plainMemory) (n : Nat) : ({ s with freeCtr := n } : State).plainMemory :=
  ⟨h.noDebug, h.noForcing, h.form, h.mmuOff, h.notBe32, h.noRemap, h.quietBus, h.noPort, h.complete, h.tcmsOff, h.noEtm⟩

/-! ### What accepted instructions do -/

section

variable {s : State} {cp : BitVec 4}

theorem externalOperation_answers (h : Usable cp s) : Answers s { s.stepped with freeCtr := s.freeCtr + 1 } (externalOperation cp s) :=
  h.answers (congrArg Except.ok (State.advance_eq_stepped _))

theorem externalWrite_answers (h : Usable cp s) {rd : Reg} (hrd : rd ≠ 15#4) :
    Answers s { s.stepped with freeCtr := s.freeCtr + 1 } (externalWrite rd cp s) := by
  refine h.answers ?_
  rw [noPc_pass (by simpa using Ne.symm hrd)]
  exact congrArg Except.ok (State.advance_eq_stepped _)

theorem externalRead_answers (h : Usable cp s) (rd : Reg) :
    Answers s (mrcResult rd (Config.freeWord (s.freeCtr + 1)) { s with freeCtr := s.freeCtr + 2 }).advance (externalRead rd cp s) :=
  h.answers rfl

theorem externalWritePair_answers (h : Usable cp s) {rn rd : Reg} (hrn : rn ≠ 15#4) (hrd : rd ≠ 15#4) :
    Answers s { s.stepped with freeCtr := s.freeCtr + 1 } (externalWritePair rn rd cp s) := by
  refine h.answers ?_
  rw [noPc_pass (by simp [Ne.symm hrn, Ne.symm hrd])]
  exact congrArg Except.ok (State.advance_eq_stepped _)

theorem externalReadPair_answers (h : Usable cp s) {rn rd : Reg} (hrn : rn ≠ 15#4) (hrd : rd ≠ 15#4) (hne : rn ≠ rd) :
    Answers s { s.stepped with
        regs := (s.regs.set (bankedReg s.mode rd) (Config.freeWord (s.freeCtr + 1))).set (bankedReg s.mode rn) (Config.freeWord (s.freeCtr + 2))
        freeCtr := s.freeCtr + 3 } (externalReadPair rn rd cp s) := by
  refine h.answers ?_
  rw [noPc_pass (by simp [Ne.symm hrn, Ne.symm hrd]), refuseIf, beq_eq_false_iff_ne.mpr hne]
  exact congrArg Except.ok (State.advance_eq_stepped _)

theorem externalLoad_answers (h : Usable cp s) (p u w : Bool) (rn : Reg) (off8 : BitVec 8) (hs : s.plainMemory) (hw : w = true → rn ≠ 15#4)
    (ha : (accessAddress p u (s.reg rn) (zext off8 <<< 2)).toNat % 4 = 0) :
    Answers s { s.stepped with regs := s.transferRegs u w rn (zext off8 <<< 2), freeCtr := s.freeCtr + 2 }
      (externalLoad p u w rn cp off8 s) := by
  refine h.answers ?_
  obtain ⟨t, ht⟩ : ∃ t : State, t = { s with freeCtr := s.freeCtr + 2 } := ⟨_, rfl⟩
  have htp : t.plainMemory := by rw [ht]; exact hs.withFreeCtr _
  have hload := loadWords_of_checked (s := t) htp (checkAlignment_of_aligned (t := .multiWord) ha false t) ha false
    ((Config.freeWord (s.freeCtr + 1)).toNat % 31)
  rw [writeback_pass hw, State.answered_reg h.running]
  change (loadWords .multiWord false ((Config.freeWord (s.freeCtr + 1)).toNat % 31) (indexed p u w (s.reg rn) (zext off8 <<< 2)).1
      { s with freeCtr := s.freeCtr + 2 } >>= fun x =>
      pure (writeBase x.2 rn (if w then (indexed p u w (s.reg rn) (zext off8 <<< 2)).2 else none)).advance) = _
  rw [transfer_address, ← ht, hload]
  have hmode : t.mode = s.mode := by rw [ht]; rfl
  have hregs : t.regs = s.regs := by rw [ht]
  refine congrArg Except.ok ((congrArg State.advance (transfer_writeBase p u w rn _ hmode hregs)).trans ?_)
  rw [ht]
  exact State.advance_eq_stepped _

theorem externalStore_answers (h : Usable cp s) (p u w : Bool) (rn : Reg) (off8 : BitVec 8) (hs : s.plainMemory) (hw : w = true → rn ≠ 15#4)
    (ha : (accessAddress p u (s.reg rn) (zext off8 <<< 2)).toNat % 4 = 0) :
    ∃ t, Answers s t (externalStore p u w rn cp off8 s) ∧
      (∀ x, (∀ k < 30, ¬((s.mva (accessAddress p u (s.reg rn) (zext off8 <<< 2) + BitVec.ofNat 32 (4 * k))).toNat ≤ x ∧
          x < (s.mva (accessAddress p u (s.reg rn) (zext off8 <<< 2) + BitVec.ofNat 32 (4 * k))).toNat + 4)) →
        t.byteAt .external x = s.byteAt .external x) ∧
      t = { s.stepped with
        regs := s.transferRegs u w rn (zext off8 <<< 2), mem := t.mem, stale := t.stale, freeCtr := t.freeCtr } := by
  obtain ⟨n, hn⟩ : ∃ n, n = (Config.freeWord (s.freeCtr + 1)).toNat % 31 := ⟨_, rfl⟩
  obtain ⟨ws, hdraw, hlen⟩ := drawItems_eq n { s with freeCtr := s.freeCtr + 2 }
  obtain ⟨r, hr⟩ : ∃ r : State, r = { s with freeCtr := s.freeCtr + 2 + n } := ⟨_, rfl⟩
  have hrp : r.plainMemory := by rw [hr]; exact hs.withFreeCtr _
  obtain ⟨t, hstore, hrest, hframe⟩ := storeWords_frame hrp ws (checkAlignment_of_aligned (t := .multiWord) ha true r) ha
  refine ⟨{ s.stepped with
    regs := s.transferRegs u w rn (zext off8 <<< 2), mem := t.mem, stale := t.stale, freeCtr := t.freeCtr }, h.answers ?_, fun x hx => ?_, rfl⟩
  · rw [writeback_pass hw, State.answered_reg h.running]
    change (storeWords .multiWord (drawItems ((Config.freeWord (s.freeCtr + 1)).toNat % 31) { s with freeCtr := s.freeCtr + 2 }).1
        (indexed p u w (s.reg rn) (zext off8 <<< 2)).1
        (drawItems ((Config.freeWord (s.freeCtr + 1)).toNat % 31) { s with freeCtr := s.freeCtr + 2 }).2 >>= fun x =>
        pure (writeBase x rn (if w then (indexed p u w (s.reg rn) (zext off8 <<< 2)).2 else none)).advance) = _
    have hr' : ({ ({ s with freeCtr := s.freeCtr + 2 } : State) with freeCtr := s.freeCtr + 2 + n } : State) = r := hr.symm
    rw [transfer_address, ← hn, hdraw, hr', hstore]
    have hmode : t.mode = s.mode := by rw [hframe, hr]; rfl
    have hregs : t.regs = s.regs := by rw [hframe, hr]
    refine congrArg Except.ok ((congrArg State.advance (transfer_writeBase p u w rn _ hmode hregs)).trans ?_)
    rw [hframe, hr]
    exact State.advance_eq_stepped _
  · have hlt : n < 31 := by rw [hn]; exact Nat.mod_lt _ (by decide)
    have hmva : r.mva = s.mva := by rw [hr]; rfl
    refine (hrest x fun k hk => ?_).trans (by rw [hr]; rfl)
    rw [hmva]
    exact hx k (by omega)

theorem Answers.conditional {i : Instr} {c : Cond} {t : State} {r : Result State} (h : Answers s t r) (hc : condHolds c s.cpsr = true)
    (hexec : Machine.exec i s = finish (Machine.conditional c false s r)) :
    Machine.exec i s = .next (if Config.freeBit s.freeCtr then t else takeException .undef false s.nextPc s.answered) :=
  h.exec (hexec.trans (by rw [conditional_pass hc]))

theorem moveToCoprocessor_external (h : Usable cp s) (o1 : BitVec 3) (crn : BitVec 4) (rd : Reg) (o2 : BitVec 3) (crm : BitVec 4) :
    moveToCoprocessor o1 crn rd cp o2 crm s = externalWrite rd cp s := by
  rw [moveToCoprocessor, h.external]

theorem moveFromCoprocessor_external (h : Usable cp s) (o1 : BitVec 3) (crn : BitVec 4) (rd : Reg) (o2 : BitVec 3) (crm : BitVec 4) :
    moveFromCoprocessor o1 crn rd cp o2 crm s = externalRead rd cp s := by
  rw [moveFromCoprocessor, h.external]

theorem movePairToCoprocessor_external (h : Usable cp s) (rn rd : Reg) (opc crm : BitVec 4) :
    movePairToCoprocessor rn rd cp opc crm s = externalWritePair rn rd cp s := by
  rw [movePairToCoprocessor, h.external]

theorem secondForm_external (h : Usable cp s) (body : Result State) : secondForm cp s body = body := by
  rw [secondForm, h.external, if_neg (by decide)]

theorem isDtrTransfer_external (h : Usable cp s) (crd : BitVec 4) (nb : Bool) : isDtrTransfer cp crd nb = false := by
  rw [isDtrTransfer, h.external]
  rfl

theorem loadCoprocessor_external (h : Usable cp s) (p u nb w : Bool) (rn : Reg) (crd : BitVec 4) (off8 : BitVec 8) :
    loadCoprocessor p u nb w rn crd cp off8 s = externalLoad p u w rn cp off8 s := by
  rw [loadCoprocessor, isDtrTransfer_external h, if_neg Bool.false_ne_true]

theorem storeCoprocessor_external (h : Usable cp s) (p u nb w : Bool) (rn : Reg) (crd : BitVec 4) (off8 : BitVec 8) :
    storeCoprocessor p u nb w rn crd cp off8 s = externalStore p u w rn cp off8 s := by
  rw [storeCoprocessor, isDtrTransfer_external h, if_neg Bool.false_ne_true]

end

end Sys2Proof.Machine

open Sys2Proof Sys2Proof.Machine

/-- Settles O43: every form goes to the external coprocessor, whose one free choice decides, and the accepted instruction does what its
lemma above says. -/
theorem externalCoprocessorInstructions : Obligations.ExternalCoprocessorInstructions := by
  intro c r4 a1 a2 cp a4 o1 o2 off8 p u nb w s hc hrun hold hattached hcp hcpacr hnsacr bounced answers drawn given flags both
  have h : Usable cp s := ⟨hrun, coprocessor_external hcp, hattached, requireCoprocessor_allowed hold hcpacr hnsacr⟩
  have hread (t : State) (ht : (mrcResult a2 (given 1) { s with freeCtr := s.freeCtr + 2 }).advance = t) :
      ∀ i ∈ [Instr.mrc c o1 a1 a2 cp o2 r4, .mrc2 o1 a1 a2 cp o2 r4], answers i t := by
    have hanswer := externalRead_answers h a2
    rw [show (mrcResult a2 (Config.freeWord (s.freeCtr + 1)) { s with freeCtr := s.freeCtr + 2 }).advance = t from ht,
      ← moveFromCoprocessor_external h o1 a1 a2 o2 r4] at hanswer
    simp only [List.forall_mem_cons, List.not_mem_nil, false_implies, implies_true, and_true]
    exact ⟨hanswer.conditional hc rfl, hanswer.exec (congrArg finish (secondForm_external h _))⟩
  obtain ⟨hreg, hflags⟩ := advance_mrcResult (s := { s with freeCtr := s.freeCtr + 2 }) a2 (given 1)
  refine ⟨?_, fun ha2 => ⟨?_, hread _ (hreg ha2)⟩, fun ha2 => hread _ (hflags ha2), fun ha1 ha2 => ⟨?_, fun hne => ?_⟩, fun hs hw ha => ⟨?_, ?_⟩⟩
  all_goals simp only [List.forall_mem_cons, List.not_mem_nil, false_implies, implies_true, and_true]
  · exact ⟨(externalOperation_answers h).conditional hc rfl, (externalOperation_answers h).exec rfl⟩
  · have hanswer := externalWrite_answers h ha2
    rw [← moveToCoprocessor_external h o1 a1 a2 o2 r4] at hanswer
    exact ⟨hanswer.conditional hc rfl, hanswer.exec (congrArg finish (secondForm_external h _))⟩
  · have hanswer := externalWritePair_answers h ha1 ha2
    refine ⟨Answers.conditional ?_ hc rfl, hanswer.exec rfl⟩
    rw [movePairToCoprocessor_external h]
    exact hanswer
  · have hanswer := externalReadPair_answers h ha1 ha2 hne
    exact ⟨hanswer.conditional hc rfl, hanswer.exec rfl⟩
  · have hanswer := externalLoad_answers h p u w a1 off8 hs hw ha
    rw [← loadCoprocessor_external h p u nb w a1 a2 off8] at hanswer
    exact ⟨hanswer.conditional hc rfl, hanswer.exec rfl⟩
  · obtain ⟨t, hanswer, hrest, hframe⟩ := externalStore_answers h p u w a1 off8 hs hw ha
    rw [← storeCoprocessor_external h p u nb w a1 a2 off8] at hanswer
    exact ⟨⟨t, hanswer.conditional hc rfl, hrest, hframe⟩, ⟨t, hanswer.exec rfl, hrest, hframe⟩⟩

end

section
/-! The debug registers of CP14 as the core reaches them. -/

namespace Sys2Proof.Machine

open Sys2Proof

section

variable {s : State}

theorem running_of_cleared (hrun : s.halted = false) : bit (s.dbg.dscr &&& 0xBFFFFFFF#32) 0 = false := by
  have hd : s.dbg.dscr.getLsbD 0 = false := hrun
  rw [bit, BitVec.getLsbD_and, hd, Bool.false_and]

theorem running_of_set (hrun : s.halted = false) : bit (s.dbg.dscr ||| 0x20000000#32) 0 = false := by
  have hd : s.dbg.dscr.getLsbD 0 = false := hrun
  rw [bit, BitVec.getLsbD_or, hd]
  rfl

theorem running_of_merged (hrun : s.halted = false) (v : Word) : bit (mergeBits s.dbg.dscr v dscrCoreMask) 0 = false := by
  have hd : s.dbg.dscr.getLsbD 0 = false := hrun
  rw [bit, mergeBits, BitVec.getLsbD_or, BitVec.getLsbD_and, BitVec.getLsbD_and, hd, show dscrCoreMask.getLsbD 0 = false by decide,
    Bool.false_and, Bool.and_false]
  rfl

/-- The next instruction does not depend on the debug registers, out of Debug state. -/
theorem State.pcAfter_withDbg (hrun : s.halted = false) {d : Debug} (h : bit d.dscr 0 = false) :
    ({ s with dbg := d } : State).pcAfter = s.pcAfter := by
  have hd : ({ s with dbg := d } : State).halted = false := h
  rw [State.pcAfter, State.pcAfter, State.nextPc, State.nextPc, hd, hrun]
  rfl

/-- Going on after a write of the debug registers that does not enter Debug state. -/
theorem State.withDbg_advance (hrun : s.halted = false) {d : Debug} (h : bit d.dscr 0 = false) :
    ({ s with dbg := d } : State).advance = { s.stepped with dbg := d } := by
  rw [State.advance_eq_stepped, State.stepped, State.pcAfter_withDbg hrun h]
  rfl

theorem State.wrote_withDbg (hrun : s.halted = false) {d : Debug} (h : bit d.dscr 0 = false) (rd : Reg) (v : Word) :
    ({ s with dbg := d } : State).wrote rd v = { s.wrote rd v with dbg := d } := by
  rw [State.wrote, State.pcAfter_withDbg hrun h]
  rfl

/-! ### Access (15:R376) -/

theorem cp14Permitted_privileged (hrun : s.halted = false) (hmode : s.mode ≠ modeUsr) (g : Cp14Group) :
    cp14Permitted g s = (g != .other || bits s.readDscr 14 2 == 0b10#2) := by
  have hp : s.privileged = true := by simp [State.privileged, hmode]
  simp [cp14Permitted, hrun, hp]

theorem requireCp14_pass (hrun : s.halted = false) (hmode : s.mode ≠ modeUsr) {g : Cp14Group} (hg : g ≠ .other ∨ bits s.readDscr 14 2 = 0b10#2) :
    requireCp14 g s = .ok () := by
  rw [requireCp14, cp14Permitted_privileged hrun hmode, if_pos (by simpa using hg)]

theorem requireCp14_monitor (hrun : s.halted = false) (hmode : s.mode ≠ modeUsr) (hmon : bits s.readDscr 14 2 ≠ 0b10#2) :
    requireCp14 .other s = undefined s := by
  rw [requireCp14, cp14Permitted_privileged hrun hmode, if_neg (by simpa using hmon)]

theorem requireCp14_user (hrun : s.halted = false) (hmode : s.mode = modeUsr) (h12 : bit s.dbg.dscr 12 = true) (g : Cp14Group) :
    requireCp14 g s = undefined s := by
  have hp : s.privileged = false := by simp [State.privileged, hmode]
  simp [requireCp14, cp14Permitted, hrun, hp, h12]

theorem selectDebugReg_pass {write : Bool} {o2 : BitVec 3} {crm : BitVec 4} {r : DebugReg} (hr : debugReg o2 crm = some r) (hdidr : r ≠ .didr)
    (hg : requireCp14 (r.group write) s = .ok ()) : selectDebugReg write 0#4 o2 crm s = .ok r := by
  simp only [selectDebugReg, hr, hg, if_true]
  rw [beq_eq_false_iff_ne.mpr hdidr, Bool.and_false, if_neg Bool.false_ne_true]
  rfl

theorem selectDebugReg_undefined {write : Bool} {o2 : BitVec 3} {crm : BitVec 4} {r : DebugReg} (hr : debugReg o2 crm = some r)
    (hg : requireCp14 (r.group write) s = undefined s) : selectDebugReg write 0#4 o2 crm s = undefined s := by
  simp only [selectDebugReg, hr, hg, if_true]
  split <;> rfl

theorem debugReg_bvr (k : Fin 6) : debugReg 4#3 (BitVec.ofNat 4 k.val) = some (.bvr k) := by
  revert k
  decide

/-! ### MRC, MCR -/

theorem mrc14_eq {c : Cond} (hc : condHolds c s.cpsr = true) {rd : Reg} (hrd : rd ≠ 15#4) {o2 : BitVec 3} {crm : BitVec 4} {r : DebugReg}
    (hr : selectDebugReg false 0#4 o2 crm s = .ok r) {v : Word} {t : State} (hread : readDebugReg r s = (v, t)) :
    exec (.mrc c 0#3 0#4 rd 14#4 o2 crm) s = .next (t.wrote rd v) := by
  change finish (conditional c false s ((selectDebugReg false 0#4 o2 crm s >>= fun r =>
    if rd = 15#4 then pure (setFlagsFrom (cp14Flags r (readDebugReg r s).1 (readDebugReg r s).2).1 (cp14Flags r (readDebugReg r s).1 (readDebugReg r s).2).2)
    else pure ((readDebugReg r s).2.setReg rd (readDebugReg r s).1)) >>= fun x => pure x.advance)) = _
  rw [conditional_pass hc, hr]
  simp only [bind_ok, if_neg hrd, hread]
  exact congrArg Host.Outcome.next (State.setReg_advance t rd v)

theorem mcr14_eq {c : Cond} (hc : condHolds c s.cpsr = true) {rd : Reg} (hrd : rd ≠ 15#4) {o2 : BitVec 3} {crm : BitVec 4} {r : DebugReg}
    (hr : selectDebugReg true 0#4 o2 crm s = .ok r) :
    exec (.mcr c 0#3 0#4 rd 14#4 o2 crm) s = .next (writeDebugReg r (s.reg rd) s).advance := by
  change finish (conditional c false s (mcr14 0#3 0#4 crm o2 rd s >>= fun x => pure x.advance)) = _
  rw [conditional_pass hc, mcr14, if_neg (by decide), if_pos (by simpa using hrd), hr]
  rfl

theorem mrc14_undefined {c : Cond} (hc : condHolds c s.cpsr = true) (rd : Reg) {o2 : BitVec 3} {crm : BitVec 4}
    (hr : selectDebugReg false 0#4 o2 crm s = undefined s) : raisesUndefined (.mrc c 0#3 0#4 rd 14#4 o2 crm) s := by
  refine raisesUndefined_of_conditional (body := mrc14 0#3 0#4 crm o2 rd s >>= fun x => pure x.advance) rfl hc ?_
  rw [mrc14, if_neg (by decide), if_pos rfl, hr]
  rfl

theorem mcr14_undefined {c : Cond} (hc : condHolds c s.cpsr = true) {rd : Reg} (hrd : rd ≠ 15#4) {o2 : BitVec 3} {crm : BitVec 4}
    (hr : selectDebugReg true 0#4 o2 crm s = undefined s) : raisesUndefined (.mcr c 0#3 0#4 rd 14#4 o2 crm) s := by
  refine raisesUndefined_of_conditional (body := mcr14 0#3 0#4 crm o2 rd s >>= fun x => pure x.advance) rfl hc ?_
  rw [mcr14, if_neg (by decide), if_pos (by simpa using hrd), hr]
  rfl

/-! ### LDC, STC (15:R374) -/

theorem loadDtr_eq (hrun : s.halted = false) (hp : requireCp14 .status s = .ok ()) (p u w : Bool) (rn : Reg) (off8 : BitVec 8)
    (hs : s.plainMemory) (hw : w = true → rn ≠ 15#4) (ha : (accessAddress p u (s.reg rn) (zext off8 <<< 2)).toNat % 4 = 0) :
    loadCoprocessor p u false w rn 5#4 14#4 off8 s = .ok { s.stepped with
      regs := s.transferRegs u w rn (zext off8 <<< 2)
      dbg := { s.dbg with
        dscr := s.dbg.dscr ||| 0x20000000#32
        wdtr := s.memWord (accessAddress p u (s.reg rn) (zext off8 <<< 2)) } } := by
  have hload := loadWords_of_checked hs (checkAlignment_of_aligned (t := .multiWord) ha false s) ha false 1
  change (requireCp14 .status s >>= fun _ => refuseIf (w && rn == 15#4) .writeback >>= fun _ =>
    loadWords .multiWord false 1 (indexed p u w (s.reg rn) (zext off8 <<< 2)).1 s >>= fun x =>
      pure (writeBase (writeWdtr (x.1.getD 0 0#32) x.2) rn (if w then (indexed p u w (s.reg rn) (zext off8 <<< 2)).2 else none)).advance) = _
  rw [hp, writeback_pass hw, transfer_address, hload]
  obtain ⟨v, hv⟩ : ∃ v, v = s.memWord (accessAddress p u (s.reg rn) (zext off8 <<< 2) + BitVec.ofNat 32 (4 * 0)) := ⟨_, rfl⟩
  have hv' : s.memWord (accessAddress p u (s.reg rn) (zext off8 <<< 2)) = v := by rw [hv, Nat.mul_zero, BitVec.add_zero]
  change Except.ok (writeBase (writeWdtr (s.memWord (accessAddress p u (s.reg rn) (zext off8 <<< 2) + BitVec.ofNat 32 (4 * 0))) s) rn
    (if w then (indexed p u w (s.reg rn) (zext off8 <<< 2)).2 else none)).advance = _
  rw [hv', ← hv, transfer_writeBase p u w rn _ (s := s) (t := writeWdtr v s) rfl rfl]
  exact congrArg Except.ok (State.withDbg_advance (s := { s with regs := s.transferRegs u w rn (zext off8 <<< 2) }) hrun (running_of_set hrun))

theorem storeDtr_eq (hrun : s.halted = false) (hp : requireCp14 .status s = .ok ()) (p u w : Bool) (rn : Reg) (off8 : BitVec 8)
    (hs : s.plainMemory) (hw : w = true → rn ≠ 15#4) (ha : (accessAddress p u (s.reg rn) (zext off8 <<< 2)).toNat % 4 = 0) :
    ∃ t, storeCoprocessor p u false w rn 5#4 14#4 off8 s = .ok t ∧
      bytesStored s t (accessAddress p u (s.reg rn) (zext off8 <<< 2)) (s.storeOrder 4 s.dbg.rdtr) ∧
      t = { s.stepped with
        mem := t.mem, stale := t.stale, regs := s.transferRegs u w rn (zext off8 <<< 2)
        dbg := { s.dbg with dscr := s.dbg.dscr &&& 0xBFFFFFFF#32 } } := by
  obtain ⟨t, hstore, hbytes, hframe, -⟩ := storeWords_inLine hs (checkAlignment_of_aligned (t := .multiWord) ha true s) [s.dbg.rdtr]
    (by unfold roomAt; simp; omega) (List.cons_ne_nil _ _)
  have hone : [s.dbg.rdtr].flatMap (s.storeOrder 4) = s.storeOrder 4 s.dbg.rdtr := by simp
  rw [hone] at hbytes
  refine ⟨{ s.stepped with
    mem := t.mem, stale := t.stale, regs := s.transferRegs u w rn (zext off8 <<< 2)
    dbg := { s.dbg with dscr := s.dbg.dscr &&& 0xBFFFFFFF#32 } }, ?_, ?_, rfl⟩
  · change (requireCp14 .status s >>= fun _ => refuseIf (w && rn == 15#4) .writeback >>= fun _ =>
      storeWords .multiWord [s.dbg.rdtr] (indexed p u w (s.reg rn) (zext off8 <<< 2)).1 s >>= fun x =>
        pure (writeBase (readRdtr x).2 rn (if w then (indexed p u w (s.reg rn) (zext off8 <<< 2)).2 else none)).advance) = _
    rw [hp, writeback_pass hw, transfer_address, hstore]
    have hmode : t.mode = s.mode := by rw [hframe]; rfl
    have hregs : t.regs = s.regs := by rw [hframe]
    change Except.ok (writeBase (readRdtr t).2 rn (if w then (indexed p u w (s.reg rn) (zext off8 <<< 2)).2 else none)).advance = _
    rw [transfer_writeBase p u w rn _ (t := (readRdtr t).2) hmode hregs, hframe]
    exact congrArg Except.ok (State.withDbg_advance
      (s := { s with mem := t.mem, stale := t.stale, regs := s.transferRegs u w rn (zext off8 <<< 2) }) hrun (running_of_cleared hrun))
  · rw [hframe] at hbytes
    exact hbytes

end

end Sys2Proof.Machine

open Sys2Proof Sys2Proof.Machine

/-- Settles O49: each access passes or fails the access rule of its register, and then reads or writes that register alone. -/
theorem debugRegisterAccess : Obligations.DebugRegisterAccess := by
  intro c rn rd p u w off8 k s hc hrun hrd dscr
  refine ⟨fun o1 o2 crn crm => ⟨?_, ?_⟩, fun nb crd => ⟨?_, ?_⟩, fun hmode => ?_, fun hmode h12 => ?_⟩
  · exact (congrArg finish (conditional_pass hc).symm : _)
  · exact (congrArg finish (conditional_pass hc).symm : _)
  · exact (congrArg finish (conditional_pass hc).symm : _)
  · exact (congrArg finish (conditional_pass hc).symm : _)
  · have hstatus := requireCp14_pass hrun hmode (g := .status) (.inl (by decide))
    have hcontrol := requireCp14_pass hrun hmode (g := .control) (.inl (by decide))
    have hd : bit s.dbg.dscr 0 = false := hrun
    refine ⟨?_, ?_, ?_, ?_, fun hmon => ?_, fun hmon => ?_, fun hs hw ha => ⟨?_, ?_⟩⟩
    · exact mrc14_eq hc hrd (selectDebugReg_pass (r := .dscr) rfl (by decide) hstatus) rfl
    · refine (mrc14_eq hc hrd (selectDebugReg_pass (r := .dtr) rfl (by decide) hstatus) rfl).trans ?_
      exact congrArg Host.Outcome.next (State.wrote_withDbg hrun (running_of_cleared hrun) rd _)
    · refine (mcr14_eq hc hrd (selectDebugReg_pass (r := .dtr) rfl (by decide) hstatus)).trans ?_
      exact congrArg Host.Outcome.next (State.withDbg_advance hrun (running_of_set hrun))
    · refine (mcr14_eq hc hrd (selectDebugReg_pass (r := .dscr) rfl (by decide) hcontrol)).trans ?_
      exact congrArg Host.Outcome.next (State.withDbg_advance hrun (running_of_merged hrun _))
    · refine (mcr14_eq hc hrd (selectDebugReg_pass (debugReg_bvr k) (by simp) (requireCp14_pass hrun hmode (.inr hmon)))).trans ?_
      exact congrArg Host.Outcome.next (State.withDbg_advance hrun hd)
    · exact mcr14_undefined hc hrd (selectDebugReg_undefined (debugReg_bvr k) (requireCp14_monitor hrun hmode hmon))
    · change finish (conditional c false s (loadCoprocessor p u false w rn 5#4 14#4 off8 s)) = _
      rw [conditional_pass hc, loadDtr_eq hrun hstatus p u w rn off8 hs hw ha]
      rfl
    · obtain ⟨t, hstore, hbytes, hframe⟩ := storeDtr_eq hrun hstatus p u w rn off8 hs hw ha
      refine ⟨t, ?_, hbytes, hframe⟩
      change finish (conditional c false s (storeCoprocessor p u false w rn 5#4 14#4 off8 s)) = _
      rw [conditional_pass hc, hstore]
      rfl
  · have huser := requireCp14_user hrun hmode h12 .status
    exact ⟨mrc14_undefined hc rd (selectDebugReg_undefined (r := .dtr) rfl huser),
      mcr14_undefined hc hrd (selectDebugReg_undefined (r := .dtr) rfl huser)⟩

end

section
/-! VFP instructions that compute nothing: copies, transfers, system registers, and the gates before all of them. -/

namespace Sys2Proof.Machine

open Sys2Proof

/-! ### Registers -/

theorem sReg_lt (field : BitVec 4) (extra : Bool) : sReg field extra < 32 := by
  have hfield := field.isLt
  have hextra := Bool.toNat_le extra
  unfold sReg
  omega

theorem sNum_val (field : BitVec 4) (extra : Bool) : (sNum field extra).val = sReg field extra := Nat.mod_eq_of_lt (sReg_lt field extra)

/-- A result of single precision, put away, as `State.wroteS` says it. -/
theorem advance_setFp_single (s : State) (field : BitVec 4) (extra : Bool) (v : DWord) (flags : Word) :
    ((s.setFp single (sReg field extra) v).orFpscr flags).advance = s.wroteS [(sNum field extra, v.setWidth 32)] flags := by
  rw [State.advance_eq_stepped]
  rfl

theorem advance_setFp_double (s : State) (field : BitVec 4) (v : DWord) (flags : Word) :
    ((s.setFp double (dReg field) v).orFpscr flags).advance = s.wroteS (dWords field v) flags := by
  rw [State.advance_eq_stepped, show s.setFp double (dReg field) v = s.setDr (dReg field) v from rfl, setDr_eq]
  rfl

theorem fp_single (s : State) (field : BitVec 4) (extra : Bool) :
    s.fp single (sReg field extra) = (s.vfp.regs[sNum field extra]).setWidth 64 := rfl

theorem fp_double (s : State) (field : BitVec 4) : s.fp double (dReg field) = s.dValue field := rfl

/-- Registers written without a flag. -/
theorem State.wroteS_noFlag (s : State) (l : List (SingleReg × Word)) :
    s.wroteS l 0#32 = { s.stepped with vfp := { s.vfp with regs := l.foldl (fun v x => v.set x.1 x.2) s.vfp.regs } } := by
  rw [State.wroteS, BitVec.or_zero]
  rfl

theorem single_signBit : single.pack true 0 = 0x80000000#64 := by decide

theorem double_signBit : double.pack true 0 = 0x8000000000000000#64 := by decide

theorem setWidth_absBits (w : Word) : (absBits single (w.setWidth 64)).setWidth 32 = w &&& 0x7FFFFFFF#32 := by
  rw [absBits, single_signBit, BitVec.setWidth_and, BitVec.setWidth_setWidth_of_le _ (by decide), BitVec.setWidth_eq]
  rfl

theorem setWidth_negBits (w : Word) : (negBits single (w.setWidth 64)).setWidth 32 = w ^^^ 0x80000000#32 := by
  rw [negBits, single_signBit, BitVec.setWidth_xor, BitVec.setWidth_setWidth_of_le _ (by decide), BitVec.setWidth_eq]
  rfl

/-! ### Copies (49:R1150 to R1152) -/

theorem preciseInexact_off {s : State} (h : bit s.vfp.fpscr 12 = false) (body : Result State) : preciseInexact s body = body := by
  rw [preciseInexact, h, if_neg Bool.false_ne_true]

theorem iterations_scalar {f : Format} {fpscr : Word} (hlen : bits fpscr 16 3 = 0#3) (hstride : bits fpscr 20 2 = 0#2) (hasFn : Bool)
    (fd fn fm : Nat) : iterations f fpscr hasFn fd fn fm = .ok [(fd, fn, fm)] := by
  simp [iterations, vectorLength, hlen, hstride]

section

variable {c : Cond} {s : State}

/-- One operation on bits, with no vectors. -/
theorem vfpTwo_scalar (hc : condHolds c s.cpsr = true) (hs : s.vfpReady) (h12 : bit s.vfp.fpscr 12 = false) {f : Format} {fd fm : Nat}
    (hregs : iterations f s.vfp.fpscr false fd fd fm = .ok [(fd, fd, fm)]) (base : Word) {op : Word → DWord → FpOut} {v : DWord} {flags : Word}
    (hop : op s.vfp.fpscr (s.fp f fm) = .done v flags) :
    finish (vfpTwo c f base op fd fm s) = .next ((s.setFp f fd v).orFpscr flags).advance := by
  rw [vfpTwo, vfpInstruction_ready hc hs (vfpNumber_cases f), preciseInexact_off h12, hregs]
  simp only [bind_ok, iterate, hop]
  rfl

/-! ### Transfers (49:R1174 to R1183) -/

theorem finish_vfpInstruction (hc : condHolds c s.cpsr = true) (hs : s.vfpReady) {n : Nat} (hn : n = 10 ∨ n = 11) {body : State → Result State}
    {t : State} (hbody : body s = .ok t) : finish (vfpInstruction c n s body) = .next t := by
  rw [vfpInstruction_ready hc hs hn, hbody]
  rfl

theorem refused_vfpInstruction (hc : condHolds c s.cpsr = true) (hs : s.vfpReady) {n : Nat} (hn : n = 10 ∨ n = 11) {body : State → Result State}
    {why : Refusal} (hbody : body s = .error (.refuse why)) : finish (vfpInstruction c n s body) = .refused why := by
  rw [vfpInstruction_ready hc hs hn, hbody]
  rfl

theorem noPc_one {rd : Reg} (h : rd ≠ 15#4) : noPc [rd] = .ok () := noPc_pass (by simpa using Ne.symm h)

theorem noPc_two {rd rn : Reg} (hd : rd ≠ 15#4) (hn : rn ≠ 15#4) : noPc [rd, rn] = .ok () := noPc_pass (by simp [Ne.symm hd, Ne.symm hn])

theorem advance_setSr (r : Nat) (v : Word) : (s.setSr r v).advance = s.wroteS [(Fin.ofNat 32 r, v)] 0#32 := by
  rw [State.wroteS_noFlag, State.advance_eq_stepped]
  rfl

theorem advance_setSr_two (r q : Nat) (v w : Word) :
    ((s.setSr r v).setSr q w).advance = s.wroteS [(Fin.ofNat 32 r, v), (Fin.ofNat 32 q, w)] 0#32 := by
  rw [State.wroteS_noFlag, State.advance_eq_stepped]
  rfl

/-- A body of one check and one state. -/
theorem checked_pure {x : Result Unit} {t u : State} (hx : x = .ok ()) (ht : t = u) : (x >>= fun _ => (pure t : Result State)) = .ok u := by
  rw [hx, ht]
  rfl

theorem checked_then {x : Result Unit} {r : Result State} {o : Except Stop State} (hx : x = .ok ()) (hr : r = o) : (x >>= fun _ => r) = o := by
  rw [hx, hr]
  rfl

theorem check_stopped {x : Result Unit} {r : Result State} {e : Stop} (hx : x = .error e) : (x >>= fun _ => r) = .error e := by
  rw [hx]
  rfl

theorem advance_setReg_two (a b : Reg) (v w : Word) :
    ((s.setReg a v).setReg b w).advance = { s.stepped with regs := (s.regs.set (bankedReg s.mode a) v).set (bankedReg s.mode b) w } := by
  rw [State.advance_eq_stepped]
  rfl

/-! ### System registers (49:R1184 to R1186) -/

theorem selectVfpReg_of_allowed (hold : s.oldFetch = []) (hcp : coprocessorAllowed s.cp15 s.mode 10 = true) {n : BitVec 4} {r : VfpReg}
    (hr : vfpReg n = some r) (hallowed : vfpRegAllowed r s = true) : selectVfpReg n s = .ok (r, s) := by
  simp only [selectVfpReg, requireCoprocessor_of_synced hold, hcp, if_true, bind_ok, hr, hallowed]

theorem selectVfpReg_undefined (hold : s.oldFetch = []) {n : BitVec 4}
    (h : coprocessorAllowed s.cp15 s.mode 10 = false ∨ ∀ r, vfpReg n = some r → vfpRegAllowed r s = false) :
    selectVfpReg n s = undefined s := by
  simp only [selectVfpReg, requireCoprocessor_of_synced hold]
  rcases h with h | h
  · rw [h]
    rfl
  · cases hcp : coprocessorAllowed s.cp15 s.mode 10
    · rfl
    · cases hr : vfpReg n with
      | none => rfl
      | some r => simp only [if_true, bind_ok, h r hr, Bool.false_eq_true, if_false]

theorem fmrx_eq (hc : condHolds c s.cpsr = true) {n : BitVec 4} {r : VfpReg} (hselect : selectVfpReg n s = .ok (r, s)) {rd : Reg}
    (hrd : rd ≠ 15#4) {v : Word} (hread : readVfpReg r s = (v, s)) : exec (.fmrx c n rd) s = .next (s.wrote rd v) := by
  change finish (conditional c false s (selectVfpReg n s >>= fun x => noPc [rd] >>= fun _ =>
    pure ((readVfpReg x.1 x.2).2.setReg rd (readVfpReg x.1 x.2).1).advance)) = _
  rw [conditional_pass hc, hselect, bind_ok, hread]
  exact congrArg finish (checked_pure (noPc_one hrd) (State.setReg_advance _ _ _))

theorem fmxr_eq (hc : condHolds c s.cpsr = true) {n : BitVec 4} {r : VfpReg} (hselect : selectVfpReg n s = .ok (r, s)) {rd : Reg}
    (hrd : rd ≠ 15#4) {f : Vfp} (hwrite : writeVfpReg r (s.reg rd) s = { s with vfp := f }) :
    exec (.fmxr c n rd) s = .next { s.stepped with vfp := f } := by
  change finish (conditional c false s (selectVfpReg n s >>= fun x => noPc [rd] >>= fun _ =>
    pure (writeVfpReg x.1 (x.2.reg rd) x.2).advance)) = _
  rw [conditional_pass hc, hselect, bind_ok, hwrite]
  exact congrArg finish (checked_pure (noPc_one hrd) (State.advance_eq_stepped _))

theorem fmrx_undefined (hc : condHolds c s.cpsr = true) {n : BitVec 4} (hselect : selectVfpReg n s = undefined s) (rd : Reg) :
    raisesUndefined (.fmrx c n rd) s := by
  refine raisesUndefined_of_conditional (body := selectVfpReg n s >>= fun x => noPc [rd] >>= fun _ =>
    pure ((readVfpReg x.1 x.2).2.setReg rd (readVfpReg x.1 x.2).1).advance) rfl hc ?_
  rw [hselect]
  rfl

theorem fmxr_undefined (hc : condHolds c s.cpsr = true) {n : BitVec 4} (hselect : selectVfpReg n s = undefined s) (rd : Reg) :
    raisesUndefined (.fmxr c n rd) s := by
  refine raisesUndefined_of_conditional (body := selectVfpReg n s >>= fun x => noPc [rd] >>= fun _ =>
    pure (writeVfpReg x.1 (x.2.reg rd) x.2).advance) rfl hc ?_
  rw [hselect]
  rfl

theorem fmstat_undefined (hc : condHolds c s.cpsr = true) (hselect : selectVfpReg 1#4 s = undefined s) : raisesUndefined (.fmstat c) s := by
  refine raisesUndefined_of_conditional (body := selectVfpReg 1#4 s >>= fun x =>
    pure { (readVfpReg x.1 x.2).2 with cpsr := mergeBits (readVfpReg x.1 x.2).2.cpsr (readVfpReg x.1 x.2).1 0xF0000000#32 }.advance) rfl hc ?_
  rw [hselect]
  rfl

/-! ### The gates (16:R451, R452) -/

/-- This instruction stands behind the gates of the VFP11. -/
def Gated (c : Cond) (s : State) (i : Instr) : Prop :=
  ∃ n body, exec i s = finish (vfpInstruction c n s body) ∧ (n = 10 ∨ n = 11)

/-- Where the VFP11 may not be used: the coprocessors are denied, or EN is 0, or EX is 1. -/
def VfpClosed (s : State) : Prop :=
  (∀ n, (n = 10 ∨ n = 11) → coprocessorAllowed s.cp15 s.mode n = false) ∨ (s.vfpEnabled && !s.vfpException) = false

theorem Gated.undefined {i : Instr} (h : Gated c s i) (hc : condHolds c s.cpsr = true) (hold : s.oldFetch = []) (hclosed : VfpClosed s) :
    raisesUndefined i s := by
  obtain ⟨n, body, hexec, hn⟩ := h
  refine raisesUndefined_of_conditional hexec hc ?_
  have hgate : (coprocessorAllowed s.cp15 s.mode n && (s.vfpEnabled && !s.vfpException)) = false := by
    rcases hclosed with h | h
    · rw [h n hn, Bool.false_and]
    · rw [h, Bool.and_false]
  rw [requireVfp_of_synced hold, hgate]
  rfl

/-- CPACR denies coprocessors 10 and 11 in this mode. -/
theorem coprocessor_denied (h : bits s.cp15.cpacr 20 4 = 0#4 ∨ (bits s.cp15.cpacr 20 4 = 0b0101#4 ∧ s.mode = modeUsr)) {n : Nat}
    (hn : n = 10 ∨ n = 11) : coprocessorAllowed s.cp15 s.mode n = false := by
  have hpart : bits s.cp15.cpacr (2 * n) 2 = (bits s.cp15.cpacr 20 4).extractLsb' (2 * n - 20) 2 := by
    rcases hn with rfl | rfl
    · ext i hi
      simp [bits, show i < 4 by omega]
    · ext i hi
      simp [bits, show 2 + i < 4 by omega, ← Nat.add_assoc]
  rcases h with h | ⟨h, hmode⟩ <;> rcases hn with rfl | rfl <;> rw [coprocessorAllowed, hpart, h]
  · simp
  · simp
  · simp [hmode]
  · simp [hmode]

end

end Sys2Proof.Machine

open Sys2Proof Sys2Proof.Machine

/-- Settles O51: a copy is one operation on bits; a transfer moves words once its register fields have passed. -/
theorem vfpMovesAndTransfers : Obligations.VfpMovesAndTransfers := by
  intro c dBit mBit nBit fd fm fn rd rn s hc hs sm next pair
  have hten : (10 : Nat) = 10 ∨ (10 : Nat) = 11 := .inl rfl
  have heleven : (11 : Nat) = 10 ∨ (11 : Nat) = 11 := .inr rfl
  have hnext : Fin.ofNat 32 (sReg fm mBit + 1) = next (sNum fm mBit) := by rw [← sNum_val]
  have hlast : (sReg fm mBit == 31) = decide (sNum fm mBit = 31) := by
    rw [Bool.eq_iff_iff, beq_iff_eq, decide_eq_true_iff, Fin.ext_iff, sNum_val]
    rfl
  refine ⟨fun h12 hlen hstride => ?_, fun hrd => ?_, fun hrd hrn => ?_, ?_⟩
  · have hone {f : Format} {r q : Nat} : iterations f s.vfp.fpscr false r r q = .ok [(r, r, q)] := iterations_scalar hlen hstride false r r q
    refine ⟨?_, ?_, ?_, ?_, ?_, ?_⟩
    · refine (vfpTwo_scalar hc hs h12 hone _ rfl).trans ?_
      rw [advance_setFp_single, fp_single, BitVec.setWidth_setWidth_of_le _ (by decide), BitVec.setWidth_eq]
    · refine (vfpTwo_scalar hc hs h12 hone _ rfl).trans ?_
      rw [advance_setFp_single, fp_single, setWidth_absBits]
    · refine (vfpTwo_scalar hc hs h12 hone _ rfl).trans ?_
      rw [advance_setFp_single, fp_single, setWidth_negBits]
    · refine (vfpTwo_scalar hc hs h12 hone _ rfl).trans ?_
      rw [advance_setFp_double, fp_double]
    · refine (vfpTwo_scalar hc hs h12 hone _ rfl).trans ?_
      rw [advance_setFp_double, fp_double, absBits, double_signBit]
      rfl
    · refine (vfpTwo_scalar hc hs h12 hone _ rfl).trans ?_
      rw [advance_setFp_double, fp_double, negBits, double_signBit]
  · refine ⟨?_, ?_, ?_, ?_, ?_, ?_⟩
    · exact finish_vfpInstruction hc hs hten (checked_pure (noPc_one hrd) (advance_setSr _ _))
    · exact finish_vfpInstruction hc hs heleven (checked_pure (noPc_one hrd) (advance_setSr _ _))
    · exact finish_vfpInstruction hc hs heleven (checked_pure (noPc_one hrd) (advance_setSr _ _))
    · exact finish_vfpInstruction hc hs hten (checked_pure (noPc_one hrd) (State.setReg_advance _ _ _))
    · exact finish_vfpInstruction hc hs heleven (checked_pure (noPc_one hrd) (State.setReg_advance _ _ _))
    · exact finish_vfpInstruction hc hs heleven (checked_pure (noPc_one hrd) (State.setReg_advance _ _ _))
  · have hpc := noPc_two hrd hrn
    have hdiff (hne : rd ≠ rn) : refuseIf (rd == rn) .registerField = .ok () := by rw [refuseIf, beq_eq_false_iff_ne.mpr hne]; rfl
    have hinside (h31 : sNum fm mBit ≠ 31) : refuseIf (sReg fm mBit == 31) .vfpRegisters = .ok () := by
      rw [hlast, decide_eq_false h31]; rfl
    have hpast (h31 : sNum fm mBit = 31) : refuseIf (sReg fm mBit == 31) .vfpRegisters = .error (.refuse .vfpRegisters) := by
      rw [hlast, decide_eq_true h31]; rfl
    refine ⟨?_, fun h31 => ?_, fun h31 => ?_, fun hne => ?_, fun hne h31 => ?_, fun hne h31 => ?_, fun heq => ⟨?_, ?_⟩⟩
    · exact finish_vfpInstruction hc hs heleven (checked_pure hpc (advance_setSr_two _ _ _ _))
    · refine (finish_vfpInstruction hc hs hten (checked_then hpc (checked_pure (hinside h31) (advance_setSr_two _ _ _ _)))).trans ?_
      rw [hnext]
      rfl
    · exact refused_vfpInstruction hc hs hten (checked_then hpc (check_stopped (hpast h31)))
    · exact finish_vfpInstruction hc hs heleven (checked_then hpc (checked_pure (hdiff hne) (advance_setReg_two _ _ _ _)))
    · refine (finish_vfpInstruction hc hs hten (checked_then hpc (checked_then (hdiff hne) (checked_pure (hinside h31) (advance_setReg_two _ _ _ _))))).trans ?_
      exact congrArg (fun q => pair rd rn sm s.vfp.regs[q]) hnext
    · exact refused_vfpInstruction hc hs hten (checked_then hpc (checked_then (hdiff hne) (check_stopped (hpast h31))))
    · exact refused_vfpInstruction hc hs heleven (checked_then hpc (check_stopped (by rw [heq, beq_self_eq_true]; rfl)))
    · exact refused_vfpInstruction hc hs hten (checked_then hpc (check_stopped (by rw [heq, beq_self_eq_true]; rfl)))
  · have hpc {l : List Reg} (hl : 15#4 ∈ l) : noPc l = .error (.refuse .registerField) := noPc_stop hl
    exact ⟨refused_vfpInstruction hc hs hten (check_stopped (hpc (by simp))), refused_vfpInstruction hc hs hten (check_stopped (hpc (by simp))),
      refused_vfpInstruction hc hs heleven (check_stopped (hpc (by simp))), refused_vfpInstruction hc hs heleven (check_stopped (hpc (by simp))),
      refused_vfpInstruction hc hs heleven (check_stopped (hpc (by simp))), refused_vfpInstruction hc hs heleven (check_stopped (hpc (by simp)))⟩

/-- Settles O57: a system register is read or written where its gate lets it through; behind the gates stand 74 instructions, and FMXR,
FMRX and FMSTAT have the gate of the FPSCR. -/
theorem vfpSystemRegistersAndGates : Obligations.VfpSystemRegistersAndGates := by
  intro c rd rn dBit nBit mBit u fd fn fm off8 s hc hrd hnsacr hold v read write others
  have hothers (hclosed : VfpClosed s) : ∀ i ∈ others, raisesUndefined i s := by
    have hgate (i : Instr) (h : Gated c s i) : raisesUndefined i s := h.undefined hc hold hclosed
    have hselect : selectVfpReg 1#4 s = undefined s := by
      refine selectVfpReg_undefined hold (hclosed.imp (fun h => h 10 (.inl rfl)) fun h r hr => ?_)
      obtain rfl : r = .fpscr := (Option.some.inj hr).symm
      exact h
    have hfmxr := fmxr_undefined hc hselect rd
    have hfmrx := fmrx_undefined hc hselect rd
    have hfmstat := fmstat_undefined hc hselect
    simp only [others, List.forall_mem_cons, List.not_mem_nil, false_implies, implies_true, and_true, hfmxr, hfmrx, hfmstat, true_and]
    and_intros <;> exact hgate _ ⟨_, _, rfl, by decide⟩
  refine ⟨fun hcpacr hmode => ?_, fun hcpacr hen hex => ?_, fun hcpacr hoff => hothers (.inr ?_), fun hcpacr hmode n hn => ?_, fun hdenied => ⟨?_, ?_⟩⟩
  · have hp : s.privileged = true := bne_iff_ne.mpr hmode
    have hcp := coprocessorAllowed_of_full hcpacr hnsacr s.mode (n := 10) (.inl rfl)
    have hselect {n : BitVec 4} {r : VfpReg} (hr : vfpReg n = some r) (hr' : r ≠ .fpscr) : selectVfpReg n s = .ok (r, s) := by
      refine selectVfpReg_of_allowed hold hcp hr ?_
      cases r <;> simp_all [vfpRegAllowed]
    exact ⟨fmrx_eq hc (hselect (r := .fpsid) rfl (by decide)) hrd rfl, fmrx_eq hc (hselect (r := .mvfr1) rfl (by decide)) hrd rfl,
      fmrx_eq hc (hselect (r := .mvfr0) rfl (by decide)) hrd rfl, fmrx_eq hc (hselect (r := .fpexc) rfl (by decide)) hrd rfl,
      fmrx_eq hc (hselect (r := .fpinst) rfl (by decide)) hrd rfl, fmxr_eq hc (hselect (r := .fpsid) rfl (by decide)) hrd rfl,
      fmxr_eq hc (hselect (r := .mvfr1) rfl (by decide)) hrd rfl, fmxr_eq hc (hselect (r := .mvfr0) rfl (by decide)) hrd rfl,
      fmxr_eq hc (hselect (r := .fpexc) rfl (by decide)) hrd rfl, fmxr_eq hc (hselect (r := .fpinst) rfl (by decide)) hrd rfl,
      fmxr_eq hc (hselect (r := .fpinst2) rfl (by decide)) hrd rfl⟩
  · have hcp := coprocessorAllowed_of_full hcpacr hnsacr s.mode (n := 10) (.inl rfl)
    have hselect : selectVfpReg 1#4 s = .ok (.fpscr, s) :=
      selectVfpReg_of_allowed hold hcp rfl (by simp [vfpRegAllowed, State.vfpEnabled, State.vfpException, hen, hex])
    refine ⟨fmrx_eq hc hselect hrd rfl, fmxr_eq hc hselect hrd rfl, ?_⟩
    change finish (conditional c false s (selectVfpReg 1#4 s >>= fun x => pure
      ({ (readVfpReg x.1 x.2).2 with
        cpsr := mergeBits (readVfpReg x.1 x.2).2.cpsr (readVfpReg x.1 x.2).1 0xF0000000#32 } : State).advance)) = _
    rw [conditional_pass hc, hselect]
    exact congrArg Host.Outcome.next ((advance_mrcResult 15#4 s.vfp.fpscr).2 rfl)
  · rw [State.vfpEnabled, State.vfpException]
    rcases hoff with h | h <;> simp [h]
  · have hp : s.privileged = false := by simp [State.privileged, show s.mode = modeUsr from hmode]
    have hselect : selectVfpReg n s = undefined s := by
      refine selectVfpReg_undefined hold (.inr fun r hr => ?_)
      simp only [List.mem_cons, List.not_mem_nil, or_false] at hn
      rcases hn with rfl | rfl | rfl <;> obtain rfl := (Option.some.inj hr) <;> exact hp
    exact ⟨fmrx_undefined hc hselect rd, fmxr_undefined hc hselect rd⟩
  · exact hothers (.inl fun n hn => coprocessor_denied hdenied hn)
  · intro n
    have hselect : selectVfpReg n s = undefined s := selectVfpReg_undefined hold (.inl (coprocessor_denied hdenied (.inl rfl)))
    exact ⟨fmrx_undefined hc hselect rd, fmxr_undefined hc hselect rd⟩

end

section
/-! Short vectors: the registers of the iterations, and what a vector of operations on bits leaves. -/

namespace Sys2Proof.Machine

open Sys2Proof

/-! ### Iterations that copy -/

theorem set_getElem_of_ne (regs : Vector Word 32) (v : Word) {i j : SingleReg} (h : i ≠ j) : (regs.set i v)[j] = regs[j] := by
  rw [Fin.getElem_fin, Vector.getElem_set_ne _ _ (fun heq => h (Fin.ext heq))]
  rfl

/-- What an operation on the bits of Fm leaves, where no iteration reads a register that an earlier one has written. -/
theorem iterate_copies (g : DWord → DWord) (word : Nat → Nat → Nat → Word) (l : List (Nat × Nat × Nat))
    (hl : l.Pairwise fun x y => Fin.ofNat 32 x.1 ≠ Fin.ofNat 32 y.1 ∧ Fin.ofNat 32 x.1 ≠ Fin.ofNat 32 y.2.2) (s : State) :
    ∃ regs : Vector Word 32,
      iterate single (fun _ _ _ v => .done (g v) 0#32) word l s = { s with vfp := { s.vfp with regs := regs } } ∧
      (∀ x ∈ l, regs[Fin.ofNat 32 x.1] = (g (s.vfp.regs[Fin.ofNat 32 x.2.2].setWidth 64)).setWidth 32) ∧
      ∀ j : SingleReg, (∀ x ∈ l, j ≠ Fin.ofNat 32 x.1) → regs[j] = s.vfp.regs[j] := by
  induction l generalizing s with
  | nil => exact ⟨s.vfp.regs, rfl, by simp, fun _ _ => rfl⟩
  | cons x l ih =>
    obtain ⟨hx, hl⟩ := List.pairwise_cons.mp hl
    obtain ⟨v, hv⟩ : ∃ v, v = (g (s.vfp.regs[Fin.ofNat 32 x.2.2].setWidth 64)).setWidth 32 := ⟨_, rfl⟩
    obtain ⟨regs, hiterate, hdone, hrest⟩ := ih hl { s with vfp := { s.vfp with regs := s.vfp.regs.set (Fin.ofNat 32 x.1) v } }
    refine ⟨regs, ?_, ?_, fun j hj => ?_⟩
    · have hfirst : (s.setFp single x.1 (g (s.fp single x.2.2))).orFpscr 0#32 =
          { s with vfp := { s.vfp with regs := s.vfp.regs.set (Fin.ofNat 32 x.1) v } } := by
        rw [hv, State.orFpscr, BitVec.or_zero]
        rfl
      exact (congrArg (iterate single _ word l) hfirst).trans hiterate
    · rintro y (_ | ⟨_, hy⟩)
      · rw [hrest _ fun y hy => (hx y hy).1, ← hv]
        simp
      · rw [hdone y hy]
        rw [set_getElem_of_ne _ _ (hx y hy).2]
    · rw [hrest j fun y hy => hj y (List.mem_cons_of_mem _ hy)]
      exact set_getElem_of_ne _ _ (Ne.symm (hj x List.mem_cons_self))

/-! ### The registers of a vector -/

theorem bankStep_single (r k : Nat) : bankStep single 1 r k = r / 8 * 8 + (r + k) % 8 := by
  have hbank : bankSize single = 8 := by decide
  rw [bankStep, hbank, Nat.mul_one, Nat.mod_add_mod]

/-- The iterations with stride 1 and a destination outside bank 0. -/
theorem iterations_vector {fpscr : Word} {n : Nat} (hn : 2 ≤ n) (hn8 : n ≤ 8) (hlen : (bits fpscr 16 3).toNat = n - 1) (hstride : bits fpscr 20 2 = 0#2)
    {fd fm : Nat} (hfd : 8 ≤ fd) (hfm : fm < 8 ∨ fm = fd ∨ fm / 8 ≠ fd / 8) :
    iterations single fpscr false fd fd fm = .ok ((List.range n).map fun k =>
      (bankStep single 1 fd k, bankStep single 1 fd k, if fm < 8 then fm else bankStep single 1 fm k)) := by
  have hbank : bankSize single = 8 := by decide
  have hlength : vectorLength fpscr = n := by unfold vectorLength; omega
  simp only [iterations, hlength, hstride, hbank]
  rw [if_neg (by omega), if_neg (by omega), if_neg (by simp), if_neg (by simp; omega)]
  simp only [if_true, Bool.false_and, Bool.false_or]
  by_cases hm : fm < 8
  · have hscalar : List.replicate n fm = (List.range n).map fun _ => fm := by simp [List.map_const']
    simp only [hm, decide_true, Bool.not_true, Bool.false_and, if_true, hscalar, List.zip_map', Bool.false_eq_true, if_false]
  · have hoverlap : (((List.range n).map (bankStep single 1 fm) != (List.range n).map (bankStep single 1 fd)) &&
        ((List.range n).map (bankStep single 1 fm)).any ((List.range n).map (bankStep single 1 fd)).contains) = false := by
      rcases hfm with h | rfl | hbanks
      · exact absurd h hm
      · simp
      · simp only [Bool.and_eq_false_iff, List.any_eq_false, List.mem_map, List.contains_iff_mem, bankStep_single]
        refine .inr ?_
        rintro _ ⟨j, -, rfl⟩ ⟨k, -, hk⟩
        omega
    simp only [hm, decide_false, Bool.not_false, Bool.true_and, if_false, hoverlap, Bool.false_eq_true, List.zip_map']

/-- A vector of operations on the bits of Fm. -/
theorem vector_copies (g : DWord → DWord) (word : Nat → Nat → Nat → Word) (n : Nat) (dst src : Nat → Nat)
    (h : ∀ j k, j < k → k < n → Fin.ofNat 32 (dst j) ≠ Fin.ofNat 32 (dst k) ∧ Fin.ofNat 32 (dst j) ≠ Fin.ofNat 32 (src k)) (s : State) :
    ∃ regs : Vector Word 32,
      iterate single (fun _ _ _ v => .done (g v) 0#32) word ((List.range n).map fun k => (dst k, dst k, src k)) s =
        { s with vfp := { s.vfp with regs := regs } } ∧
      (∀ k < n, regs[Fin.ofNat 32 (dst k)] = (g (s.vfp.regs[Fin.ofNat 32 (src k)].setWidth 64)).setWidth 32) ∧
      ∀ j : SingleReg, (∀ k < n, j ≠ Fin.ofNat 32 (dst k)) → regs[j] = s.vfp.regs[j] := by
  have hpairs : ((List.range n).map fun k => (dst k, dst k, src k)).Pairwise
      fun x y => Fin.ofNat 32 x.1 ≠ Fin.ofNat 32 y.1 ∧ Fin.ofNat 32 x.1 ≠ Fin.ofNat 32 y.2.2 := by
    rw [List.pairwise_map]
    exact List.pairwise_lt_range.imp_of_mem fun _ hk hlt => h _ _ hlt (List.mem_range.mp hk)
  obtain ⟨regs, hiterate, hdone, hrest⟩ := iterate_copies g word _ hpairs s
  refine ⟨regs, hiterate, fun k hk => ?_, fun j hj => hrest j fun x hx => ?_⟩
  · exact hdone _ (List.mem_map.mpr ⟨k, List.mem_range.mpr hk, rfl⟩)
  · obtain ⟨k, hk, rfl⟩ := List.mem_map.mp hx
    exact hj k (List.mem_range.mp hk)

/-- FNEGS of a vector. -/
theorem fnegs_vector {c : Cond} {s : State} (hc : condHolds c s.cpsr = true) (hs : s.vfpReady) (h12 : bit s.vfp.fpscr 12 = false)
    {dBit mBit : Bool} {fd fm : BitVec 4} {n : Nat} {src : Nat → Nat}
    (hregs : iterations single s.vfp.fpscr false (sReg fd dBit) (sReg fd dBit) (sReg fm mBit) = .ok ((List.range n).map fun k =>
      (bankStep single 1 (sReg fd dBit) k, bankStep single 1 (sReg fd dBit) k, src k))) (hn : n ≤ 8)
    (hsrc : ∀ j k, j < k → k < n → Fin.ofNat 32 (bankStep single 1 (sReg fd dBit) j) ≠ Fin.ofNat 32 (src k)) :
    ∃ t, exec (.fnegs c dBit fd mBit fm) s = .next t ∧
      (∀ k < n, t.vfp.regs[Fin.ofNat 32 (bankStep single 1 (sReg fd dBit) k)] = s.vfp.regs[Fin.ofNat 32 (src k)] ^^^ 0x80000000#32) ∧
      (∀ j : SingleReg, (∀ k < n, j ≠ Fin.ofNat 32 (bankStep single 1 (sReg fd dBit) k)) → t.vfp.regs[j] = s.vfp.regs[j]) ∧
      t = { s.stepped with vfp := { s.vfp with regs := t.vfp.regs } } := by
  have hlt := sReg_lt fd dBit
  obtain ⟨regs, hiterate, hdone, hrest⟩ := vector_copies (negBits single)
    (fun d _ m => 0xEEB10A40#32 ||| precisionField single ||| fdField single d ||| fmField single m) n (bankStep single 1 (sReg fd dBit)) src
    (fun j k hjk hk => ⟨by rw [ne_eq, Fin.ext_iff, bankStep_single, bankStep_single]; simp only [Fin.val_ofNat]; omega, hsrc j k hjk hk⟩) s
  refine ⟨{ s.stepped with vfp := { s.vfp with regs := regs } }, ?_, fun k hk => (hdone k hk).trans (setWidth_negBits _), hrest, rfl⟩
  change finish (vfpTwo c single 0xEEB10A40#32 (fun _ m => .done (negBits single m) 0#32) (sReg fd dBit) (sReg fm mBit) s) = _
  rw [vfpTwo, vfpInstruction_ready hc hs (vfpNumber_cases single), preciseInexact_off h12, hregs]
  refine congrArg Host.Outcome.next ((congrArg State.advance hiterate).trans ?_)
  exact State.advance_eq_stepped _

end Sys2Proof.Machine

open Sys2Proof Sys2Proof.Machine

/-- Settles O52: FNEGS does the iterations that the registers give, none of which reads what an earlier one has written. -/
theorem vfpShortVectors : Obligations.VfpShortVectors := by
  intro c dBit mBit fd fm n s hc hs h12 hstride hn hn8 hlen d m within claim
  have hd : d = sReg fd dBit := sNum_val fd dBit
  have hm : m = sReg fm mBit := sNum_val fm mBit
  have hdlt := sReg_lt fd dBit
  have hmlt := sReg_lt fm mBit
  have hwithin (r k : Nat) : within r k = Fin.ofNat 32 (bankStep single 1 r k) := by rw [bankStep_single]
  refine ⟨fun hbank => ?_, fun hfd hfm => ?_, fun hfd hfm hbanks => ?_⟩
  · have hone : iterations single s.vfp.fpscr false (sReg fd dBit) (sReg fd dBit) (sReg fm mBit) =
        .ok [(sReg fd dBit, sReg fd dBit, sReg fm mBit)] := by
      have hlength : vectorLength s.vfp.fpscr = n := by unfold vectorLength; omega
      simp only [iterations, hlength, show bankSize single = 8 by decide]
      rw [if_neg (by omega), if_pos (by omega)]
    refine (vfpTwo_scalar hc hs h12 hone _ rfl).trans ?_
    rw [advance_setFp_single, fp_single, setWidth_negBits]
  · have hregs := iterations_vector hn hn8 hlen hstride (fd := sReg fd dBit) (fm := sReg fm mBit) (by omega) (.inl (by omega))
    simp only [show sReg fm mBit < 8 by omega, if_true] at hregs
    obtain ⟨t, hexec, hdone, hrest, hframe⟩ := fnegs_vector hc hs h12 hregs hn8 fun j k _ _ => by
      rw [ne_eq, Fin.ext_iff, bankStep_single]; simp only [Fin.val_ofNat]; omega
    simp only [claim, hwithin, hd]
    exact ⟨t, hexec, hdone, hrest, hframe⟩
  · have hregs := iterations_vector hn hn8 hlen hstride (fd := sReg fd dBit) (fm := sReg fm mBit) (by omega) (.inr (by omega))
    simp only [show ¬ sReg fm mBit < 8 by omega, if_false] at hregs
    obtain ⟨t, hexec, hdone, hrest, hframe⟩ := fnegs_vector hc hs h12 hregs hn8 fun j k _ _ => by
      rw [ne_eq, Fin.ext_iff, bankStep_single, bankStep_single]; simp only [Fin.val_ofNat]; omega
    simp only [claim, hwithin, hd, hm]
    exact ⟨t, hexec, hdone, hrest, hframe⟩

end

section
/-! The numbers that the VFP11 computes with, as rational numbers: comparisons by value. -/

namespace Sys2Proof.Machine

open Sys2Proof

/-! ### Values -/

/-- The number that an exact result stands for. -/
def Exact.toRat (x : Exact) : ℚ := (if x.neg then -1 else 1) * x.mant * 2 ^ x.exp

/-- An exact number in units of `2 ^ e`, where it is an integer of them. -/
theorem Exact.at_mul {x : Exact} {e : Int} (h : e ≤ x.exp) : (x.at e : ℚ) * 2 ^ e = x.toRat := by
  have hpow : (2 : ℚ) ^ x.exp = 2 ^ (x.exp - e).toNat * 2 ^ e := by
    rw [← zpow_natCast, ← zpow_add₀ two_ne_zero, Int.toNat_of_nonneg (by omega), sub_add_cancel]
  rw [Exact.toRat, hpow]
  cases hneg : x.neg <;> simp [Exact.at, hneg] <;> ring

theorem Format.toRat_value {f : Format} {v : DWord} (h : f.isNormal v) : ((f.unpack v).value f).toRat = f.ratValue v := by
  have hb : (f.unpack v).biased ≠ 0 := by have := h.1; omega
  have hexp : (((f.unpack v).biased - 1 : Nat) : Int) = (f.unpack v).biased - 1 := by omega
  simp only [Exact.toRat, Format.ratValue, Operand.value, if_neg hb, hexp]
  push_cast
  rfl

theorem toRat_of_zero {f : Format} {x : Operand} (h : x.isZero = true) : (x.value f).toRat = 0 := by
  obtain ⟨hb, hf⟩ : x.biased = 0 ∧ x.frac = 0 := by simpa [Operand.isZero] using h
  simp [Exact.toRat, Operand.value, hb, hf]

/-! ### Operands that pass the first steps (49:R1133) -/

theorem flushInput_pass {x : Operand} (h : x.isSubnormal = false) (fpscr : Word) : flushInput fpscr x = .ok (x, 0#32) := by
  rw [flushInput, h, if_neg Bool.false_ne_true]

theorem flushInputs_pass {a b : Operand} (ha : a.isSubnormal = false) (hb : b.isSubnormal = false) (fpscr : Word) :
    flushInputs fpscr a b = .ok (a, b, 0#32) := by
  rw [flushInputs, flushInput_pass ha, flushInput_pass hb]
  rfl

section

variable {f : Format} {v : DWord} (h : f.isNormal v)
include h

theorem Format.isNormal.notSubnormal : (f.unpack v).isSubnormal = false := by
  have := h.1
  simp [Operand.isSubnormal]; omega

theorem Format.isNormal.notNan : (f.unpack v).isNan f = false := by
  have := h.2
  simp [Operand.isNan]; omega

theorem Format.isNormal.notInf : (f.unpack v).isInf f = false := by
  have := h.2
  simp [Operand.isInf]; omega

theorem Format.isNormal.notZero : (f.unpack v).isZero = false := by
  have := h.1
  simp [Operand.isZero]; omega

end

theorem notSubnormal_of_zero {x : Operand} (h : x.isZero = true) : x.isSubnormal = false := by
  obtain ⟨-, hfrac⟩ : x.biased = 0 ∧ x.frac = 0 := by simpa [Operand.isZero] using h
  simp [Operand.isSubnormal, hfrac]

theorem notNan_of_zero {f : Format} {x : Operand} (h : x.isZero = true) : x.isNan f = false := by
  obtain ⟨-, hfrac⟩ : x.biased = 0 ∧ x.frac = 0 := by simpa [Operand.isZero] using h
  simp [Operand.isNan, hfrac]

theorem notSubnormal_of_nan {f : Format} (hf : 0 < f.maxExp) {x : Operand} (h : x.isNan f = true) : x.isSubnormal = false := by
  obtain ⟨hb, -⟩ : x.biased = f.maxExp ∧ x.frac ≠ 0 := by simpa [Operand.isNan] using h
  have hne : x.biased ≠ 0 := by omega
  simp [Operand.isSubnormal, hne]

/-! ### Comparisons (49:R1153 to R1156) -/

theorem compareFlags_eq (f : Format) (a b : Operand) : compareFlags f a b =
    if (a.value f).toRat < (b.value f).toRat then 0b1000#64
    else if (a.value f).toRat = (b.value f).toRat then 0b0110#64 else 0b0010#64 := by
  have ha := Exact.at_mul (x := a.value f) (min_le_left (a.value f).exp (b.value f).exp)
  have hb := Exact.at_mul (x := b.value f) (min_le_right (a.value f).exp (b.value f).exp)
  have hpos : (0 : ℚ) < 2 ^ min (a.value f).exp (b.value f).exp := by positivity
  rw [← ha, ← hb]
  simp only [compareFlags, mul_lt_mul_iff_left₀ hpos, mul_left_inj' hpos.ne', Int.cast_lt, Int.cast_inj]

theorem compareOp_ordered {f : Format} {every : Bool} {fpscr : Word} {a b : DWord} (ha : (f.unpack a).isSubnormal = false)
    (hb : (f.unpack b).isSubnormal = false) (hna : (f.unpack a).isNan f = false) (hnb : (f.unpack b).isNan f = false) :
    compareOp f every fpscr a b = .done (compareFlags f (f.unpack a) (f.unpack b)) 0#32 := by
  have hnan : nanInputs f fpscr every [f.unpack a, f.unpack b] = .ok none := by simp [nanInputs, hna, hnb]
  simp only [compareOp, flushInputs_pass ha hb, bind, Except.bind, hnan]
  rfl

theorem compareOp_unordered {f : Format} {every : Bool} {fpscr : Word} {a b : DWord} (ha : (f.unpack a).isSubnormal = false)
    (hb : (f.unpack b).isSubnormal = false) (hnan : ((f.unpack a).isNan f || (f.unpack b).isNan f) = true) (h25 : bit fpscr 25 = true)
    (h8 : bit fpscr 8 = false) :
    compareOp f every fpscr a b = .done 0b0011#64
      (if every || ((f.unpack a).isSignalling f || (f.unpack b).isSignalling f) then 1#32 else 0#32) := by
  have hinputs : nanInputs f fpscr every [f.unpack a, f.unpack b] =
      .ok (some (if every || ((f.unpack a).isSignalling f || (f.unpack b).isSignalling f) then 1#32 else 0#32)) := by
    simp only [nanInputs, List.any_cons, List.any_nil, Bool.or_false, hnan, h25, h8, Bool.not_true, Bool.false_eq_true, if_false]
    split <;> rfl
  simp only [compareOp, flushInputs_pass ha hb, bind, Except.bind, hinputs]
  exact congrArg (FpOut.done _) (BitVec.zero_or)

theorem unpack_zero (f : Format) : (f.unpack 0#64).isZero = true := by simp [Format.unpack, Operand.isZero]

/-- The sign of a normal number is that of its value. -/
theorem Format.ratValue_neg_iff {f : Format} {v : DWord} : f.ratValue v < 0 ↔ (f.unpack v).neg = true := by
  have hpos : (0 : ℚ) < (2 ^ f.frac + (f.unpack v).frac) * 2 ^ (f.minExp + (((f.unpack v).biased : Int) - 1)) := by positivity
  rw [Format.ratValue]
  cases (f.unpack v).neg
  · simp only [Bool.false_eq_true, if_false, one_mul, iff_false, not_lt]
    exact hpos.le
  · simp only [if_true, iff_true]
    linarith

theorem Format.ratValue_ne_zero {f : Format} {v : DWord} : f.ratValue v ≠ 0 := by
  have hpos : (0 : ℚ) < (2 ^ f.frac + (f.unpack v).frac) * 2 ^ (f.minExp + (((f.unpack v).biased : Int) - 1)) := by positivity
  rw [Format.ratValue, mul_assoc]
  refine mul_ne_zero ?_ hpos.ne'
  split <;> simp

/-! ### Comparison instructions -/

/-- The state after a comparison with these flags. -/
def State.compared (s : State) (nzcv : BitVec 4) (more : Word) : State :=
  { s.stepped with vfp := { s.vfp with fpscr := (nzcv ++ s.vfp.fpscr.extractLsb' 0 28 : BitVec 32) ||| more } }

theorem advance_compared (s : State) (v : DWord) (more : Word) :
    ((writeFpFlags s v).orFpscr more).advance = s.compared (v.setWidth 4) more := by
  rw [State.advance_eq_stepped, writeFpFlags, setBits_top]
  rfl

section

variable {c : Cond} {s : State} (hc : condHolds c s.cpsr = true) (hs : s.vfpReady) (h12 : bit s.vfp.fpscr 12 = false)
include hc hs h12

theorem vfpCompare_eq {f : Format} (base : Word) {every : Bool} {fd fm : Nat} {v : DWord} {nzcv : BitVec 4} {more : Word}
    (hv : v.setWidth 4 = nzcv) (h : compareOp f every s.vfp.fpscr (s.fp f fd) (s.fp f fm) = .done v more) :
    finish (vfpCompare c f base every fd fm s) = .next (s.compared nzcv more) := by
  rw [vfpCompare, vfpScalar, vfpInstruction_ready hc hs (vfpNumber_cases f), preciseInexact_off h12, h, ← hv]
  exact congrArg Host.Outcome.next (advance_compared s v more)

theorem vfpCompareZero_eq {f : Format} (base : Word) {every : Bool} {fd : Nat} {v : DWord} {nzcv : BitVec 4} {more : Word}
    (hv : v.setWidth 4 = nzcv) (h : compareOp f every s.vfp.fpscr (s.fp f fd) 0#64 = .done v more) :
    finish (vfpCompareZero c f base every fd s) = .next (s.compared nzcv more) := by
  rw [vfpCompareZero, vfpScalar, vfpInstruction_ready hc hs (vfpNumber_cases f), preciseInexact_off h12, h, ← hv]
  exact congrArg Host.Outcome.next (advance_compared s v more)

end

/-- What the comparison operations of both kinds give for two operands. -/
structure Compares (f : Format) (fpscr : Word) (a b : DWord) : Prop where
  less : f.isNormal a → f.isNormal b → f.ratValue a < f.ratValue b → ∀ every, compareOp f every fpscr a b = .done 0b1000#64 0#32
  equal : f.isNormal a → f.isNormal b → f.ratValue a = f.ratValue b → ∀ every, compareOp f every fpscr a b = .done 0b0110#64 0#32
  greater : f.isNormal a → f.isNormal b → f.ratValue b < f.ratValue a → ∀ every, compareOp f every fpscr a b = .done 0b0010#64 0#32
  zeros : (f.unpack a).isZero = true → (f.unpack b).isZero = true → ∀ every, compareOp f every fpscr a b = .done 0b0110#64 0#32

theorem compares (f : Format) (fpscr : Word) (a b : DWord) : Compares f fpscr a b := by
  have ordered (ha : f.isNormal a) (hb : f.isNormal b) (every : Bool) := compareOp_ordered (every := every) (fpscr := fpscr)
    ha.notSubnormal hb.notSubnormal ha.notNan hb.notNan
  constructor
  · intro ha hb hlt every
    rw [ordered ha hb, compareFlags_eq, Format.toRat_value ha, Format.toRat_value hb, if_pos hlt]
  · intro ha hb heq every
    rw [ordered ha hb, compareFlags_eq, Format.toRat_value ha, Format.toRat_value hb, if_neg (by simp [heq]), if_pos heq]
  · intro ha hb hgt every
    rw [ordered ha hb, compareFlags_eq, Format.toRat_value ha, Format.toRat_value hb, if_neg hgt.le.not_gt, if_neg hgt.ne']
  · intro ha hb every
    rw [compareOp_ordered (notSubnormal_of_zero ha) (notSubnormal_of_zero hb) (notNan_of_zero ha) (notNan_of_zero hb), compareFlags_eq,
      toRat_of_zero ha, toRat_of_zero hb, if_neg (by simp), if_pos rfl]

/-- A normal number against +0. -/
theorem compareOp_zero {f : Format} {every : Bool} {fpscr : Word} {a : DWord} (ha : f.isNormal a) :
    compareOp f every fpscr a 0#64 = .done (if (f.unpack a).neg then 0b1000#64 else 0b0010#64) 0#32 := by
  have hz := unpack_zero f
  rw [compareOp_ordered ha.notSubnormal (notSubnormal_of_zero hz) ha.notNan (notNan_of_zero hz), compareFlags_eq, Format.toRat_value ha,
    toRat_of_zero hz, if_neg Format.ratValue_ne_zero]
  simp only [Format.ratValue_neg_iff]

end Sys2Proof.Machine

open Sys2Proof Sys2Proof.Machine

/-- Settles O55: both comparisons of a format are one operation, which compares values; the forms with zero compare with +0. -/
theorem vfpComparisons : Obligations.VfpComparisons := by
  intro c dBit mBit fd fm s hc hs h12 flags claim zero a
  have hclaim (f : Format) (x y : DWord) (i e : Instr)
      (hi : ∀ v nzcv more, v.setWidth 4 = nzcv → compareOp f false s.vfp.fpscr x y = .done v more → exec i s = flags nzcv more)
      (he : ∀ v nzcv more, v.setWidth 4 = nzcv → compareOp f true s.vfp.fpscr x y = .done v more → exec e s = flags nzcv more) :
      claim f x y i e := by
    obtain ⟨hless, hequal, hgreater, hzeros⟩ := compares f s.vfp.fpscr x y
    simp only [claim, List.forall_mem_cons, List.not_mem_nil, false_implies, implies_true, and_true]
    refine ⟨fun hx hy => ⟨⟨fun h => ?_, fun h => ?_, fun h => ?_⟩, fun h => ?_, fun h => ?_, fun h => ?_⟩, fun hx hy => ⟨?_, ?_⟩,
      fun hnan hx hy h25 h8 => ⟨?_, ?_⟩⟩
    · exact hi _ _ _ (by decide) (hless hx hy h _)
    · exact hi _ _ _ (by decide) (hequal hx hy h _)
    · exact hi _ _ _ (by decide) (hgreater hx hy h _)
    · exact he _ _ _ (by decide) (hless hx hy h _)
    · exact he _ _ _ (by decide) (hequal hx hy h _)
    · exact he _ _ _ (by decide) (hgreater hx hy h _)
    · exact hi _ _ _ (by decide) (hzeros hx hy _)
    · exact he _ _ _ (by decide) (hzeros hx hy _)
    · exact hi _ _ _ (by decide) (compareOp_unordered hx hy hnan h25 h8)
    · exact he _ _ _ (by decide) (compareOp_unordered hx hy hnan h25 h8)
  have hzero (f : Format) (hf : 0 < f.maxExp) (x : DWord) (i e : Instr)
      (hi : ∀ v nzcv more, v.setWidth 4 = nzcv → compareOp f false s.vfp.fpscr x 0#64 = .done v more → exec i s = flags nzcv more)
      (he : ∀ v nzcv more, v.setWidth 4 = nzcv → compareOp f true s.vfp.fpscr x 0#64 = .done v more → exec e s = flags nzcv more) :
      zero f x i e := by
    have hz := unpack_zero f
    have hsign (b : Bool) : (if b then 0b1000#64 else 0b0010#64).setWidth 4 = if b then 0b1000#4 else 0b0010#4 := by
      cases b <;> decide
    simp only [zero, List.forall_mem_cons, List.not_mem_nil, false_implies, implies_true, and_true]
    refine ⟨fun hx => ⟨?_, ?_⟩, fun hx => ⟨?_, ?_⟩, fun hnan h25 h8 => ?_⟩
    · exact hi _ _ _ (hsign _) (compareOp_zero hx)
    · exact he _ _ _ (hsign _) (compareOp_zero hx)
    · exact hi _ _ _ (by decide) ((compares f s.vfp.fpscr x 0#64).zeros hx hz _)
    · exact he _ _ _ (by decide) ((compares f s.vfp.fpscr x 0#64).zeros hx hz _)
    · have hx := notSubnormal_of_nan hf hnan
      have hsignalling : (f.unpack 0#64).isSignalling f = false := by rw [Operand.isSignalling, notNan_of_zero hz, Bool.false_and]
      have unordered (every : Bool) := compareOp_unordered (every := every) hx (notSubnormal_of_zero hz) (by rw [hnan, Bool.true_or]) h25 h8
      simp only [hsignalling, Bool.or_false] at unordered
      exact ⟨hi _ _ _ (by decide) (unordered false), he _ _ _ (by decide) (unordered true)⟩
  exact ⟨hclaim _ _ _ _ _ (fun _ _ _ => vfpCompare_eq hc hs h12 _) (fun _ _ _ => vfpCompare_eq hc hs h12 _),
    hclaim _ _ _ _ _ (fun _ _ _ => vfpCompare_eq hc hs h12 _) (fun _ _ _ => vfpCompare_eq hc hs h12 _),
    hzero _ (by decide) _ _ _ (fun _ _ _ => vfpCompareZero_eq hc hs h12 _) (fun _ _ _ => vfpCompareZero_eq hc hs h12 _),
    hzero _ (by decide) _ _ _ (fun _ _ _ => vfpCompareZero_eq hc hs h12 _) (fun _ _ _ => vfpCompareZero_eq hc hs h12 _)⟩

end

section
/-! Exact results: where the exact result of an operation is a normal number, it is delivered. -/

namespace Sys2Proof.Machine

open Sys2Proof

/-! ### Numbers at two exponents -/

/-- Two integers with the same value at two exponents: one is the other, shifted. -/
theorem mant_shift {m n : Nat} {e u : Int} (h : (m : ℚ) * 2 ^ e = n * 2 ^ u) (heu : e ≤ u) : m = n * 2 ^ (u - e).toNat := by
  have hpow : (2 : ℚ) ^ u = 2 ^ (u - e).toNat * 2 ^ e := by
    rw [← zpow_natCast, ← zpow_add₀ two_ne_zero, Int.toNat_of_nonneg (by omega), sub_add_cancel]
  have hne : (2 : ℚ) ^ e ≠ 0 := by positivity
  rw [hpow, ← mul_assoc, mul_left_inj' hne] at h
  exact_mod_cast h

theorem log2_mul_pow {m : Nat} (hm : m ≠ 0) (k : Nat) : (m * 2 ^ k).log2 = m.log2 + k := by
  have hlow := (Nat.log2_eq_iff hm).mp rfl
  have hk : 0 < 2 ^ k := by positivity
  refine (Nat.log2_eq_iff (by positivity)).mpr ⟨?_, ?_⟩
  · rw [pow_add]
    exact Nat.mul_le_mul_right _ hlow.1
  · rw [show m.log2 + k + 1 = m.log2 + 1 + k by omega, pow_add]
    exact Nat.mul_lt_mul_of_pos_right hlow.2 hk

theorem log2_same_value {m n : Nat} (hm : m ≠ 0) (hn : n ≠ 0) {e u : Int} (h : (m : ℚ) * 2 ^ e = n * 2 ^ u) :
    (m.log2 : Int) + e = n.log2 + u := by
  rcases le_total e u with heu | heu
  · have hshift := congrArg Nat.log2 (mant_shift h heu)
    rw [log2_mul_pow hn] at hshift
    omega
  · have hshift := congrArg Nat.log2 (mant_shift h.symm heu)
    rw [log2_mul_pow hm] at hshift
    omega

/-! ### Formats -/

/-- The significand of a normal number. -/
def Format.significand (f : Format) (r : DWord) : Nat := 2 ^ f.frac + (f.unpack r).frac

/-- The exponent of its last bit. -/
def Format.lastExp (f : Format) (r : DWord) : Int := f.minExp + (((f.unpack r).biased : Int) - 1)

/-- The number lies in the bits of the format. -/
def Format.Fits (f : Format) (r : DWord) : Prop := r.toNat < 2 ^ (f.frac + f.expBits + 1)

theorem Format.ratValue_eq (f : Format) (r : DWord) :
    f.ratValue r = (if (f.unpack r).neg then -1 else 1) * f.significand r * 2 ^ f.lastExp r := by
  rw [Format.ratValue, Format.significand, Format.lastExp]
  push_cast
  rfl

theorem Format.frac_lt (f : Format) (r : DWord) : (f.unpack r).frac < 2 ^ f.frac := Nat.mod_lt _ (by positivity)

theorem Format.log2_significand (f : Format) (r : DWord) : (f.significand r).log2 = f.frac := by
  have hlt := f.frac_lt r
  have hpos : 0 < 2 ^ f.frac := by positivity
  unfold Format.significand
  exact (Nat.log2_eq_iff (by omega)).mpr ⟨by omega, by rw [pow_succ]; omega⟩

theorem Format.significand_pos (f : Format) (r : DWord) : 0 < f.significand r := by
  unfold Format.significand
  positivity

/-- A register's content from its three fields. -/
theorem Format.pack_unpack {f : Format} {r : DWord} (hfits : f.Fits r) :
    f.pack (f.unpack r).neg ((f.unpack r).biased * 2 ^ f.frac + (f.unpack r).frac) = r := by
  have hfields : r.toNat % 2 ^ (f.frac + f.expBits) = (f.unpack r).biased * 2 ^ f.frac + (f.unpack r).frac := by
    rw [pow_add, Nat.mod_mul, Nat.mul_comm, Nat.add_comm]
    rfl
  have hquot : r.toNat / 2 ^ (f.frac + f.expBits) < 2 := by
    rw [Nat.div_lt_iff_lt_mul (by positivity), Nat.mul_comm, ← pow_succ]
    exact hfits
  have hsign : (if (f.unpack r).neg then 2 ^ (f.frac + f.expBits) else 0) = 2 ^ (f.frac + f.expBits) * (r.toNat / 2 ^ (f.frac + f.expBits)) := by
    have hbit : (f.unpack r).neg = decide (r.toNat / 2 ^ (f.frac + f.expBits) % 2 = 1) := by
      rw [Format.unpack, bit, BitVec.getLsbD, Nat.testBit_eq_decide_div_mod_eq]
    rw [hbit]
    rcases Nat.le_one_iff_eq_zero_or_eq_one.mp (Nat.lt_succ_iff.mp hquot) with h | h <;> simp [h]
  apply BitVec.eq_of_toNat_eq
  rw [Format.pack, hsign, ← hfields, Nat.div_add_mod, BitVec.toNat_ofNat, Nat.mod_eq_of_lt r.isLt]

/-! ### Delivery (49:R1133 steps 6 and 7) -/

theorem roundsUp_zero (mode : Rounding) (neg : Bool) (m : Nat) {d : Nat} (hd : 0 < d) : roundsUp mode neg m 0 d = false := by
  cases mode <;> simp [roundsUp]
  omega

theorem roundTo_exact {mode : Rounding} {x : Exact} {n : Nat} {u : Int} (h : (x.mant : ℚ) * 2 ^ x.exp = n * 2 ^ u) :
    roundTo mode x u = (n, false) := by
  rw [roundTo]
  split
  next hu => rw [← mant_shift h.symm hu]
  next hu =>
    have hm := mant_shift h (by omega)
    have hpos : 0 < 2 ^ (u - x.exp).toNat := by positivity
    simp only [hm, Nat.mul_div_cancel _ hpos, Nat.mul_mod_left, roundsUp_zero _ _ _ hpos]
    rfl

/-- The sign and the magnitude of an exact result that is a normal number. -/
theorem Exact.same_value {f : Format} {x : Exact} {r : DWord} (h : x.toRat = f.ratValue r) :
    x.neg = (f.unpack r).neg ∧ (x.mant : ℚ) * 2 ^ x.exp = f.significand r * 2 ^ f.lastExp r := by
  have hpos : (0 : ℚ) < f.significand r * 2 ^ f.lastExp r := by
    have := f.significand_pos r
    positivity
  have hmag : (0 : ℚ) ≤ x.mant * 2 ^ x.exp := by positivity
  rw [Format.ratValue_eq, Exact.toRat, mul_assoc, mul_assoc] at h
  cases hx : x.neg <;> cases hr : (f.unpack r).neg <;> simp only [hx, hr, if_true, Bool.false_eq_true, if_false] at h
  · exact ⟨rfl, by linarith⟩
  · linarith
  · linarith
  · exact ⟨rfl, by linarith⟩

theorem deliver_exact {f : Format} {x : Exact} {r : DWord} (hr : f.isNormal r) (hfits : f.Fits r) (h : x.toRat = f.ratValue r)
    (fpscr : Word) : f.deliver fpscr x 0#32 = .done r 0#32 := by
  obtain ⟨hneg, hmag⟩ := Exact.same_value h
  obtain ⟨hlow, hhigh⟩ := hr
  have hm : x.mant ≠ 0 := by
    rintro h0
    have := f.significand_pos r
    rw [h0] at hmag
    have hpos : (0 : ℚ) < f.significand r * 2 ^ f.lastExp r := by positivity
    rw [Nat.cast_zero, zero_mul] at hmag
    exact hpos.ne hmag
  have htop : x.top = f.frac + f.lastExp r := by
    rw [Exact.top, log2_same_value hm (f.significand_pos r).ne' hmag, f.log2_significand]
  have hlast : f.minExp ≤ f.lastExp r := by unfold Format.lastExp; omega
  have hunit : f.unit x = f.lastExp r := by rw [Format.unit, htop]; omega
  have hpacked : (f.lastExp r - f.minExp).toNat * 2 ^ f.frac + f.significand r = (f.unpack r).biased * 2 ^ f.frac + (f.unpack r).frac := by
    have hexp : (f.lastExp r - f.minExp).toNat = (f.unpack r).biased - 1 := by unfold Format.lastExp; omega
    rw [hexp, Format.significand, ← Nat.add_assoc, ← Nat.succ_mul, Nat.succ_eq_add_one, Nat.sub_add_cancel hlow]
  have hrange : ¬ f.maxExp * 2 ^ f.frac ≤ (f.unpack r).biased * 2 ^ f.frac + (f.unpack r).frac := by
    have hfrac := f.frac_lt r
    have hle : ((f.unpack r).biased + 1) * 2 ^ f.frac ≤ f.maxExp * 2 ^ f.frac := Nat.mul_le_mul_right _ hhigh
    rw [Nat.add_mul, Nat.one_mul] at hle
    omega
  have hbig : decide (x.top < f.minExp + f.frac) = false := decide_eq_false (by omega)
  rw [Format.deliver, hbig, Bool.and_false, if_neg Bool.false_ne_true, hunit, roundTo_exact hmag]
  simp only [hpacked, if_neg hrange, hneg, f.pack_unpack hfits, Bool.false_eq_true, if_false]

theorem deliverOrZero_exact {f : Format} {x : Exact} {r : DWord} (hr : f.isNormal r) (hfits : f.Fits r) (h : x.toRat = f.ratValue r)
    (fpscr : Word) (zeroNeg : Bool) : f.deliverOrZero fpscr x zeroNeg 0#32 = .done r 0#32 := by
  have hm : x.mant ≠ 0 := by
    intro h0
    refine f.ratValue_ne_zero (v := r) ?_
    rw [← h, Exact.toRat, h0]
    simp
  rw [Format.deliverOrZero, if_neg hm, deliver_exact hr hfits h]

/-! ### Sums and products (49:R1140 to R1142) -/

theorem Exact.toRat_add (x y : Exact) : (x.add y).toRat = x.toRat + y.toRat := by
  rw [← Exact.at_mul (min_le_left x.exp y.exp), ← Exact.at_mul (min_le_right x.exp y.exp), ← add_mul]
  have hsign (v : Int) : ((if decide (v < 0) then -1 else 1 : ℚ)) * v.natAbs = v := by
    rcases lt_or_ge v 0 with hv | hv
    · rw [decide_eq_true hv, if_pos rfl, Nat.cast_natAbs, abs_of_neg hv]
      simp
    · rw [decide_eq_false (by omega), if_neg Bool.false_ne_true, Nat.cast_natAbs, abs_of_nonneg hv, one_mul]
  rw [Exact.toRat, Exact.add]
  simp only [hsign, Int.cast_add]

theorem toRat_negate (f : Format) (x : Operand) : (x.negate.value f).toRat = -(x.value f).toRat := by
  have hvalue : x.negate.value f = { x.value f with neg := !(x.value f).neg } := rfl
  rw [hvalue, Exact.toRat, Exact.toRat]
  cases (x.value f).neg <;> simp

theorem Exact.toRat_mul (x y : Exact) :
    ({ neg := x.neg != y.neg, mant := x.mant * y.mant, exp := x.exp + y.exp } : Exact).toRat = x.toRat * y.toRat := by
  rw [Exact.toRat, Exact.toRat, Exact.toRat, zpow_add₀ two_ne_zero]
  cases x.neg <;> cases y.neg <;> simp <;> ring

section

variable {f : Format} {fpscr : Word} {r : DWord} (hq : RunFastMode fpscr) (hr : f.isNormal r) (hfits : f.Fits r)
include hq hr hfits

theorem sumOf_exact {a b : Operand} (ha : a.isInf f = false) (hb : b.isInf f = false)
    (h : (a.value f).toRat + (b.value f).toRat = f.ratValue r) : sumOf f fpscr a b 0#32 = .ok (.done r 0#32) := by
  rw [← Exact.toRat_add] at h
  simp only [sumOf, ha, hb, Bool.false_and, Bool.false_eq_true, if_false, checkRange_ok hq, bind, Except.bind,
    deliverOrZero_exact hr hfits h]
  rfl

theorem productOf_exact {a b : Operand} (ha : a.isInf f = false) (hb : b.isInf f = false)
    (h : (a.value f).toRat * (b.value f).toRat = f.ratValue r) : productOf f fpscr none false a b 0#32 = .ok (.done r 0#32) := by
  rw [← Exact.toRat_mul] at h
  simp only [productOf, ha, hb, Bool.and_false, Bool.false_and, Bool.or_self, Bool.false_eq_true, if_false, checkRange_ok hq, bind, Except.bind]
  exact congrArg Except.ok (deliverOrZero_exact hr hfits h fpscr _)

end

/-- Normal operands pass steps 1 and 2. -/
theorem nanInputs_pass {f : Format} {xs : List Operand} (h : ∀ x ∈ xs, x.isNan f = false) (fpscr : Word) (every : Bool) :
    nanInputs f fpscr every xs = .ok none := by
  have hany : xs.any (·.isNan f) = false := List.any_eq_false.mpr fun x hx => by simp [h x hx]
  rw [nanInputs, hany]
  rfl

section

variable {f : Format} {fpscr : Word} {r a b : DWord} (hq : RunFastMode fpscr) (hr : f.isNormal r) (hfits : f.Fits r)
  (ha : f.isNormal a) (hb : f.isNormal b)
include hq hr hfits ha hb

theorem addOp_exact (h : f.ratValue a + f.ratValue b = f.ratValue r) : addOp f false fpscr a b = .done r 0#32 := by
  rw [← Format.toRat_value ha, ← Format.toRat_value hb] at h
  have hnan := nanInputs_pass (f := f) (xs := [f.unpack a, f.unpack b]) (by simp [ha.notNan, hb.notNan]) fpscr false
  simp only [addOp, flushInputs_pass ha.notSubnormal hb.notSubnormal, bind, Except.bind, hnan, Bool.false_eq_true, if_false,
    sumOf_exact hq hr hfits ha.notInf hb.notInf h]
  rfl

theorem subOp_exact (h : f.ratValue a - f.ratValue b = f.ratValue r) : addOp f true fpscr a b = .done r 0#32 := by
  rw [← Format.toRat_value ha, ← Format.toRat_value hb, sub_eq_add_neg, ← toRat_negate] at h
  have hnan := nanInputs_pass (f := f) (xs := [f.unpack a, f.unpack b]) (by simp [ha.notNan, hb.notNan]) fpscr false
  simp only [addOp, flushInputs_pass ha.notSubnormal hb.notSubnormal, bind, Except.bind, hnan, if_true,
    sumOf_exact hq hr hfits ha.notInf (b := (f.unpack b).negate) hb.notInf h]
  rfl

theorem mulOp_exact (h : f.ratValue a * f.ratValue b = f.ratValue r) : mulOp f fpscr a b = .done r 0#32 := by
  rw [← Format.toRat_value ha, ← Format.toRat_value hb] at h
  have hnan := nanInputs_pass (f := f) (xs := [f.unpack a, f.unpack b]) (by simp [ha.notNan, hb.notNan]) fpscr false
  simp only [mulOp, fpProduct, flushInputs_pass ha.notSubnormal hb.notSubnormal, bind, Except.bind, hnan,
    productOf_exact hq hr hfits ha.notInf hb.notInf h]
  rfl

end

/-! ### Quotients (49:R1148) -/

theorem Format.value_mant {f : Format} {v : DWord} (h : f.isNormal v) : ((f.unpack v).value f).mant = f.significand v := by
  have hb : (f.unpack v).biased ≠ 0 := by have := h.1; omega
  simp only [Operand.value, if_neg hb]
  rfl

theorem Format.value_exp {f : Format} {v : DWord} (h : f.isNormal v) : ((f.unpack v).value f).exp = f.lastExp v := by
  have hexp : (((f.unpack v).biased - 1 : Nat) : Int) = (f.unpack v).biased - 1 := by have := h.1; omega
  simp only [Operand.value, hexp]
  rfl

theorem Format.significand_lt (f : Format) (v : DWord) : f.significand v < 2 ^ (f.frac + 1) := by
  have := f.frac_lt v
  rw [Format.significand, pow_succ]
  omega

theorem Format.le_significand (f : Format) (v : DWord) : 2 ^ f.frac ≤ f.significand v := Nat.le_add_right _ _

/-- The dividend of an exact quotient is a multiple of the divisor. -/
theorem quotient_shift {f : Format} (hf : 2 ≤ f.frac) {a b r : DWord} {e u : Int}
    (h : (f.significand a : ℚ) * 2 ^ e = f.significand r * f.significand b * 2 ^ u) :
    ∃ k ≤ f.frac + 1, e - u = k ∧ f.significand a * 2 ^ k = f.significand r * f.significand b := by
  have hcast : (f.significand a : ℚ) * 2 ^ e = (f.significand r * f.significand b : Nat) * 2 ^ u := by
    push_cast
    exact h
  have hmin : 2 ^ (f.frac + f.frac) ≤ f.significand r * f.significand b := by
    rw [pow_add]
    exact Nat.mul_le_mul (f.le_significand r) (f.le_significand b)
  have hmax : f.significand r * f.significand b < 2 ^ (f.frac + 1 + (f.frac + 1)) := by
    rw [pow_add]
    exact Nat.mul_lt_mul'' (f.significand_lt r) (f.significand_lt b)
  have hue : u ≤ e := by
    by_contra hlt
    have hshift := mant_shift hcast (by omega)
    have hle : f.significand r * f.significand b ≤ f.significand a := by
      rw [hshift]
      exact Nat.le_mul_of_pos_right _ (by positivity)
    have := hmin.trans (hle.trans (f.significand_lt a).le)
    have := (Nat.pow_le_pow_iff_right (by decide : 1 < 2)).mp this
    omega
  have hshift := mant_shift hcast.symm hue
  refine ⟨(e - u).toNat, ?_, by omega, hshift.symm⟩
  have hlow : 2 ^ (f.frac + (e - u).toNat) ≤ f.significand r * f.significand b := by
    rw [hshift, pow_add]
    exact Nat.mul_le_mul_right _ (f.le_significand a)
  have := (Nat.pow_lt_pow_iff_right (by decide : 1 < 2)).mp (hlow.trans_lt hmax)
  omega

/-- The dividend as the product of the quotient and the divisor. -/
theorem dividend_eq {f : Format} {a b r : DWord} (h : f.ratValue a = f.ratValue r * f.ratValue b) :
    ((f.unpack r).neg != (f.unpack b).neg) = (f.unpack a).neg ∧
      (f.significand a : ℚ) * 2 ^ f.lastExp a = f.significand r * f.significand b * 2 ^ (f.lastExp r + f.lastExp b) := by
  have hproduct := Exact.toRat_mul ⟨(f.unpack r).neg, f.significand r, f.lastExp r⟩ ⟨(f.unpack b).neg, f.significand b, f.lastExp b⟩
  have hvalue (v : DWord) : Exact.toRat ⟨(f.unpack v).neg, f.significand v, f.lastExp v⟩ = f.ratValue v := (f.ratValue_eq v).symm
  rw [hvalue, hvalue, ← h] at hproduct
  obtain ⟨hneg, hmag⟩ := Exact.same_value hproduct
  refine ⟨hneg, ?_⟩
  push_cast at hmag
  exact hmag.symm

theorem quotient_exact {f : Format} (hf : 2 ≤ f.frac) {a b r : DWord} (ha : f.isNormal a) (hb : f.isNormal b)
    (h : f.ratValue a / f.ratValue b = f.ratValue r) :
    (Exact.quotient f ((f.unpack a).neg != (f.unpack b).neg) ((f.unpack a).value f) ((f.unpack b).value f)).toRat = f.ratValue r := by
  obtain ⟨hneg, hmag⟩ := dividend_eq ((div_eq_iff f.ratValue_ne_zero).mp h)
  obtain ⟨k, hk, hexp, hmul⟩ := quotient_shift hf hmag
  have hsign : ((f.unpack a).neg != (f.unpack b).neg) = (f.unpack r).neg := by
    rw [← hneg]
    cases (f.unpack r).neg <;> cases (f.unpack b).neg <;> rfl
  have hn : f.significand a * 2 ^ (f.frac + 4) = f.significand r * 2 ^ (f.frac + 4 - k) * f.significand b := by
    have hpow : (2 : Nat) ^ (f.frac + 4) = 2 ^ k * 2 ^ (f.frac + 4 - k) := by rw [← pow_add, Nat.add_sub_cancel' (by omega)]
    rw [hpow, ← Nat.mul_assoc, hmul]
    ring
  have hpow : (2 : ℚ) ^ f.lastExp r = 2 * 2 ^ (f.frac + 4 - k) * 2 ^ (f.lastExp a - f.lastExp b - (f.frac + 4 + 1 : Nat)) := by
    rw [← zpow_natCast, ← zpow_one_add₀ two_ne_zero, ← zpow_add₀ two_ne_zero]
    congr 1
    omega
  simp only [Exact.quotient, Format.value_mant ha, Format.value_mant hb, Format.value_exp ha, Format.value_exp hb, hn,
    Nat.mul_div_cancel _ (f.significand_pos b), Nat.mul_mod_left, if_true, Exact.toRat, hsign, Format.ratValue_eq, hpow]
  push_cast
  ring

theorem divOp_exact {f : Format} (hf : 2 ≤ f.frac) {fpscr : Word} {r a b : DWord} (hq : RunFastMode fpscr) (hr : f.isNormal r)
    (hfits : f.Fits r) (ha : f.isNormal a) (hb : f.isNormal b) (h : f.ratValue a / f.ratValue b = f.ratValue r) :
    divOp f fpscr a b = .done r 0#32 := by
  have hnan := nanInputs_pass (f := f) (xs := [f.unpack a, f.unpack b]) (by simp [ha.notNan, hb.notNan]) fpscr false
  simp only [divOp, flushInputs_pass ha.notSubnormal hb.notSubnormal, bind, Except.bind, hnan, ha.notZero, ha.notInf, hb.notZero, hb.notInf,
    Bool.and_self, Bool.or_self, Bool.false_and, Bool.false_eq_true, if_false, checkRange_ok hq,
    deliver_exact hr hfits (quotient_exact hf ha hb h)]
  rfl

/-! ### Roots (49:R1149) -/

/-- The integer square root, from a lower bound with `k` bits to decide. -/
theorem isqrtFrom_spec (n k : Nat) {root : Nat} (hlow : root * root ≤ n) (hhigh : n < (root + 2 ^ k) * (root + 2 ^ k)) :
    isqrtFrom n k root * isqrtFrom n k root ≤ n ∧ n < (isqrtFrom n k root + 1) * (isqrtFrom n k root + 1) := by
  induction k generalizing root with
  | zero => exact ⟨hlow, hhigh⟩
  | succ k ih =>
    rw [isqrtFrom]
    split
    next hle =>
      refine ih hle ?_
      rw [pow_succ, Nat.mul_two, ← Nat.add_assoc] at hhigh
      exact hhigh
    next hgt => exact ih hlow (by omega)

theorem isqrt_mul_self (m : Nat) : isqrt (m * m) = m := by
  have hhigh : m * m < 2 ^ ((m * m).log2 / 2 + 1) * 2 ^ ((m * m).log2 / 2 + 1) := by
    rw [← pow_add]
    exact Nat.lt_log2_self.trans_le (Nat.pow_le_pow_right (by decide) (by omega))
  obtain ⟨hle, hlt⟩ := isqrtFrom_spec (m * m) ((m * m).log2 / 2 + 1) (root := 0) (by omega) (by simpa using hhigh)
  exact le_antisymm (Nat.mul_self_le_mul_self_iff.mp hle) (Nat.lt_succ_iff.mp (Nat.mul_self_lt_mul_self_iff.mp hlt))

/-- The radicand of an exact root, with `2 * k` more bits, is the square of the root's significand at some exponent. -/
theorem radicand_shift {f : Format} {b r : DWord} {k o : Nat} {half u : Int} (hk : f.frac + 3 ≤ k)
    (h : (f.significand b : ℚ) * 2 ^ (2 * half + o) = f.significand r * f.significand r * 2 ^ (u + u)) :
    ∃ j : Nat, u = half - k + j ∧ f.significand b * 2 ^ (2 * k + o) = f.significand r * 2 ^ j * (f.significand r * 2 ^ j) := by
  have hcast : ((f.significand b * 2 ^ (2 * k + o) : Nat) : ℚ) * 2 ^ (2 * half - 2 * k) = (f.significand r * f.significand r : Nat) * 2 ^ (u + u) := by
    push_cast
    rw [← h, mul_assoc, ← zpow_natCast, ← zpow_add₀ two_ne_zero]
    congr 2
    push_cast
    ring
  have hmax : f.significand r * f.significand r < 2 ^ (f.frac + 1 + (f.frac + 1)) := by
    rw [pow_add]
    exact Nat.mul_lt_mul'' (f.significand_lt r) (f.significand_lt r)
  have hu : half - k ≤ u := by
    by_contra hlt
    have hshift := mant_shift hcast.symm (by omega)
    have hle : 2 ^ (f.frac + (2 * k + o)) ≤ f.significand r * f.significand r := by
      rw [hshift, pow_add]
      exact (Nat.mul_le_mul_right _ (f.le_significand b)).trans (Nat.le_mul_of_pos_right _ (by positivity))
    have := (Nat.pow_lt_pow_iff_right (by decide : 1 < 2)).mp (hle.trans_lt hmax)
    omega
  refine ⟨(u - half + k).toNat, by omega, ?_⟩
  rw [mant_shift hcast (by omega), show (u + u - (2 * half - 2 * k)).toNat = (u - half + k).toNat + (u - half + k).toNat by omega, pow_add]
  ring

theorem root_exact {f : Format} {b r : DWord} (hb : f.isNormal b) (hpos : 0 < f.ratValue r) (h : f.ratValue r * f.ratValue r = f.ratValue b) :
    (Exact.root f ((f.unpack b).value f)).toRat = f.ratValue r := by
  obtain ⟨-, hmag⟩ := dividend_eq h.symm
  have hneg : (f.unpack r).neg = false := by
    rw [Bool.eq_false_iff, ne_eq, ← Format.ratValue_neg_iff]
    exact hpos.le.not_gt
  obtain ⟨o, half, hexp, hodd, hhalf⟩ : ∃ (o : Nat) (half : Int), f.lastExp b = 2 * half + o ∧
      (if (f.lastExp b % 2 != 0) = true then 1 else 0) = o ∧
      (if (f.lastExp b % 2 != 0) = true then f.lastExp b - 1 else f.lastExp b) / 2 = half := by
    rcases Int.emod_two_eq_zero_or_one (f.lastExp b) with hm | hm
    · exact ⟨0, f.lastExp b / 2, by omega, by simp [hm], by simp [hm]⟩
    · exact ⟨1, f.lastExp b / 2, by omega, by simp [hm], by simp [hm]; omega⟩
  rw [hexp] at hmag
  obtain ⟨j, hj, hsquare⟩ := radicand_shift (Nat.le_refl _) hmag
  have hpow : (2 : ℚ) ^ f.lastExp r = 2 * 2 ^ j * 2 ^ (half - (f.frac + 3 + 1 : Nat)) := by
    rw [← zpow_natCast, ← zpow_one_add₀ two_ne_zero, ← zpow_add₀ two_ne_zero]
    congr 1
    omega
  simp only [Exact.root, Format.value_mant hb, Format.value_exp hb, hodd, hhalf, hsquare, isqrt_mul_self, if_true, Exact.toRat,
    Format.ratValue_eq, hneg, hpow]
  push_cast
  ring

theorem sqrtOp_exact {f : Format} {fpscr : Word} {r b : DWord} (hr : f.isNormal r) (hfits : f.Fits r) (hb : f.isNormal b)
    (hpos : 0 < f.ratValue r) (h : f.ratValue r * f.ratValue r = f.ratValue b) : sqrtOp f fpscr b = .done r 0#32 := by
  have hneg : (f.unpack b).neg = false := by
    rw [Bool.eq_false_iff, ne_eq, ← Format.ratValue_neg_iff, ← h, not_lt]
    positivity
  have hnan := nanInputs_pass (f := f) (xs := [f.unpack b]) (by simp [hb.notNan]) fpscr false
  simp only [sqrtOp, flushInput_pass hb.notSubnormal, bind, Except.bind, hnan, hb.notZero, hneg, hb.notInf, Bool.false_eq_true, if_false,
    deliver_exact hr hfits (root_exact hb hpos h)]
  rfl

/-! ### Instructions in RunFast mode -/

theorem RunFastMode.of_runFast {fpscr : Word} (h : runFast fpscr) : RunFastMode fpscr := by
  have hmask : 0x03009F00#32 = 0x03379F00#32 &&& 0x03009F00#32 := by decide
  unfold RunFastMode
  rw [hmask, ← BitVec.and_assoc, h]
  decide

theorem Format.fits_single {r : DWord} (h : r.toNat < 2 ^ 32) : single.Fits r := h

theorem Format.fits_double (r : DWord) : double.Fits r := r.isLt

section

variable {c : Cond} {s : State} (hc : condHolds c s.cpsr = true) (hs : s.vfpReady) (hrun : runFast s.vfp.fpscr)
include hc hs hrun

theorem vfpThree_done {f : Format} (base : Word) {op : FpOp} {fd fn fm : Nat} {v : DWord}
    (hop : op s.vfp.fpscr (s.fp f fd) (s.fp f fn) (s.fp f fm) = .done v 0#32) :
    finish (vfpThree c f base op fd fn fm s) = .next ((s.setFp f fd v).orFpscr 0#32).advance := by
  rw [vfpThree, vfpInstruction_ready hc hs (vfpNumber_cases f), preciseInexact_pass (.of_runFast hrun), iterations_runFast f hrun]
  simp only [bind_ok, iterate, hop]
  rfl

theorem vfpTwo_done {f : Format} (base : Word) {op : Word → DWord → FpOut} {fd fm : Nat} {v : DWord}
    (hop : op s.vfp.fpscr (s.fp f fm) = .done v 0#32) :
    finish (vfpTwo c f base op fd fm s) = .next ((s.setFp f fd v).orFpscr 0#32).advance :=
  vfpTwo_scalar hc hs (RunFastMode.of_runFast hrun).noInexactTrap (iterations_runFast f hrun ..) base hop

end

end Sys2Proof.Machine

open Sys2Proof Sys2Proof.Machine

/-- Settles O54: the exact result of each operation has the value of a normal number, which is what is delivered. -/
theorem vfpExactResults : Obligations.VfpExactResults := by
  intro c dBit nBit mBit fd fn fm r s hc hs hrun
  have hq := RunFastMode.of_runFast hrun
  have hsingle : 2 ≤ single.frac := by decide
  have hdouble : 2 ≤ double.frac := by decide
  have three {f base op fd fn fm v} := @vfpThree_done c s hc hs hrun f base op fd fn fm v
  have two {f base op fd fm v} := @vfpTwo_done c s hc hs hrun f base op fd fm v
  refine ⟨fun hr hlt hb => ?_, fun hr hb => ?_⟩
  · have hfits := Format.fits_single hlt
    have store (v : DWord) : ((s.setFp single (sReg fd dBit) v).orFpscr 0#32).advance = s.wroteS [(sNum fd dBit, v.setWidth 32)] 0#32 :=
      advance_setFp_single s fd dBit v 0#32
    rw [← store]
    exact ⟨fun ha => ⟨fun h => three (addOp_exact hq hr hfits ha hb h), fun h => three (subOp_exact hq hr hfits ha hb h),
      fun h => three (mulOp_exact hq hr hfits ha hb h), fun h => three (divOp_exact hsingle hq hr hfits ha hb h)⟩,
      fun hpos h => two (sqrtOp_exact hr hfits hb hpos h)⟩
  · have hfits := Format.fits_double r
    have store (v : DWord) : ((s.setFp double (dReg fd) v).orFpscr 0#32).advance = s.wroteS (dWords fd v) 0#32 :=
      advance_setFp_double s fd v 0#32
    rw [← store]
    exact ⟨fun ha => ⟨fun h => three (addOp_exact hq hr hfits ha hb h), fun h => three (subOp_exact hq hr hfits ha hb h),
      fun h => three (mulOp_exact hq hr hfits ha hb h), fun h => three (divOp_exact hdouble hq hr hfits ha hb h)⟩,
      fun hpos h => two (sqrtOp_exact hr hfits hb hpos h)⟩

end

section
/-! Loads and stores of the VFP11. -/

namespace Sys2Proof.Machine

open Sys2Proof

/-! ### One word and two words at any aligned address -/

theorem mva_low (s : State) (va : Word) : (s.mva va).toNat % 32 = va.toNat % 32 := by
  have hlow : (s.mva va).setWidth 5 = va.setWidth 5 := by
    unfold State.mva fcse
    split
    · have hmask : ∀ i < 5, (0xFE000000#32).getLsbD i = false := by decide
      apply BitVec.eq_of_getLsbD_eq
      intro i hi
      simp only [BitVec.getLsbD_setWidth, BitVec.getLsbD_or, BitVec.getLsbD_and, hmask i hi, Bool.and_false, Bool.false_or]
    · rfl
  simpa using congrArg BitVec.toNat hlow

theorem wordsStored_one {s t : State} {a v : Word} (h : bytesStored s t a (s.storeOrder 4 v)) : wordsStored s t [(a, v)] := by
  have hlen := length_storeOrder s 4 v
  simp only [bytesStored, hlen] at h
  simp only [wordsStored, List.mem_singleton, forall_eq]
  exact ⟨fun k hk => by rw [h, if_pos (by omega), Nat.add_sub_cancel_left], fun b hb => by rw [h, if_neg hb]⟩

theorem storeWords_one {s : State} (h : s.plainMemory) {va a : Word} (hx : checkAlignment .multiWord true va s = .ok a) (ha : a.toNat % 4 = 0)
    (v : Word) : ∃ t, storeWords .multiWord [v] va s = .ok t ∧ wordsStored s t [(a, v)] ∧ t = { s with mem := t.mem, stale := t.stale } := by
  obtain ⟨t, hstore, hbytes, hframe, -⟩ := storeWords_inLine h hx [v] (by unfold roomAt; simp; omega) (List.cons_ne_nil _ _)
  exact ⟨t, hstore, wordsStored_one (by simpa using hbytes), hframe⟩

/-- A word after a word, where they do not overlap. -/
theorem wordsStored_two {s t u : State} {a b v w : Word} (hmva : t.mva b = s.mva b)
    (hapart : (s.mva a).toNat + 4 ≤ (s.mva b).toNat ∨ (s.mva b).toNat + 4 ≤ (s.mva a).toNat)
    (hfirst : bytesStored s t a (s.storeOrder 4 v)) (hsecond : bytesStored t u b (s.storeOrder 4 w)) : wordsStored s u [(a, v), (b, w)] := by
  simp only [bytesStored, length_storeOrder] at hfirst
  simp only [bytesStored, length_storeOrder, hmva] at hsecond
  simp only [wordsStored, List.mem_cons, List.not_mem_nil, or_false, forall_eq_or_imp, forall_eq]
  refine ⟨⟨fun k hk => ?_, fun k hk => ?_⟩, fun x hx => ?_⟩
  · rw [hsecond, if_neg (by omega), hfirst, if_pos (by omega), Nat.add_sub_cancel_left]
  · rw [hsecond, if_pos (by omega), Nat.add_sub_cancel_left]
  · rw [hsecond, if_neg hx.2, hfirst, if_neg hx.1]

/-- Two words, in a line or over the end of one. -/
theorem storeWords_two {s : State} (h : s.plainMemory) {va a : Word} (hx : checkAlignment .multiWord true va s = .ok a) (ha : a.toNat % 4 = 0)
    (v w : Word) :
    ∃ t, storeWords .multiWord [v, w] va s = .ok t ∧ wordsStored s t [(a, v), (a + 4#32, w)] ∧ t = { s with mem := t.mem, stale := t.stale } := by
  by_cases hline : a.toNat % 32 + 4 < 32
  · obtain ⟨t, hstore, hbytes, hframe, -⟩ := storeWords_inLine h hx [v, w] (by simp only [roomAt, List.length_cons, List.length_nil]; omega)
      (List.cons_ne_nil _ _)
    exact ⟨t, hstore, wordsStored_pair hline (by simpa using hbytes), hframe⟩
  · have hlast : a.toNat % 32 = 28 := by omega
    have hnext : (a + 4#32).toNat % 32 = 0 := by simp only [BitVec.toNat_add, BitVec.toNat_ofNat]; omega
    have hroom : roomAt a = 4 := by unfold roomAt; omega
    have hd : disassemble s.bigEndian 4 = s.storeOrder 4 := funext fun w => by rw [bigEndian_plain h, disassemble_eq]
    obtain ⟨acc, hacc⟩ : ∃ acc, acc = { plainAccess s with unaligned := normalUnaligned s.unalignedOn .multiWord va, multiple := true } := ⟨_, rfl⟩
    obtain ⟨t, hpart, hfirst, hframe, hp⟩ := storePart_plain h acc (s.storeOrder 4 v) a
    obtain ⟨u, hpart', hsecond, hframe', hp'⟩ := storePart_plain hp acc (s.storeOrder 4 w) (a + 4#32)
    have hmva : t.mva (a + 4#32) = s.mva (a + 4#32) := by rw [hframe]; rfl
    have hlow := mva_low s a
    have hlow' := mva_low s (a + 4#32)
    have htake : (s.storeOrder 4 v ++ s.storeOrder 4 w).take 4 = s.storeOrder 4 v := List.take_left' (length_storeOrder s 4 v)
    have hdrop : (s.storeOrder 4 v ++ s.storeOrder 4 w).drop 4 = s.storeOrder 4 w := List.drop_left' (length_storeOrder s 4 v)
    have hsplit : storeBytes acc 2 (s.storeOrder 4 v ++ s.storeOrder 4 w) a s = .ok u := by
      rw [storeBytes, if_neg (by simp only [List.length_append, length_storeOrder]; omega), hroom]
      change (storePart acc ((s.storeOrder 4 v ++ s.storeOrder 4 w).take 4) a s >>= fun t =>
        storeBytes acc 1 ((s.storeOrder 4 v ++ s.storeOrder 4 w).drop 4) (a + 4#32) t) = _
      rw [htake, hdrop, hpart]
      exact (if_pos (by rw [length_storeOrder]; unfold roomAt; omega)).trans hpart'
    refine ⟨u, ?_, wordsStored_two hmva (by omega) hfirst hsecond, hframe'.trans (by rw [hframe])⟩
    simp only [storeWords, checkEndian_plain h, hx, bind, Except.bind, hd, List.flatMap_cons, List.flatMap_nil, List.append_nil,
      List.length_cons, List.length_nil, ← hacc, hsplit, traceAccess_plain hp', pure, Except.pure]

theorem wordsStored_swap {s t : State} {x y : Word × Word} (h : wordsStored s t [x, y]) : wordsStored s t [y, x] := by
  simp only [wordsStored, List.mem_cons, List.not_mem_nil, or_false, forall_eq_or_imp, forall_eq] at h ⊢
  exact ⟨h.1.symm, fun b hb => h.2 b hb.symm⟩

/-! ### Registers as words -/

/-- Where among the words of a block the word of the S register `k` places on lies: with CPSR.E the words of a double change places. -/
def wordSlot (dbl swap : Bool) (k : Nat) : Nat := if dbl && swap then (if k % 2 = 0 then k + 1 else k - 1) else k

theorem wordSlot_lt {dbl swap : Bool} {n k : Nat} (hn : dbl = true → n % 2 = 0) (hk : k < n) : wordSlot dbl swap k < n := by
  unfold wordSlot
  split
  next h =>
    have := hn (by simp_all)
    split <;> omega
  next => exact hk

theorem wordSlot_wordSlot (dbl swap : Bool) (k : Nat) : wordSlot dbl swap (wordSlot dbl swap k) = k := by
  unfold wordSlot
  split
  · split <;> split <;> omega
  · rfl

theorem wordSlot_add_two (swap : Bool) (k : Nat) : wordSlot true swap (k + 1 + 1) = wordSlot true swap k + 2 := by
  cases swap
  · rfl
  · simp only [wordSlot, Bool.and_self, if_true]
    split <;> split <;> omega

@[simp] theorem State.sr_setSr (s : State) (r : Nat) (v : Word) : (s.setSr r v).sr r = v := by simp [State.sr, State.setSr]

theorem State.sr_setSr_of_ne (s : State) {r q : Nat} (hr : r < 32) (hq : q < 32) (h : r ≠ q) (v : Word) : (s.setSr r v).sr q = s.sr q :=
  set_getElem_of_ne _ _ fun heq => h (by
    have hval := congrArg Fin.val heq
    rwa [Fin.val_ofNat, Fin.val_ofNat, Nat.mod_eq_of_lt hr, Nat.mod_eq_of_lt hq] at hval)

/-- `t` is `s` with the `n` S registers from `first` on filled by `g`. -/
structure FilledSr (s t : State) (first n : Nat) (g : Nat → Word) : Prop where
  filled : ∀ k < n, t.sr (first + k) = g k
  kept : ∀ r < 32, (r < first ∨ first + n ≤ r) → t.sr r = s.sr r
  frame : t = { s with vfp := { s.vfp with regs := t.vfp.regs } }

theorem FilledSr.none (s : State) (first : Nat) (g : Nat → Word) : FilledSr s s first 0 g := ⟨by simp, fun _ _ _ => rfl, rfl⟩

/-- One more register before the others. -/
theorem FilledSr.cons {s t : State} {first n : Nat} {g : Nat → Word} (hn : first + (n + 1) ≤ 32)
    (h : FilledSr (s.setSr first (g 0)) t (first + 1) n fun k => g (k + 1)) : FilledSr s t first (n + 1) g := by
  obtain ⟨hfilled, hkept, hframe⟩ := h
  refine ⟨fun k hk => ?_, fun r hr hout => ?_, by rw [hframe]; rfl⟩
  · cases k with
    | zero => rw [Nat.add_zero, hkept first (by omega) (.inl (by omega)), State.sr_setSr]
    | succ k => rw [show first + (k + 1) = first + 1 + k by omega, hfilled k (by omega)]
  · rw [hkept r hr (by omega), State.sr_setSr_of_ne s (by omega) hr (by omega)]

theorem map_range_succ {α : Type} (n : Nat) (g : Nat → α) : (List.range (n + 1)).map g = g 0 :: (List.range n).map fun k => g (k + 1) := by
  rw [List.range_succ_eq_map, List.map_cons, List.map_map]
  rfl

theorem setSingles_filled (n : Nat) {fd : Nat} (hn : fd + n ≤ 32) (g : Nat → Word) (s : State) :
    FilledSr s (s.setSingles ((List.range n).map (fd + ·)) ((List.range n).map g)) fd n g := by
  induction n generalizing fd g s with
  | zero => exact .none s fd g
  | succ n ih =>
    rw [map_range_succ, map_range_succ]
    have hrest := ih (fd := fd + 1) (by omega) (fun k => g (k + 1)) (s.setSr fd (g 0))
    simp only [Nat.add_right_comm fd 1, Nat.add_assoc fd _ 1] at hrest
    exact .cons hn hrest

/-- Filling doubles fills S registers with the words, in the order of the words of a double. -/
theorem setDoubles_filled (big : Bool) (n : Nat) {fd : Nat} (hn : 2 * fd + 2 * n ≤ 32) (g : Nat → Word) (s : State) :
    FilledSr s (s.setDoubles big ((List.range n).map (fd + ·)) ((List.range (2 * n)).map g)) (2 * fd) (2 * n) fun k => g (wordSlot true big k) := by
  induction n generalizing fd g s with
  | zero => exact .none s _ _
  | succ n ih =>
    have hrest := ih (fd := fd + 1) (by omega) (fun k => g (k + 2))
      ((s.setSr (2 * fd) (if big then g 1 else g 0)).setSr (2 * fd + 1) (if big then g 0 else g 1))
    simp only [Nat.add_right_comm fd 1, Nat.add_assoc fd _ 1] at hrest
    rw [Nat.mul_succ, map_range_succ, map_range_succ, map_range_succ]
    have hslot (k : Nat) : wordSlot true big (k + 1 + 1) = wordSlot true big k + 2 := wordSlot_add_two big k
    have hlow : g (wordSlot true big 0) = if big then g 1 else g 0 := by cases big <;> rfl
    have hhigh : g (wordSlot true big (0 + 1)) = if big then g 0 else g 1 := by cases big <;> rfl
    refine FilledSr.cons (by omega) (FilledSr.cons (by omega) ?_)
    simp only [hlow, hhigh, hslot]
    exact hrest

/-! ### The two layouts -/

/-- How the registers of a format lie in S registers and in words. -/
structure Layout (f : Format) (dbl : Bool) (unit : Nat) : Prop where
  unit_eq : unit = if dbl then 2 else 1
  count : ∀ regs, vfpWordCount f regs = unit * regs.length
  fills : ∀ (s : State) (n fd : Nat) (g : Nat → Word), unit * fd + unit * n ≤ 32 →
    FilledSr s (s.fillVfp f ((List.range n).map (fd + ·)) ((List.range (unit * n)).map g)) (unit * fd) (unit * n)
      fun k => g (wordSlot dbl s.bigEndian k)
  words : ∀ (s : State) (n fd : Nat), vfpWords s f ((List.range n).map (fd + ·)) =
    (List.range (unit * n)).map fun k => s.sr (unit * fd + wordSlot dbl s.bigEndian k)
  file : unit * vfpFileSize f = 32

theorem layout_single : Layout single false 1 where
  unit_eq := rfl
  count regs := by rw [Nat.one_mul]; rfl
  fills s n fd g hn := by
    rw [Nat.one_mul, Nat.one_mul] at *
    exact setSingles_filled n hn g s
  words s n fd := by
    rw [Nat.one_mul, Nat.one_mul]
    exact List.map_map
  file := rfl

theorem doubleWords (s : State) (big : Bool) (n : Nat) (fd : Nat) :
    ((List.range n).map (fd + ·)).flatMap (fun r => if big then [s.sr (2 * r + 1), s.sr (2 * r)] else [s.sr (2 * r), s.sr (2 * r + 1)]) =
      (List.range (2 * n)).map fun k => s.sr (2 * fd + wordSlot true big k) := by
  induction n generalizing fd with
  | zero => rfl
  | succ n ih =>
    have hrest := ih (fd + 1)
    simp only [Nat.add_right_comm fd 1, Nat.add_assoc fd _ 1] at hrest
    rw [Nat.mul_succ, map_range_succ, map_range_succ, map_range_succ, List.flatMap_cons, hrest]
    have hnext (x : Nat) : 2 * fd + (x + 2) = 2 * (fd + 1) + x := by omega
    simp only [wordSlot_add_two, hnext]
    cases big <;> rfl

theorem layout_double : Layout double true 2 where
  unit_eq := rfl
  count regs := rfl
  fills s n fd g hn := setDoubles_filled s.bigEndian n hn g s
  words s n fd := doubleWords s s.bigEndian n fd
  file := rfl

/-! ### Blocks -/

/-- The registers after the base update of a block. -/
def State.blockBase (s : State) (up w : Bool) (rn : Reg) (bytes : Word) : Vector Word 32 :=
  if w then s.regs.set (bankedReg s.mode rn) (offsetAddress up (s.reg rn) bytes) else s.regs

theorem writeBase_block (up w : Bool) (rn : Reg) (off8 : BitVec 8) {s t : State} (hm : t.mode = s.mode) (hr : t.regs = s.regs) :
    writeBase t rn (vfpBlockBase up w (s.reg rn) off8) = { t with regs := s.blockBase up w rn (off8.setWidth 32 <<< 2) } := by
  cases w
  · exact congrArg (fun r : Vector Word 32 => { t with regs := r }) hr
  · refine (congrArg (fun r : Vector Word 32 => { t with regs := r }) ?_ : t.setReg rn _ = _)
    rw [hm, hr]
    rfl

theorem aligned_vfpBlockStart (up : Bool) {base : Word} (h : base.toNat % 4 = 0) (off8 : BitVec 8) :
    (vfpBlockStart up base off8).toNat % 4 = 0 := by
  cases up
  · have hbytes : (off8.setWidth 32 <<< 2 : Word).toNat % 4 = 0 := by
      simp only [BitVec.toNat_shiftLeft, BitVec.toNat_setWidth, Nat.shiftLeft_eq]
      omega
    change (base - off8.setWidth 32 <<< 2).toNat % 4 = 0
    rw [BitVec.toNat_sub]
    omega
  · exact h

/-- Where the word of the S register `k` places on lies. -/
def State.vfpSlot (s : State) (dbl : Bool) (start : Word) (k : Nat) : Word := start + BitVec.ofNat 32 (4 * wordSlot dbl (bit s.cpsr 9) k)

section

variable {c : Cond} {s : State} (hc : condHolds c s.cpsr = true) (hs : s.vfpReady) {f : Format} {dbl : Bool} {unit : Nat} (hf : Layout f dbl unit)
  {up w : Bool} {rn : Reg} {fd : Nat} {off8 : BitVec 8} {first n : Nat} (hfirst : first = unit * fd) (hn : n = unit * vfpCount f off8)

include hf hfirst hn in
theorem vfpList_bad_iff : (vfpCount f off8 == 0 || decide (vfpFileSize f < fd + vfpCount f off8)) = true ↔ n = 0 ∨ 32 < first + n := by
  have hunit := hf.unit_eq
  have hfile := hf.file
  rw [Bool.or_eq_true, beq_iff_eq, decide_eq_true_iff]
  cases dbl
  · rw [if_neg Bool.false_ne_true] at hunit
    subst hunit
    omega
  · rw [if_pos rfl] at hunit
    subst hunit
    omega

include hf hfirst hn in
theorem vfpList_refused (h : n = 0 ∨ 32 < first + n) : vfpList f fd off8 = .error (.refuse .vfpRegisters) := by
  rw [vfpList, (vfpList_bad_iff hf hfirst hn).mpr h]
  rfl

include hf hfirst hn in
theorem vfpList_eq (h0 : 0 < n) (h32 : first + n ≤ 32) : vfpList f fd off8 = .ok ((List.range (vfpCount f off8)).map (fd + ·)) := by
  have hgood := (vfpList_bad_iff hf hfirst hn).not.mpr (by omega)
  rw [vfpList, Bool.eq_false_iff.mpr hgood]
  rfl

include hc hs in
theorem vfpLoadMany_writeback (h : w = true ∧ rn = 15#4) : finish (vfpLoadMany c f up w rn fd off8 s) = .refused .writeback := by
  obtain ⟨rfl, rfl⟩ := h
  exact refused_vfpInstruction hc hs (vfpNumber_cases f) rfl

include hc hs in
theorem vfpStoreMany_writeback (h : w = true ∧ rn = 15#4) : finish (vfpStoreMany c f up w rn fd off8 s) = .refused .writeback := by
  obtain ⟨rfl, rfl⟩ := h
  exact refused_vfpInstruction hc hs (vfpNumber_cases f) rfl

include hc hs hf hfirst hn in
theorem vfpLoadMany_refused (hw : w = true → rn ≠ 15#4) (h : n = 0 ∨ 32 < first + n) :
    finish (vfpLoadMany c f up w rn fd off8 s) = .refused .vfpRegisters :=
  refused_vfpInstruction hc hs (vfpNumber_cases f) (by
    rw [writeback_pass hw, vfpList_refused hf hfirst hn h]
    rfl)

include hc hs hf hfirst hn in
theorem vfpStoreMany_refused (hw : w = true → rn ≠ 15#4) (h : n = 0 ∨ 32 < first + n) :
    finish (vfpStoreMany c f up w rn fd off8 s) = .refused .vfpRegisters :=
  refused_vfpInstruction hc hs (vfpNumber_cases f) (by
    rw [writeback_pass hw, vfpList_refused hf hfirst hn h]
    rfl)

include hc hs hf hfirst hn in
theorem vfpLoadMany_loads (hw : w = true → rn ≠ 15#4) (h0 : 0 < n) (h32 : first + n ≤ 32) (h : s.plainMemory)
    (ha : (s.reg rn).toNat % 4 = 0) :
    ∃ t, finish (vfpLoadMany c f up w rn fd off8 s) = .next t ∧
      (∀ k < n, t.sr (first + k) = s.memWord (s.vfpSlot dbl (vfpBlockStart up (s.reg rn) off8) k)) ∧
      (∀ j : SingleReg, (j.val < first ∨ first + n ≤ j.val) → t.vfp.regs[j] = s.vfp.regs[j]) ∧
      t = { s.stepped with vfp := { s.vfp with regs := t.vfp.regs }, regs := s.blockBase up w rn (off8.setWidth 32 <<< 2) } := by
  have hfill := hf.fills s (vfpCount f off8) fd
    (fun k => s.memWord (vfpBlockStart up (s.reg rn) off8 + BitVec.ofNat 32 (4 * k))) (by omega)
  rw [← hn, ← hfirst] at hfill
  obtain ⟨t, ht⟩ : ∃ t, t = s.fillVfp f ((List.range (vfpCount f off8)).map (fd + ·))
    ((List.range n).map fun k => s.memWord (vfpBlockStart up (s.reg rn) off8 + BitVec.ofNat 32 (4 * k))) := ⟨_, rfl⟩
  rw [← ht] at hfill
  obtain ⟨hfilled, hkept, hframe⟩ := hfill
  have hcount : vfpWordCount f ((List.range (vfpCount f off8)).map (fd + ·)) = n := by
    rw [hf.count, List.length_map, List.length_range, hn]
  refine ⟨({ t with regs := s.blockBase up w rn (off8.setWidth 32 <<< 2) } : State).stepped, ?_, fun k hk => ?_, fun j hj => ?_, by rw [hframe]; rfl⟩
  · refine finish_vfpInstruction hc hs (vfpNumber_cases f) ?_
    rw [writeback_pass hw, vfpList_eq hf hfirst hn h0 h32]
    change vfpLoad f _ _ rn _ s = _
    rw [vfpLoad, hcount, loadWords_plain h false n (aligned_vfpBlockStart up ha off8)]
    change Except.ok (writeBase (s.fillVfp f _ _) rn _).advance = _
    rw [← ht, writeBase_block up w rn off8 (by rw [hframe]; rfl) (by rw [hframe]), State.advance_eq_stepped]
  · exact (hfilled k hk).trans (by rw [State.vfpSlot, bigEndian_plain h])
  · have hj' := hkept j.val j.isLt hj
    simp only [State.sr, Fin.ofNat_val_eq_self] at hj'
    exact hj'

include hc hs hf hfirst hn in
theorem vfpStoreMany_stores (hw : w = true → rn ≠ 15#4) (h0 : 0 < n) (h32 : first + n ≤ 32) (h : s.plainMemory)
    (hpid : (s.cp15.bank s.nsState).fcse = 0#32) (ha : (s.reg rn).toNat % 4 = 0) :
    ∃ t, finish (vfpStoreMany c f up w rn fd off8 s) = .next t ∧
      wordsStored s t ((List.range n).map fun k => (s.vfpSlot dbl (vfpBlockStart up (s.reg rn) off8) k, s.sr (first + k))) ∧
      t = { s.stepped with mem := t.mem, stale := t.stale, regs := s.blockBase up w rn (off8.setWidth 32 <<< 2) } := by
  have hstart := aligned_vfpBlockStart up ha off8
  obtain ⟨start, hstart_eq⟩ : ∃ start, start = vfpBlockStart up (s.reg rn) off8 := ⟨_, rfl⟩
  rw [← hstart_eq] at hstart ⊢
  have hwords := hf.words s (vfpCount f off8) fd
  rw [← hn, ← hfirst, bigEndian_plain h] at hwords
  have hlen : ((List.range n).map fun k => s.sr (first + wordSlot dbl (bit s.cpsr 9) k)).length = n := by rw [List.length_map, List.length_range]
  obtain ⟨t, hstore, hbytes, hrest, hframe, -⟩ := storeWords_of_checked h hpid
    ((List.range n).map fun k => s.sr (first + wordSlot dbl (bit s.cpsr 9) k)) (checkAlignment_of_aligned (t := .multiWord) hstart true s) hstart
    (by omega)
  rw [hlen] at hrest
  have heven : dbl = true → n % 2 = 0 := fun hd => by
    have hunit := hf.unit_eq
    rw [if_pos hd] at hunit
    subst hunit
    omega
  refine ⟨({ t with regs := s.blockBase up w rn (off8.setWidth 32 <<< 2) } : State).stepped, ?_, ⟨fun x hx k hk => ?_, fun b hb => ?_⟩,
    by rw [hframe]; rfl⟩
  · refine finish_vfpInstruction hc hs (vfpNumber_cases f) ?_
    rw [writeback_pass hw, vfpList_eq hf hfirst hn h0 h32, ← hstart_eq]
    change vfpStore f _ _ rn _ s = _
    rw [vfpStore, hwords, hstore]
    change Except.ok (writeBase t rn _).advance = _
    rw [writeBase_block up w rn off8 (by rw [hframe]; rfl) (by rw [hframe]), State.advance_eq_stepped]
  · obtain ⟨j, hj, rfl⟩ := List.mem_map.mp hx
    have hj := List.mem_range.mp hj
    have hword := hbytes (wordSlot dbl (bit s.cpsr 9) j) (lt_of_lt_of_eq (wordSlot_lt heven hj) hlen.symm) k hk
    rw [List.getElem_map, List.getElem_range, wordSlot_wordSlot] at hword
    rw [mva_of_pid_zero hpid]
    exact hword
  · refine hrest b fun k hk hin => hb _ (List.mem_map.mpr ⟨wordSlot dbl (bit s.cpsr 9) k, List.mem_range.mpr (wordSlot_lt heven hk), rfl⟩) ?_
    rw [mva_of_pid_zero hpid, State.vfpSlot, wordSlot_wordSlot]
    exact hin

end

/-! ### One register -/

section

variable {c : Cond} {s : State} (hc : condHolds c s.cpsr = true) (hs : s.vfpReady) (h : s.plainMemory) {u : Bool} {rn : Reg} {fd : Nat}
  {off8 : BitVec 8} (ha : (vfpAddress u rn off8 s).toNat % 4 = 0)
include hc hs h ha

theorem vfpLoadOne_single :
    finish (vfpLoadOne c single u rn fd off8 s) = .next (s.wroteS [(Fin.ofNat 32 fd, s.memWord (vfpAddress u rn off8 s))] 0#32) := by
  refine finish_vfpInstruction hc hs (vfpNumber_cases single) ?_
  rw [vfpLoad, loadWords_plain h false _ ha, ← advance_setSr]
  change Except.ok (s.setSr fd (s.memWord (vfpAddress u rn off8 s + 0#32))).advance = _
  rw [BitVec.add_zero]

theorem vfpLoadOne_double :
    finish (vfpLoadOne c double u rn fd off8 s) = .next (s.wroteS
      [(Fin.ofNat 32 (2 * fd), s.memWord (if bit s.cpsr 9 then vfpAddress u rn off8 s + 4#32 else vfpAddress u rn off8 s)),
        (Fin.ofNat 32 (2 * fd + 1), s.memWord (if bit s.cpsr 9 then vfpAddress u rn off8 s else vfpAddress u rn off8 s + 4#32))] 0#32) := by
  refine finish_vfpInstruction hc hs (vfpNumber_cases double) ?_
  rw [vfpLoad, loadWords_plain h false _ ha, ← advance_setSr_two]
  change Except.ok (s.setDoubles s.bigEndian [fd] [s.memWord (vfpAddress u rn off8 s + 0#32), s.memWord (vfpAddress u rn off8 s + 4#32)]).advance = _
  rw [BitVec.add_zero, bigEndian_plain h]
  cases bit s.cpsr 9 <;> rfl

theorem vfpStoreOne_single :
    ∃ t, finish (vfpStoreOne c single u rn fd off8 s) = .next t ∧ wordsStored s t [(vfpAddress u rn off8 s, s.sr fd)] ∧
      t = { s.stepped with mem := t.mem, stale := t.stale } := by
  obtain ⟨t, hstore, hwords, hframe⟩ := storeWords_one h (checkAlignment_of_aligned (t := .multiWord) ha true s) ha (s.sr fd)
  refine ⟨t.stepped, finish_vfpInstruction hc hs (vfpNumber_cases single) ?_, hwords, by rw [hframe]; rfl⟩
  change (storeWords .multiWord [s.sr fd] _ s >>= fun t => Except.ok t.advance) = _
  rw [hstore, bind_ok, State.advance_eq_stepped]

theorem vfpStoreOne_double :
    ∃ t, finish (vfpStoreOne c double u rn fd off8 s) = .next t ∧
      wordsStored s t [(if bit s.cpsr 9 then vfpAddress u rn off8 s + 4#32 else vfpAddress u rn off8 s, s.sr (2 * fd)),
        (if bit s.cpsr 9 then vfpAddress u rn off8 s else vfpAddress u rn off8 s + 4#32, s.sr (2 * fd + 1))] ∧
      t = { s.stepped with mem := t.mem, stale := t.stale } := by
  have hbig := bigEndian_plain h
  obtain ⟨t, hstore, hwords, hframe⟩ := storeWords_two h (checkAlignment_of_aligned (t := .multiWord) ha true s) ha
    (if s.bigEndian then s.sr (2 * fd + 1) else s.sr (2 * fd)) (if s.bigEndian then s.sr (2 * fd) else s.sr (2 * fd + 1))
  have hdouble : vfpWords s double [fd] =
      [if s.bigEndian then s.sr (2 * fd + 1) else s.sr (2 * fd), if s.bigEndian then s.sr (2 * fd) else s.sr (2 * fd + 1)] := by
    cases hb : s.bigEndian <;> simp [vfpWords, hb]
  refine ⟨t.stepped, finish_vfpInstruction hc hs (vfpNumber_cases double) ?_, ?_, by rw [hframe]; rfl⟩
  · rw [vfpStore, hdouble, hstore, bind_ok]
    exact congrArg Except.ok (State.advance_eq_stepped t)
  · rw [hbig] at hwords
    change wordsStored s t _
    cases hb : bit s.cpsr 9
    · simpa [hb] using hwords
    · exact wordsStored_swap (by simpa [hb] using hwords)

end

end Sys2Proof.Machine

open Sys2Proof Sys2Proof.Machine

/-- Settles O56: the words of a block lie at `wordSlot`, which is its own inverse, so that it says both where a load finds the word
of a register and which register a store puts at a place. -/
theorem vfpLoadsAndStores : Obligations.VfpLoadsAndStores := by
  unfold Obligations.VfpLoadsAndStores
  intro c u dBit rn fd off8 s hc hs bytes a swap down word singles doubles base load store f d
  have hf : f = 1 * sReg fd dBit := (sNum_val fd dBit).trans (Nat.one_mul _).symm
  have hd : d = 2 * dReg fd := Nat.mod_eq_of_lt (by have := fd.isLt; omega)
  have hsingles : singles = 1 * vfpCount single off8 := (Nat.one_mul _).symm
  have hdoubles : doubles = 2 * vfpCount double off8 := Nat.mul_comm _ _
  refine ⟨fun h ha => ?_, ?_⟩
  · exact ⟨vfpLoadOne_single hc hs h ha, vfpLoadOne_double hc hs h ha, vfpStoreOne_single hc hs h ha, vfpStoreOne_double hc hs h ha⟩
  · have loadSingles (i : Instr) (up w : Bool) (hi : exec i s = finish (vfpLoadMany c single up w rn (sReg fd dBit) off8 s)) :
        load i up w false f singles := by
      simp only [load, hi]
      exact ⟨vfpLoadMany_writeback hc hs, vfpLoadMany_refused hc hs layout_single hf hsingles, vfpLoadMany_loads hc hs layout_single hf hsingles⟩
    have loadDoubles (i : Instr) (up w : Bool) (hi : exec i s = finish (vfpLoadMany c double up w rn (dReg fd) off8 s)) :
        load i up w true d doubles := by
      simp only [load, hi]
      exact ⟨vfpLoadMany_writeback hc hs, vfpLoadMany_refused hc hs layout_double hd hdoubles, vfpLoadMany_loads hc hs layout_double hd hdoubles⟩
    have storeSingles (i : Instr) (up w : Bool) (hi : exec i s = finish (vfpStoreMany c single up w rn (sReg fd dBit) off8 s)) :
        store i up w false f singles := by
      simp only [store, hi]
      exact ⟨vfpStoreMany_writeback hc hs, vfpStoreMany_refused hc hs layout_single hf hsingles, vfpStoreMany_stores hc hs layout_single hf hsingles⟩
    have storeDoubles (i : Instr) (up w : Bool) (hi : exec i s = finish (vfpStoreMany c double up w rn (dReg fd) off8 s)) :
        store i up w true d doubles := by
      simp only [store, hi]
      exact ⟨vfpStoreMany_writeback hc hs, vfpStoreMany_refused hc hs layout_double hd hdoubles, vfpStoreMany_stores hc hs layout_double hd hdoubles⟩
    exact ⟨loadSingles _ true false rfl, loadDoubles _ true false rfl, loadSingles _ true true rfl, loadDoubles _ true true rfl,
      loadSingles _ false true rfl, loadDoubles _ false true rfl, storeSingles _ true false rfl, storeDoubles _ true false rfl,
      storeSingles _ true true rfl, storeDoubles _ true true rfl, storeSingles _ false true rfl, storeDoubles _ false true rfl⟩

end

section
/-! The DBGTAP. -/

namespace Sys2Proof.Machine

open Sys2Proof

/-- A clock that does not come to Run-Test/Idle does its action and moves. -/
theorem tapClock_of_ne_idle {tms tdi : Bool} {s t : State} (h : tapAction tdi s = .ok t) (hne : s.dbg.tap.state.next tms ≠ .runTestIdle) :
    tapClock tms tdi s = .ok (t.setTap { t.dbg.tap with state := s.dbg.tap.state.next tms }) := by
  rw [tapClock, h, bind_ok]
  simp only [hne, decide_false, Bool.false_and, Bool.false_eq_true, if_false]
  rfl

/-- A clock that comes to Run-Test/Idle starts what the instruction asks for. -/
theorem tapClock_of_idle {tms tdi : Bool} {s t : State} (h : tapAction tdi s = .ok t) (hidle : s.dbg.tap.state.next tms = .runTestIdle)
    (hbefore : s.dbg.tap.state ≠ .runTestIdle) :
    tapClock tms tdi s = enterIdle (t.setTap { t.dbg.tap with state := .runTestIdle }) := by
  rw [tapClock, h, bind_ok]
  have hne : (s.dbg.tap.state != .runTestIdle) = true := bne_iff_ne.mpr hbefore
  simp only [hidle, hne, decide_true, Bool.true_and, if_true]

theorem next_captureDr_ne (tms : Bool) : TapState.captureDr.next tms ≠ .runTestIdle := by cases tms <;> decide

theorem five_clocks_reset (x : TapState) : (((((x.next true).next true).next true).next true).next true) = .testLogicReset := by
  cases x <;> rfl

section

variable {s : State} {tms tdi : Bool}

theorem tapAction_captureDr (h : s.dbg.tap.state = .captureDr) : tapAction tdi s = captureDr s := by
  simp only [tapAction, h]

theorem tapAction_updateDr (h : s.dbg.tap.state = .updateDr) : tapAction tdi s = updateDr s := by
  simp only [tapAction, h]

theorem tapAction_updateIr (h : s.dbg.tap.state = .updateIr) : tapAction tdi s = .ok (s.setTap { s.dbg.tap with ir := s.dbg.tap.irShift }) := by
  simp only [tapAction, h]

theorem tapAction_testLogicReset (h : s.dbg.tap.state = .testLogicReset) :
    tapAction tdi s = .ok (s.setTap { Tap.reset with pending := s.dbg.tap.pending, reply := s.dbg.tap.reply }) := by
  simp only [tapAction, h]

theorem Tap.data_extest {t : Tap} (h : t.ir = 0b00000#5) : t.data = .chain t.screg.toNat true := by
  rw [Tap.data, Tap.instr, h]
  rfl

theorem Tap.data_intest {t : Tap} (h : t.ir = 0b01100#5) : t.data = .chain t.screg.toNat false := by
  rw [Tap.data, Tap.instr, h]
  rfl

theorem Tap.data_idCode {t : Tap} (h : t.ir = 0b11110#5) : t.data = .idCode := by
  rw [Tap.data, Tap.instr, h]
  rfl

theorem deviceId_arm1176 {p : Pins} (hv : p.dbgversion = 0#4) (hm : p.dbgmanid = 0x787#11) : deviceId p = 0x07B76F0F#32 := by
  rw [deviceId, hv, hm]
  rfl

theorem enterIdle_halt (h : s.dbg.tap.ir = 0b01000#5) : enterIdle s = .ok { s with dbg := { s.dbg with haltPending := true } } := by
  rw [enterIdle, Tap.instr, h]
  rfl

theorem enterIdle_restart (h : s.dbg.tap.ir = 0b00100#5) : enterIdle s = .ok (restartRequest s) := by
  rw [enterIdle, Tap.instr, h]
  rfl

theorem restartRequest_eq (s : State) : restartRequest s = { s with dbg := { s.dbg with
    dscr := if s.halted then s.dbg.dscr &&& 0xFFFFFFFD#32 else s.dbg.dscr } } := by
  rw [restartRequest]
  cases s.halted <;> rfl

theorem enterIdle_idCode (h : s.dbg.tap.ir = 0b11110#5) : enterIdle s = .ok s := by
  rw [enterIdle, Tap.instr, h]
  rfl

/-- Scan chain 5 with INTEST: the wDTR is read and is then empty. -/
theorem captureChain_wdtr (s : State) : captureChain 5 false s = .ok { s with dbg := { s.dbg with
    dscr := setBit s.dbg.dscr 29 false
    tap := { s.dbg.tap.load ((BitVec.ofBool (bit s.dbg.dscr 29) ++ BitVec.ofBool (instCompleted s) ++ s.dbg.wdtr : BitVec 34).setWidth 40) with
      ready := instCompleted s, nRetry := !bit s.dbg.dscr 30 } } } := rfl

theorem wdtrCapture_value (top ready : Bool) (w : Word) :
    ((BitVec.ofBool top ++ BitVec.ofBool ready ++ w : BitVec 34).setWidth 40).extractLsb' 0 32 = w := by
  apply BitVec.eq_of_getLsbD_eq
  intro i hi
  simp only [BitVec.getLsbD_extractLsb', BitVec.getLsbD_setWidth, BitVec.getLsbD_append, Nat.zero_add, hi, (by omega : i < 40), decide_true,
    Bool.true_and, cond_true, if_true]

theorem wdtrCapture_full (top ready : Bool) (w : Word) :
    ((BitVec.ofBool top ++ BitVec.ofBool ready ++ w : BitVec 34).setWidth 40).getLsbD 33 = top := by
  simp only [BitVec.getLsbD_setWidth, BitVec.getLsbD_append]
  cases top <;> cases ready <;> rfl

/-- Scan chain 5 with EXTEST: the rDTR is written where that is let through. -/
theorem updateChain_rdtr (s : State) : updateChain 5 true s = .ok (if rdtrWritable s then
    { s with dbg := { s.dbg with rdtr := s.dbg.tap.dr.setWidth 32, dscr := setBit s.dbg.dscr 30 true } } else s) := rfl

theorem captureDr_idCode (hir : s.dbg.tap.ir = 0b11110#5) (hv : s.pins.dbgversion = 0#4) (hm : s.pins.dbgmanid = 0x787#11) :
    captureDr s = .ok (s.setTap (s.dbg.tap.load ((0x07B76F0F#32).setWidth 40))) := by
  simp only [captureDr, Tap.data_idCode hir, deviceId_arm1176 hv hm]

theorem captureDr_wdtr (hir : s.dbg.tap.ir = 0b01100#5) (hscreg : s.dbg.tap.screg = 5#5) : captureDr s = captureChain 5 false s := by
  simp only [captureDr, Tap.data_intest hir, hscreg]
  rfl

theorem updateDr_rdtr (hir : s.dbg.tap.ir = 0b00000#5) (hscreg : s.dbg.tap.screg = 5#5) : updateDr s = updateChain 5 true s := by
  simp only [updateDr, Tap.data_extest hir, hscreg]
  rfl

/-- What a clock in Update-IR does on the way to Run-Test/Idle. -/
theorem tapClock_updateIr (h : s.dbg.tap.state = .updateIr) :
    tapClock false tdi s = enterIdle (s.setTap { s.dbg.tap with ir := s.dbg.tap.irShift, state := .runTestIdle }) := by
  refine tapClock_of_idle (tapAction_updateIr h) ?_ ?_
  · rw [h]; rfl
  · rw [h]; decide

end

end Sys2Proof.Machine

open Sys2Proof Sys2Proof.Machine

/-- Settles O50: one clock is the action of the state it is in, and then the arc. -/
theorem debuggerAccess : Obligations.DebuggerAccess := by
  unfold Obligations.DebuggerAccess
  intro tms tdi s t goes ends
  refine ⟨⟨_, rfl, rfl, rfl, rfl, rfl⟩, five_clocks_reset, fun hstate => ?_, fun hir hstate hv hm => ?_, ?_, ?_, ?_, ?_⟩
  · cases tms
    · have hidle : s.dbg.tap.state.next false = .runTestIdle := hstate ▸ rfl
      exact ⟨_, (tapClock_of_idle (tapAction_testLogicReset hstate) hidle (by rw [hstate]; decide)).trans (enterIdle_idCode rfl), rfl, rfl⟩
    · exact ⟨_, tapClock_of_ne_idle (tapAction_testLogicReset hstate) (by rw [hstate]; decide), rfl, rfl⟩
  · refine ⟨_, tapClock_of_ne_idle ((tapAction_captureDr hstate).trans (captureDr_idCode hir hv hm)) (hstate ▸ next_captureDr_ne tms), ?_, rfl⟩
    exact (by decide : ((0x07B76F0F#32).setWidth 40).extractLsb' 0 32 = 0x07B76F0F#32)
  · rintro ⟨hir, hscreg, hstate⟩
    refine ⟨_, tapClock_of_ne_idle ((tapAction_captureDr hstate).trans ((captureDr_wdtr hir hscreg).trans (captureChain_wdtr s)))
      (hstate ▸ next_captureDr_ne tms), ?_, ?_, rfl⟩
    · exact wdtrCapture_value (bit s.dbg.dscr 29) (instCompleted s) s.dbg.wdtr
    · exact wdtrCapture_full (bit s.dbg.dscr 29) (instCompleted s) s.dbg.wdtr
  · rintro ⟨hir, hscreg, hstate⟩ through
    have hselect : s.dbg.tap.state.next true = .selectDr := hstate ▸ rfl
    refine (tapClock_of_ne_idle ((tapAction_updateDr hstate).trans ((updateDr_rdtr hir hscreg).trans (updateChain_rdtr s))) (by rw [hselect]; decide)).trans ?_
    rw [hselect]
    have hlow : s.dbg.tap.dr.setWidth 32 = s.dbg.tap.dr.extractLsb' 0 32 := BitVec.setWidth_eq_extractLsb' (by decide)
    rw [hlow, show through = rdtrWritable s from rfl]
    cases rdtrWritable s <;> rfl
  · intro hstate hshift
    refine (tapClock_updateIr hstate).trans ((enterIdle_halt hshift).trans ?_)
    rw [← hshift]
    rfl
  · intro hstate hshift
    refine (tapClock_updateIr hstate).trans ((enterIdle_restart hshift).trans ?_)
    rw [restartRequest_eq, ← hshift]
    rfl

end

section
/-! The operations of CP15: barriers, ranges of lines, TLB maintenance. -/

namespace Sys2Proof.Machine

open Sys2Proof

/-! ### What accesses to the memory system change -/

/-- `t` differs from `s` in the memories, the cache RAMs and what is on its way alone. -/
def MemoryOnly (s t : State) : Prop :=
  t = { s with
    mem := t.mem, memNs := t.memNs, itcm := t.itcm, dtcm := t.dtcm, dcache := t.dcache, icache := t.icache, stale := t.stale
    writeBuffer := t.writeBuffer, inflight := t.inflight, freeCtr := t.freeCtr }

namespace MemoryOnly

theorem refl (s : State) : MemoryOnly s s := rfl

theorem trans {s t u : State} (h : MemoryOnly s t) (h' : MemoryOnly t u) : MemoryOnly s u := by
  unfold MemoryOnly at *
  rw [h', h]

theorem setByteAt (s : State) (p : Place) (a : Nat) (v : Byte) : MemoryOnly s (s.setByteAt p a v) := by
  cases p <;> rfl

theorem setBytesAt (s : State) (p : Place) (l : List (Nat × Byte)) : MemoryOnly s (s.setBytesAt p l) := by
  induction l generalizing s with
  | nil => exact refl s
  | cons x l ih => exact (setByteAt s p x.1 x.2).trans (ih _)

theorem bufferBytesAt (s : State) (q : WriteQueue) (device : Option Bool) (p : Place) (l : List (Nat × Byte)) :
    MemoryOnly s (s.bufferBytesAt q device p l) := by
  rw [State.bufferBytesAt]
  split
  · exact refl s
  · exact (setBytesAt s p l).trans rfl

theorem errorBit (e : BusError) (s : State) : MemoryOnly s (errorBit e s).2 := by cases e <;> rfl

theorem launchAbort (s : State) (slverr write : Bool) : MemoryOnly s (launchAbort s slverr write) := rfl

theorem writeBackLine (s : State) (l : CacheLine) (be32 : Bool) (a : Nat) : MemoryOnly s (writeBackLine s l be32 a) := by
  rw [Machine.writeBackLine]
  split
  · exact refl s
  · dsimp only
    split
    · exact bufferBytesAt ..
    · next e _ => exact ((errorBit e s).trans (launchAbort ..)).trans (bufferBytesAt ..)

theorem writeBackAll (be32 : Bool) (ls : List CacheLine) (s : State) : MemoryOnly s (writeBackAll be32 ls s) := by
  induction ls generalizing s with
  | nil => exact refl s
  | cons l ls ih => exact (writeBackLine s l be32 _).trans (ih _)

theorem setCacheLines (s : State) (k : CacheSide) (ls : List CacheLine) : MemoryOnly s (s.setCacheLines k ls) := by
  cases k <;> rfl

theorem invalidateLines (k : CacheSide) (selects : CacheLine → Bool) (s : State) : MemoryOnly s (invalidateLines k selects s) :=
  setCacheLines ..

theorem cleanLines (selects : CacheLine → Bool) (s : State) : MemoryOnly s (cleanLines selects s) :=
  (writeBackAll (s.controlBit 7) ((validLines s .data).filter selects) s).trans (setCacheLines _ .data _)

theorem maintain (op : LineOp) (selects : CacheLine → Bool) (s : State) : MemoryOnly s (maintain op selects s) := by
  cases op with
  | invalidateInstruction => exact invalidateLines ..
  | invalidateData => exact invalidateLines ..
  | cleanData => exact cleanLines ..
  | cleanInvalidateData => exact (cleanLines ..).trans (invalidateLines ..)
  | prefetchInstruction => exact refl s

section

variable {s t : State} (h : MemoryOnly s t)
include h

theorem cp15_eq : t.cp15 = s.cp15 := by rw [h]

theorem bus_eq : t.bus = s.bus := by rw [h]

theorem nsState_eq : t.nsState = s.nsState := by rw [h]; rfl

theorem mva_eq (va : Word) : t.mva va = s.mva va := by rw [h]; rfl

theorem controlBit_eq (i : Nat) : t.controlBit i = s.controlBit i := by rw [h]; rfl

theorem pcAfter_eq : t.pcAfter = s.pcAfter := by rw [h]; rfl

end

end MemoryOnly

/-! ### Barriers -/

/-- Between the abort on its way and the core nothing but the abort and the free values change. -/
theorem deliverAll_frame (l : List InflightAbort) {s : State} (hrun : s.halted = false) :
    deliverAll l s = { s with pendingAbort := (deliverAll l s).pendingAbort, freeCtr := (deliverAll l s).freeCtr } := by
  induction l generalizing s with
  | nil => rfl
  | cons a l ih =>
    have hone : deliverAbort a s = { s with pendingAbort := (deliverAbort a s).pendingAbort, freeCtr := s.freeCtr + 1 } := by
      simp only [deliverAbort, dataFaultStatus, drawWord, State.halted] at *
      simp only [hrun, Bool.false_eq_true, if_false, Bool.false_and, Bool.or_false]
      split <;> rfl
    rw [deliverAll, ih (by rw [hone]; exact hrun), hone]

theorem barrier_eq {s : State} (hrun : s.halted = false) : barrier s = completeAccesses s := by
  have hcomplete : (completeAccesses s).halted = false := by
    rw [completeAccesses]
    split
    · rw [deliverAll_frame _ (by exact hrun)]
      exact hrun
    · exact hrun
  rw [barrier, hcomplete]
  rfl

theorem completeAccesses_frame {s : State} (hrun : s.halted = false) :
    (completeAccesses s).outstanding = false ∧ completeAccesses s = { s with
      inflight := [], writeBuffer := [], pendingAbort := (completeAccesses s).pendingAbort, freeCtr := (completeAccesses s).freeCtr } := by
  rw [completeAccesses]
  cases hout : s.outstanding
  · rw [if_neg Bool.false_ne_true]
    obtain ⟨hin, hbuf⟩ := Bool.or_eq_false_iff.mp hout
    have hin' : s.inflight = [] := by simpa using hin
    have hbuf' : s.writeBuffer = [] := by simpa using hbuf
    exact ⟨hout, by rw [← hin', ← hbuf']⟩
  · rw [if_pos rfl]
    have hframe := deliverAll_frame s.inflight (s := { s with inflight := [], writeBuffer := [] }) hrun
    exact ⟨by rw [hframe]; rfl, hframe⟩

theorem completeAccesses_of_complete {s : State} (h : s.outstanding = false) : completeAccesses s = s := if_neg (by rw [h]; exact Bool.false_ne_true)

/-- A barrier and the step to the next instruction. -/
theorem barrier_after {s : State} (hrun : s.halted = false) :
    (s.outstanding = false → (barrier s).advance = s.stepped) ∧ (barrier s).advance.outstanding = false ∧
      (barrier s).advance = { s.stepped with
        inflight := [], writeBuffer := [], pendingAbort := (barrier s).advance.pendingAbort, freeCtr := (barrier s).advance.freeCtr } := by
  obtain ⟨hout, hframe⟩ := completeAccesses_frame hrun
  rw [barrier_eq hrun, State.advance_eq_stepped]
  refine ⟨fun h => by rw [completeAccesses_of_complete h], hout, ?_⟩
  rw [hframe]
  rfl

/-! ### Ranges -/

theorem lineAddress_eq (pa : Word) : lineAddress pa = pa.extractLsb' 5 27 ++ 0#5 := by
  have hmask : ∀ i < 32, (0xFFFFFFE0#32).getLsbD i = decide (5 ≤ i) := by decide
  apply BitVec.eq_of_getLsbD_eq
  intro i hi
  rw [lineAddress, BitVec.getLsbD_and, hmask i hi, BitVec.getLsbD_append, BitVec.getLsbD_extractLsb']
  by_cases hlow : i < 5
  · simp [hlow, Nat.not_le_of_lt hlow]
  · simp only [hlow, Nat.le_of_not_lt hlow, decide_true, Bool.and_true, if_false, (by omega : i - 5 < 27), Bool.true_and,
      Nat.add_sub_cancel' (Nat.le_of_not_lt hlow)]

theorem lineAddress_toNat (pa : Word) : (lineAddress pa).toNat = 32 * (pa.toNat / 32) := by
  have hpa := pa.isLt
  rw [lineAddress_eq, BitVec.toNat_append, BitVec.extractLsb'_toNat, Nat.shiftLeft_eq, Nat.shiftRight_eq_div_pow, Nat.mod_eq_of_lt (by omega)]
  exact (Nat.or_zero _).trans (Nat.mul_comm _ _)

theorem lineOf_off {s : State} (hoff : s.controlBit 0 = false) (mva : Word) :
    lineOf mva s = .ok ((mva, s.nsState, flatAttrs s.cp15 s.nsState true), s) := by
  rw [lineOf, show bit (s.cp15.control s.nsState) 0 = false from hoff, if_neg Bool.false_ne_true]
  rfl

theorem reachesTag_self (s : State) : reachesTag s s.nsState = true := by
  rw [reachesTag]
  cases s.nsState <;> rfl

theorem lineByMva_off {s : State} (hoff : s.controlBit 0 = false) (op : LineOp) (mva : Word) :
    lineByMva op mva s = .ok (lineEffect op mva mva s.nsState (flatAttrs s.cp15 s.nsState true) s) := by
  rw [lineByMva, lineOf_off hoff]
  exact congrArg Except.ok (if_pos (reachesTag_self s))

/-- The lines that an MVA with the MMU off selects. -/
def State.selectedLine (u s : State) (op : LineOp) (mva : Word) (l : CacheLine) : Bool :=
  l.set == cacheIndex u op.side mva && l.tag == mva.extractLsb' 5 27 ++ 0#5 && l.ns == s.nsState

/-- What a range operation that starts at line `first` does at line `k` of the range. -/
def State.rangeStep (s : State) (first : Nat) (op : LineOp) (u : State) (k : Nat) : State :=
  let mva := s.mva (BitVec.ofNat 32 (32 * (first + k)))
  let t := maintain op (u.selectedLine s op mva) u
  let inLine (b : StaleByte) : Bool := b.place == levelTwoPlace s.bus s.nsState mva && b.addr / 32 == mva.toNat / 32
  if op = .invalidateInstruction then
    { t with stale := t.stale.map fun b => { b with invalidated := b.invalidated || (b.synced && inLine b) } }
  else t

theorem rangeStep_memoryOnly (s : State) (first : Nat) (op : LineOp) (u : State) (k : Nat) : MemoryOnly u (s.rangeStep first op u k) := by
  have h := MemoryOnly.maintain op (u.selectedLine s op (s.mva (BitVec.ofNat 32 (32 * (first + k))))) u
  rw [State.rangeStep]
  dsimp only
  split
  · exact h.trans rfl
  · exact h

theorem foldl_memoryOnly {f : State → Nat → State} (h : ∀ u k, MemoryOnly u (f u k)) (l : List Nat) (s : State) : MemoryOnly s (l.foldl f s) := by
  induction l generalizing s with
  | nil => exact .refl s
  | cons k l ih => exact (h s k).trans (ih _)

theorem lineByMva_rangeStep {s u : State} (hu : MemoryOnly s u) (hoff : s.controlBit 0 = false) {op : LineOp} (hop : op ≠ .prefetchInstruction)
    (first k : Nat) : lineByMva op (u.mva (BitVec.ofNat 32 (32 * (first + k)))) u = .ok (s.rangeStep first op u k) := by
  rw [lineByMva_off (hu.controlBit_eq 0 ▸ hoff), hu.mva_eq, hu.nsState_eq, lineEffect, if_neg hop, lineAddress_eq]
  rw [State.rangeStep, ← hu.bus_eq]
  rfl

theorem lineRange_eq {s : State} (hoff : s.controlBit 0 = false) {op : LineOp} (hop : op ≠ .prefetchInstruction) (first n k : Nat) {u : State}
    (hu : MemoryOnly s u) :
    lineRange op n (BitVec.ofNat 32 (32 * (first + k))) u = .ok ((List.range' k n).foldl (s.rangeStep first op) u) := by
  induction n generalizing k u with
  | zero => rfl
  | succ n ih =>
    have hnext : BitVec.ofNat 32 (32 * (first + k)) + 32#32 = BitVec.ofNat 32 (32 * (first + (k + 1))) := by
      rw [← BitVec.ofNat_add]
      congr 1
    rw [lineRange, lineByMva_rangeStep hu hoff hop, bind_ok, hnext, ih (k + 1) (hu.trans (rangeStep_memoryOnly ..))]
    rfl

theorem rangeOp_eq {s : State} (hoff : s.controlBit 0 = false) {op : LineOp} (hop : op ≠ .prefetchInstruction) (start stop : Word) :
    rangeOp op start stop s =
      .ok ((List.range (stop.toNat / 32 + 1 - start.toNat / 32)).foldl (s.rangeStep (start.toNat / 32) op) s) := by
  have hstart : start &&& 0xFFFFFFE0#32 = BitVec.ofNat 32 (32 * (start.toNat / 32 + 0)) := by
    rw [Nat.add_zero, ← lineAddress_toNat, BitVec.ofNat_toNat, BitVec.setWidth_eq]
    rfl
  rw [rangeOp]
  split
  next h => rw [show stop.toNat / 32 + 1 - start.toNat / 32 = 0 by omega]; rfl
  next => rw [hstart, lineRange_eq hoff hop _ _ _ (.refl s), List.range_eq_range']

theorem withSources_two {rn rd : Reg} (hrn : rn ≠ 15#4) (hrd : rd ≠ 15#4) (s : State) (r : Result State) : withSources [rn, rd] s r = r := by
  simp [withSources, Ne.symm hrn, Ne.symm hrd]

/-- The MCRR of a range operation that is let through. -/
theorem mcrr_eq {c : Cond} {s u : State} (hc : condHolds c s.cpsr = true) {rn rd : Reg} (hrn : rn ≠ 15#4) (hrd : rd ≠ 15#4) (opc crm : BitVec 4)
    (hrange : rangeCp15 opc crm (s.reg rd) (s.reg rn) s = .ok u) : exec (.mcrr c rn rd 15#4 opc crm) s = .next u.advance := by
  change finish (conditional c false s (withSources [rn, rd] s (rangeCp15 opc crm (s.reg rd) (s.reg rn) s) >>= fun x => pure x.advance)) = _
  rw [conditional_pass hc, withSources_two hrn hrd, hrange]
  rfl

theorem rangeSteps_invalidateInstruction (s : State) (first : Nat) (l : List Nat) (u : State) :
    l.foldl (s.rangeStep first .invalidateInstruction) u = { u with
      icache := (l.foldl (s.rangeStep first .invalidateInstruction) u).icache
      stale := (l.foldl (s.rangeStep first .invalidateInstruction) u).stale } ∧
    ∀ x ∈ (l.foldl (s.rangeStep first .invalidateInstruction) u).icache, x ∈ u.icache := by
  induction l generalizing u with
  | nil => exact ⟨rfl, fun x hx => hx⟩
  | cons k l ih =>
    obtain ⟨hframe, hlines⟩ := ih (s.rangeStep first .invalidateInstruction u k)
    refine ⟨hframe.trans rfl, fun x hx => ?_⟩
    exact List.mem_of_mem_filter (hlines x hx)

theorem rangeSteps_invalidateData (s : State) (first : Nat) (l : List Nat) (u : State) :
    l.foldl (s.rangeStep first .invalidateData) u = { u with dcache := (l.foldl (s.rangeStep first .invalidateData) u).dcache } ∧
    ∀ x ∈ (l.foldl (s.rangeStep first .invalidateData) u).dcache, x ∈ u.dcache := by
  induction l generalizing u with
  | nil => exact ⟨rfl, fun x hx => hx⟩
  | cons k l ih =>
    obtain ⟨hframe, hlines⟩ := ih (s.rangeStep first .invalidateData u k)
    refine ⟨hframe.trans rfl, fun x hx => ?_⟩
    exact List.mem_of_mem_filter (hlines x hx)

/-! ### TLB maintenance -/

theorem TlbEntry.span_eq (e : TlbEntry) : e.span = 2 ^ e.shift := by
  simp only [TlbEntry.span, TlbEntry.shift, bits]
  split <;> simp_all

theorem TlbEntry.le_shift (e : TlbEntry) : 12 ≤ e.shift := by
  rw [TlbEntry.shift]
  split <;> decide

/-- The bits of an address within a page do not count for an entry. -/
theorem pageBits_shift (e : TlbEntry) (v : Word) : (v &&& 0xFFFFF000#32) >>> e.shift = v >>> e.shift := by
  have hmask : ∀ i < 32, (0xFFFFF000#32).getLsbD i = decide (12 ≤ i) := by decide
  have hshift := e.le_shift
  apply BitVec.eq_of_getLsbD_eq
  intro i _
  rw [BitVec.getLsbD_ushiftRight, BitVec.getLsbD_ushiftRight, BitVec.getLsbD_and]
  by_cases h : e.shift + i < 32
  · rw [hmask _ h, decide_eq_true (by omega), Bool.and_true]
  · rw [BitVec.getLsbD_of_ge v _ (by omega), Bool.false_and]

theorem TlbEntry.holds_eq (e : TlbEntry) (ns : Bool) (v : Word) :
    (e.covers (v &&& 0xFFFFF000#32) ns && (bit e.va 9 || bits e.va 0 8 == bits v 0 8)) = e.holds ns v (v.extractLsb' 0 8) := by
  have hpage : (v >>> e.shift == e.va >>> e.shift) = (v.toNat / e.span == e.va.toNat / e.span) := by
    rw [Bool.eq_iff_iff, beq_iff_eq, beq_iff_eq, ← BitVec.toNat_inj, BitVec.toNat_ushiftRight, BitVec.toNat_ushiftRight,
      Nat.shiftRight_eq_div_pow, Nat.shiftRight_eq_div_pow, e.span_eq]
  rw [TlbEntry.covers, pageBits_shift, hpage]
  rfl

/-- `u` is `s` with CP15 replaced by `after`, but for what fetches and the DMA may go on using. -/
def OnlyTlb (s : State) (after : Cp15) (u : State) : Prop :=
  u = { s with cp15 := after, oldFetch := u.oldFetch, oldMap := u.oldMap, stale := u.stale }

/-- CP15 with other entries in the main TLB, and with empty MicroTLBs. -/
def Cp15.withTlb (c : Cp15) (main : List TlbEntry) (locked : Vector TlbEntry 8) : Cp15 :=
  { c with tlbMain := main, tlbLocked := locked, iMicroTlb := [], dMicroTlb := [], dmaMicroTlb := [] }

theorem flushMicro_eq {s : State} (hrun : s.halted = false) :
    flushMicro s = { s with cp15 := s.cp15.withTlb s.cp15.tlbMain s.cp15.tlbLocked } := by
  simp only [flushMicro, microUse, hrun, Bool.false_eq_true, if_false]
  rfl

theorem invalidateTlb_writes {s : State} (hrun : s.halted = false) (ns : Bool) :
    OnlyTlb s (s.cp15.withTlb (s.cp15.tlbMain.filter fun e => bit e.pa 8 != ns) s.cp15.tlbLocked) (invalidateTlb ns s) ∧
      (invalidateTlb ns s).oldFetch = [] := by
  refine ⟨?_, rfl⟩
  rw [invalidateTlb, flushMicro_eq (by exact hrun), State.keepOldMap]
  split <;> rfl

theorem invalidateEntries_writes {s : State} (hrun : s.halted = false) (selects : TlbEntry → Bool) :
    OnlyTlb s (s.cp15.withTlb (s.cp15.tlbMain.filter fun e => !selects e)
      (s.cp15.tlbLocked.map fun e => if selects e then { e with pa := e.pa &&& 0xFFFFFFFE#32 } else e)) (invalidateEntries selects s) ∧
      (invalidateEntries selects s).stale = s.stale := by
  rw [invalidateEntries, flushMicro_eq (by exact hrun), State.keepOldFetch, State.keepOldMap]
  split <;> split <;> exact ⟨rfl, rfl⟩

theorem writeCp15_tlb {s : State} (hp : s.cp15Privileged = true) {crm : BitVec 4} (hcrm : crm ∈ [5#4, 6#4, 7#4]) (v : Word) :
    writeCp15 0#3 8#4 crm 0#3 v s = .ok (invalidateTlb s.nsState s) ∧
    writeCp15 0#3 8#4 crm 1#3 v s = .ok (invalidateByMva s.nsState v s) ∧
    writeCp15 0#3 8#4 crm 2#3 v s = .ok (invalidateByAsid s.nsState v s) := by
  simp only [List.mem_cons, List.not_mem_nil, or_false] at hcrm
  rcases hcrm with rfl | rfl | rfl <;> simp [writeCp15, writeC8, hp, bind_ok]

/-- The MCR of an operation on the TLB. -/
theorem mcr_of_onlyTlb {c : Cond} {s u : State} (hc : condHolds c s.cpsr = true) {rd : Reg} (hrd : rd ≠ 15#4) {o2 : BitVec 3}
    {crm : BitVec 4} {after : Cp15} (hwrite : writeCp15 0#3 8#4 crm o2 (s.reg rd) s = .ok u) (hframe : OnlyTlb s after u) :
    exec (.mcr c 0#3 8#4 rd 15#4 o2 crm) s = .next u.stepped ∧
      u.stepped = { s.stepped with cp15 := after, oldFetch := u.oldFetch, oldMap := u.oldMap, stale := u.stale } := by
  refine ⟨(mcr_eq hc 0#3 8#4 hrd o2 crm hwrite).trans (congrArg Host.Outcome.next (State.advance_eq_stepped u)), ?_⟩
  rw [hframe]
  rfl

end Sys2Proof.Machine

open Sys2Proof Sys2Proof.Machine

/-- Settles O46: the ranges are folds of the operation on one line, the TLB operations filters of the entries. -/
theorem systemControlOperations : Obligations.SystemControlOperations := by
  unfold Obligations.SystemControlOperations
  intro c rn rd s hc hrun hrd barrier' synced first last one all lines
  have hpriv (hmode : s.mode ≠ 0b10000#5) : s.cp15Privileged = true := State.cp15Privileged_of_privileged hmode
  refine ⟨?_, ?_, ?_, fun hmode => ?_, fun hrn hrv hoff => ?_, fun hmode crm hcrm => ?_⟩
  · have hexec := mcr_eq hc 0#3 7#4 hrd 4#3 10#4 (u := syncBarrier s) rfl
    obtain ⟨hcomplete, hout, hframe⟩ := barrier_after (s := { s with stale := synced }) hrun
    exact ⟨fun h => hexec.trans (congrArg Host.Outcome.next (hcomplete h)), _, hexec, hout, hframe⟩
  · have hexec := mcr_eq hc 0#3 7#4 hrd 5#3 10#4 (u := barrier s) rfl
    obtain ⟨hcomplete, hout, hframe⟩ := barrier_after hrun
    exact ⟨fun h => hexec.trans (congrArg Host.Outcome.next (hcomplete h)), _, hexec, hout, hframe⟩
  · exact (mcr_eq hc 0#3 7#4 hrd 4#3 5#4 (u := s.syncFetch) rfl).trans (congrArg Host.Outcome.next (State.advance_eq_stepped _))
  · have hwait : waitForInterrupt s = { syncBarrier s with standby := true } := if_neg (by rw [hrun]; exact Bool.false_ne_true)
    have hexec := mcr_eq hc 0#3 7#4 hrd 4#3 0#4 (u := { syncBarrier s with standby := true })
      (by simp [writeCp15, writeC7, hpriv hmode, bind_ok, hwait])
    have hstep : ({ syncBarrier s with standby := true } : State).advance = { (syncBarrier s).advance with standby := true } := by
      rw [State.advance_eq_stepped, State.advance_eq_stepped]
      rfl
    obtain ⟨hcomplete, hout, hframe⟩ := barrier_after (s := { s with stale := synced }) hrun
    refine ⟨fun h => hexec.trans (congrArg Host.Outcome.next ?_), _, hexec, ?_, ?_⟩
    · rw [hstep]
      exact congrArg (fun x : State => { x with standby := true }) (hcomplete h)
    · rw [hstep]
      exact hout
    · rw [hstep]
      exact (congrArg (fun x : State => { x with standby := true }) hframe).trans rfl
  · have hrange (op : LineOp) (hop : op ≠ .prefetchInstruction) (crm : BitVec 4)
        (hrange : rangeCp15 0#4 crm (s.reg rd) (s.reg rn) s = rangeOp op (s.reg rn) (s.reg rd) s) : lines crm op := by
      refine (mcrr_eq hc hrn hrd 0#4 crm (hrange.trans (rangeOp_eq hoff hop _ _))).trans (congrArg Host.Outcome.next ?_)
      rw [State.advance_eq_stepped, State.stepped, (foldl_memoryOnly (rangeStep_memoryOnly s first op) _ s).pcAfter_eq]
      rfl
    refine ⟨hrange .cleanData (by decide) 12#4 (by simp [rangeCp15, hrv, bind_ok]), fun hmode => ⟨?_, ?_, ?_, ?_, ?_, ?_⟩⟩
    · exact hrange .invalidateInstruction (by decide) 5#4 (by simp [rangeCp15, hrv, hpriv hmode, bind_ok])
    · exact hrange .invalidateData (by decide) 6#4 (by simp [rangeCp15, hrv, hpriv hmode, bind_ok])
    · exact hrange .cleanInvalidateData (by decide) 14#4 (by simp [rangeCp15, hrv, hpriv hmode, bind_ok])
    · exact (rangeSteps_invalidateInstruction s first _ s).1
    · exact (rangeSteps_invalidateInstruction s first _ s).2
    · exact rangeSteps_invalidateData s first _ s
  · intro v drops cleared byAddress byAsid
    obtain ⟨hall, hmva, hasid⟩ := writeCp15_tlb (hpriv hmode) hcrm v
    have hpage : (fun e : TlbEntry => e.covers (v &&& 0xFFFFF000#32) s.nsState && (bit e.va 9 || bits e.va 0 8 == bits v 0 8)) = byAddress :=
      funext fun e => e.holds_eq s.nsState v
    refine ⟨?_, ?_, ?_⟩
    · obtain ⟨hwrites, hfetch⟩ := invalidateTlb_writes hrun s.nsState
      obtain ⟨hexec, hframe⟩ := mcr_of_onlyTlb hc hrd hall hwrites
      exact ⟨_, hexec, hframe, fun _ => hfetch, fun h => absurd rfl h⟩
    · obtain ⟨hwrites, hstale⟩ := invalidateEntries_writes hrun byAddress
      rw [invalidateByMva, hpage] at hmva
      obtain ⟨hexec, hframe⟩ := mcr_of_onlyTlb hc hrd hmva hwrites
      exact ⟨_, hexec, hframe, fun h => absurd h (by decide), fun _ => hstale⟩
    · obtain ⟨hwrites, hstale⟩ := invalidateEntries_writes hrun byAsid
      obtain ⟨hexec, hframe⟩ := mcr_of_onlyTlb hc hrd hasid hwrites
      exact ⟨_, hexec, hframe, fun h => absurd h (by decide), fun _ => hstale⟩

end

section
/-! Maintenance of one line of the Data Cache. -/

namespace Sys2Proof.Machine

open Sys2Proof

/-! ### Writing bytes at some addresses -/

theorem byteAt_setBytesAt_map {s : State} (h : s.memoryWf = true) (p : Place) (as : List Nat) (g : Nat → Byte) (a : Nat) :
    (s.setBytesAt p (as.map fun x => (x, g x))).byteAt p a = if a ∈ as then g a else s.byteAt p a := by
  induction as generalizing s with
  | nil => simp [State.setBytesAt]
  | cons x as ih =>
    rw [List.map_cons, State.setBytesAt, ih (State.memoryWf_setByteAt h _ _ _), State.byteAt_setByteAt h]
    by_cases hx : a = x
    · subst hx; simp
    · simp [hx]

/-! ### A bus without errors -/

theorem transferError_quiet (r : BusRequest) (i : Nat) : transferError [] r i = none := by
  simp [transferError, busAnswer, busRegion]

theorem firstError_quiet (rs : List BusRequest) : firstError [] rs = none := by
  simp [firstError, transferError_quiet]

theorem erroneous_quiet (rs : List BusRequest) (a : Nat) : erroneous [] rs a = false := by
  simp [erroneous, transferError_quiet]

/-! ### The write-back of a line -/

/-- The addresses of the dirty bytes of a line. -/
def CacheLine.dirtyAddresses (l : CacheLine) : List Nat := ((List.range 32).filter l.dirtyAt).map fun i => l.tag.toNat + i

theorem CacheLine.mem_dirtyAddresses (l : CacheLine) (a : Nat) :
    a ∈ l.dirtyAddresses ↔ l.tag.toNat ≤ a ∧ a < l.tag.toNat + 32 ∧ l.dirtyAt (a - l.tag.toNat) = true := by
  simp only [dirtyAddresses, List.mem_map, List.mem_filter, List.mem_range]
  constructor
  · rintro ⟨i, ⟨hi, hd⟩, rfl⟩
    rw [Nat.add_sub_cancel_left]
    exact ⟨by omega, by omega, hd⟩
  · rintro ⟨h, h', hd⟩
    exact ⟨a - l.tag.toNat, ⟨by omega, hd⟩, by omega⟩

theorem CacheLine.dirtyAddresses_isEmpty (l : CacheLine) : l.dirtyAddresses.isEmpty = !l.dirty := by
  have hdirty : l.dirtyAt = fun i => if i < 16 then l.dirtyLow else l.dirtyHigh := rfl
  rw [dirtyAddresses, List.isEmpty_map, hdirty, CacheLine.dirty]
  cases l.dirtyLow <;> cases l.dirtyHigh <;> rfl

/-- What the write-back of a line puts in the write buffer. -/
def State.lineBuffered (s : State) (l : CacheLine) : BufferedWrite :=
  { queue := .writeBack, place := .external, bytes := l.dirtyAddresses.map fun a => (a, s.byteAt .external a), device := none }

/-- The state with the dirty bytes of a line in memory. -/
def State.withLineWritten (s : State) (l : CacheLine) : State :=
  { s.setBytesAt .external (l.dirtyAddresses.map fun x => (x, l.byteAt (x - l.tag.toNat))) with
    writeBuffer := if l.dirty then s.writeBuffer ++ [s.lineBuffered l] else s.writeBuffer }

/-- The write-back of a Secure line on a bus without errors. -/
theorem writeBackLine_quiet {s : State} (hbus : s.bus = []) {l : CacheLine} (hns : l.ns = false) (be32 : Bool) (a : Nat) :
    writeBackLine s l be32 a = s.withLineWritten l := by
  have hempty := l.dirtyAddresses_isEmpty
  have hbytes : (((List.range 32).filter l.dirtyAt).map fun i => (l.tag.toNat + i, l.byteAt i)) =
      l.dirtyAddresses.map fun x => (x, l.byteAt (x - l.tag.toNat)) := by
    simp [CacheLine.dirtyAddresses]
  rw [writeBackLine, State.withLineWritten]
  cases hdirty : l.dirty
  · rw [hdirty] at hempty
    rw [List.isEmpty_iff.mp hempty]
    rfl
  · rw [hdirty] at hempty
    simp only [Bool.not_true, Bool.false_eq_true, if_false, hbus, firstError_quiet, erroneous_quiet, Bool.not_false, Bool.and_true, hns, hbytes,
      if_true, State.bufferBytesAt, List.isEmpty_map, hempty, List.map_map]
    rfl

theorem byteAt_withLineWritten {s : State} (h : s.memoryWf = true) (l : CacheLine) (a : Nat) :
    (s.withLineWritten l).byteAt .external a = if h : l.tag.toNat ≤ a ∧ a < l.tag.toNat + 32 then
        (if l.dirtyAt (a - l.tag.toNat) then l.data[a - l.tag.toNat]'(by omega) else s.byteAt .external a)
      else s.byteAt .external a := by
  refine (byteAt_setBytesAt_map h .external l.dirtyAddresses (fun x => l.byteAt (x - l.tag.toNat)) a).trans ?_
  simp only [l.mem_dirtyAddresses]
  by_cases hin : l.tag.toNat ≤ a ∧ a < l.tag.toNat + 32
  · obtain ⟨hlow, hhigh⟩ := hin
    have hbyte : l.byteAt (a - l.tag.toNat) = l.data[a - l.tag.toNat]'(by omega) := by
      simp [CacheLine.byteAt, Nat.mod_eq_of_lt (by omega : a - l.tag.toNat < 32)]
    simp only [hlow, hhigh, true_and, and_self, dif_pos, hbyte]
  · rw [dif_neg hin, if_neg fun hd => hin ⟨hd.1, hd.2.1⟩]

theorem withLineWritten_frame (s : State) (l : CacheLine) : s.withLineWritten l = { s with
    mem := (s.withLineWritten l).mem, stale := (s.withLineWritten l).stale, writeBuffer := (s.withLineWritten l).writeBuffer } :=
  congrArg (fun t : State => { t with writeBuffer := (s.withLineWritten l).writeBuffer }) (setBytesAt_frame s _)

/-! ### The one line that a test selects -/

section

variable {α : Type} {p : α → Bool} {x : α} {before after : List α} (hx : p x = true) (hother : ∀ y ∈ before ++ after, p y = false)
include hx hother

theorem filter_one : (before ++ x :: after).filter p = [x] := by
  simp only [List.mem_append] at hother
  rw [List.filter_append, List.filter_cons_of_pos hx, List.filter_eq_nil_iff.mpr fun y hy => by simp [hother y (.inl hy)],
    List.filter_eq_nil_iff.mpr fun y hy => by simp [hother y (.inr hy)]]
  rfl

theorem filter_others : (before ++ x :: after).filter (fun y => !p y) = before ++ after := by
  simp only [List.mem_append] at hother
  rw [List.filter_append, List.filter_cons_of_neg (by simp [hx]), List.filter_eq_self.mpr fun y hy => by simp [hother y (.inl hy)],
    List.filter_eq_self.mpr fun y hy => by simp [hother y (.inr hy)]]

theorem map_one (f : α → α) : (before ++ x :: after).map (fun y => if p y then f y else y) = before ++ f x :: after := by
  simp only [List.mem_append] at hother
  have hkeep {l : List α} (h : ∀ y ∈ l, p y = false) : l.map (fun y => if p y then f y else y) = l :=
    (List.map_congr_left fun y hy => by simp [h y hy]).trans (List.map_id' l)
  rw [List.map_append, List.map_cons, hkeep fun y hy => hother y (.inl hy), hkeep fun y hy => hother y (.inr hy), if_pos hx]

end

/-- A line with nothing dirty. -/
def CacheLine.cleaned (l : CacheLine) : CacheLine := { l with dirtyLow := false, dirtyHigh := false }

section

variable {s : State} {l : CacheLine} {before after : List CacheLine} (hlines : s.dcache = before ++ l :: after)
  {selects : CacheLine → Bool} (hsel : selects l = true) (hother : ∀ k ∈ before ++ after, selects k = false)
include hlines hsel hother

theorem invalidateLines_one : invalidateLines .data selects s = { s with dcache := before ++ after } := by
  have hfilter := filter_others hsel hother
  rw [← hlines] at hfilter
  exact congrArg (fun d => { s with dcache := d }) hfilter

theorem cleanLines_one (hbus : s.bus = []) (hns : l.ns = false) (hvalid : lineValid s .data l = true) :
    cleanLines selects s = { s.withLineWritten l with dcache := before ++ l.cleaned :: after } := by
  have hchosen : (lineValid s .data l && selects l) = true := by rw [hvalid, hsel]; rfl
  have hrest : ∀ k ∈ before ++ after, (lineValid s .data k && selects k) = false := fun k hk => by rw [hother k hk, Bool.and_false]
  have hone : (validLines s .data).filter selects = [l] := by
    rw [validLines, List.filter_filter]
    simp only [Bool.and_comm (selects _)]
    exact (congrArg _ hlines).trans (filter_one (p := fun k => lineValid s .data k && selects k) hchosen hrest)
  have hmap := map_one (p := fun k => lineValid s .data k && selects k) hchosen hrest CacheLine.cleaned
  rw [← hlines] at hmap
  rw [cleanLines, hone, writeBackAll, writeBackAll, writeBackLine_quiet hbus hns]
  exact congrArg (fun d => { s.withLineWritten l with dcache := d }) hmap

end

end Sys2Proof.Machine

open Sys2Proof Sys2Proof.Machine

/-- Settles O47: the test of the MVA selects the one line with its address. -/
theorem dataCacheLineMaintenance : Obligations.DataCacheLineMaintenance := by
  unfold Obligations.DataCacheLineMaintenance
  intro c rd s l before after hc hrun hmode hns hrd hoff hbus hwf hlines hother hvalid hset htag hlns written address buffered cleans
  obtain ⟨selects, hselects⟩ : ∃ selects : CacheLine → Bool, selects =
    fun k => k.set == cacheIndex s .data (s.reg rd) && k.tag == lineAddress (s.reg rd) && k.ns == s.nsState := ⟨_, rfl⟩
  have hsel : selects l = true := by
    rw [hselects]
    simp [← hset, lineAddress_eq, ← htag, hlns, hns]
  have hrest : ∀ k ∈ before ++ after, selects k = false := fun k hk => by
    rw [hselects]
    simp [lineAddress_eq, ← htag, hother k hk]
  have hop (op : LineOp) (hop : op ≠ .prefetchInstruction ∧ op ≠ .invalidateInstruction ∧ op.side = .data) (crm : BitVec 4)
      (hwrite : writeCp15 0#3 7#4 crm 1#3 (s.reg rd) s = lineByMva op (s.reg rd) s) :
      exec (.mcr c 0#3 7#4 rd 15#4 1#3 crm) s = .next (maintain op selects s).advance := by
    obtain ⟨hprefetch, hinstruction, hside⟩ := hop
    refine mcr_eq hc 0#3 7#4 hrd 1#3 crm (hwrite.trans ((lineByMva_off hoff op _).trans (congrArg Except.ok ?_)))
    rw [lineEffect, if_neg hprefetch, hside, ← hselects]
    exact if_neg hinstruction
  have hpriv : s.cp15Privileged = true := State.cp15Privileged_of_privileged hmode
  have hclean := cleanLines_one hlines hsel hrest hbus hlns hvalid
  have hbuffer : (s.withLineWritten l).writeBuffer = buffered := by
    simp only [State.withLineWritten, State.lineBuffered, CacheLine.dirtyAddresses, List.map_map, buffered]
    rfl
  have hcleaned (lines : List CacheLine) {t : State} (ht : t = { s.withLineWritten l with dcache := lines }) : written t.advance ∧
      t.advance = { s.stepped with mem := t.advance.mem, stale := t.advance.stale, dcache := lines, writeBuffer := buffered } := by
    rw [ht, State.advance_eq_stepped]
    refine ⟨byteAt_withLineWritten hwf l, ?_⟩
    rw [← hbuffer, withLineWritten_frame]
    rfl
  refine ⟨?_, ?_, ?_⟩
  · refine ⟨_, hop .cleanData (by decide) 10#4 (by simp [writeCp15, writeC7, hpriv, bind_ok]), ?_⟩
    exact hcleaned _ hclean
  · refine ⟨_, hop .cleanInvalidateData (by decide) 14#4 (by simp [writeCp15, writeC7, hpriv, bind_ok]), ?_⟩
    refine hcleaned _ ?_
    rw [maintain, hclean]
    exact invalidateLines_one rfl (by rw [hselects] at hsel ⊢; exact hsel) hrest
  · refine (hop .invalidateData (by decide) 6#4 (by simp [writeCp15, writeC7, hpriv, bind_ok])).trans (congrArg Host.Outcome.next ?_)
    rw [maintain, invalidateLines_one hlines hsel hrest]
    exact State.advance_eq_stepped _

end

section
/-! Translation through a section (21:R616 to R619), and the loads and stores that it leads to. -/

namespace Sys2Proof.Machine

open Sys2Proof

/-! ### The entry of a section -/

theorem getLsbD_ofBit (b : Bool) (i : Nat) : (ofBit b).getLsbD i = (decide (i = 0) && b) := by
  cases b
  · simp [ofBit]
  · cases i <;> simp [ofBit, BitVec.getLsbD_one]

theorem getElem_ofBit (b : Bool) (i : Nat) (h : i < 32) : (ofBit b)[i] = (decide (i = 0) && b) := by
  rw [← BitVec.getLsbD_eq_getElem h, getLsbD_ofBit]

/-- The second word of a section's entry. -/
def sectionPa (base : Word) (nsTag ns apx : Bool) (ap : BitVec 2) : Word :=
  ((base >>> 20) <<< 20) ||| (ofBit nsTag <<< 9) ||| (ofBit ns <<< 8) ||| (zext 3#2 <<< 6) ||| (ofBit apx <<< 3) ||| (zext ap <<< 1) ||| 1#32

theorem makeEntry_section (r : Request) (base : Word) (global nsDesc apx : Bool) (ap : BitVec 2) (attr : Word) :
    (makeEntry r 3#2 base global nsDesc apx ap attr).pa = sectionPa base (r.ns || nsDesc) r.ns apx ap ∧
      (makeEntry r 3#2 base global nsDesc apx ap attr).attr = attr := ⟨rfl, rfl⟩

section

variable (base : Word) (nsTag ns apx : Bool) (ap : BitVec 2)

theorem sectionPa_flags : bit (sectionPa base nsTag ns apx ap) 0 = true ∧ bit (sectionPa base nsTag ns apx ap) 8 = ns ∧
    bit (sectionPa base nsTag ns apx ap) 9 = nsTag ∧ bit (sectionPa base nsTag ns apx ap) 3 = apx := by
  refine ⟨?_, ?_, ?_, ?_⟩ <;>
    simp [sectionPa, bit, zext, BitVec.getLsbD_or, BitVec.getLsbD_shiftLeft, getElem_ofBit]

theorem sectionPa_size : bits (sectionPa base nsTag ns apx ap) 6 2 = 3#2 := by
  apply BitVec.eq_of_getLsbD_eq
  intro i hi
  interval_cases i <;>
    simp [sectionPa, bits, zext, BitVec.getLsbD_or, BitVec.getLsbD_shiftLeft, getElem_ofBit]

theorem sectionPa_ap : bits (sectionPa base nsTag ns apx ap) 1 2 = ap := by
  apply BitVec.eq_of_getLsbD_eq
  intro i hi
  interval_cases i <;>
    simp [sectionPa, bits, zext, BitVec.getLsbD_or, BitVec.getLsbD_shiftLeft, getElem_ofBit]

theorem sectionPa_base : sectionPa base nsTag ns apx ap >>> 20 = base >>> 20 := by
  apply BitVec.eq_of_getLsbD_eq
  intro i hi
  have hone : (1#32).getLsbD (20 + i) = false := by simp [BitVec.getLsbD_one]
  have hsize : (3#2 : BitVec 2).getLsbD (20 + i - 6) = false := BitVec.getLsbD_of_ge _ _ (by omega)
  have hap : ap.getLsbD (20 + i - 1) = false := BitVec.getLsbD_of_ge _ _ (by omega)
  have h9 : ¬20 + i - 9 = 0 := by omega
  have h8 : ¬20 + i - 8 = 0 := by omega
  have h3 : ¬20 + i - 3 = 0 := by omega
  have hbase : (decide (20 + i < 32) && base.getLsbD (20 + i)) = base.getLsbD (20 + i) := by
    by_cases h : 20 + i < 32
    · rw [decide_eq_true h, Bool.true_and]
    · rw [BitVec.getLsbD_of_ge _ _ (by omega), Bool.and_false]
  simp only [sectionPa, zext, BitVec.getLsbD_ushiftRight, BitVec.getLsbD_or, BitVec.getLsbD_shiftLeft, getLsbD_ofBit, BitVec.getLsbD_setWidth,
    hone, hsize, hap, h9, h8, h3, decide_false, Bool.false_and, Bool.and_false, Bool.or_false, Nat.add_sub_cancel' (Nat.le_add_right 20 i)]
  rw [decide_eq_false (by omega : ¬20 + i < 20), Bool.not_false, Bool.and_true]
  exact hbase

end

/-- The fields of the attributes of an entry. -/
theorem plainAttr_flags (domain : BitVec 4) (xn : Bool) (tex : BitVec 3) (c b s : Bool) :
    bit (plainAttr domain xn tex c b s) 25 = false ∧ bit (plainAttr domain xn tex c b s) 2 = c ∧ bit (plainAttr domain xn tex c b s) 1 = b ∧
      bit (plainAttr domain xn tex c b s) 0 = s := by
  refine ⟨?_, ?_, ?_, ?_⟩ <;>
    simp [plainAttr, bit, zext, BitVec.getLsbD_or, BitVec.getLsbD_shiftLeft, getElem_ofBit]

theorem plainAttr_domain (domain : BitVec 4) (xn : Bool) (tex : BitVec 3) (c b s : Bool) : bits (plainAttr domain xn tex c b s) 7 4 = domain := by
  apply BitVec.eq_of_getLsbD_eq
  intro i hi
  interval_cases i <;>
    simp [plainAttr, bits, zext, BitVec.getLsbD_or, BitVec.getLsbD_shiftLeft, getElem_ofBit]

theorem plainAttr_tex (domain : BitVec 4) (xn : Bool) (tex : BitVec 3) (c b s : Bool) : bits (plainAttr domain xn tex c b s) 3 3 = tex := by
  apply BitVec.eq_of_getLsbD_eq
  intro i hi
  interval_cases i <;>
    simp [plainAttr, bits, zext, BitVec.getLsbD_or, BitVec.getLsbD_shiftLeft, getElem_ofBit]

/-! ### Addresses -/

/-- The address of a first-level descriptor with one table (21:R617). -/
theorem firstLevelAddress_one {b : Cp15Bank} (h : b.ttbcr = 0#32) (mva : Word) :
    firstLevelAddress b mva = (b.ttbr0.extractLsb' 14 18 ++ mva.extractLsb' 20 12 ++ 0#2, false, b.ttbr0) := by
  have haddress : ((b.ttbr0 >>> 14) <<< 14) ||| (((mva <<< 0) >>> 20) <<< 2) = b.ttbr0.extractLsb' 14 18 ++ mva.extractLsb' 20 12 ++ 0#2 := by
    apply BitVec.eq_of_getLsbD_eq
    intro i hi
    simp only [BitVec.shiftLeft_zero, BitVec.getLsbD_or, BitVec.getLsbD_shiftLeft, BitVec.getLsbD_ushiftRight, BitVec.getLsbD_append,
      BitVec.getLsbD_extractLsb', BitVec.getLsbD_zero, hi, decide_true, Bool.true_and]
    by_cases h2 : i < 2
    · simp [h2, (by omega : i < 14)]
    · by_cases h14 : i < 14
      · simp [h2, h14, (by omega : i - 2 < 12)]
      · have hhigh : mva.getLsbD (20 + (i - 2)) = false := BitVec.getLsbD_of_ge _ _ (by omega)
        simp [h2, h14, hhigh, (by omega : 12 ≤ i - 2), (by omega : i - 2 - 12 < 18), (by omega : 14 + (i - 2 - 12) = 14 + (i - 14))]
  have hn : (bits b.ttbcr 0 3).toNat = 0 := by rw [h]; rfl
  rw [firstLevelAddress, hn]
  simp only [ne_eq, not_true, false_and, if_false, Nat.sub_zero, Nat.add_zero, haddress, h]
  rfl

theorem TlbEntry.physical_section {e : TlbEntry} (hsize : bits e.pa 6 2 = 3#2) {d : Word} (hbase : e.pa >>> 20 = d >>> 20) (mva : Word) :
    e.physical mva = d.extractLsb' 20 12 ++ mva.extractLsb' 0 20 := by
  have hshift : e.shift = 20 := by rw [TlbEntry.shift, hsize]; rfl
  rw [TlbEntry.physical, hshift, hbase]
  have hmask : ∀ i < 32, (~~~((0xFFFFFFFF#32 >>> 20) <<< 20)).getLsbD i = decide (i < 20) := by decide
  apply BitVec.eq_of_getLsbD_eq
  intro i hi
  simp only [BitVec.getLsbD_or, BitVec.getLsbD_and, hmask i hi, BitVec.getLsbD_shiftLeft, BitVec.getLsbD_ushiftRight, BitVec.getLsbD_append,
    BitVec.getLsbD_extractLsb', hi, decide_true, Bool.true_and]
  by_cases h20 : i < 20
  · simp [h20]
  · simp [h20, (by omega : i - 20 < 12)]

/-! ### The walk -/

theorem readData_quiet (rs : List BusRequest) (a : Nat) (b : Byte) : readData [] rs a b = b := by
  have htransfers (l : List Nat) : l.findSome? (fun _ => (none : Option Byte)) = none := List.findSome?_eq_none_iff.mpr fun _ _ => rfl
  have hbursts (l : List BusRequest) : l.findSome? (fun _ => (none : Option Byte)) = none := List.findSome?_eq_none_iff.mpr fun _ _ => rfl
  simp [readData, transferData, busRegion, htransfers, hbursts]

section

variable {s : State} (h : s.freshMmu)
include h

theorem writeBuffer_fresh : s.writeBuffer = [] := by
  have := h.complete
  simp only [State.outstanding, Bool.or_eq_false_iff, Bool.not_eq_false', List.isEmpty_iff] at this
  exact this.2

theorem walkRead_fresh (ns : Bool) (attrs : MemAttrs) (pa : Word) (code : BitVec 5) (domain : Option (BitVec 4)) :
    walkRead s ns attrs pa code domain = .ok (s.physWord pa, s) := by
  have hplace : levelTwoPlace [] ns pa = .external := by simp [levelTwoPlace]
  have hread : readLevelTwo s .external [pa.toNat, pa.toNat + 1, pa.toNat + 2, pa.toNat + 3] =
      ([pa.toNat, pa.toNat + 1, pa.toNat + 2, pa.toNat + 3].map (s.byteAt .external), s) := by
    simp [readLevelTwo, levelTwoByte, writeBuffer_fresh h]
  simp only [walkRead, h.quietBus, firstError_quiet, hplace, hread, readData_quiet]
  simp [State.physWord, ofBytesLE_four]

/-- The translation request of a data access. -/
def State.dataRequest (s : State) (privileged write : Bool) (va : Word) : Request :=
  { mva := s.mva va, ns := s.nsState, privileged := privileged, write := write, fetch := false, dma := false
    unaligned := false, asid := bits (s.cp15.bank s.nsState).contextId 0 8 }

/-- The first-level descriptor of an address. -/
def State.descriptor (s : State) (va : Word) : Word :=
  s.physWord ((s.cp15.bank s.nsState).ttbr0.extractLsb' 14 18 ++ (s.mva va).extractLsb' 20 12 ++ 0#2)

theorem walk_none {privileged write : Bool} {va : Word} (hd : (s.descriptor va).extractLsb' 0 2 = 0#2) :
    walk s.cp15 (s.dataRequest privileged write va) s = mmuFault 0b00101#5 none s := by
  have hcode : (bits (s.descriptor va) 0 2).toNat = 0 := by rw [bits, hd]; rfl
  rw [walk, State.dataRequest, firstLevelAddress_one h.oneTable]
  simp only [walkRead_fresh h, Bool.false_eq_true, if_false, bind, Except.bind]
  rw [State.descriptor] at hcode
  simp only [hcode]

/-- The TLB entry that a section's descriptor gives. -/
def State.sectionEntry (s : State) (privileged write : Bool) (va : Word) : TlbEntry :=
  { Machine.sectionEntry (s.dataRequest privileged write va) true (s.descriptor va) with rs := bits (s.cp15.control s.nsState) 8 2 }

theorem walk_section {privileged write : Bool} {va : Word} (hd : (s.descriptor va).extractLsb' 0 2 = 2#2) :
    walk s.cp15 (s.dataRequest privileged write va) s = .ok (s.sectionEntry privileged write va, s) := by
  have hcode : (bits (s.descriptor va) 0 2).toNat = 2 := by rw [bits, hd]; rfl
  have hxp : bit (s.cp15.control s.nsState) 23 = true := h.control.2.2.2.2.2.1
  rw [walk, State.dataRequest, firstLevelAddress_one h.oneTable]
  simp only [walkRead_fresh h, Bool.false_eq_true, if_false, bind, Except.bind]
  rw [State.descriptor] at hcode
  simp only [hcode, hxp]
  rfl

/-- No entry of the TLBs is hit. -/
theorem noHits_fresh (r : Request) : (s.cp15.tlbLocked.toList ++ s.cp15.tlbMain).filter (·.hits r) = [] := by
  obtain ⟨-, hmain, hlocked⟩ := h.noEntry
  rw [hmain, List.append_nil, List.filter_eq_nil_iff]
  intro e he
  obtain ⟨i, hi, rfl⟩ := Vector.mem_iff_getElem.mp (Vector.mem_toList_iff.mp he)
  have hinvalid : bit s.cp15.tlbLocked[i].pa 0 = false := hlocked ⟨i, hi⟩
  simp [TlbEntry.hits, TlbEntry.covers, hinvalid]

/-- No permission comes from the Access Bit. -/
theorem usesAccessBit_fresh (apx : Bool) (ap : BitVec 2) : usesAccessBit (s.cp15.control s.nsState) apx ap = false := by
  have hfa : bit (s.cp15.control s.nsState) 29 = false := h.control.2.2.2.2.2.2.2
  simp [usesAccessBit, hfa]

theorem accessBitFault_fresh (apx : Bool) (ap : BitVec 2) : accessBitFault (s.cp15.control s.nsState) apx ap = false := by
  rw [accessBitFault, usesAccessBit_fresh h, Bool.false_and]

omit h in
/-- The state with an entry loaded into the main TLB and the MicroTLB of the data side. -/
def State.withEntry (s : State) (e : TlbEntry) : State := { s with cp15 := { s.cp15 with tlbMain := [e], dMicroTlb := [e] } }

/-- With empty TLBs the entry is that of a walk. -/
theorem findEntry_walk (privileged write : Bool) (va : Word) :
    findEntry s.cp15 true (s.dataRequest privileged write va) s = findAndLoad s.cp15 true (s.dataRequest privileged write va) none s := by
  have hmicro : s.cp15.micro (s.dataRequest privileged write va).side = [] := h.noEntry.1
  rw [findEntry, hmicro, List.filter_nil, ite_self]

theorem findMain_walk (privileged write : Bool) (va : Word) :
    findMain s.cp15 true (s.dataRequest privileged write va) s =
      (walk s.cp15 (s.dataRequest privileged write va) s >>= fun x => loadEntry s.cp15 true (s.dataRequest privileged write va) x.1 none x.2) := by
  rw [findMain, noHits_fresh h, ite_self]

theorem findEntry_none {privileged write : Bool} {va : Word} (hd : (s.descriptor va).extractLsb' 0 2 = 0#2) :
    findEntry s.cp15 true (s.dataRequest privileged write va) s = mmuFault 0b00101#5 none s := by
  rw [findEntry_walk h, findAndLoad, findMain_walk h, walk_none h hd]
  rfl

theorem loadEntry_fresh (privileged write : Bool) (va : Word) (e : TlbEntry) :
    loadEntry s.cp15 true (s.dataRequest privileged write va) e none s = .ok (e, { s with cp15 := { s.cp15 with tlbMain := [e] } }) := by
  have hinsert : insertEntry s.cp15 s.nsState e none = { s.cp15 with tlbMain := [e] } := by
    simp [insertEntry, h.noLock, h.noEntry.2.1]
  have huse : (tlbUse s).2 = true := by simp [tlbUse, h.running]
  simp only [loadEntry, State.dataRequest, accessBitFault_fresh h, huse, hinsert, Bool.and_self, Bool.false_eq_true, if_false, if_true]

theorem findEntry_section {privileged write : Bool} {va : Word} (hd : (s.descriptor va).extractLsb' 0 2 = 2#2) :
    findEntry s.cp15 true (s.dataRequest privileged write va) s =
      .ok (s.sectionEntry privileged write va, s.withEntry (s.sectionEntry privileged write va)) := by
  obtain ⟨e, he⟩ : ∃ e, e = s.sectionEntry privileged write va := ⟨_, rfl⟩
  obtain ⟨u, hu⟩ : ∃ u : State, u = { s with cp15 := { s.cp15 with tlbMain := [e] } } := ⟨_, rfl⟩
  have hmicro : u.cp15.micro (s.dataRequest privileged write va).side = [] := by
    rw [hu]
    exact h.noEntry.1
  have huse : (microUse u (s.dataRequest privileged write va).side).2 = true := by
    have hrun : u.halted = false := by rw [hu]; exact h.running
    simp [microUse, hrun]
  have hload : loadMicro s.cp15 (s.dataRequest privileged write va) e none u = s.withEntry e := by
    simp only [loadMicro, hmicro, List.filter_nil, List.length_nil, Nat.zero_lt_succ, if_true]
    rw [hu]
    rfl
  rw [findEntry_walk h, findAndLoad, findMain_walk h, walk_section h hd, ← he]
  simp only [bind, Except.bind, loadEntry_fresh h, ← hu, huse, Bool.and_self, if_true, hload]
  rfl

/-- With S = R = 0 and no Force AP the permissions of a client are those of the table. -/
theorem permits_fresh (apx : Bool) (ap : BitVec 2) (privileged write : Bool) :
    permits (s.cp15.control s.nsState) apx ap privileged write = clientMay apx ap privileged write := by
  have hs : bit (s.cp15.control s.nsState) 8 = false := h.control.2.2.2.1
  have hr : bit (s.cp15.control s.nsState) 9 = false := h.control.2.2.2.2.1
  simp only [permits, usesAccessBit_fresh h, hs, hr, Bool.false_eq_true, if_false]
  rw [clientMay.eq_def]
  split <;> simp_all

/-- The domain of a section's descriptor. -/
def sectionDomain (d : Word) : BitVec 4 := bits d 5 4

/-- The field of the DACR for a domain. -/
def State.domainAccess (s : State) (domain : BitVec 4) : BitVec 2 := bits (s.cp15.bank s.nsState).dacr (2 * domain.toNat) 2

/-- The physical address that a section gives an address. -/
def State.sectionAddress (s : State) (d va : Word) : Word := d.extractLsb' 20 12 ++ (s.mva va).extractLsb' 0 20

/-- The translation of a section with attributes `a`. -/
def translationOfSection (d mva : Word) (ns : Bool) (a : MemAttrs) : Translation :=
  { pa := d.extractLsb' 20 12 ++ mva.extractLsb' 0 20, ns := ns, attrs := a, table := a, place := .external
    offset := (d.extractLsb' 20 12 ++ mva.extractLsb' 0 20 : Word).toNat, domain := some (sectionDomain d) }

theorem makeTranslation_fresh (r : Request) (hr : r.ns = s.nsState) (ns : Bool) (pa : Word) (a : MemAttrs) (domain : Option (BitVec 4)) :
    makeTranslation s.cp15 s.bus r ns pa a domain =
      { pa := pa, ns := ns, attrs := a, table := a, place := .external, offset := pa.toNat, domain := domain } := by
  have hport : inPeripheralRegion (s.cp15.bank s.nsState) pa = false := by
    simp [inPeripheralRegion, peripheralSize, h.noPort, bits]
  have h0 : bit s.cp15.dtcmRegion[(0 : Fin 2)] 0 = false ∧ bit s.cp15.itcmRegion[(0 : Fin 2)] 0 = false := h.tcmsOff 0
  have h1 : bit s.cp15.dtcmRegion[(1 : Fin 2)] 0 = false ∧ bit s.cp15.itcmRegion[(1 : Fin 2)] 0 = false := h.tcmsOff 1
  have htcm : tcmPlace s.cp15 ns r.fetch pa = none := by
    simp only [tcmPlace, tcmOffset, h0, h1, Bool.false_and, Bool.false_eq_true, if_false, ite_self]
  have hplace : levelTwoPlace s.bus ns pa = .external := by simp [levelTwoPlace, h.quietBus]
  simp only [makeTranslation, hr, hport, Bool.and_false, Bool.false_eq_true, if_false, htcm, hplace]

section

variable {d : Word} (hsuper : bit d 18 = false) (privileged write : Bool) (va : Word) (hdesc : s.descriptor va = d)
include hsuper hdesc

omit h in
theorem sectionEntry_parts : (s.sectionEntry privileged write va).pa = sectionPa d (s.nsState || bit d 19) s.nsState (bit d 15) (bits d 10 2) ∧
    (s.sectionEntry privileged write va).attr = plainAttr (sectionDomain d) (bit d 4) (bits d 12 3) (bit d 3) (bit d 2) (bit d 16) := by
  subst hdesc
  simp only [State.sectionEntry, Machine.sectionEntry, hsuper, Bool.false_eq_true, if_false, if_true]
  exact makeEntry_section ..

/-- The checks of an access through a section. -/
theorem checkEntry_section (u : State) (hu : u.bus = s.bus) :
    checkEntry s.cp15 (s.cp15.control s.nsState) (s.dataRequest privileged write va) (s.sectionEntry privileged write va) u =
      if !bit (s.domainAccess (sectionDomain d)) 0 then mmuFault 0b01001#5 (some (sectionDomain d)) u
      else if !bit (s.domainAccess (sectionDomain d)) 1 && !clientMay (bit d 15) (bits d 10 2) privileged write then
        mmuFault 0b01101#5 (some (sectionDomain d)) u
      else
        match descriptorAttrs s.cp15 s.nsState (bits d 12 3) (bit d 3) (bit d 2) (bit d 16) with
        | none => .error (.refuse .reservedAttributes)
        | some a => .ok (translationOfSection d (s.mva va) (s.nsState || bit d 19) a) := by
  obtain ⟨hpa, hattr⟩ := sectionEntry_parts hsuper privileged write va hdesc
  obtain ⟨-, hworld, htag, hapx⟩ := sectionPa_flags d (s.nsState || bit d 19) s.nsState (bit d 15) (bits d 10 2)
  obtain ⟨hsub, hc, hb, hs⟩ := plainAttr_flags (sectionDomain d) (bit d 4) (bits d 12 3) (bit d 3) (bit d 2) (bit d 16)
  have hsize := sectionPa_size d (s.nsState || bit d 19) s.nsState (bit d 15) (bits d 10 2)
  have hphysical := TlbEntry.physical_section (e := s.sectionEntry privileged write va) (hpa ▸ hsize) (hpa ▸ sectionPa_base ..) (s.mva va)
  have hsection : (s.sectionEntry privileged write va).isSection = true := by
    rw [TlbEntry.isSection, TlbEntry.shift, hpa, hsize]
    rfl
  have haccess : (s.sectionEntry privileged write va).accessBits (s.mva va) = (bit d 15, bits d 10 2) := by
    rw [TlbEntry.accessBits, hattr, hsub, if_neg Bool.false_ne_true, hpa, hapx, sectionPa_ap]
  have hdomain : (s.sectionEntry privileged write va).domain = sectionDomain d := by rw [TlbEntry.domain, hattr, plainAttr_domain]
  have htex : bits (s.sectionEntry privileged write va).attr 3 3 = bits d 12 3 := by rw [hattr, plainAttr_tex]
  have htag' : bit (s.sectionEntry privileged write va).pa 9 = (s.nsState || bit d 19) := hpa ▸ htag
  rw [← hattr] at hc hb hs
  simp only [checkEntry, State.dataRequest, haccess, hdomain, htex, hphysical, hu, permits_fresh h, TlbEntry.code, hsection, if_true,
    Bool.false_and, Bool.or_false, Bool.false_eq_true, if_false, htag', hc, hb, hs, makeTranslation_fresh h]
  cases descriptorAttrs s.cp15 s.nsState (bits d 12 3) (bit d 3) (bit d 2) (bit d 16) <;> rfl

end

/-- The translation of a data access that the table maps by no section. -/
theorem dataTranslate_none {acc : Access} (hacc : acc.unaligned = false) {write : Bool} {va : Word} (hd : (s.descriptor va).extractLsb' 0 2 = 0#2) :
    dataTranslate acc write va s =
      .error (.taken (takeDataAbort { code := 0b00101#5, domain := none, external := false, slverr := false } (s.mva va) write s)) := by
  have hon : bit (s.cp15.control s.nsState) 0 = true := h.control.1
  have htranslate : translate s.cp15 true (s.dataRequest acc.privileged write va) s = mmuFault 0b00101#5 none s := by
    rw [translate, show (s.dataRequest acc.privileged write va).ns = s.nsState from rfl, hon, if_pos rfl, findEntry_none h hd]
    rfl
  simp only [State.dataRequest] at htranslate
  simp only [dataTranslate, hacc, htranslate]
  rfl

section

variable {d : Word} (hsection : d.extractLsb' 0 2 = 2#2) (hsuper : bit d 18 = false) {acc : Access} (hacc : acc.unaligned = false)
  (write : Bool) (va : Word) (hdesc : s.descriptor va = d)
include hsection hsuper hacc hdesc

/-- The state after the walk. -/
def State.walked (s : State) (acc : Access) (write : Bool) (va : Word) : State := s.withEntry (s.sectionEntry acc.privileged write va)

omit hsuper hacc in
theorem translate_section : translate s.cp15 true (s.dataRequest acc.privileged write va) s =
    (checkEntry s.cp15 (s.cp15.control s.nsState) (s.dataRequest acc.privileged write va) (s.sectionEntry acc.privileged write va)
      (s.walked acc write va) >>= fun t => pure (t, s.walked acc write va)) := by
  have hon : bit (s.cp15.control s.nsState) 0 = true := h.control.1
  have hrule : rulingControl (s.sectionEntry acc.privileged write va) (s.cp15.control s.nsState) (s.walked acc write va) =
      (s.cp15.control s.nsState, s.walked acc write va) := if_pos rfl
  rw [translate, show (s.dataRequest acc.privileged write va).ns = s.nsState from rfl, hon, if_pos rfl,
    findEntry_section h (by rw [hdesc]; exact hsection)]
  simp only [State.walked] at hrule ⊢
  simp only [bind, Except.bind, hrule, accessBitFault_fresh h, Bool.false_eq_true, if_false]

theorem dataTranslate_fault {code : BitVec 5}
    (hcheck : (bit (s.domainAccess (sectionDomain d)) 0 = false ∧ code = 0b01001#5) ∨
      (bit (s.domainAccess (sectionDomain d)) 0 = true ∧ bit (s.domainAccess (sectionDomain d)) 1 = false ∧
        clientMay (bit d 15) (bits d 10 2) acc.privileged write = false ∧ code = 0b01101#5)) :
    dataTranslate acc write va s = .error (.taken (takeDataAbort
      { code := code, domain := some (sectionDomain d), external := false, slverr := false } (s.mva va) write (s.walked acc write va))) := by
  have hfault : checkEntry s.cp15 (s.cp15.control s.nsState) (s.dataRequest acc.privileged write va) (s.sectionEntry acc.privileged write va)
      (s.walked acc write va) = mmuFault code (some (sectionDomain d)) (s.walked acc write va) := by
    rw [checkEntry_section h hsuper _ _ _ hdesc (s.walked acc write va) rfl]
    rcases hcheck with ⟨h0, rfl⟩ | ⟨h0, h1, hno, rfl⟩
    · rw [h0]
      rfl
    · rw [h0, h1, hno]
      rfl
  have htranslate := translate_section h hsection (acc := acc) write va hdesc
  rw [hfault] at htranslate
  simp only [State.dataRequest] at htranslate
  simp only [dataTranslate, hacc, htranslate]
  rfl

theorem dataTranslate_section {a : MemAttrs}
    (hmay : bit (s.domainAccess (sectionDomain d)) 0 = true ∧
      (bit (s.domainAccess (sectionDomain d)) 1 = true ∨ clientMay (bit d 15) (bits d 10 2) acc.privileged write = true))
    (hattrs : descriptorAttrs s.cp15 s.nsState (bits d 12 3) (bit d 3) (bit d 2) (bit d 16) = some a) :
    dataTranslate acc write va s = .ok (translationOfSection d (s.mva va) (s.nsState || bit d 19) a, s.walked acc write va) := by
  have hcheck : checkEntry s.cp15 (s.cp15.control s.nsState) (s.dataRequest acc.privileged write va) (s.sectionEntry acc.privileged write va)
      (s.walked acc write va) = .ok (translationOfSection d (s.mva va) (s.nsState || bit d 19) a) := by
    rw [checkEntry_section h hsuper _ _ _ hdesc (s.walked acc write va) rfl, hattrs]
    obtain ⟨h0, h1⟩ := hmay
    rw [h0]
    rcases h1 with h1 | h1 <;> simp [h1]
  have hconflict : conflictingAttrs (s.walked acc write va).cp15 (translationOfSection d (s.mva va) (s.nsState || bit d 19) a) = false := by
    obtain ⟨hpa, hattr⟩ := sectionEntry_parts hsuper acc.privileged write va hdesc
    obtain ⟨-, hworld, -, -⟩ := sectionPa_flags d (s.nsState || bit d 19) s.nsState (bit d 15) (bits d 10 2)
    obtain ⟨-, hc, hb, hs⟩ := plainAttr_flags (sectionDomain d) (bit d 4) (bits d 12 3) (bit d 3) (bit d 2) (bit d 16)
    have hentry : descriptorAttrs (s.walked acc write va).cp15 (bit (s.sectionEntry acc.privileged write va).pa 8)
        (bits (s.sectionEntry acc.privileged write va).attr 3 3) (bit (s.sectionEntry acc.privileged write va).attr 2)
        (bit (s.sectionEntry acc.privileged write va).attr 1) (bit (s.sectionEntry acc.privileged write va).attr 0) = some a := by
      rw [hpa, hattr, hworld, hc, hb, hs, plainAttr_tex]
      exact hattrs
    have hlocked : ∀ e ∈ s.cp15.tlbLocked.toList, bit e.pa 0 = false := by
      intro e he
      obtain ⟨i, hi, rfl⟩ := Vector.mem_iff_getElem.mp (Vector.mem_toList_iff.mp he)
      exact h.noEntry.2.2 ⟨i, hi⟩
    rw [conflictingAttrs, Bool.and_eq_false_iff]
    refine .inr (List.any_eq_false.mpr fun e he => ?_)
    rcases List.mem_append.mp he with hmem | hmem
    · simp [hlocked e hmem]
    · rw [List.mem_singleton.mp (show e ∈ [s.sectionEntry acc.privileged write va] from hmem), hentry]
      simp [translationOfSection]
  have htranslate := translate_section h hsection (acc := acc) write va hdesc
  rw [hcheck] at htranslate
  simp only [State.dataRequest] at htranslate
  simp only [dataTranslate, hacc, htranslate, bind, Except.bind, pure, Except.pure, hconflict]
  rfl

end

/-! ### The access -/

omit h in
/-- The access of an aligned LDR or STR. -/
def State.wordAccess (s : State) : Access :=
  { privileged := s.mode != 0b10000#5, precise := false, unaligned := false, multiple := false, lock := .normal }

theorem checkEndian_fresh : checkEndian s = .ok () := checkEndian_little h.little

omit h in
theorem wordAccess_eq {x : AccessType} (hx : x = .wLoad ∨ x = .wStore) {va : Word} (ha : va.toNat % 4 = 0) :
    ({ privileged := s.privileged && !false, precise := false, unaligned := normalUnaligned s.unalignedOn x va, multiple := false
       lock := .normal } : Access) = s.wordAccess := by
  have hbits : bits va 0 2 = 0#2 := bits_of_aligned (k := 2) ha (by omega)
  rw [State.wordAccess, Bool.not_false, Bool.and_true]
  rcases hx with rfl | rfl <;> simp [normalUnaligned, hbits, State.privileged, modeUsr]

theorem loadWord_stopped {va : Word} (ha : va.toNat % 4 = 0) {e : Stop} (hpart : loadPart s.wordAccess 4 va s = .error e) :
    loadWord false false va s = .error e := by
  have hroom : 4 ≤ roomAt va := roomAt_of_aligned (k := 2) ha (by omega) (by omega)
  simp only [loadWord, memRead, readAs, checkEndian_fresh h, checkAlignment_of_aligned (t := .wLoad) ha, bind, Except.bind, plainAccess,
    wordAccess_eq (.inl rfl) ha, loadNumber, loadBytes, hroom, if_true, hpart]

theorem loadWord_loaded {va : Word} (ha : va.toNat % 4 = 0) {bytes : List Byte} {e : TlbEntry}
    (hpart : loadPart s.wordAccess 4 va s = .ok (bytes, s.withEntry e)) : loadWord false false va s = .ok (ofBytesLE bytes, s.withEntry e) := by
  have hroom : 4 ≤ roomAt va := roomAt_of_aligned (k := 2) ha (by omega) (by omega)
  have hbits : bits va 0 2 = 0#2 := bits_of_aligned (k := 2) ha (by omega)
  have hbig : (s.withEntry e).bigEndian = false := by
    have hb : (s.withEntry e).be32 = false := h.control.2.2.1
    have he : bit (s.withEntry e).cpsr 9 = false := h.little
    rw [State.bigEndian, hb, he, Bool.or_false]
  have hrotate (w : Word) : rotateLoaded (s.withEntry e) va w = w := by
    rw [rotateLoaded, hbits]
    split
    · rfl
    · simp [BitVec.rotateRight, BitVec.rotateRightAux]
  have htrace (a : Word) (n : Nat) (l : List Byte) : traceAccess false a a l n (s.withEntry e) = s.withEntry e := by
    have hetm : (s.withEntry e).pins.etmpwrup = false := h.noEtm
    simp [traceAccess, recordAccess, hetm]
  simp only [loadWord, memRead, readAs, checkEndian_fresh h, checkAlignment_of_aligned (t := .wLoad) ha, bind, Except.bind, plainAccess,
    wordAccess_eq (.inl rfl) ha, loadNumber, loadBytes, hroom, if_true, hpart, pure, Except.pure, hbig, htrace, hrotate, assemble,
    Bool.false_eq_true, if_false]

/-- A store of an aligned word is a store of its bytes in one line. -/
theorem memWrite_fresh {va : Word} (ha : va.toNat % 4 = 0) (v : Word) : memWrite .wStore false 4 va v s =
    (storePart s.wordAccess (toBytesLE 4 v) va s >>= fun t =>
      .ok (traceAccess true va va (disassemble t.bigEndian 4 v) s.inflight.length t)) := by
  have hroom : (toBytesLE 4 v).length ≤ roomAt va := roomAt_of_aligned (k := 2) ha (by simp [toBytesLE]) (by omega)
  have hbig : s.bigEndian = false := by
    have hb : s.be32 = false := h.control.2.2.1
    rw [State.bigEndian, hb, h.little, Bool.or_false]
  simp only [memWrite, writeAs, checkEndian_fresh h, checkAlignment_of_aligned (t := .wStore) ha, bind, Except.bind, plainAccess,
    wordAccess_eq (.inr rfl) ha, storeNumber, hbig, disassemble, Bool.false_eq_true, if_false, storeBytes, hroom, if_true, pure, Except.pure]

omit h in
theorem watchAccess_noDebug {t : State} (hdebug : t.pins.dbgen = false) (acc : Access) (x : Translation) (va : Word) (n : Nat) (w : Bool) :
    watchAccess acc x va n w t = .ok t := by
  have hone (a : Word) (k : Nat) : recordWatch t (t.mva a) k w acc.privileged x.domain = .ok t := by
    simp [recordWatch, State.eventMode, State.debugPermitted, hdebug]
  have hall (l : List (Word × Nat)) : l.foldlM (fun s (a, k) => recordWatch s (s.mva a) k w acc.privileged x.domain) t = (.ok t : Result State) := by
    induction l with
    | nil => rfl
    | cons y l ih => simp only [List.foldlM_cons, hone, bind, Except.bind]; exact ih
  exact hall _

theorem drainTo_fresh (e : TlbEntry) (f : BufferedWrite → Bool) : (s.withEntry e).drainTo f = s.withEntry e :=
  State.drainTo_of_empty (s := s.withEntry e) (writeBuffer_fresh (s := s) h) f

theorem orderBefore_fresh (e : TlbEntry) (x : Translation) (write : Bool) : orderBefore x write (s.withEntry e) = s.withEntry e := by
  have hcomplete : completeAccesses (s.withEntry e) = s.withEntry e := completeAccesses_of_complete h.complete
  unfold orderBefore
  split <;> simp [hcomplete, drainTo_fresh h]

theorem loadAt_fresh (e : TlbEntry) (acc : Access) {x : Translation} (hx : x.place = .external) (n : Nat) (va : Word) :
    loadAt acc x n va (s.withEntry e) = .ok ((List.range n).map fun i => s.byteAt .external (x.offset + i), s.withEntry e) := by
  have hcache : dcacheUsed (s.withEntry e) x = false := by
    have hc : (s.withEntry e).controlBit 2 = false := h.control.2.1
    simp [dcacheUsed, hc]
  have hb : (s.withEntry e).be32 = false := h.control.2.2.1
  have hbus : (s.withEntry e).bus = [] := h.quietBus
  have hfill : dataFills (s.withEntry e) acc x = false := by simp [dataFills, hcache]
  have hwanted (rs : List BusRequest) (l : List Nat) : wantedError [] rs l = none := by simp [wantedError, transferError_quiet]
  have herror : loadError (s.withEntry e) acc x n va = none := by simp [loadError, dataHit, hcache, hbus, hwanted]
  simp only [loadAt, dataHit, hcache, dataElsewhere, drainTo_fresh h, hbus, readData_quiet, hfill, herror, byteAddresses, hb, Bool.and_false,
    Bool.false_and, Bool.false_eq_true, if_false, List.map_map, hx]
  rfl

theorem storeAt_fresh (e : TlbEntry) (acc : Access) {x : Translation} (hx : x.place = .external) (bytes : List Byte) (va : Word) :
    storeAt acc x bytes va (s.withEntry e) =
      .ok (putBytes x (((List.range bytes.length).map fun i => x.offset + i).zip bytes) (s.withEntry e)) := by
  have hcache : dcacheUsed (s.withEntry e) x = false := by
    have hc : (s.withEntry e).controlBit 2 = false := h.control.2.1
    simp [dcacheUsed, hc]
  have hb : (s.withEntry e).be32 = false := h.control.2.2.1
  have hbus : (s.withEntry e).bus = [] := h.quietBus
  have hrun : debugWriteThrough (s.withEntry e) = false := by
    have hh : (s.withEntry e).halted = false := h.running
    simp [debugWriteThrough, hh]
  simp only [storeAt, storeHit, hrun, dataHit, hcache, dataElsewhere, storePast, hbus, firstError_quiet, byteAddresses, hb,
    Bool.and_false, Bool.false_and, Bool.false_eq_true, if_false, hx]

omit h in
/-- Bytes in the external memory, through the write buffer or not. -/
theorem putBytes_external {x : Translation} (hx : x.place = .external) (l : List (Nat × Byte)) (t : State) :
    (putBytes x l t).mem = (t.setBytesAt .external l).mem ∧
      putBytes x l t = { t with mem := (putBytes x l t).mem, stale := (putBytes x l t).stale, writeBuffer := (putBytes x l t).writeBuffer } := by
  have hframe := setBytesAt_frame t l
  rw [putBytes, hx]
  split
  · rw [State.bufferBytesAt]
    split
    next hempty => rw [List.isEmpty_iff.mp hempty]; exact ⟨rfl, rfl⟩
    next => exact ⟨rfl, by rw [hframe]⟩
  · exact ⟨rfl, by rw [hframe]⟩

omit h in
theorem toBytesLE_four (v : Word) : (toBytesLE 4 v).getD 3 0#8 ++ (toBytesLE 4 v).getD 2 0#8 ++ (toBytesLE 4 v).getD 1 0#8 ++
    (toBytesLE 4 v).getD 0 0#8 = v := by
  change ((v >>> 8) >>> 8 >>> 8).setWidth 8 ++ ((v >>> 8) >>> 8).setWidth 8 ++ (v >>> 8).setWidth 8 ++ v.setWidth 8 = v
  apply BitVec.eq_of_getLsbD_eq
  intro i hi
  simp only [BitVec.getLsbD_append, BitVec.getLsbD_setWidth, BitVec.getLsbD_ushiftRight]
  by_cases h8 : i < 8
  · rw [if_pos h8, decide_eq_true h8, Bool.true_and]
  · rw [if_neg h8]
    by_cases h16 : i - 8 < 8
    · rw [if_pos h16, decide_eq_true h16, Bool.true_and, show 8 + (i - 8) = i by omega]
    · rw [if_neg h16]
      by_cases h24 : i - 8 - 8 < 8
      · rw [if_pos h24, decide_eq_true h24, Bool.true_and, show 8 + (8 + (i - 8 - 8)) = i by omega]
      · rw [if_neg h24, decide_eq_true (by omega), Bool.true_and, show 8 + (8 + (8 + (i - 8 - 8 - 8))) = i by omega]

section

variable {d : Word} (hsection : d.extractLsb' 0 2 = 2#2) (hsuper : bit d 18 = false) {write : Bool} {va : Word} (ha : va.toNat % 4 = 0)
  (hdesc : s.descriptor va = d) {a : MemAttrs}
  (hmay : bit (s.domainAccess (sectionDomain d)) 0 = true ∧
    (bit (s.domainAccess (sectionDomain d)) 1 = true ∨ clientMay (bit d 15) (bits d 10 2) (s.mode != 0b10000#5) write = true))
  (hattrs : descriptorAttrs s.cp15 s.nsState (bits d 12 3) (bit d 3) (bit d 2) (bit d 16) = some a)
include hsection hsuper ha hdesc hmay hattrs

theorem loadWord_section (hwrite : write = false) : ∃ e : TlbEntry,
    loadWord false false va s = .ok (s.physWord (s.sectionAddress d va), s.withEntry e) := by
  subst hwrite
  have hpart : loadPart s.wordAccess 4 va s = .ok ((List.range 4).map fun i => s.byteAt .external ((s.sectionAddress d va).toNat + i),
      s.walked s.wordAccess false va) := by
    rw [loadPart, dataTranslate_section h hsection hsuper (acc := s.wordAccess) rfl false va hdesc hmay hattrs]
    change (loadAt _ _ 4 va (orderBefore _ false (s.withEntry _)) >>= _) = _
    rw [orderBefore_fresh h, loadAt_fresh h _ _ rfl]
    change (watchAccess _ _ va 4 false (s.withEntry _) >>= _) = _
    rw [watchAccess_noDebug (t := s.withEntry (s.sectionEntry s.wordAccess.privileged false va)) h.noDebug]
    rfl
  refine ⟨_, (loadWord_loaded h ha hpart).trans (congrArg (fun w => Except.ok (w, s.walked s.wordAccess false va)) ?_)⟩
  exact ofBytesLE_four ..

theorem memWrite_section (hwrite : write = true) (v : Word) : ∃ (e : TlbEntry) (t : State), memWrite .wStore false 4 va v s = .ok t ∧
    t.physWord (s.sectionAddress d va) = v ∧
    (∀ b : Nat, b < (s.sectionAddress d va).toNat ∨ (s.sectionAddress d va).toNat + 4 ≤ b → t.byteAt .external b = s.byteAt .external b) ∧
    t = { s.withEntry e with mem := t.mem, stale := t.stale, writeBuffer := t.writeBuffer } := by
  subst hwrite
  obtain ⟨u, hu⟩ : ∃ u, u = s.walked s.wordAccess true va := ⟨_, rfl⟩
  obtain ⟨x, hx⟩ : ∃ x, x = translationOfSection d (s.mva va) (s.nsState || bit d 19) a := ⟨_, rfl⟩
  obtain ⟨writes, hwrites⟩ : ∃ writes, writes = ((List.range (toBytesLE 4 v).length).map fun i => (s.sectionAddress d va).toNat + i).zip (toBytesLE 4 v) :=
    ⟨_, rfl⟩
  obtain ⟨hmem, hframe⟩ := putBytes_external (x := x) (by rw [hx]; rfl) writes u
  obtain ⟨t, ht⟩ : ∃ t, t = putBytes x writes u := ⟨_, rfl⟩
  rw [← ht] at hmem hframe
  have hdebug : t.pins.dbgen = false := by rw [hframe, hu]; exact h.noDebug
  have hetm : t.pins.etmpwrup = false := by rw [hframe, hu]; exact h.noEtm
  have hpart : storePart s.wordAccess (toBytesLE 4 v) va s = .ok t := by
    rw [storePart, dataTranslate_section h hsection hsuper (acc := s.wordAccess) rfl true va hdesc hmay hattrs]
    change (storeAt _ _ _ va (orderBefore _ true (s.withEntry _)) >>= _) = _
    rw [orderBefore_fresh h, storeAt_fresh h _ _ rfl, bind_ok]
    rw [ht, hx, hwrites, hu] at hdebug ⊢
    exact watchAccess_noDebug hdebug ..
  have hbyte (b : Nat) : t.byteAt .external b = if (s.sectionAddress d va).toNat ≤ b ∧ b < (s.sectionAddress d va).toNat + 4 then
      (toBytesLE 4 v).getD (b - (s.sectionAddress d va).toNat) 0#8 else s.byteAt .external b := by
    have hform : u.memoryWf = true := by rw [hu]; exact h.form
    have hrange := byteAt_setBytesAt_range hform (s.sectionAddress d va).toNat (toBytesLE 4 v) b
    rw [← hwrites] at hrange
    refine (congrArg (fun m => readCell m b) hmem).trans (hrange.trans ?_)
    rw [hu]
    rfl
  refine ⟨s.sectionEntry s.wordAccess.privileged true va, t, ?_, ?_, fun b hb => ?_, hframe.trans (by rw [hu]; rfl)⟩
  · rw [memWrite_fresh h ha, hpart, bind_ok]
    simp [traceAccess, recordAccess, hetm]
  · have hin (i : Nat) (hi : i < 4) : t.byteAt .external ((s.sectionAddress d va).toNat + i) = (toBytesLE 4 v).getD i 0#8 := by
      rw [hbyte, if_pos (by omega), Nat.add_sub_cancel_left]
    have h0 := hin 0 (by omega)
    rw [Nat.add_zero] at h0
    rw [State.physWord, hin 3 (by omega), hin 2 (by omega), hin 1 (by omega), h0, toBytesLE_four]
  · rw [hbyte, if_neg (by omega)]

end

end

/-! ### The instructions -/

section

variable {c : Cond} {u : Bool} {rn rd : Reg} {off12 : BitVec 12} {s : State} (hc : condHolds c s.cpsr = true) (hrd : rd ≠ 15#4)
include hc hrd

/-- LDR with an offset and no base update is the load of a word. -/
theorem ldrImm_offset : exec (.ldrImm c true u false rn rd off12) s =
    finish (loadWord false false (offsetAddress u (s.reg rn) (off12.setWidth 32)) s >>= fun x => .ok (x.2.setReg rd x.1).advance) := by
  change finish (loadRegOrPc c true u false rn rd (zext off12) (.ok ()) s) = _
  rw [loadRegOrPc, conditional_pass hc, checkBase_pass (by simp)]
  change finish (if rd = 15#4 then _ else _) = _
  rw [if_neg hrd]
  rfl

/-- STR with an offset and no base update is the store of a word. -/
theorem strImm_offset : exec (.strImm c true u false rn rd off12) s =
    finish (memWrite .wStore false 4 (offsetAddress u (s.reg rn) (off12.setWidth 32)) (s.reg rd) s >>= fun t => .ok t.advance) := by
  change finish (storeReg c true u false rn rd (zext off12) (.ok ()) (writeWord false) s) = _
  rw [storeReg, conditional_pass hc, checkBase_pass (by simp)]
  change finish (memWrite .wStore false 4 (offsetAddress u (s.reg rn) (off12.setWidth 32)) (storeValue s rd) s >>= fun t => .ok t.advance) = _
  rw [storeValue, if_neg hrd]

theorem ldrImm_stopped (h : s.freshMmu) (ha : (offsetAddress u (s.reg rn) (off12.setWidth 32)).toNat % 4 = 0) {t : State}
    (htranslate : dataTranslate s.wordAccess false (offsetAddress u (s.reg rn) (off12.setWidth 32)) s = .error (.taken t)) :
    exec (.ldrImm c true u false rn rd off12) s = .next t := by
  rw [ldrImm_offset hc hrd, loadWord_stopped h ha (by rw [loadPart, htranslate]; rfl)]
  rfl

theorem strImm_stopped (h : s.freshMmu) (ha : (offsetAddress u (s.reg rn) (off12.setWidth 32)).toNat % 4 = 0) {t : State}
    (htranslate : dataTranslate s.wordAccess true (offsetAddress u (s.reg rn) (off12.setWidth 32)) s = .error (.taken t)) :
    exec (.strImm c true u false rn rd off12) s = .next t := by
  rw [strImm_offset hc hrd, memWrite_fresh h ha, storePart, htranslate]
  rfl

end

/-- `u` is `s` but for the TLBs. -/
def OnlyTlbs (s u : State) : Prop := u = { s with cp15 := { s.cp15 with tlbMain := u.cp15.tlbMain, dMicroTlb := u.cp15.dMicroTlb } }

/-- An MMU fault is a precise Data Abort, seen from the state before the walk. -/
theorem dataAborted_walked {s u : State} (hrun : s.halted = false) (hu : OnlyTlbs s u) (code : BitVec 5) (domain : Option (BitVec 4)) (mva : Word)
    (write : Bool) : ∃ d : BitVec 4, (∀ x, domain = some x → d = x) ∧
      DataAborted s (takeDataAbort { code := code, domain := domain, external := false, slverr := false } mva write u) mva
        (faultStatus write code d) := by
  obtain ⟨d, hd, habort⟩ := dataAborted_fault (s := u) (by rw [hu]; exact hrun) code domain mva write
  have hns : u.nsState = s.nsState := by rw [hu]; rfl
  have hvector : plainVector u.cp15 s.nsState 0x10#32 = plainVector s.cp15 s.nsState 0x10#32 := by rw [hu]; rfl
  obtain ⟨hmode, hlink, hsaved, hfar, hdfsr, hpc, hregs, hmem, hmemNs, hdcache, hitcm, hdtcm, hbuffer⟩ := habort
  rw [hns] at hfar hdfsr hpc
  rw [hvector] at hpc
  refine ⟨d, hd, hmode, ?_, ?_, hfar, hdfsr, hpc, fun j hj => ?_, ?_, ?_, ?_, ?_, ?_, ?_⟩
  · rw [hlink, hu]
  · rw [hsaved, hu]
  · rw [hregs j hj, hu]
  · rw [hmem, hu]
  · rw [hmemNs, hu]
  · rw [hdcache, hu]
  · rw [hitcm, hu]
  · rw [hdtcm, hu]
  · rw [hbuffer, hu]

theorem faultStatus_translation (write : Bool) (d : BitVec 4) :
    faultStatus write 0b00101#5 d &&& 0x1C0F#32 = if write then 0x805#32 else 0x005#32 := by
  revert write d
  decide

theorem faultStatus_domain (write : Bool) (d : BitVec 4) :
    faultStatus write 0b01001#5 d &&& 0x1CFF#32 = (if write then 0x809#32 else 0x009#32) ||| (d.setWidth 32 <<< 4) := by
  revert write d
  decide

theorem faultStatus_permission (write : Bool) (d : BitVec 4) :
    faultStatus write 0b01101#5 d &&& 0x1CFF#32 = (if write then 0x80D#32 else 0x00D#32) ||| (d.setWidth 32 <<< 4) := by
  revert write d
  decide

/-- Strongly Ordered, and Noncacheable Normal. -/
theorem descriptorAttrs_uncached {s : State} (h : s.freshMmu) {d : Word} (hcb : d.extractLsb' 2 2 = 0#2) (htex : d.extractLsb' 12 3 ∈ [0#3, 1#3]) :
    ∃ a, descriptorAttrs s.cp15 s.nsState (bits d 12 3) (bit d 3) (bit d 2) (bit d 16) = some a := by
  have hremap : bit (s.cp15.control s.nsState) 28 = false := h.control.2.2.2.2.2.2.1
  have hc : bit d 3 = false := by
    have := congrArg (fun v : BitVec 2 => v.getLsbD 1) hcb
    simpa [bit] using this
  have hb : bit d 2 = false := by
    have := congrArg (fun v : BitVec 2 => v.getLsbD 0) hcb
    simpa [bit] using this
  simp only [List.mem_cons, List.not_mem_nil, or_false] at htex
  rcases htex with htex | htex
  · rw [show bits d 12 3 = 0#3 from htex, hc, hb, descriptorAttrs.eq_def, hremap]
    exact ⟨_, rfl⟩
  · rw [show bits d 12 3 = 1#3 from htex, hc, hb, descriptorAttrs.eq_def, hremap]
    exact ⟨_, rfl⟩

end Sys2Proof.Machine

open Sys2Proof Sys2Proof.Machine

/-- Settles O11: with empty TLBs an access is the walk, the checks of the section's entry, and the access of the memory. -/
theorem sectionTranslation : Obligations.SectionTranslation := by
  unfold Obligations.SectionTranslation
  intro c u rn rd off12 s hc h hrd va mva table d domain access pa load store aborts may tlbs fault ha
  have haborts {i : Instr} {write : Bool} {code : BitVec 5} {dom : Option (BitVec 4)} {w : State} {mask status : Word} (hw : OnlyTlbs s w)
      (hexec : exec i s = .next (takeDataAbort { code := code, domain := dom, external := false, slverr := false } mva write w))
      (hstatus : ∀ x, (∀ y, dom = some y → x = y) → faultStatus write code x &&& mask = status) : aborts i mask status := by
    obtain ⟨x, hx, habort⟩ := dataAborted_walked h.running hw code dom mva write
    exact ⟨_, hexec, habort.mode, habort.link, habort.saved, habort.far, by rw [habort.dfsr, hstatus x hx], habort.pc, habort.regs, habort.mem,
      habort.memNs, habort.itcm, habort.dtcm, habort.writeBuffer⟩
  have hbit {x : BitVec 2} (hx : access = x) (k : Nat) : bit (s.domainAccess (sectionDomain d)) k = bit x k := by
    rw [← hx]
    rfl
  refine ⟨fun hnone => ⟨?_, ?_⟩, fun hsection hsuper => ⟨fun hno => ⟨?_, ?_⟩, fun hclient hmay => ?_, fun hclient hmay => ?_,
    fun hcb htex => ?_⟩⟩
  · exact haborts (w := s) rfl (ldrImm_stopped hc hrd h ha (dataTranslate_none h rfl hnone)) fun x _ => faultStatus_translation false x
  · exact haborts (w := s) rfl (strImm_stopped hc hrd h ha (dataTranslate_none h rfl hnone)) fun x _ => faultStatus_translation true x
  · exact haborts (w := s.walked s.wordAccess false va) rfl (ldrImm_stopped hc hrd h ha
      (dataTranslate_fault h hsection hsuper rfl false va rfl (.inl ⟨hbit hno 0, rfl⟩))) fun x hx => hx _ rfl ▸ faultStatus_domain false x
  · exact haborts (w := s.walked s.wordAccess true va) rfl (strImm_stopped hc hrd h ha
      (dataTranslate_fault h hsection hsuper rfl true va rfl (.inl ⟨hbit hno 0, rfl⟩))) fun x hx => hx _ rfl ▸ faultStatus_domain true x
  · exact haborts (w := s.walked s.wordAccess false va) rfl (ldrImm_stopped hc hrd h ha
      (dataTranslate_fault h hsection hsuper rfl false va rfl (.inr ⟨hbit hclient 0, hbit hclient 1, hmay, rfl⟩)))
      fun x hx => hx _ rfl ▸ faultStatus_permission false x
  · exact haborts (w := s.walked s.wordAccess true va) rfl (strImm_stopped hc hrd h ha
      (dataTranslate_fault h hsection hsuper rfl true va rfl (.inr ⟨hbit hclient 0, hbit hclient 1, hmay, rfl⟩)))
      fun x hx => hx _ rfl ▸ faultStatus_permission true x
  · obtain ⟨a, hattrs⟩ := descriptorAttrs_uncached h hcb htex
    have hlet {write : Bool} (hgrant : access = 3#2 ∨ (access = 1#2 ∧ may write = true)) :
        bit (s.domainAccess (sectionDomain d)) 0 = true ∧
          (bit (s.domainAccess (sectionDomain d)) 1 = true ∨ clientMay (bit d 15) (bits d 10 2) (s.mode != 0b10000#5) write = true) := by
      rcases hgrant with hmanager | ⟨hclient, hmay⟩
      · exact ⟨hbit hmanager 0, .inl (hbit hmanager 1)⟩
      · exact ⟨hbit hclient 0, .inr hmay⟩
    refine ⟨fun hgrant => ?_, fun hgrant => ?_⟩
    · obtain ⟨e, hload⟩ := loadWord_section h hsection hsuper ha rfl (hlet hgrant) hattrs rfl
      refine ⟨({ s with cp15 := { s.cp15 with tlbMain := [e], dMicroTlb := [e] } } : State).wrote rd (s.physWord pa), (ldrImm_offset hc hrd).trans ?_, rfl⟩
      rw [show loadWord false false va s = _ from hload, bind_ok]
      exact congrArg Host.Outcome.next (State.setReg_advance ..)
    · obtain ⟨e, t, hstore, hword, hrest, hframe⟩ := memWrite_section h hsection hsuper ha rfl (hlet hgrant) hattrs rfl (s.reg rd)
      refine ⟨t.stepped, (strImm_offset hc hrd).trans ?_, hword, hrest, ?_⟩
      · rw [show memWrite .wStore false 4 va (s.reg rd) s = _ from hstore, bind_ok]
        exact congrArg Host.Outcome.next (State.advance_eq_stepped t)
      · rw [hframe]
        rfl

end

section
/-! What translations, linefills and write-backs change; the hints and SETEND. -/

namespace Sys2Proof.Machine

open Sys2Proof

/-! ### Translations -/

/-- `t` is `s` after translations for one side: the TLBs, the free values and what of the write buffer has drained may differ. -/
def Walked (k : MicroSide) (s t : State) : Prop :=
  t = { s with
    freeCtr := t.freeCtr, writeBuffer := t.writeBuffer
    cp15 := { s.cp15 with
      tlbMain := t.cp15.tlbMain, tlbLocked := t.cp15.tlbLocked, tlbLockdown := t.cp15.tlbLockdown }.setMicro k (t.cp15.micro k) }

/-- What a translation gives, or the abort of one, leaves a state with a property. -/
def XlateTo {α : Type} (p : State → Prop) (r : Xlate (α × State)) : Prop :=
  match r with
  | .ok (_, t) => p t
  | .error (.abort _ t) => p t
  | .error (.refuse _) => True

theorem XlateTo.imp {α : Type} {p q : State → Prop} (h : ∀ t, p t → q t) {r : Xlate (α × State)} (hr : XlateTo p r) : XlateTo q r := by
  rcases r with (⟨_, _⟩ | _) | ⟨_, _⟩
  · exact h _ hr
  · trivial
  · exact h _ hr

theorem XlateTo.bind {α β : Type} {p q : State → Prop} {r : Xlate (α × State)} (hr : XlateTo p r) {f : α × State → Xlate (β × State)}
    (habort : ∀ t, p t → q t) (hf : ∀ x t, p t → XlateTo q (f (x, t))) : XlateTo q (r >>= f) := by
  rcases r with (⟨_, _⟩ | _) | ⟨_, _⟩
  · exact habort _ hr
  · trivial
  · exact hf _ _ hr

namespace Walked

theorem refl (k : MicroSide) (s : State) : Walked k s s := by cases k <;> rfl

theorem trans {k : MicroSide} {s t u : State} (h : Walked k s t) (h' : Walked k t u) : Walked k s u := by
  unfold Walked at *
  rw [h', h]
  cases k <;> rfl

theorem drawBit (k : MicroSide) (s : State) : Walked k s (drawBit s).2 := by cases k <;> rfl

theorem drawWord (k : MicroSide) (s : State) : Walked k s (drawWord s).2 := by cases k <;> rfl

theorem drainTo (k : MicroSide) (s : State) (selects : BufferedWrite → Bool) : Walked k s (s.drainTo selects) := by cases k <;> rfl

theorem drainOne (k : MicroSide) (s : State) : Walked k s (drainOne s) := by
  unfold Machine.drainOne
  dsimp only
  split
  · exact (drawWord k s).trans (drainTo ..)
  · exact drawWord k s

theorem drainSome (k : MicroSide) (s : State) : Walked k s (drainSome s) := by
  unfold Machine.drainSome
  split
  · exact refl k s
  · exact (drainOne k s).trans (drainOne ..)

theorem readLevelTwo (k : MicroSide) (s : State) (p : Place) (as : List Nat) : Walked k s (readLevelTwo s p as).2 := by
  unfold Machine.readLevelTwo
  dsimp only
  split
  · exact drainSome k s
  · exact refl k s

theorem errorBit (k : MicroSide) (e : BusError) (s : State) : Walked k s (errorBit e s).2 := by
  cases e
  · exact refl k s
  · exact refl k s
  · exact drawBit k s

theorem walkRead (k : MicroSide) (s : State) (ns : Bool) (attrs : MemAttrs) (pa : Word) (code : BitVec 5) (domain : Option (BitVec 4)) :
    XlateTo (Walked k s) (walkRead s ns attrs pa code domain) := by
  unfold Machine.walkRead
  dsimp only
  split
  · exact errorBit ..
  · exact readLevelTwo ..

theorem walk (k : MicroSide) (c : Cp15) (r : Request) (s : State) : XlateTo (Walked k s) (walk c r s) := by
  unfold Machine.walk
  dsimp only
  split
  · exact refl k s
  · refine XlateTo.bind (walkRead k s ..) (fun _ h => h) fun d t ht => ?_
    dsimp only
    split
    · exact ht
    · refine XlateTo.bind (walkRead k t ..) (fun _ h => ht.trans h) fun d2 u hu => ?_
      dsimp only
      split
      · exact ht.trans hu
      · exact ht.trans hu
    · exact ht

theorem insertEntry (k : MicroSide) (s : State) (ns : Bool) (e : TlbEntry) (stale : Option TlbEntry) :
    Walked k s { s with cp15 := insertEntry s.cp15 ns e stale } := by
  unfold Machine.insertEntry
  dsimp only
  split <;> cases k <;> rfl

theorem loadEntry (k : MicroSide) (c : Cp15) (record : Bool) (r : Request) (e : TlbEntry) (replaced : Option TlbEntry) (s : State) :
    XlateTo (Walked k s) (loadEntry c record r e replaced s) := by
  unfold Machine.loadEntry
  dsimp only
  split
  · exact refl k s
  · split
    · exact insertEntry ..
    · exact refl k s

theorem findMain (k : MicroSide) (c : Cp15) (record : Bool) (r : Request) (s : State) : XlateTo (Walked k s) (findMain c record r s) := by
  have hwalk := walk k c r s
  unfold Machine.findMain
  dsimp only
  split
  · exact XlateTo.bind hwalk (fun _ h => h) fun e t ht => (loadEntry k c record r e none t).imp fun _ h => ht.trans h
  · split
    · split
      next e' t heq =>
        rw [heq] at hwalk
        split
        · exact hwalk
        · split
          · exact trans hwalk (drawBit k t)
          · exact (loadEntry ..).imp fun _ h => (trans hwalk (drawBit k t)).trans h
      next cause t heq =>
        rw [heq] at hwalk
        split <;> exact trans hwalk (drawBit k t)
      next => trivial
    · exact refl k s
  · trivial

theorem loadMicro (c : Cp15) (r : Request) (e : TlbEntry) (replaced : Option TlbEntry) (s : State) :
    Walked r.side s (loadMicro c r e replaced s) := by
  have hset (t : State) (ht : Walked r.side s t) (es : List TlbEntry) : Walked r.side s { t with cp15 := t.cp15.setMicro r.side es } := by
    refine ht.trans ?_
    cases r.side <;> rfl
  unfold Machine.loadMicro
  dsimp only
  split
  · exact hset s (refl ..) _
  · split
    · exact hset _ (drawWord ..) _
    · exact hset s (refl ..) _

theorem findAndLoad (c : Cp15) (record : Bool) (r : Request) (replaced : Option TlbEntry) (s : State) :
    XlateTo (Walked r.side s) (findAndLoad c record r replaced s) := by
  refine XlateTo.bind (findMain r.side c record r s) (fun _ h => h) fun e t ht => ?_
  change Walked r.side s (if record && (microUse t r.side).2 then Machine.loadMicro c r e replaced t else t)
  split
  · exact ht.trans (loadMicro ..)
  · exact ht

theorem findEntry (c : Cp15) (record : Bool) (r : Request) (s : State) : XlateTo (Walked r.side s) (findEntry c record r s) := by
  have hmain := findMain r.side c false r s
  unfold Machine.findEntry
  split
  · exact findAndLoad ..
  · split
    next e t heq =>
      rw [heq] at hmain
      split
      · exact hmain
      · dsimp only
        split
        · exact trans hmain (drawBit _ t)
        · exact (findAndLoad ..).imp fun _ h => (trans hmain (drawBit _ t)).trans h
    next cause t heq =>
      rw [heq] at hmain
      dsimp only
      split <;> exact trans hmain (drawBit _ t)
    next => trivial
  · trivial

theorem rulingControl (k : MicroSide) (e : TlbEntry) (control : Word) (s : State) : Walked k s (rulingControl e control s).2 := by
  unfold Machine.rulingControl
  split
  · exact refl k s
  · exact drawBit k s

/-- The checks leave the state as it is. -/
theorem checkEntry {k : MicroSide} {s u : State} (hu : Walked k s u) (c : Cp15) (control : Word) (r : Request) (e : TlbEntry) :
    XlateTo (Walked k s) (checkEntry c control r e u >>= fun t => pure (t, u)) := by
  unfold Machine.checkEntry
  dsimp only
  split
  · exact hu
  · split
    · exact hu
    · split
      · exact hu
      · split
        · trivial
        · split
          · trivial
          · exact hu

theorem translate (c : Cp15) (record : Bool) (r : Request) (s : State) : XlateTo (Walked r.side s) (translate c record r s) := by
  unfold Machine.translate
  split
  · refine XlateTo.bind (findEntry c record r s) (fun _ h => h) fun e t ht => ?_
    have hrule := ht.trans (rulingControl r.side e (c.control r.ns) t)
    dsimp only
    split
    · exact hrule
    · exact checkEntry hrule ..
  · dsimp only
    split
    · trivial
    · exact refl ..

end Walked

/-! ### Write-backs and linefills of the Data Cache -/

/-- `t` is `s` after accesses of the data side to level two and its cache. -/
def DataSide (s t : State) : Prop :=
  t = { s with
    mem := t.mem, memNs := t.memNs, dcache := t.dcache, stale := t.stale, writeBuffer := t.writeBuffer, inflight := t.inflight
    freeCtr := t.freeCtr
    cp15 := { s.cp15 with
      tlbMain := t.cp15.tlbMain, tlbLocked := t.cp15.tlbLocked, tlbLockdown := t.cp15.tlbLockdown
      dMicroTlb := t.cp15.dMicroTlb, dMasterValid := t.cp15.dMasterValid } }

namespace DataSide

theorem refl (s : State) : DataSide s s := rfl

theorem trans {s t u : State} (h : DataSide s t) (h' : DataSide t u) : DataSide s u := by
  unfold DataSide at *
  rw [h', h]

theorem of_walked {s t : State} (h : Walked .data s t) : DataSide s t := by
  unfold Walked at h
  rw [h]
  rfl

theorem setBytesAt {p : Place} (hp : p = .external ∨ p = .nonSecure) (s : State) (l : List (Nat × Byte)) : DataSide s (s.setBytesAt p l) := by
  induction l generalizing s with
  | nil => exact refl s
  | cons x l ih =>
    refine trans ?_ (ih _)
    rcases hp with rfl | rfl <;> rfl

theorem bufferBytesAt {p : Place} (hp : p = .external ∨ p = .nonSecure) (s : State) (q : WriteQueue) (device : Option Bool)
    (l : List (Nat × Byte)) : DataSide s (s.bufferBytesAt q device p l) := by
  rw [State.bufferBytesAt]
  split
  · exact refl s
  · exact (setBytesAt hp s l).trans rfl

end DataSide

theorem levelTwoPlace_cases (bus : List BusRegion) (ns : Bool) (pa : Word) :
    levelTwoPlace bus ns pa = .external ∨ levelTwoPlace bus ns pa = .nonSecure := by
  unfold levelTwoPlace
  split
  · exact .inr rfl
  · exact .inl rfl

theorem byteAt_setBytesAt_cases {s : State} (h : s.memoryWf = true) (p : Place) (l : List (Nat × Byte)) (q : Place) (a : Nat) :
    (s.setBytesAt p l).byteAt q a = s.byteAt q a ∨ (q = p ∧ (a, (s.setBytesAt p l).byteAt q a) ∈ l) := by
  induction l generalizing s with
  | nil => exact .inl rfl
  | cons x l ih =>
    rw [State.setBytesAt]
    rcases ih (State.memoryWf_setByteAt h p x.1 x.2) with hsame | ⟨hq, hmem⟩
    · rw [hsame, State.byteAt_setByteAt h]
      split
      next heq =>
        obtain ⟨hq, rfl⟩ := heq
        exact .inr ⟨hq, List.mem_cons_self⟩
      next => exact .inl rfl
    · exact .inr ⟨hq, List.mem_cons_of_mem _ hmem⟩

/-- What the write-back of a line may have done to a byte. -/
def WrittenBack (s t : State) (l : CacheLine) (p : Place) (a : Nat) : Prop :=
  t.byteAt p a = s.byteAt p a ∨
    (p = levelTwoPlace s.bus l.ns l.tag ∧ l.tag.toNat ≤ a ∧ a < l.tag.toNat + 32 ∧ l.dirtyAt (a - l.tag.toNat) = true ∧
      t.byteAt p a = l.byteAt (a - l.tag.toNat))

theorem writeBackLine_clean {s : State} {l : CacheLine} (h : l.dirty = false) (be32 : Bool) (a : Nat) : writeBackLine s l be32 a = s := by
  rw [writeBackLine, h]
  rfl

/-- A write-back stores bytes of the line, after a state with the same memories. -/
theorem writeBackLine_eq (s : State) (l : CacheLine) (be32 : Bool) (a : Nat) (h : l.dirty = true) :
    ∃ (u : State) (offsets : List Nat), DataSide s u ∧ u.memoryWf = s.memoryWf ∧ (∀ p x, u.byteAt p x = s.byteAt p x) ∧
      (∀ i ∈ offsets, i < 32 ∧ l.dirtyAt i = true) ∧ u.dcache = s.dcache ∧ u.cp15 = s.cp15 ∧
      writeBackLine s l be32 a = u.bufferBytesAt .writeBack none (levelTwoPlace s.bus l.ns l.tag) (offsets.map fun i => (l.tag.toNat + i, l.byteAt i)) := by
  have hoffsets {f : Nat → Bool} (i : Nat) (hi : i ∈ (List.range 32).filter fun i => l.dirtyAt i && f i) : i < 32 ∧ l.dirtyAt i = true := by
    obtain ⟨hrange, hdirty⟩ := List.mem_filter.mp hi
    exact ⟨List.mem_range.mp hrange, (Bool.and_eq_true_iff.mp hdirty).1⟩
  simp only [writeBackLine, h, Bool.not_true, Bool.false_eq_true, if_false]
  split
  · exact ⟨s, _, rfl, rfl, fun _ _ => rfl, hoffsets, rfl, rfl, rfl⟩
  next e _ =>
    refine ⟨launchAbort (errorBit e s).2 (errorBit e s).1 true, ?_⟩
    cases e <;> exact ⟨_, rfl, rfl, fun _ _ => rfl, hoffsets, rfl, rfl, rfl⟩

theorem writeBackLine_dataSide (s : State) (l : CacheLine) (be32 : Bool) (a : Nat) : DataSide s (writeBackLine s l be32 a) := by
  cases h : l.dirty
  · rw [writeBackLine_clean h]
    exact .refl s
  · obtain ⟨u, offsets, hu, -, -, -, -, -, heq⟩ := writeBackLine_eq s l be32 a h
    rw [heq]
    exact hu.trans (.bufferBytesAt (levelTwoPlace_cases ..) ..)

theorem setBytesAt_cache (s : State) (p : Place) (l : List (Nat × Byte)) :
    (s.setBytesAt p l).dcache = s.dcache ∧ (s.setBytesAt p l).cp15 = s.cp15 := by
  have h := MemoryOnly.setBytesAt s p l
  refine ⟨?_, h.cp15_eq⟩
  induction l generalizing s with
  | nil => rfl
  | cons x l ih => exact (ih _ (MemoryOnly.setBytesAt ..)).trans (by cases p <;> rfl)

theorem bufferBytesAt_cache (s : State) (q : WriteQueue) (device : Option Bool) (p : Place) (l : List (Nat × Byte)) :
    (s.bufferBytesAt q device p l).dcache = s.dcache ∧ (s.bufferBytesAt q device p l).cp15 = s.cp15 := by
  rw [State.bufferBytesAt]
  split
  · exact ⟨rfl, rfl⟩
  · exact setBytesAt_cache s p l

theorem writeBackLine_cache (s : State) (l : CacheLine) (be32 : Bool) (a : Nat) :
    (writeBackLine s l be32 a).dcache = s.dcache ∧ (writeBackLine s l be32 a).cp15 = s.cp15 := by
  cases h : l.dirty
  · rw [writeBackLine_clean h]
    exact ⟨rfl, rfl⟩
  · obtain ⟨u, offsets, -, -, -, -, hcache, hcp15, heq⟩ := writeBackLine_eq s l be32 a h
    rw [heq, ← hcache, ← hcp15]
    exact bufferBytesAt_cache ..

theorem writeBackLine_bytes {s : State} (hwf : s.memoryWf = true) (l : CacheLine) (be32 : Bool) (a : Nat) (p : Place) (x : Nat) :
    WrittenBack s (writeBackLine s l be32 a) l p x := by
  cases h : l.dirty
  · rw [writeBackLine_clean h]
    exact .inl rfl
  · obtain ⟨u, offsets, -, hform, hbytes, hoffsets, -, -, heq⟩ := writeBackLine_eq s l be32 a h
    have hset := byteAt_setBytesAt_cases (hform ▸ hwf) (levelTwoPlace s.bus l.ns l.tag)
      (offsets.map fun i => (l.tag.toNat + i, l.byteAt i)) p x
    have hbuffer : (writeBackLine s l be32 a).byteAt p x =
        (u.setBytesAt (levelTwoPlace s.bus l.ns l.tag) (offsets.map fun i => (l.tag.toNat + i, l.byteAt i))).byteAt p x := by
      rw [heq, State.bufferBytesAt]
      split
      next hempty => rw [List.isEmpty_iff.mp hempty]; rfl
      next => cases p <;> rfl
    rw [WrittenBack, hbuffer, ← hbytes]
    refine hset.imp id fun ⟨hp, hmem⟩ => ⟨hp, ?_⟩
    obtain ⟨i, hi, heq⟩ := List.mem_map.mp hmem
    obtain ⟨haddress, hbyte⟩ := Prod.mk.inj heq
    obtain ⟨hlt, hdirty⟩ := hoffsets i hi
    rw [← hbyte, ← haddress, Nat.add_sub_cancel_left]
    exact ⟨by omega, by omega, hdirty, rfl⟩

/-- What a linefill into a set leaves: the lines outside the set that were valid, and the bytes but those of one dirty line of the set. -/
structure Filled (s t : State) (set : Nat) : Prop where
  frame : DataSide s t
  lines : ∀ l ∈ t.dcache, l ∈ s.dcache ∨ (l.set = set ∧ l.dirty = false)
  kept : ∀ l ∈ s.dcache, lineValid s .data l = true → l ∈ t.dcache ∨ l.set = set
  bytes : s.memoryWf = true → (∀ p a, t.byteAt p a = s.byteAt p a) ∨
    ∃ l ∈ s.dcache, lineValid s .data l = true ∧ l.set = set ∧ l.dirty = true ∧ l ∉ t.dcache ∧ ∀ p a, WrittenBack s t l p a

theorem Filled.refl (s : State) (set : Nat) : Filled s s set :=
  ⟨.refl s, fun _ h => .inl h, fun _ h _ => .inl h, fun _ => .inl fun _ _ => rfl⟩

/-- Draining and translating before a linefill adds nothing to what it does. -/
theorem Filled.of_walked {s s' t : State} {set : Nat} (h : Walked .data s s') (ht : Filled s' t set) : Filled s t set := by
  have hbyte (p : Place) (a : Nat) : s'.byteAt p a = s.byteAt p a := by rw [h]; cases p <;> rfl
  have hvalid (l : CacheLine) : lineValid s' .data l = lineValid s .data l := by rw [h]; rfl
  have hcache : s'.dcache = s.dcache := by rw [h]
  have hwf : s'.memoryWf = s.memoryWf := by rw [h]; rfl
  have hbus : s'.bus = s.bus := by rw [h]
  obtain ⟨hframe, hlines, hkept, hbytes⟩ := ht
  unfold WrittenBack at hbytes
  simp only [hbyte, hvalid, hcache, hwf, hbus] at hlines hkept hbytes
  exact ⟨(DataSide.of_walked h).trans hframe, hlines, hkept, hbytes⟩

theorem pickWay_walked (ways : List Nat) (s : State) : Walked .data s (pickWay ways s).2 := by
  induction ways generalizing s with
  | nil => exact .refl ..
  | cons w rest ih =>
    cases rest with
    | nil => exact .refl ..
    | cons w' rest =>
      unfold pickWay
      dsimp only
      split
      · exact .drawBit ..
      · exact (Walked.drawBit ..).trans (ih _)

theorem victimWay_walked (s : State) (set : Nat) : Walked .data s (victimWay s .data set).2 := by
  unfold victimWay
  dsimp only
  split
  · exact .refl ..
  · exact pickWay_walked ..

/-- Lines whose numbers agree but for bits [2:0] have one Master Valid bit. -/
theorem masterBit_group {m n : Nat} (v : Vector Word 8) (h : m / 8 = n / 8) : masterBit v m = masterBit v n := by
  have hword : m / 256 = n / 256 := by omega
  simp only [masterBit, h, hword]

/-- The state after a slot's line has been written back. -/
def slotWrittenBack (s : State) (set way : Nat) (be32 : Bool) (a : Nat) : State :=
  match (validLines s .data).find? fun l => l.set == set && l.way == way with
  | some l => writeBackLine s l be32 a
  | none => s

theorem emptySlot_eq (s : State) (set way : Nat) (be32 : Bool) (a : Nat) :
    emptySlot s .data set way be32 a =
      { slotWrittenBack s set way be32 a with
        dcache := (slotWrittenBack s set way be32 a).dcache.filter fun l => !(l.set == set && l.way == way) &&
          (masterBit ((slotWrittenBack s set way be32 a).masterValid .data) (lineNumber (slotWrittenBack s set way be32 a) .data set way) ||
            lineNumber (slotWrittenBack s set way be32 a) .data l.set l.way / 8 !=
              lineNumber (slotWrittenBack s set way be32 a) .data set way / 8) } := rfl

theorem slotWrittenBack_frame (s : State) (set way : Nat) (be32 : Bool) (a : Nat) :
    DataSide s (slotWrittenBack s set way be32 a) ∧
      (slotWrittenBack s set way be32 a).dcache = s.dcache ∧ (slotWrittenBack s set way be32 a).cp15 = s.cp15 := by
  unfold slotWrittenBack
  split
  · exact ⟨writeBackLine_dataSide .., writeBackLine_cache ..⟩
  · exact ⟨.refl s, rfl, rfl⟩

/-- The slot is emptied, of which a dirty line goes to memory. -/
theorem emptySlot_filled (s : State) (set way : Nat) (be32 : Bool) (a : Nat) :
    Filled s (emptySlot s .data set way be32 a) set ∧
      ∀ l ∈ (emptySlot s .data set way be32 a).dcache, ¬ (l.set = set ∧ l.way = way) := by
  rw [emptySlot_eq]
  obtain ⟨hframe, hcache⟩ := slotWrittenBack_frame s set way be32 a
  obtain ⟨t, ht⟩ : ∃ t, t = slotWrittenBack s set way be32 a := ⟨_, rfl⟩
  rw [← ht] at hframe hcache ⊢
  have himpl : t.impl = s.impl := by rw [hframe]
  have hnumber (m n : Nat) : lineNumber t .data m n = lineNumber s .data m n := by rw [lineNumber, lineNumber, cacheSets, himpl]; rfl
  have hmaster : t.masterValid .data = s.masterValid .data := congrArg Cp15.dMasterValid hcache.2
  have hmem (l : CacheLine) : l ∈ (t.dcache.filter fun l => !(l.set == set && l.way == way) &&
        (masterBit (t.masterValid .data) (lineNumber t .data set way) ||
          lineNumber t .data l.set l.way / 8 != lineNumber t .data set way / 8)) ↔
      l ∈ s.dcache ∧ ¬ (l.set = set ∧ l.way = way) ∧
      (masterBit (s.masterValid .data) (lineNumber s .data set way) = true ∨
        lineNumber s .data l.set l.way / 8 ≠ lineNumber s .data set way / 8) := by
    rw [hcache.1, hmaster, List.mem_filter]
    simp only [hnumber, Bool.and_eq_true, Bool.not_eq_true', Bool.and_eq_false_iff, Bool.or_eq_true, beq_eq_false_iff_ne, bne_iff_ne]
    rw [← not_and_or]
  generalize t.dcache.filter _ = lines at hmem ⊢
  have hbyte (p : Place) (x : Nat) : ({ t with dcache := lines } : State).byteAt p x = t.byteAt p x := by cases p <;> rfl
  refine ⟨⟨hframe.trans rfl, fun l hl => .inl ((hmem l).mp hl).1, fun l hl hvalid => ?_, fun hwf => ?_⟩,
    fun l hl => ((hmem l).mp hl).2.1⟩
  · by_cases hset : l.set = set
    · exact .inr hset
    · refine .inl ((hmem l).mpr ⟨hl, fun h => hset h.1, ?_⟩)
      by_cases hgroup : lineNumber s .data l.set l.way / 8 = lineNumber s .data set way / 8
      · exact .inl (masterBit_group _ hgroup ▸ hvalid)
      · exact .inr hgroup
  · cases hfind : (validLines s .data).find? fun l => l.set == set && l.way == way with
    | none =>
      rw [slotWrittenBack, hfind] at ht
      exact .inl fun p x => by rw [hbyte, ht]
    | some l =>
      rw [slotWrittenBack, hfind] at ht
      dsimp only at ht
      obtain ⟨hl, hvalid⟩ := List.mem_filter.mp (List.mem_of_find?_eq_some hfind)
      have hat : l.set = set ∧ l.way = way := by simpa using List.find?_some hfind
      cases hdirty : l.dirty
      · exact .inl fun p x => by rw [hbyte, ht, writeBackLine_clean hdirty]
      · refine .inr ⟨l, hl, hvalid, hat.1, hdirty, fun h => ((hmem l).mp h).2.1 hat, fun p x => ?_⟩
        have hback := writeBackLine_bytes hwf l be32 a p x
        rw [WrittenBack, hbyte, ht]
        exact hback

theorem putLine_clean_filled {s t : State} {line : CacheLine} {v : Vector Word 8} (h : Filled s t line.set)
    (hslot : ∀ l ∈ t.dcache, ¬ (l.set = line.set ∧ l.way = line.way)) (hclean : line.dirty = false) :
    Filled s ((putLine t .data line).setMasterValid .data v) line.set := by
  have hmem (l : CacheLine) : l ∈ ((putLine t .data line).setMasterValid .data v).dcache ↔ l = line ∨ l ∈ t.dcache := by
    change l ∈ line :: t.dcache.filter _ ↔ _
    have hfilter : (t.dcache.filter fun x => !(x.set == line.set && x.way == line.way)) = t.dcache :=
      List.filter_eq_self.mpr fun l hl => by
        have h := hslot l hl
        rw [not_and_or] at h
        simpa using h
    rw [hfilter, List.mem_cons]
  have hbyte (p : Place) (x : Nat) : ((putLine t .data line).setMasterValid .data v).byteAt p x = t.byteAt p x := by cases p <;> rfl
  refine ⟨h.frame.trans rfl, fun l hl => ?_, fun l hl hvalid => ?_, fun hwf => ?_⟩
  · rcases (hmem l).mp hl with rfl | hl
    · exact .inr ⟨rfl, hclean⟩
    · exact h.lines l hl
  · exact (h.kept l hl hvalid).imp (fun hl => (hmem l).mpr (.inr hl)) id
  · refine (h.bytes hwf).imp (fun h p x => by rw [hbyte, h]) fun ⟨l, hl, hvalid, hset, hdirty, hgone, hback⟩ => ?_
    refine ⟨l, hl, hvalid, hset, hdirty, fun hm => ?_, fun p x => ?_⟩
    · rcases (hmem l).mp hm with rfl | hm
      · rw [hclean] at hdirty
        exact Bool.noConfusion hdirty
      · exact hgone hm
    · rw [WrittenBack, hbyte]
      exact hback p x

theorem fillLine_filled (s : State) (shape : BusRequest) (va pa : Word) (ns be32 : Bool) (bytes : List Byte) :
    Filled s (fillLine s .data shape va pa ns be32 bytes) (cacheIndex s .data va) := by
  unfold fillLine
  dsimp only
  obtain ⟨t, ht⟩ : ∃ t, t = (victimWay s .data (cacheIndex s .data va)).2 := ⟨_, rfl⟩
  have hwalked := victimWay_walked s (cacheIndex s .data va)
  rw [← ht] at hwalked ⊢
  obtain ⟨hempty, hslot⟩ := emptySlot_filled t (cacheIndex s .data va) (victimWay s .data (cacheIndex s .data va)).1 be32 pa.toNat
  split
  · exact hempty.of_walked hwalked
  · refine Filled.of_walked hwalked ?_
    exact putLine_clean_filled hempty hslot rfl

/-! ### PLD -/

theorem dataTranslate_walked (acc : Access) (record : Bool) (va : Word) (s : State) :
    match dataTranslate acc record va s with
    | .ok (_, t) => Walked .data s t
    | .error _ => True := by
  unfold dataTranslate
  dsimp only
  have h := Walked.translate s.cp15 true
    { mva := s.mva va, ns := s.nsState, privileged := acc.privileged, write := record, fetch := false, dma := false
      unaligned := acc.unaligned, asid := bits (s.cp15.bank s.nsState).contextId 0 8 } s
  revert h
  cases translate s.cp15 true _ s with
  | error stop => cases stop <;> exact fun _ => trivial
  | ok r =>
    intro h
    obtain ⟨t, u⟩ := r
    dsimp only
    cases conflictingAttrs u.cp15 t
    · exact h
    · trivial

theorem preloadLine_filled (va : Word) (s : State) : Filled s (preloadLine va s) (cacheIndex s .data va) := by
  unfold preloadLine
  split
  · exact .refl ..
  · dsimp only
    split
    · exact .refl ..
    next t u heq =>
      have hu : Walked .data s u := by
        have h := dataTranslate_walked (plainAccess s) false va s
        rw [heq] at h
        exact h
      have hindex (v : State) (hv : Walked .data u v) : cacheIndex s .data va = cacheIndex v .data va := by
        have h : Walked .data s v := hu.trans hv
        rw [h]
        rfl
      split
      · exact (Filled.refl ..).of_walked hu
      · have hdraw := Walked.drawBit .data u
        split
        · have hdrain := hdraw.trans (Walked.drainTo .data (drawBit u).2 (·.inLine t.place t.offset))
          rw [hindex _ hdrain]
          exact (fillLine_filled ..).of_walked (hu.trans hdrain)
        · exact (Filled.refl ..).of_walked (hu.trans hdraw)

theorem preloadLine_off {s : State} (h : s.nsState = true ∨ s.controlBit 0 = false ∨ s.controlBit 2 = false) (va : Word) :
    preloadLine va s = s := by
  rw [preloadLine, if_pos]
  rcases h with h | h | h <;> simp [h]

theorem setBit_order (w : Word) (e : Bool) : setBit w 9 e = (w &&& 0xFFFFFDFF#32) ||| (if e then 0x200#32 else 0#32) := by
  cases e
  · exact (BitVec.or_zero).symm
  · have hmasks : ∀ i < 32, (0x200#32 : Word).getLsbD i = !(0xFFFFFDFF#32 : Word).getLsbD i := by decide
    refine BitVec.eq_of_getLsbD_eq fun i hi => ?_
    change (w ||| 0x200#32).getLsbD i = (w &&& 0xFFFFFDFF#32 ||| 0x200#32).getLsbD i
    simp only [BitVec.getLsbD_or, BitVec.getLsbD_and, hmasks i hi]
    cases w.getLsbD i <;> cases (0xFFFFFDFF#32 : Word).getLsbD i <;> rfl

theorem setend_stepped (e : Bool) (s : State) :
    ({ s with cpsr := setBit s.cpsr 9 e } : State).stepped =
      { s.stepped with cpsr := (s.cpsr &&& 0xFFFFFDFF#32) ||| (if e then 0x200#32 else 0#32) } := by
  have hpc : ({ s with cpsr := setBit s.cpsr 9 e } : State).pcAfter = s.pcAfter := by
    have hthumb : bit (setBit s.cpsr 9 e) 5 = bit s.cpsr 5 := by
      simp only [bit, getLsbD_setBit s.cpsr 5 e (by decide : 9 < 32)]
      rfl
    have hthumb : ({ s with cpsr := setBit s.cpsr 9 e } : State).thumb = s.thumb := hthumb
    simp only [State.pcAfter, State.nextPc, hthumb]
    rfl
  rw [State.stepped, hpc, setBit_order]
  rfl

end Sys2Proof.Machine

open Sys2Proof Sys2Proof.Machine

/-- Settles O38: a preload is a translation, and at most one linefill. -/
theorem hintsAndSetend : Obligations.HintsAndSetend := by
  unfold Obligations.HintsAndSetend
  intro c u e rn rm off12 n sh hint s withE preloads
  have hpreload {i : Instr} {va : Word} (hexec : exec i s = .next (preloadLine va s).advance) : preloads i va := by
    have hfill := preloadLine_filled va s
    rw [State.advance_eq_stepped] at hexec
    refine ⟨fun hoff => ?_, (preloadLine va s).stepped, hexec, ?_, hfill.lines, hfill.kept, hfill.bytes⟩
    · rw [hexec, preloadLine_off hoff]
    · rw [hfill.frame]
      rfl
  refine ⟨hpreload rfl, fun hrm => hpreload ?_, ?_, ?_, ?_, ?_, ?_⟩
  · exact congrArg finish (checked_then (noPc_one hrm) rfl)
  · exact congrArg finish (check_stopped (r := preload u rn (scaledOffset s n sh 15#4) s) (noPc_stop (l := [15#4]) (by decide)))
  · exact congrArg Host.Outcome.next (State.advance_eq_stepped s)
  · exact congrArg Host.Outcome.next (State.advance_eq_stepped _)
  · exact congrArg Host.Outcome.next ((State.advance_eq_stepped _).trans (setend_stepped e s))
  · exact congrArg Host.Outcome.next ((State.advance_eq_stepped _).trans (setend_stepped e s))

end

section
/-! What instructions keep: the relations between the states before and after an operation, and the results of operations that keep
them. -/

namespace Sys2Proof.Machine

open Sys2Proof

/-! ### Relations between states -/

/-- The registers that only the Secure world writes, as one value. -/
def worldSettings (c : Cp15) : List Word :=
  [c.scr, c.sder, c.nsacr, c.mvbar, c.auxControl, c.controlShared &&& 0x0020C080#32, c.secure.control, c.secure.ttbr0, c.secure.ttbr1,
    c.secure.ttbcr, c.secure.dacr, c.secure.vbar, c.secure.fcse, c.secure.contextId, c.secure.primaryRemap, c.secure.normalRemap,
    c.secure.periphRemap]

/-- The mode is one of the eight and the reserved bits of the PSRs are 0. -/
def StatusForm (s : State) : Prop := validMode s.mode = true ∧ cleanPsr s.cpsr ∧ ∀ i : Fin 6, cleanPsr s.spsrs[i]

/-- What going on, branching and drawing free values leave: the status, the memories, CP15. -/
structure Inert (s t : State) : Prop where
  cpsr : t.cpsr = s.cpsr
  spsrs : t.spsrs = s.spsrs
  halted : t.halted = s.halted
  memory : t.memoryWf = s.memoryWf
  cp15 : t.cp15 = s.cp15

/-- What an access to memory or to a coprocessor leaves: the status, the form of the memories, in the Non-secure world the settings. -/
structure Quiet (s t : State) : Prop where
  cpsr : t.cpsr = s.cpsr
  spsrs : t.spsrs = s.spsrs
  halted : t.halted = s.halted
  memory : s.memoryWf = true → t.memoryWf = true
  settings : s.nsState = true → worldSettings t.cp15 = worldSettings s.cp15

/-- What any instruction leaves that does not end in an exception. -/
structure Evolves (s t : State) : Prop where
  memory : s.memoryWf = true → t.memoryWf = true
  status : StatusForm s → StatusForm t
  user : s.mode = modeUsr → s.halted = false → t.mode = modeUsr
  settings : s.nsState = true → worldSettings t.cp15 = worldSettings s.cp15

/-- An exception has been taken; from User mode, only one of the four that instructions cause there. -/
def Entered (s t : State) : Prop :=
  ∃ u k ext ret, Quiet s u ∧ t = takeException k ext ret u ∧
    (k ∈ [Exc.undef, .svc, .prefetchAbort, .dataAbort] ∨ s.mode ≠ modeUsr ∨ s.halted = true)

/-- The end of an instruction. -/
def Done (s t : State) : Prop := Evolves s t ∨ Entered s t

/-- Only bits of a PSR that are neither the mode nor reserved differ. -/
def FlagsOnly (w v : Word) : Prop := ∀ i < 32, i < 5 ∨ psrMask.getLsbD i = false → v.getLsbD i = w.getLsbD i

/-! ### Inert operations -/

namespace Inert

variable {s t u : State}

theorem refl (s : State) : Inert s s := ⟨rfl, rfl, rfl, rfl, rfl⟩

theorem trans (h : Inert s t) (h' : Inert t u) : Inert s u :=
  ⟨h'.cpsr.trans h.cpsr, h'.spsrs.trans h.spsrs, h'.halted.trans h.halted, h'.memory.trans h.memory, h'.cp15.trans h.cp15⟩

theorem mode (h : Inert s t) : t.mode = s.mode := congrArg (bits · 0 5) h.cpsr

theorem setRegIn (s : State) (m : BitVec 5) (r : Reg) (v : Word) : Inert s (s.setRegIn m r v) := ⟨rfl, rfl, rfl, rfl, rfl⟩

theorem setReg (s : State) (r : Reg) (v : Word) : Inert s (s.setReg r v) := setRegIn ..

theorem setRegsIn (s : State) (m : BitVec 5) (l : List (Reg × Word)) : Inert s (s.setRegsIn m l) := by
  induction l generalizing s with
  | nil => exact refl s
  | cons x l ih => exact (setRegIn ..).trans (ih _)

theorem advance (s : State) : Inert s s.advance := by
  rw [State.advance_eq_stepped]
  exact ⟨rfl, rfl, rfl, rfl, rfl⟩

theorem branch (s : State) (a : Word) : Inert s (s.branch a) := by
  unfold State.branch
  split <;> exact ⟨rfl, rfl, rfl, rfl, rfl⟩

theorem writePc (s : State) (a b : Word) : Inert s (s.writePc a b) := branch ..

theorem skip (s : State) (b : Bool) : Inert s (s.skip b) := by
  unfold State.skip
  split
  · exact ⟨rfl, rfl, rfl, rfl, rfl⟩
  · exact advance s

theorem writeBase (s : State) (rn : Reg) (wb : Option Word) : Inert s (writeBase s rn wb) := by
  unfold Machine.writeBase
  split
  · exact setReg ..
  · exact refl s

theorem keepOldFetch (s old : State) : Inert s (s.keepOldFetch old) := by
  unfold State.keepOldFetch
  split <;> exact ⟨rfl, rfl, rfl, rfl, rfl⟩

theorem keepOldMap (s old : State) : Inert s (s.keepOldMap old) := by
  unfold State.keepOldMap
  split <;> exact ⟨rfl, rfl, rfl, rfl, rfl⟩

theorem syncFetch (s : State) : Inert s s.syncFetch := ⟨rfl, rfl, rfl, rfl, rfl⟩

theorem branchAfterReturn (s : State) (a : Word) : Inert s (branchAfterReturn s a) := branch ..

theorem drawBit (s : State) : Inert s (drawBit s).2 := ⟨rfl, rfl, rfl, rfl, rfl⟩

theorem drawWord (s : State) : Inert s (drawWord s).2 := ⟨rfl, rfl, rfl, rfl, rfl⟩

theorem errorBit (e : BusError) (s : State) : Inert s (errorBit e s).2 := by
  cases e
  · exact refl s
  · exact refl s
  · exact drawBit s

theorem drainTo (s : State) (f : BufferedWrite → Bool) : Inert s (s.drainTo f) := ⟨rfl, rfl, rfl, rfl, rfl⟩

theorem launchAbort (s : State) (a b : Bool) : Inert s (launchAbort s a b) := ⟨rfl, rfl, rfl, rfl, rfl⟩

theorem dataFaultStatus (s : State) (c : AbortCause) (write : Bool) : Inert s (dataFaultStatus s c write).2 := by
  unfold Machine.dataFaultStatus
  dsimp only
  split
  · exact refl s
  · exact drawWord s

theorem recordAccess (write aborted failed : Bool) (va a : Word) (bytes : List Byte) (s : State) :
    Inert s (recordAccess write aborted failed va a bytes s) := by
  unfold Machine.recordAccess
  split <;> exact ⟨rfl, rfl, rfl, rfl, rfl⟩

theorem putLine (s : State) (k : CacheSide) (l : CacheLine) : Inert s (putLine s k l) := by cases k <;> exact ⟨rfl, rfl, rfl, rfl, rfl⟩

theorem setCacheLines (s : State) (k : CacheSide) (l : List CacheLine) : Inert s (s.setCacheLines k l) := by
  cases k <;> exact ⟨rfl, rfl, rfl, rfl, rfl⟩

end Inert

/-! ### Quiet operations -/

namespace Quiet

variable {s t u : State}

theorem of_inert (h : Inert s t) : Quiet s t := ⟨h.cpsr, h.spsrs, h.halted, fun hm => h.memory ▸ hm, fun _ => congrArg worldSettings h.cp15⟩

theorem refl (s : State) : Quiet s s := of_inert (.refl s)

theorem mode (h : Quiet s t) : t.mode = s.mode := congrArg (bits · 0 5) h.cpsr

theorem nsState (h : Quiet s t) (hs : s.nsState = true) : t.nsState = true := by
  have hscr : t.cp15.scr = s.cp15.scr := (List.cons.inj (h.settings hs)).1
  rw [State.nsState, Cp15.nonSecureIn, Cp15.nsBit, hscr, h.mode]
  exact hs

theorem trans (h : Quiet s t) (h' : Quiet t u) : Quiet s u :=
  ⟨h'.cpsr.trans h.cpsr, h'.spsrs.trans h.spsrs, h'.halted.trans h.halted, fun hm => h'.memory (h.memory hm),
    fun hs => (h'.settings (h.nsState hs)).trans (h.settings hs)⟩

/-- CP15 alone changes, and not the settings. -/
theorem of_cp15 (s : State) {c : Cp15} (hc : s.nsState = true → worldSettings c = worldSettings s.cp15) : Quiet s { s with cp15 := c } :=
  ⟨rfl, rfl, rfl, id, hc⟩

theorem of_walked {k : MicroSide} (h : Walked k s t) : Quiet s t := by
  unfold Walked at h
  rw [h]
  cases k <;> exact ⟨rfl, rfl, rfl, id, fun _ => rfl⟩

theorem setBytesAt (s : State) (p : Place) (l : List (Nat × Byte)) : Quiet s (s.setBytesAt p l) := by
  have h := MemoryOnly.setBytesAt s p l
  refine ⟨?_, ?_, ?_, fun hm => State.memoryWf_setBytesAt hm p l, fun _ => congrArg worldSettings h.cp15_eq⟩
  · rw [h]
  · rw [h]
  · rw [State.halted, h]; rfl

theorem bufferBytesAt (s : State) (q : WriteQueue) (device : Option Bool) (p : Place) (l : List (Nat × Byte)) :
    Quiet s (s.bufferBytesAt q device p l) := by
  rw [State.bufferBytesAt]
  split
  · exact refl s
  · exact (setBytesAt s p l).trans (of_inert ⟨rfl, rfl, rfl, rfl, rfl⟩)

end Quiet

/-! ### Flags -/

theorem getLsbD_mergeBits_of_not {m : Word} {i : Nat} (w v : Word) (hi : i < 32) (hm : m.getLsbD i = false) :
    (mergeBits w v m).getLsbD i = w.getLsbD i := by
  simp only [mergeBits, BitVec.getLsbD_or, BitVec.getLsbD_and, BitVec.getLsbD_not, hm, hi, decide_true, Bool.not_false,
    Bool.and_self, Bool.and_true, Bool.and_false, Bool.or_false]

namespace FlagsOnly

variable {w v : Word}

theorem refl (w : Word) : FlagsOnly w w := fun _ _ _ => rfl

theorem setBit (h : FlagsOnly w v) (j : Fin 32) (b : Bool) (hj : 5 ≤ j.val ∧ psrMask.getLsbD j = true) : FlagsOnly w (setBit v j b) := by
  intro i hi hk
  rw [getLsbD_setBit v i b j.isLt, if_neg, h i hi hk]
  rintro rfl
  rcases hk with hk | hk
  · omega
  · rw [hj.2] at hk
    exact Bool.noConfusion hk

theorem mergeBits (w x : Word) {m : Word} (hm : ∀ i < 32, i < 5 ∨ psrMask.getLsbD i = false → m.getLsbD i = false) :
    FlagsOnly w (mergeBits w x m) := fun i hi hk => getLsbD_mergeBits_of_not w x hi (hm i hi hk)

theorem mode (h : FlagsOnly w v) : bits v 0 5 = bits w 0 5 := by
  refine BitVec.eq_of_getLsbD_eq fun i hi => ?_
  simp only [bits, BitVec.getLsbD_extractLsb', Nat.zero_add, hi, decide_true, Bool.true_and]
  exact h i (by omega) (.inl hi)

end FlagsOnly

/-- A PSR has no reserved bit set when every bit outside the mask is 0. -/
theorem cleanPsr_iff (w : Word) : cleanPsr w ↔ ∀ i < 32, psrMask.getLsbD i = false → w.getLsbD i = false := by
  constructor
  · intro h i hi hm
    have hbit := congrArg (BitVec.getLsbD · i) h
    simpa only [BitVec.getLsbD_and, BitVec.getLsbD_not, hm, hi, decide_true, Bool.not_false, Bool.and_self, Bool.and_true,
      BitVec.getLsbD_zero] using hbit
  · intro h
    refine BitVec.eq_of_getLsbD_eq fun i hi => ?_
    cases hm : psrMask.getLsbD i
    · simp [h i hi hm]
    · simp [hm]

theorem cleanPsr_and_mask (w : Word) : cleanPsr (w &&& psrMask) :=
  (cleanPsr_iff _).mpr fun i _ hm => by rw [BitVec.getLsbD_and, hm, Bool.and_false]

theorem FlagsOnly.clean {w v : Word} (h : FlagsOnly w v) (hw : cleanPsr w) : cleanPsr v :=
  (cleanPsr_iff v).mpr fun i hi hm => (h i hi (.inr hm)).trans ((cleanPsr_iff w).mp hw i hi hm)

/-! ### The ends of instructions -/

namespace Evolves

variable {s t u : State}

theorem of_quiet (h : Quiet s t) : Evolves s t := by
  refine ⟨h.memory, fun ⟨hmode, hcpsr, hspsrs⟩ => ⟨h.mode ▸ hmode, h.cpsr ▸ hcpsr, fun i => ?_⟩, fun hu _ => h.mode.trans hu, h.settings⟩
  rw [h.spsrs]
  exact hspsrs i

theorem of_inert (h : Inert s t) : Evolves s t := of_quiet (.of_inert h)

/-- An operation that keeps memory and CP15, and the status as it should. -/
theorem after_quiet (h : Quiet s t) (h' : Evolves t u) : Evolves s u := by
  have hq := of_quiet h
  exact ⟨fun hm => h'.memory (h.memory hm), fun hf => h'.status (hq.status hf), fun hu hr => h'.user (h.mode.trans hu) (h.halted.trans hr),
    fun hs => (h'.settings (h.nsState hs)).trans (h.settings hs)⟩

theorem then_inert (h : Evolves s t) (h' : Inert t u) : Evolves s u := by
  refine ⟨fun hm => h'.memory.trans (h.memory hm), fun hf => ?_, fun hu hr => h'.mode.trans (h.user hu hr),
    fun hs => (congrArg worldSettings h'.cp15).trans (h.settings hs)⟩
  exact (of_inert h').status (h.status hf)

/-- Flags are written, and nothing else that counts. -/
theorem flags (h : Quiet s t) {w : Word} (hw : FlagsOnly s.cpsr w) : Evolves s { t with cpsr := w } := by
  have hmode : ({ t with cpsr := w } : State).mode = s.mode := hw.mode
  refine ⟨h.memory, fun ⟨hvalid, hcpsr, hspsrs⟩ => ⟨hmode ▸ hvalid, hw.clean hcpsr, fun i => ?_⟩, fun hu _ => hmode.trans hu, h.settings⟩
  change cleanPsr t.spsrs[i]
  rw [h.spsrs]
  exact hspsrs i

end Evolves

namespace Done

variable {s t u : State}

theorem of_quiet (h : Quiet s t) : Done s t := .inl (.of_quiet h)

theorem of_inert (h : Inert s t) : Done s t := .inl (.of_inert h)

theorem after_quiet (h : Quiet s t) (h' : Done t u) : Done s u := by
  rcases h' with h' | ⟨v, k, ext, ret, hv, hu, hk⟩
  · exact .inl (h'.after_quiet h)
  · refine .inr ⟨v, k, ext, ret, h.trans hv, hu, ?_⟩
    rwa [← h.mode, ← h.halted]

theorem exception (h : Quiet s u) (k : Exc) (ext : Bool) (ret : Word) (hk : k ∈ [Exc.undef, .svc, .prefetchAbort, .dataAbort]) :
    Done s (takeException k ext ret u) := .inr ⟨u, k, ext, ret, h, rfl, .inl hk⟩

end Done

/-! ### Results -/

/-- What a result gives has a property, and what has been taken in its place is the end of an instruction. -/
def Keeps {α : Type} (s : State) (p : α → Prop) (r : Result α) : Prop :=
  match r with
  | .ok a => p a
  | .error (.taken t) => Done s t
  | .error _ => True

/-- A value and a state that an access leaves. -/
abbrev Reads {α : Type} (s : State) (r : Result (α × State)) : Prop := Keeps s (fun x => Quiet s x.2) r

/-- A state that an access leaves. -/
abbrev Stores (s : State) (r : Result State) : Prop := Keeps s (Quiet s) r

/-- The end of an instruction. -/
abbrev Ends (s : State) (r : Result State) : Prop := Keeps s (Done s) r

/-- A check: it passes, or it ends the instruction. -/
abbrev Checks {α : Type} (s : State) (r : Result α) : Prop := Keeps s (fun _ => True) r

namespace Keeps

variable {α β : Type} {s t : State} {p : α → Prop} {q : β → Prop}

theorem bind {r : Result α} {f : α → Result β} (h : Keeps s p r) (hf : ∀ a, p a → Keeps s q (f a)) : Keeps s q (r >>= f) := by
  rcases r with (e | _ | _) | a
  · exact h
  · trivial
  · trivial
  · exact hf a h

theorem imp {p' : α → Prop} {r : Result α} (h : Keeps s p r) (hp : ∀ a, p a → p' a) : Keeps s p' r := by
  rcases r with (e | _ | _) | a
  · exact h
  · trivial
  · trivial
  · exact hp a h

/-- The same after an access. -/
theorem after {r : Result α} (h : Quiet s t) (hr : Keeps t p r) : Keeps s p r := by
  rcases r with (e | _ | _) | a
  · exact Done.after_quiet h hr
  · trivial
  · trivial
  · exact hr

theorem refuseIf (s : State) (c : Bool) (r : Refusal) : Checks s (refuseIf c r) := by
  unfold Machine.refuseIf
  split <;> trivial

theorem noPc (s : State) (l : List Reg) : Checks s (noPc l) := refuseIf ..

theorem undefined (s : State) : Keeps s p (undefined s) := Done.exception (.refl s) .undef false s.nextPc List.mem_cons_self

/-- Going on with the state that an access leaves. -/
theorem stores {r : Result State} {f : State → Result State} (h : Stores s r) (hf : ∀ t, Ends t (f t)) : Ends s (r >>= f) :=
  h.bind fun t ht => ((hf t).after ht).imp fun _ hu => hu.after_quiet ht

end Keeps

end Sys2Proof.Machine

end

section
/-! What accesses to memory keep. -/

namespace Sys2Proof.Machine

open Sys2Proof

/-! ### Aborts and barriers -/

theorem worldSettings_setBank (c : Cp15) (ns : Bool) (dfsr ifsr far ifar : Word) :
    worldSettings (c.setBank ns { c.bank ns with dfsr := dfsr, ifsr := ifsr, far := far, ifar := ifar }) = worldSettings c := by
  cases ns <;> rfl

/-- Fault registers are no settings. -/
theorem Quiet.faults (s : State) (ns : Bool) (dfsr ifsr far ifar : Word) :
    Quiet s { s with cp15 := s.cp15.setBank ns { s.cp15.bank ns with dfsr := dfsr, ifsr := ifsr, far := far, ifar := ifar } } :=
  .of_cp15 s fun _ => worldSettings_setBank ..

theorem takeDataAbort_done (c : AbortCause) (mva : Word) (write : Bool) (s : State) : Done s (takeDataAbort c mva write s) := by
  unfold takeDataAbort
  dsimp only
  refine Done.exception ((Quiet.of_inert (.dataFaultStatus s c write)).trans ?_) _ _ _ (by decide)
  exact Quiet.faults _ (abortBank s c) _ _ _ _

theorem takePrefetchAbort_done (c : AbortCause) (mva : Word) (s : State) : Done s (takePrefetchAbort c mva s) :=
  Done.exception (Quiet.faults s (abortBank s c) _ _ _ _) _ _ _ (by decide)

theorem takeDebugPrefetchAbort_done (s : State) : Done s (takeDebugPrefetchAbort s) :=
  Done.exception (Quiet.faults s s.nsState _ _ _ _) _ _ _ (by decide)

/-- The debug unit alone changes, and not whether the core is in Debug state. -/
theorem Quiet.of_dbg (s : State) {d : Debug} (hd : bit d.dscr 0 = bit s.dbg.dscr 0) : Quiet s { s with dbg := d } :=
  ⟨rfl, rfl, hd, id, fun _ => rfl⟩

theorem bit_setBit_other (w : Word) {i j : Nat} (b : Bool) (hi : i < 32) (hj : j ≠ i) : bit (setBit w i b) j = bit w j := by
  rw [bit, getLsbD_setBit w j b hi, if_neg hj]
  rfl

theorem deliverAbort_quiet (a : InflightAbort) (s : State) : Quiet s (deliverAbort a s) := by
  unfold deliverAbort
  dsimp only
  have hstatus := Quiet.of_inert (.dataFaultStatus s { code := 0b10110#5, domain := none, external := true, slverr := a.slverr } a.write)
  generalize dataFaultStatus s _ a.write = d at hstatus ⊢
  obtain ⟨status, t⟩ := d
  refine hstatus.trans ?_
  dsimp only
  have hmarked : Quiet t (if t.halted then { t with dbg := { t.dbg with dscr := setBit t.dbg.dscr 7 true } } else t) := by
    split
    · exact .of_dbg t (bit_setBit_other _ _ (by decide) (by decide))
    · exact .refl t
  have hpending (m : State) (hm : Quiet t m) (p : PendingAbort) :
      Quiet t (if m.pendingAbort.isSome || (m.halted && bit m.dbg.dscr 19) then m else { m with pendingAbort := some p }) := by
    split
    · exact hm
    · exact hm.trans ⟨rfl, rfl, rfl, id, fun _ => rfl⟩
  exact hpending _ hmarked _

theorem deliverAll_quiet (l : List InflightAbort) (s : State) : Quiet s (deliverAll l s) := by
  induction l generalizing s with
  | nil => exact .refl s
  | cons a l ih => exact (deliverAbort_quiet a s).trans (ih _)

theorem completeAccesses_quiet (s : State) : Quiet s (completeAccesses s) := by
  unfold completeAccesses
  split
  · exact Quiet.trans (t := { s with inflight := [], writeBuffer := [] }) ⟨rfl, rfl, rfl, id, fun _ => rfl⟩ (deliverAll_quiet ..)
  · exact .refl s

/-! ### The caches -/

theorem setMasterValid_quiet (s : State) (k : CacheSide) (v : Vector Word 8) : Quiet s (s.setMasterValid k v) := by
  cases k <;> exact ⟨rfl, rfl, rfl, id, fun _ => rfl⟩

theorem writeBackLine_keeps (s : State) (l : CacheLine) (be32 : Bool) (a : Nat) : Quiet s (writeBackLine s l be32 a) := by
  unfold writeBackLine
  split
  · exact .refl s
  · dsimp only
    split
    · exact .bufferBytesAt ..
    · exact (Quiet.of_inert ((Inert.errorBit _ s).trans (.launchAbort ..))).trans (.bufferBytesAt ..)

theorem writeBackAll_quiet (be32 : Bool) (l : List CacheLine) (s : State) : Quiet s (writeBackAll be32 l s) := by
  induction l generalizing s with
  | nil => exact .refl s
  | cons x l ih => exact (writeBackLine_keeps ..).trans (ih _)

theorem pickWay_inert (ways : List Nat) (s : State) : Inert s (pickWay ways s).2 := by
  induction ways generalizing s with
  | nil => exact .refl s
  | cons w rest ih =>
    cases rest with
    | nil => exact .refl s
    | cons w' rest =>
      unfold pickWay
      dsimp only
      split
      · exact .drawBit s
      · exact (Inert.drawBit s).trans (ih _)

theorem victimWay_inert (s : State) (k : CacheSide) (set : Nat) : Inert s (victimWay s k set).2 := by
  unfold victimWay
  dsimp only
  split
  · exact .refl s
  · exact pickWay_inert ..

theorem emptySlot_quiet (s : State) (k : CacheSide) (set way : Nat) (be32 : Bool) (a : Nat) : Quiet s (emptySlot s k set way be32 a) := by
  unfold emptySlot
  dsimp only
  split
  · exact (writeBackLine_keeps ..).trans (.of_inert (.setCacheLines ..))
  · exact .of_inert (.setCacheLines ..)

theorem fillLine_quiet (s : State) (k : CacheSide) (shape : BusRequest) (va pa : Word) (ns be32 : Bool) (bytes : List Byte) :
    Quiet s (fillLine s k shape va pa ns be32 bytes) := by
  unfold fillLine
  dsimp only
  have hempty := (Quiet.of_inert (victimWay_inert s k (cacheIndex s k va))).trans
    (emptySlot_quiet _ k (cacheIndex s k va) (victimWay s k (cacheIndex s k va)).1 be32 pa.toNat)
  split
  · exact hempty
  · exact hempty.trans ((Quiet.of_inert (.putLine ..)).trans (setMasterValid_quiet ..))

theorem markDirty_quiet (s : State) (ns : Bool) : Quiet s (markDirty s ns) := by
  unfold markDirty
  cases ns || s.nsState <;> exact .of_cp15 s fun _ => rfl

/-! ### Watchpoints and translations -/

theorem recordWatch_stores (s : State) (mva : Word) (size : Nat) (write privileged : Bool) (domain : Option (BitVec 4)) :
    Stores s (recordWatch s mva size write privileged domain) := by
  unfold recordWatch
  split
  · exact Quiet.refl s
  · split
    · change Quiet s (if _ then _ else _)
      split
      · exact ⟨rfl, rfl, rfl, id, fun _ => rfl⟩
      · exact Quiet.refl s
    · trivial

theorem watchUnits_stores (f : State → Word × Nat → Result State) (hf : ∀ s x, Stores s (f s x)) (l : List (Word × Nat)) (s : State) :
    Stores s (l.foldlM f s) := by
  induction l generalizing s with
  | nil => exact Quiet.refl s
  | cons x l ih => exact (hf s x).bind fun t ht => ((ih t).after ht).imp fun _ hu => ht.trans hu

theorem watchAccess_stores (acc : Access) (t : Translation) (va : Word) (n : Nat) (write : Bool) (s : State) :
    Stores s (watchAccess acc t va n write s) := by
  unfold watchAccess
  exact watchUnits_stores _ (fun _ _ => recordWatch_stores ..) _ s

theorem dataTranslate_reads (acc : Access) (write : Bool) (va : Word) (s : State) : Reads s (dataTranslate acc write va s) := by
  unfold dataTranslate
  dsimp only
  have h := Walked.translate s.cp15 true
    { mva := s.mva va, ns := s.nsState, privileged := acc.privileged, write := write, fetch := false, dma := false
      unaligned := acc.unaligned, asid := bits (s.cp15.bank s.nsState).contextId 0 8 } s
  revert h
  cases translate s.cp15 true _ s with
  | error stop =>
    cases stop
    · exact fun h => Done.after_quiet (.of_walked h) (takeDataAbort_done ..)
    · exact fun _ => trivial
  | ok r =>
    obtain ⟨t, u⟩ := r
    intro h
    dsimp only
    split
    · trivial
    · exact Quiet.of_walked h

/-! ### Accesses of one line -/

theorem externalAbort_keeps {α : Type} {p : α → Prop} (acc : Access) (t : Translation) (burst : BusRequest) (e : BusError) (write : Bool)
    (va : Word) (s : State) : Keeps s p (externalAbort acc t burst e write va s) :=
  Done.after_quiet (.of_inert (.errorBit e s)) (takeDataAbort_done ..)

theorem drawErroneous_inert (bad : Nat → Bool) (l : List (Nat × Byte)) (s : State) : Inert s (drawErroneous bad l s).2 := by
  induction l generalizing s with
  | nil => exact .refl s
  | cons x l ih =>
    unfold drawErroneous
    dsimp only
    split
    · exact (Inert.drawWord s).trans (ih _)
    · exact ih s

theorem unlockBus_inert (burst : BusRequest) (s : State) : Inert s (unlockBus burst s) := by
  unfold unlockBus
  split
  · exact .refl s
  · exact (Inert.errorBit _ s).trans (.launchAbort ..)

theorem loadAt_reads (acc : Access) (t : Translation) (n : Nat) (va : Word) (s : State) : Reads s (loadAt acc t n va s) := by
  unfold loadAt
  dsimp only
  split
  · exact Quiet.refl s
  · split
    · trivial
    · have hdrain : Quiet s (s.drainTo (·.inLine t.place t.offset)) := .of_inert (.drainTo ..)
      generalize s.drainTo (·.inLine t.place t.offset) = d at hdrain ⊢
      have hfill : Quiet s (if dataFills d acc t then
          fillLine d .data (fillShape acc t) va t.pa t.ns d.be32 ((lineBytes t.pa).map (d.byteAt t.place)) else d) := by
        split
        · exact hdrain.trans (fillLine_quiet ..)
        · exact hdrain
      generalize (if dataFills d acc t then
          fillLine d .data (fillShape acc t) va t.pa t.ns d.be32 ((lineBytes t.pa).map (d.byteAt t.place)) else d) = u at hfill ⊢
      split
      · exact hfill
      next burst e _ =>
        split
        · refine (externalAbort_keeps ..).after (hfill.trans ?_)
          split
          · exact .of_inert (unlockBus_inert ..)
          · exact .refl _
        · exact hfill.trans (.of_inert ((Inert.errorBit ..).trans ((Inert.launchAbort ..).trans (drawErroneous_inert ..))))

theorem putBytes_quiet (t : Translation) (writes : List (Nat × Byte)) (s : State) : Quiet s (putBytes t writes s) := by
  unfold putBytes
  split
  · exact .bufferBytesAt ..
  · exact .setBytesAt ..

theorem storePast_stores (acc : Access) (t : Translation) (writes : List (Nat × Byte)) (va : Word) (s : State) :
    Stores s (storePast acc t writes va s) := by
  unfold storePast
  dsimp only
  split
  · exact putBytes_quiet ..
  · split
    · exact (externalAbort_keeps ..).after (putBytes_quiet ..)
    · exact (putBytes_quiet ..).trans (.of_inert ((Inert.errorBit ..).trans (.launchAbort ..)))

/-- A store after a quiet change. -/
theorem Keeps.stores_after {s t : State} {r : Result State} (h : Quiet s t) (hr : Stores t r) : Stores s r :=
  (hr.after h).imp fun _ hu => h.trans hu

theorem Keeps.reads_after {α : Type} {s t : State} {r : Result (α × State)} (h : Quiet s t) (hr : Reads t r) : Reads s r :=
  (hr.after h).imp fun _ hu => h.trans hu

theorem storeAt_stores (acc : Access) (t : Translation) (bytes : List Byte) (va : Word) (s : State) :
    Stores s (storeAt acc t bytes va s) := by
  unfold storeAt
  dsimp only
  split
  · have hput (l : CacheLine) : Quiet s (putLine s .data l) := .of_inert (.putLine ..)
    split
    · exact (hput _).trans (markDirty_quiet ..)
    · exact (storePast_stores ..).stores_after (hput _)
  · split
    · trivial
    · exact storePast_stores ..

theorem orderBefore_quiet (t : Translation) (write : Bool) (s : State) : Quiet s (orderBefore t write s) := by
  unfold orderBefore
  split
  · exact completeAccesses_quiet s
  · split
    · exact .refl s
    · exact .of_inert (.drainTo ..)
  · exact .refl s

theorem loadPart_reads (acc : Access) (n : Nat) (va : Word) (s : State) : Reads s (loadPart acc n va s) := by
  refine (dataTranslate_reads ..).bind fun ⟨t, u⟩ hu => ?_
  refine Keeps.reads_after (hu.trans (orderBefore_quiet ..)) ((loadAt_reads ..).bind fun ⟨bytes, v⟩ hv => ?_)
  exact Keeps.reads_after hv ((watchAccess_stores ..).bind fun w hw => hw)

theorem storePart_stores (acc : Access) (bytes : List Byte) (va : Word) (s : State) : Stores s (storePart acc bytes va s) := by
  refine (dataTranslate_reads ..).bind fun ⟨t, u⟩ hu => ?_
  refine Keeps.stores_after (hu.trans (orderBefore_quiet ..)) ((storeAt_stores ..).bind fun v hv => ?_)
  exact Keeps.stores_after hv (watchAccess_stores ..)

/-! ### Accesses of any length -/

theorem loadBytes_reads (acc : Access) (parts n : Nat) (va : Word) (s : State) : Reads s (loadBytes acc parts n va s) := by
  induction parts generalizing n va s with
  | zero => exact Quiet.refl s
  | succ parts ih =>
    unfold loadBytes
    split
    · exact loadPart_reads ..
    · refine (loadPart_reads ..).bind fun ⟨low, t⟩ ht => ?_
      exact Keeps.reads_after ht ((ih ..).bind fun ⟨high, u⟩ hu => hu)

theorem storeBytes_stores (acc : Access) (parts : Nat) (bytes : List Byte) (va : Word) (s : State) :
    Stores s (storeBytes acc parts bytes va s) := by
  induction parts generalizing bytes va s with
  | zero => exact Quiet.refl s
  | succ parts ih =>
    unfold storeBytes
    split
    · exact storePart_stores ..
    · exact (storePart_stores ..).bind fun t ht => Keeps.stores_after ht (ih ..)

theorem checkAlignment_checks (t : AccessType) (write : Bool) (va : Word) (s : State) : Checks s (checkAlignment t write va s) := by
  unfold checkAlignment
  split
  · trivial
  · exact takeDataAbort_done ..

theorem alignmentFault_keeps {α : Type} {p : α → Prop} (va : Word) (write : Bool) (s : State) :
    Keeps s p (alignmentFault va write s : Result α) := takeDataAbort_done ..

theorem checkEndian_checks (s : State) : Checks s (checkEndian s) := Keeps.refuseIf ..

theorem traceAccess_inert (write : Bool) (va a : Word) (bytes : List Byte) (before : Nat) (s : State) :
    Inert s (traceAccess write va a bytes before s) := .recordAccess ..

theorem readAs_reads (acc : Access) (t : AccessType) (n : Nat) (va : Word) (s : State) : Reads s (readAs acc t n va s) := by
  refine (checkEndian_checks s).bind fun _ _ => (checkAlignment_checks t false va s).bind fun a _ => ?_
  refine ((loadBytes_reads ..).bind fun ⟨bytes, u⟩ hu => hu : Reads s (loadNumber _ n a s)).bind fun ⟨w, u⟩ hu => ?_
  exact hu.trans (.of_inert (traceAccess_inert ..))

theorem writeAs_stores (acc : Access) (t : AccessType) (n : Nat) (va v : Word) (s : State) : Stores s (writeAs acc t n va v s) := by
  refine (checkEndian_checks s).bind fun _ _ => (checkAlignment_checks t true va s).bind fun a _ => ?_
  refine (storeBytes_stores ..).bind fun u hu => ?_
  exact hu.trans (.of_inert (traceAccess_inert ..))

theorem memRead_reads (t : AccessType) (user precise : Bool) (n : Nat) (va : Word) (s : State) :
    Reads s (memRead t user precise n va s) := readAs_reads ..

theorem memWrite_stores (t : AccessType) (user : Bool) (n : Nat) (va v : Word) (s : State) :
    Stores s (memWrite t user n va v s) := writeAs_stores ..

theorem loadWord_reads (user precise : Bool) (va : Word) (s : State) : Reads s (loadWord user precise va s) :=
  (memRead_reads ..).bind fun _ hu => hu

theorem loadWords_reads (t : AccessType) (precise : Bool) (n : Nat) (va : Word) (s : State) : Reads s (loadWords t precise n va s) := by
  refine (checkEndian_checks s).bind fun _ _ => (checkAlignment_checks t false va s).bind fun a _ => ?_
  refine (loadBytes_reads ..).bind fun ⟨bytes, u⟩ hu => ?_
  exact hu.trans (.of_inert (traceAccess_inert ..))

theorem storeWords_stores (t : AccessType) (ws : List Word) (va : Word) (s : State) : Stores s (storeWords t ws va s) := by
  refine (checkEndian_checks s).bind fun _ _ => (checkAlignment_checks t true va s).bind fun a _ => ?_
  refine (storeBytes_stores ..).bind fun u hu => ?_
  exact hu.trans (.of_inert (traceAccess_inert ..))

/-! ### The exclusives -/

theorem exclusiveAccess_checks (acc : Access) (t : Translation) (s : State) : Checks s (exclusiveAccess acc t) :=
  (Keeps.refuseIf ..).bind fun _ _ => trivial

theorem loadExclusive_reads (size : Nat) (va : Word) (s : State) : Reads s (loadExclusive size va s) := by
  refine (checkEndian_checks s).bind fun _ _ => (checkAlignment_checks _ false va s).bind fun a _ => ?_
  refine (dataTranslate_reads ..).bind fun ⟨t, u⟩ hu => ?_
  refine Keeps.reads_after hu ((exclusiveAccess_checks _ t u).bind fun acc _ => ?_)
  refine Keeps.reads_after (orderBefore_quiet t false u) ?_
  generalize orderBefore t false u = v
  refine Keeps.reads_after (t := _) ?_ ((loadAt_reads ..).bind fun ⟨bytes, w⟩ hw =>
    Keeps.reads_after hw ((watchAccess_stores ..).bind fun x hx => hx.trans (.of_inert (traceAccess_inert ..))))
  split
  · exact .of_inert ⟨rfl, rfl, rfl, rfl, rfl⟩
  · dsimp only
    split <;> exact .of_inert ⟨rfl, rfl, rfl, rfl, rfl⟩

theorem storeExclusive_reads (size : Nat) (v1 v2 va : Word) (s : State) : Reads s (storeExclusive size v1 v2 va s) := by
  refine (checkEndian_checks s).bind fun _ _ => (checkAlignment_checks _ true va s).bind fun a _ => ?_
  refine (dataTranslate_reads ..).bind fun ⟨t, u⟩ hu => ?_
  refine Keeps.reads_after hu ((exclusiveAccess_checks _ t u).bind fun acc _ => ?_)
  refine Keeps.reads_after (orderBefore_quiet t true u) ?_
  generalize orderBefore t true u = v
  dsimp only
  split
  · refine (storeAt_stores ..).bind fun w hw => ?_
    refine Keeps.reads_after hw ((watchAccess_stores ..).bind fun x hx => ?_)
    have hend : Quiet w { traceAccess true va a (exclusiveBytes v.bigEndian size v1 v2) s.inflight.length x with
        localMon := none, globalMon := if t.attrs.shared then none else (traceAccess true va a (exclusiveBytes v.bigEndian size v1 v2) s.inflight.length x).globalMon } :=
      hx.trans (.of_inert ((traceAccess_inert ..).trans ⟨rfl, rfl, rfl, rfl, rfl⟩))
    split
    · exact hend.trans (.of_inert (.drawBit _))
    · exact hend
  · refine (watchAccess_stores ..).bind fun x hx => ?_
    exact hx.trans (.of_inert ((Inert.recordAccess ..).trans ⟨rfl, rfl, rfl, rfl, rfl⟩))

end Sys2Proof.Machine

end

section
/-! What the accesses to CP15 and CP14 keep. -/

namespace Sys2Proof.Machine

open Sys2Proof

/-! ### Checks as rewriting rules -/

@[simp] theorem keeps_ok {α : Type} (s : State) (p : α → Prop) (a : α) : Keeps s p (.ok a) ↔ p a := Iff.rfl

@[simp] theorem keeps_refuse {α : Type} (s : State) (p : α → Prop) (r : Refusal) : Keeps s p (.error (.refuse r)) := trivial

@[simp] theorem keeps_undefined {α : Type} (s : State) (p : α → Prop) : Keeps s p (undefined s) := .undefined s

@[simp] theorem keeps_require {α : Type} (s : State) (p : α → Prop) (c : Bool) (f : Unit → Result α) :
    Keeps s p (require c s >>= f) ↔ (c = true → Keeps s p (f ())) := by
  cases c
  · exact ⟨fun _ h => Bool.noConfusion h, fun _ => keeps_undefined s p⟩
  · exact ⟨fun h _ => h, fun h => h rfl⟩

@[simp] theorem keeps_refuseIf {α : Type} (s : State) (p : α → Prop) (c : Bool) (r : Refusal) (f : Unit → Result α) :
    Keeps s p (refuseIf c r >>= f) ↔ (c = false → Keeps s p (f ())) := by
  cases c
  · exact ⟨fun h _ => h, fun h => h rfl⟩
  · exact ⟨fun _ h => Bool.noConfusion h, fun _ => trivial⟩

/-! ### CP14 -/

/-- A write of the debug registers keeps Debug state. -/
theorem writeDebugReg_quiet (r : DebugReg) (v : Word) (s : State) : Quiet s (writeDebugReg r v s) := by
  cases r
  case dscr => exact Quiet.of_dbg s (getLsbD_mergeBits_of_not _ v (by decide) (by decide))
  case dtr => exact Quiet.of_dbg s (bit_setBit_other _ _ (by decide) (by decide))
  all_goals exact ⟨rfl, rfl, rfl, id, fun _ => rfl⟩

theorem readRdtr_quiet (s : State) : Quiet s (readRdtr s).2 := .of_dbg s (bit_setBit_other _ _ (by decide) (by decide))

theorem writeWdtr_quiet (v : Word) (s : State) : Quiet s (writeWdtr v s) := .of_dbg s (bit_setBit_other _ _ (by decide) (by decide))

theorem readDebugReg_quiet (r : DebugReg) (s : State) : Quiet s (readDebugReg r s).2 := by
  cases r
  case dtr => exact readRdtr_quiet s
  all_goals exact .refl s

theorem requireCp14_checks (g : Cp14Group) (s : State) : Checks s (requireCp14 g s) := by
  unfold requireCp14
  split
  · trivial
  · exact .undefined s

theorem selectDebugReg_checks (write : Bool) (crn : BitVec 4) (opc2 : BitVec 3) (crm : BitVec 4) (s : State) :
    Checks s (selectDebugReg write crn opc2 crm s) := by
  unfold selectDebugReg
  generalize (if crn = 0#4 then debugReg opc2 crm else none) = found
  cases found with
  | none => exact .undefined s
  | some r =>
    dsimp only
    split
    · exact .undefined s
    · exact (requireCp14_checks ..).bind fun _ _ => trivial

theorem setFlagsFrom_evolves {s t : State} (h : Quiet s t) (v : Word) : Evolves s (setFlagsFrom v t) := by
  refine Evolves.flags h ?_
  rw [h.cpsr]
  exact .mergeBits _ v (by decide)

theorem mrcResult_evolves {s t : State} (h : Quiet s t) (rd : Reg) (v : Word) : Evolves s (mrcResult rd v t) := by
  unfold mrcResult
  split
  · exact setFlagsFrom_evolves h v
  · exact (Evolves.of_quiet h).then_inert (.setReg ..)

theorem mrc14_keeps (opc1 : BitVec 3) (crn crm : BitVec 4) (opc2 : BitVec 3) (rd : Reg) (s : State) :
    Keeps s (Evolves s) (mrc14 opc1 crn crm opc2 rd s) := by
  unfold mrc14
  split
  · exact mrcResult_evolves (.refl s) ..
  · split
    · refine (selectDebugReg_checks ..).bind fun r _ => ?_
      have hread := readDebugReg_quiet r s
      dsimp only
      split
      · exact setFlagsFrom_evolves (hread.trans (.of_inert (.drawWord _))) _
      · exact (Evolves.of_quiet hread).then_inert (.setReg ..)
    · exact .undefined s

theorem mcr14_stores (opc1 : BitVec 3) (crn crm : BitVec 4) (opc2 : BitVec 3) (rd : Reg) (s : State) :
    Stores s (mcr14 opc1 crn crm opc2 rd s) := by
  unfold mcr14
  split
  · exact (Keeps.noPc ..).bind fun _ _ => Quiet.refl s
  · split
    · exact (selectDebugReg_checks ..).bind fun r _ => writeDebugReg_quiet ..
    · exact .undefined s

/-! ### Reads of CP15 -/

section
variable (crm opc2 : Nat) (s : State)

theorem readC0_checks : Checks s (readC0 crm opc2 s) := by
  unfold readC0
  simp only [keeps_require]
  intro _
  split <;> simp

theorem readC1_checks : Checks s (readC1 crm opc2 s) := by
  unfold readC1
  simp only [keeps_require]
  intro _
  split <;> simp

theorem readC2_checks : Checks s (readC2 crm opc2 s) := by
  unfold readC2
  simp only [keeps_require]
  intro _
  split <;> simp

theorem readC3_checks : Checks s (readC3 crm opc2 s) := by
  unfold readC3
  simp only [keeps_require]
  intro _
  split <;> simp

theorem readC5_checks : Checks s (readC5 crm opc2 s) := by
  unfold readC5
  simp only [keeps_require]
  intro _
  split <;> simp

theorem readC6_checks : Checks s (readC6 crm opc2 s) := by
  unfold readC6
  simp only [keeps_require]
  intro _
  split <;> simp

theorem readC7_checks : Checks s (readC7 crm opc2 s) := by
  unfold readC7
  simp only [keeps_require]
  intro _
  split <;> simp

theorem readTcmRegion_checks (data : Bool) : Checks s (readTcmRegion data s) := by
  unfold readTcmRegion
  simp

theorem readC9_checks : Checks s (readC9 crm opc2 s) := by
  unfold readC9
  simp only [keeps_require]
  intro _
  split <;> simp [readTcmRegion_checks]

theorem readC10_checks : Checks s (readC10 crm opc2 s) := by
  unfold readC10
  simp only [keeps_require]
  intro _
  split <;> simp

theorem readC11_checks : Checks s (readC11 crm opc2 s) := by
  unfold readC11
  dsimp only
  split <;> simp

theorem readC12_checks : Checks s (readC12 crm opc2 s) := by
  unfold readC12
  simp only [keeps_require]
  intro _
  split <;> simp

theorem readC13_checks : Checks s (readC13 crm opc2 s) := by
  unfold readC13
  split
  · simp
  · simp
  · simp only [keeps_require]
    intro _
    split <;> simp

theorem readC15Op0_reads : Reads s (readC15Op0 crm opc2 s) := by
  unfold readC15Op0
  split <;> simp [Quiet.refl]

theorem readC15Other_reads (opc1 : Nat) : Reads s (readC15Other opc1 crm opc2 s) := by
  unfold readC15Other
  split
  · simp [Quiet.refl]
  · simp only [keeps_require]
    intro _
    split <;> simp [Quiet.refl]

end

theorem plainRead_reads {s : State} {r : Result Word} (h : Checks s r) : Reads s (plainRead r s) := h.bind fun _ _ => Quiet.refl s

theorem readCp15_reads (opc1 : BitVec 3) (crn crm : BitVec 4) (opc2 : BitVec 3) (s : State) : Reads s (readCp15 opc1 crn crm opc2 s) := by
  unfold readCp15
  dsimp only
  split
  · split
    · exact readC15Other_reads ..
    · exact .undefined s
  · split
    · exact plainRead_reads (readC0_checks ..)
    · exact plainRead_reads (readC1_checks ..)
    · exact plainRead_reads (readC2_checks ..)
    · exact plainRead_reads (readC3_checks ..)
    · exact plainRead_reads (readC5_checks ..)
    · exact plainRead_reads (readC6_checks ..)
    · exact plainRead_reads (readC7_checks ..)
    · exact plainRead_reads (readC9_checks ..)
    · exact plainRead_reads (readC10_checks ..)
    · exact plainRead_reads (readC11_checks ..)
    · exact plainRead_reads (readC12_checks ..)
    · exact plainRead_reads (readC13_checks ..)
    · exact readC15Op0_reads ..
    · exact .undefined s

/-! ### Writes of single registers -/

namespace Quiet

variable {s t : State}

theorem held (h : Quiet s t) (old : State) : Quiet s (t.keepOldFetch old) := h.trans (.of_inert (.keepOldFetch t old))

theorem mapped (h : Quiet s t) (old : State) : Quiet s (t.keepOldMap old) := h.trans (.of_inert (.keepOldMap t old))

/-- In the Non-secure world the banked registers that an access reaches are the Non-secure ones. -/
theorem setBank (s : State) (b : Cp15Bank) : Quiet s (s.setBank b) := by
  refine .of_cp15 s fun hs => ?_
  have hns : s.cp15.nsBit = true := (Bool.and_eq_true_iff.mp hs).1
  rw [hns]
  rfl

/-- What only the Secure world may write. -/
theorem secureOnly (h : (!s.nsState) = true) (c : Cp15) : Quiet s { s with cp15 := c } :=
  .of_cp15 s fun hs => by rw [hs] at h; exact Bool.noConfusion h

end Quiet

theorem writeControl_quiet (v : Word) (s : State) : Quiet s (writeControl v s) := by
  unfold writeControl
  dsimp only
  refine (Quiet.setBank s _).trans (.of_cp15 _ fun hs => ?_)
  have hs' : s.nsState = true := by
    have h : (s.cp15.setBank s.cp15.nsBit { s.bank with control := v &&& controlBankedMask }).nonSecureIn s.mode = true := hs
    cases hns : s.cp15.nsBit <;> rw [hns] at h <;> exact h
  have hshared (w : Word) : mergeBits w v controlTcmMask &&& 0x0020C080#32 = w &&& 0x0020C080#32 := by
    have hmask : ∀ i < 32, (0x0020C080#32 : Word).getLsbD i = true → controlTcmMask.getLsbD i = false := by decide
    refine BitVec.eq_of_getLsbD_eq fun i hi => ?_
    rw [BitVec.getLsbD_and, BitVec.getLsbD_and]
    cases hm : (0x0020C080#32 : Word).getLsbD i
    · simp
    · rw [getLsbD_mergeBits_of_not w v hi (hmask i hi hm)]
  rw [if_pos hs']
  simp only [worldSettings, hshared]

section
variable (crm opc2 : Nat) (v : Word) (s : State)

theorem writeC1_stores : Stores s (writeC1 crm opc2 v s) := by
  unfold writeC1
  simp only [keeps_require]
  intro _
  split
  · simp only [keeps_require, keeps_ok]
    exact fun _ => ((writeControl_quiet v s).held s).mapped s
  · simp only [keeps_require, keeps_ok]
    exact fun h => .secureOnly h _
  · rw [keeps_ok]
    refine Quiet.held (.of_cp15 s ?_) s
    exact fun _ => rfl
  · simp only [keeps_require, keeps_ok]
    intro h
    have hscr : Quiet s { s with cp15 := { s.cp15 with scr := v &&& 0x0000003F#32 } } := .secureOnly h _
    split
    · exact hscr
    · exact hscr.held s
  · simp only [keeps_require, keeps_ok]
    exact fun h => .secureOnly h _
  · simp only [keeps_require, keeps_ok]
    exact fun h => Quiet.held (.secureOnly h _) s
  · exact .undefined s

theorem writeC2_stores : Stores s (writeC2 crm opc2 v s) := by
  unfold writeC2
  simp only [keeps_require]
  intro _
  split
  · simp only [keeps_require, keeps_ok]
    exact fun _ => ((Quiet.setBank s _).held s).mapped s
  · exact ((Quiet.setBank s _).held s).mapped s
  · simp only [keeps_require, keeps_ok]
    exact fun _ => ((Quiet.setBank s _).held s).mapped s
  · exact .undefined s

theorem writeC3_stores : Stores s (writeC3 crm opc2 v s) := by
  unfold writeC3
  simp only [keeps_require]
  intro _
  split
  · simp only [keeps_require, keeps_ok]
    exact fun _ => ((Quiet.setBank s _).held s).mapped s
  · exact .undefined s

theorem writeC5_stores : Stores s (writeC5 crm opc2 v s) := by
  unfold writeC5
  simp only [keeps_require]
  intro _
  split
  · exact Quiet.setBank s _
  · exact Quiet.setBank s _
  · exact .undefined s

theorem writeC6_stores : Stores s (writeC6 crm opc2 v s) := by
  unfold writeC6
  simp only [keeps_require]
  intro _
  split
  · exact Quiet.setBank s _
  · simp only [keeps_require, keeps_ok]
    exact fun _ => Quiet.of_dbg s rfl
  · exact Quiet.setBank s _
  · exact .undefined s

theorem writeTcmRegion_stores (data : Bool) : Stores s (writeTcmRegion data v s) := by
  unfold writeTcmRegion
  simp only [keeps_require, keeps_refuseIf, keeps_ok]
  intro _ _
  refine Quiet.held ?_ s
  split
  · exact .refl s
  · split <;> exact .of_cp15 s fun _ => rfl

theorem writeTcmNsAccess_stores (data : Bool) : Stores s (writeTcmNsAccess data v s) := by
  unfold writeTcmNsAccess
  simp only [keeps_require, keeps_ok]
  intro _
  refine Quiet.held ?_ s
  split
  · exact .refl s
  · split <;> exact .of_cp15 s fun _ => rfl

theorem writeC9_stores : Stores s (writeC9 crm opc2 v s) := by
  unfold writeC9
  simp only [keeps_require]
  intro _
  split
  · simp only [keeps_require, keeps_ok]
    exact fun _ => .of_cp15 s fun _ => rfl
  · simp only [keeps_require, keeps_ok]
    exact fun _ => .of_cp15 s fun _ => rfl
  · exact writeTcmRegion_stores ..
  · exact writeTcmRegion_stores ..
  · exact writeTcmNsAccess_stores ..
  · exact writeTcmNsAccess_stores ..
  · exact Quiet.setBank s _
  · exact Quiet.of_cp15 s fun _ => rfl
  · exact .undefined s

theorem writeC10_stores : Stores s (writeC10 crm opc2 v s) := by
  unfold writeC10
  simp only [keeps_require]
  intro _
  split
  · simp only [keeps_require, keeps_ok]
    exact fun _ => .of_cp15 s fun _ => rfl
  · simp only [keeps_require, keeps_ok]
    exact fun _ => ((Quiet.setBank s _).held s).mapped s
  · simp only [keeps_require, keeps_ok]
    exact fun _ => ((Quiet.setBank s _).held s).mapped s
  · exact .undefined s

theorem writeC12_stores : Stores s (writeC12 crm opc2 v s) := by
  unfold writeC12
  simp only [keeps_require]
  intro _
  split
  · simp only [keeps_require, keeps_ok]
    exact fun _ => .setBank s _
  · simp only [keeps_require, keeps_ok, Bool.and_eq_true]
    exact fun h => .secureOnly h.1 _
  · exact .undefined s

theorem writeC13_stores : Stores s (writeC13 crm opc2 v s) := by
  unfold writeC13
  split
  · exact Quiet.setBank s _
  · simp only [keeps_require]
    intro _
    split
    · simp only [keeps_require, keeps_ok]
      exact fun _ => ((Quiet.setBank s _).held s).mapped s
    · exact (Quiet.setBank s _).held s
    · exact Quiet.setBank s _
    · exact Quiet.setBank s _
    · exact .undefined s

theorem validationOp_quiet (opc1 : Nat) : Quiet s (validationOp opc1 opc2 s) := .of_cp15 s fun _ => rfl

theorem setLockdownEntry_quiet (e : TlbEntry) : Quiet s (setLockdownEntry s e) := by
  refine ((Quiet.of_cp15 s ?_).held s).mapped s
  exact fun _ => rfl

theorem writeC15Op0_stores : Stores s (writeC15Op0 crm opc2 v s) := by
  unfold writeC15Op0
  split <;> simp only [keeps_require, keeps_refuseIf, keeps_ok, keeps_undefined]
  case h_1 => exact fun _ => (Quiet.setBank s _).held s
  case h_8 => exact fun _ => .refl s
  case h_10 => exact fun _ _ => .refl s
  all_goals exact fun _ => .of_cp15 s fun _ => rfl

theorem writeC15Other_stores (opc1 : Nat) : Stores s (writeC15Other opc1 crm opc2 v s) := by
  unfold writeC15Other
  split
  · simp only [keeps_require, keeps_ok]
    exact fun _ => validationOp_quiet ..
  · simp only [keeps_require]
    intro _
    split
    · exact Quiet.of_cp15 s fun _ => rfl
    · exact Quiet.of_cp15 s fun _ => rfl
    · exact Quiet.of_cp15 s fun _ => rfl
    · exact setLockdownEntry_quiet ..
    · exact setLockdownEntry_quiet ..
    · exact setLockdownEntry_quiet ..
    · exact .undefined s

end

/-! ### The DMA's registers -/

theorem setDma_quiet (s : State) (n : Fin 2) (c : DmaChannel) : Quiet s (s.setDma n c) := .of_cp15 s fun _ => rfl

theorem dmaPromote_quiet (s : State) (n : Fin 2) : Quiet s (dmaPromote s n) := by
  unfold dmaPromote
  dsimp only
  split
  · exact setDma_quiet ..
  · exact .refl s

theorem dmaStart_quiet (s : State) (n : Fin 2) : Quiet s (dmaStart s n) := by
  unfold dmaStart
  dsimp only
  split
  · exact .refl s
  · refine Quiet.trans ?_ (Quiet.trans (setDma_quiet ..) (dmaPromote_quiet ..))
    split
    · exact .refl s
    · exact ⟨rfl, rfl, rfl, id, fun _ => rfl⟩

theorem dmaStop_quiet (s : State) (n : Fin 2) : Quiet s (dmaStop s n) := by
  unfold dmaStop
  dsimp only
  split
  · exact setDma_quiet ..
  · split
    · exact setDma_quiet ..
    · exact .refl s

theorem dmaClear_quiet (s : State) (n : Fin 2) : Quiet s (dmaClear s n) := by
  unfold dmaClear
  dsimp only
  split
  · exact .refl s
  · exact (setDma_quiet ..).trans (dmaPromote_quiet ..)

theorem writeDmaStart_checks (internal : Bool) (v : Word) (c : DmaChannel) (s : State) : Checks s (writeDmaStart internal v c) := by
  unfold writeDmaStart
  split <;> trivial

theorem writeC11_stores (crm opc2 : Nat) (v : Word) (s : State) : Stores s (writeC11 crm opc2 v s) := by
  unfold writeC11
  dsimp only
  split <;> simp only [keeps_require, keeps_ok, keeps_undefined]
  · exact fun _ => .of_cp15 s fun _ => rfl
  · exact fun _ => .of_cp15 s fun _ => rfl
  · exact fun _ => dmaStop_quiet ..
  · exact fun _ => dmaStart_quiet ..
  · exact fun _ => dmaClear_quiet ..
  · exact fun _ => setDma_quiet ..
  · exact fun _ => (writeDmaStart_checks ..).bind fun _ _ => setDma_quiet ..
  · exact fun _ => (writeDmaStart_checks ..).bind fun _ _ => setDma_quiet ..
  · exact fun _ => setDma_quiet ..
  · exact fun _ => setDma_quiet ..

end Sys2Proof.Machine

end

section
/-! What CP15 operations, the coprocessors and the VFP11 keep. -/

namespace Sys2Proof.Machine

open Sys2Proof

/-! ### Cache maintenance -/

theorem invalidateLines_inert (k : CacheSide) (selects : CacheLine → Bool) (s : State) : Inert s (invalidateLines k selects s) :=
  .setCacheLines ..

theorem cleanLines_quiet (selects : CacheLine → Bool) (s : State) : Quiet s (cleanLines selects s) := by
  unfold cleanLines
  exact (writeBackAll_quiet ..).trans (.of_inert (.setCacheLines ..))

theorem clearDirty_quiet (s : State) : Quiet s (clearDirty s) := by
  refine .of_cp15 s fun _ => ?_
  dsimp only
  split <;> rfl

theorem fetchInvalidated_inert (reaches : StaleByte → Bool) (s : State) : Inert s (fetchInvalidated reaches s) := ⟨rfl, rfl, rfl, rfl, rfl⟩

theorem invalidateInstructionCache_quiet (s : State) : Quiet s (invalidateInstructionCache s) :=
  .of_inert ((invalidateLines_inert ..).trans (fetchInvalidated_inert ..))

theorem invalidateDataCache_quiet (s : State) : Quiet s (invalidateDataCache s) :=
  (Quiet.of_inert (invalidateLines_inert ..)).trans (clearDirty_quiet _)

theorem cleanDataCache_quiet (s : State) : Quiet s (cleanDataCache s) := (cleanLines_quiet ..).trans (clearDirty_quiet _)

theorem cleanInvalidateDataCache_quiet (s : State) : Quiet s (cleanInvalidateDataCache s) :=
  (cleanLines_quiet ..).trans ((Quiet.of_inert (invalidateLines_inert ..)).trans (clearDirty_quiet _))

theorem maintain_quiet (op : LineOp) (selects : CacheLine → Bool) (s : State) : Quiet s (maintain op selects s) := by
  cases op
  case invalidateInstruction => exact .of_inert (invalidateLines_inert ..)
  case invalidateData => exact .of_inert (invalidateLines_inert ..)
  case cleanData => exact cleanLines_quiet ..
  case cleanInvalidateData => exact (cleanLines_quiet ..).trans (.of_inert (invalidateLines_inert ..))
  case prefetchInstruction => exact .refl s

theorem lineByIndex_quiet (op : LineOp) (v : Word) (s : State) : Quiet s (lineByIndex op v s) := by
  unfold lineByIndex
  dsimp only
  split
  · exact (maintain_quiet ..).trans (.of_inert (fetchInvalidated_inert ..))
  · exact maintain_quiet ..

theorem lineOf_walked (mva : Word) (s : State) : XlateTo (Walked .data s) (lineOf mva s) := by
  unfold lineOf
  dsimp only
  split
  · refine XlateTo.bind (Walked.findEntry s.cp15 true { mva := mva, ns := s.nsState, privileged := true, write := false, fetch := false
                                                        dma := false, unaligned := false
                                                        asid := bits (s.cp15.bank s.nsState).contextId 0 8 } s)
      (fun _ h => h) fun e t ht => ht
  · exact Walked.refl ..

theorem cacheOpAbort_done (op : LineOp) (cause : AbortCause) (mva : Word) (s : State) : Done s (cacheOpAbort op cause mva s) :=
  Done.after_quiet (Quiet.faults s (abortBank s cause) _ _ _ _) (takeDataAbort_done ..)

theorem fillInstruction_quiet (shape : BusRequest) (t : Translation) (be32 : Bool) (va : Word) (s : State) :
    Quiet s (fillInstruction shape t be32 va s) :=
  (Quiet.of_walked (Walked.readLevelTwo .data s t.place (lineBytes t.pa))).trans (fillLine_quiet ..)

theorem prefetchByMva_quiet (mva pa : Word) (ns : Bool) (attrs : MemAttrs) (s : State) : Quiet s (prefetchByMva mva pa ns attrs s) := by
  unfold prefetchByMva
  split
  · exact fillInstruction_quiet ..
  · exact .refl s

theorem lineEffect_quiet (op : LineOp) (mva pa : Word) (ns : Bool) (attrs : MemAttrs) (s : State) :
    Quiet s (lineEffect op mva pa ns attrs s) := by
  unfold lineEffect
  split
  · exact prefetchByMva_quiet ..
  · dsimp only
    split
    · exact (maintain_quiet ..).trans (.of_inert (fetchInvalidated_inert ..))
    · exact maintain_quiet ..

theorem lineByMva_stores (op : LineOp) (mva : Word) (s : State) : Stores s (lineByMva op mva s) := by
  have h := lineOf_walked mva s
  unfold lineByMva
  revert h
  cases lineOf mva s with
  | error stop =>
    cases stop
    · exact fun h => Done.after_quiet (.of_walked h) (cacheOpAbort_done ..)
    · exact fun _ => trivial
  | ok r =>
    obtain ⟨⟨pa, ns, attrs⟩, u⟩ := r
    intro h
    have hu : Quiet s u := .of_walked h
    change Quiet s (if _ then _ else _)
    split
    · exact hu.trans (lineEffect_quiet ..)
    · exact hu

theorem lineRange_stores (op : LineOp) (n : Nat) (va : Word) (s : State) : Stores s (lineRange op n va s) := by
  induction n generalizing va s with
  | zero => exact Quiet.refl s
  | succ n ih => exact (lineByMva_stores ..).bind fun t ht => Keeps.stores_after ht (ih ..)

theorem rangeOp_stores (op : LineOp) (start stop : Word) (s : State) : Stores s (rangeOp op start stop s) := by
  unfold rangeOp
  dsimp only
  split
  · exact Quiet.refl s
  · exact lineRange_stores ..

/-! ### Barriers, translations, the TLB -/

theorem barrier_quiet (s : State) : Quiet s (barrier s) := by
  unfold barrier
  dsimp only
  split
  · exact (completeAccesses_quiet s).trans (.of_dbg _ (bit_setBit_other _ _ (by decide) (by decide)))
  · exact completeAccesses_quiet s

theorem syncBarrier_quiet (s : State) : Quiet s (syncBarrier s) :=
  Quiet.trans (t := { s with stale := s.stale.map fun b => { b with synced := true } }) ⟨rfl, rfl, rfl, id, fun _ => rfl⟩ (barrier_quiet _)

theorem waitForInterrupt_quiet (s : State) : Quiet s (waitForInterrupt s) := by
  unfold waitForInterrupt
  split
  · exact syncBarrier_quiet s
  · exact (syncBarrier_quiet s).trans ⟨rfl, rfl, rfl, id, fun _ => rfl⟩

theorem setPa_quiet (ns : Bool) (v : Word) (s : State) : Quiet s (setPa ns v s) := by
  refine .of_cp15 s fun _ => ?_
  cases ns <;> rfl

theorem vaToPa_stores (ns user write : Bool) (va : Word) (s : State) : Stores s (vaToPa ns user write va s) := by
  have h := Walked.translate s.cp15 true
    { mva := fcse (s.cp15.bank ns) va, ns := ns, privileged := !user, write := write, fetch := false, dma := false, unaligned := false
      asid := bits (s.cp15.bank ns).contextId 0 8 } s
  unfold vaToPa
  dsimp only
  revert h
  cases translate s.cp15 true _ s with
  | error stop =>
    cases stop with
    | refuse r => exact fun _ => trivial
    | abort c u =>
      intro h
      have hu : Quiet s (setPa s.nsState (paFailure c) u) := (Quiet.of_walked h).trans (setPa_quiet ..)
      dsimp only
      split
      · exact Done.after_quiet hu (takeDataAbort_done ..)
      · exact hu
  | ok r => exact fun h => (Quiet.of_walked h).trans (setPa_quiet ..)

theorem setMicro_quiet (s : State) (c : Cp15) (k : MicroSide) (l : List TlbEntry) (h : Quiet s { s with cp15 := c }) :
    Quiet s { s with cp15 := c.setMicro k l } := by
  refine ⟨rfl, rfl, rfl, id, fun hs => Eq.trans ?_ (h.settings hs)⟩
  cases k <;> rfl

theorem flushMicro_quiet (s : State) : Quiet s (flushMicro s) := by
  have hflush (k : MicroSide) (c : Cp15) (h : Quiet s { s with cp15 := c }) :
      Quiet s { s with cp15 := if (microUse s k).2 then c.setMicro k [] else c } := by
    split
    · exact setMicro_quiet s c k [] h
    · exact h
  exact hflush .instruction _ (hflush .data _ (hflush .dma _ (.refl s)))

theorem invalidateTlb_quiet (ns : Bool) (s : State) : Quiet s (invalidateTlb ns s) := by
  refine Quiet.trans (Quiet.mapped (Quiet.trans (t := { s with cp15 := _ }) ?_ (flushMicro_quiet _)) s) (.of_inert (.syncFetch _))
  exact .of_cp15 s fun _ => rfl

theorem invalidateEntries_quiet (selects : TlbEntry → Bool) (s : State) : Quiet s (invalidateEntries selects s) := by
  refine Quiet.mapped (Quiet.held (Quiet.trans (t := { s with cp15 := _ }) ?_ (flushMicro_quiet _)) s) s
  exact .of_cp15 s fun _ => rfl

/-! ### The whole of CP15 -/

theorem writeC7_stores (crm opc2 : Nat) (v : Word) (s : State) : Stores s (writeC7 crm opc2 v s) := by
  unfold writeC7
  split
  · exact Quiet.of_inert (.syncFetch s)
  · exact syncBarrier_quiet s
  · exact barrier_quiet s
  · simp only [keeps_require, keeps_ok]
    exact fun _ => .refl s
  · simp only [keeps_require]
    intro _
    split <;> try simp only [keeps_require, keeps_ok, keeps_undefined]
    case h_1 => exact waitForInterrupt_quiet s
    case h_2 => exact Quiet.setBank s _
    case h_3 => exact fun _ => invalidateInstructionCache_quiet s
    case h_4 => exact lineByMva_stores ..
    case h_5 => exact lineByIndex_quiet ..
    case h_6 => exact .refl s
    case h_7 => exact fun _ => invalidateDataCache_quiet s
    case h_8 => exact lineByMva_stores ..
    case h_9 => exact lineByIndex_quiet ..
    case h_10 => exact fun _ => (invalidateDataCache_quiet s).trans (invalidateInstructionCache_quiet _)
    case h_11 => exact .refl s
    case h_12 => exact vaToPa_stores ..
    case h_13 => exact vaToPa_stores ..
    case h_14 => exact vaToPa_stores ..
    case h_15 => exact vaToPa_stores ..
    case h_16 => exact fun _ => vaToPa_stores ..
    case h_17 => exact fun _ => vaToPa_stores ..
    case h_18 => exact fun _ => vaToPa_stores ..
    case h_19 => exact fun _ => vaToPa_stores ..
    case h_20 => exact fun _ => cleanDataCache_quiet s
    case h_21 => exact lineByMva_stores ..
    case h_22 => exact lineByIndex_quiet ..
    case h_23 => exact .refl s
    case h_24 => exact lineByMva_stores ..
    case h_25 => exact cleanInvalidateDataCache_quiet s
    case h_26 => exact lineByMva_stores ..
    case h_27 => exact lineByIndex_quiet ..
    case h_28 => exact .refl s

theorem writeC8_stores (crm opc2 : Nat) (v : Word) (s : State) : Stores s (writeC8 crm opc2 v s) := by
  unfold writeC8
  simp only [keeps_require]
  intro _
  split
  · exact invalidateTlb_quiet ..
  · exact invalidateEntries_quiet ..
  · exact invalidateEntries_quiet ..
  · exact .undefined s

theorem writeCp15_stores (opc1 : BitVec 3) (crn crm : BitVec 4) (opc2 : BitVec 3) (v : Word) (s : State) :
    Stores s (writeCp15 opc1 crn crm opc2 v s) := by
  unfold writeCp15
  dsimp only
  split
  · split
    · exact writeC15Other_stores ..
    · exact .undefined s
  · split
    · exact writeC1_stores ..
    · exact writeC2_stores ..
    · exact writeC3_stores ..
    · exact writeC5_stores ..
    · exact writeC6_stores ..
    · exact writeC7_stores ..
    · exact writeC8_stores ..
    · exact writeC9_stores ..
    · exact writeC10_stores ..
    · exact writeC11_stores ..
    · exact writeC12_stores ..
    · exact writeC13_stores ..
    · exact writeC15Op0_stores ..
    · exact .undefined s

theorem rangeCp15_stores (opc crm : BitVec 4) (stop start : Word) (s : State) : Stores s (rangeCp15 opc crm stop start s) := by
  unfold rangeCp15
  dsimp only
  split <;> simp only [keeps_require, keeps_undefined]
  · exact fun _ => rangeOp_stores ..
  · exact fun _ => rangeOp_stores ..
  · exact fun _ => rangeOp_stores ..
  · exact fun _ => rangeOp_stores ..

theorem withSources_stores {s : State} {r : Result State} (regs : List Reg) (h : Stores s r) : Stores s (withSources regs s r) := by
  unfold withSources
  split
  · exact h
  · split
    · split
      · exact h
      · trivial
    · trivial

/-! ### Coprocessor instructions -/

/-- Going on after an access. -/
theorem Done.advance {s t : State} (h : Quiet s t) : Done s t.advance := .of_quiet (h.trans (.of_inert (.advance t)))

theorem Done.evolved {s t : State} (h : Evolves s t) : Done s t.advance := .inl (h.then_inert (.advance t))

theorem requireCoprocessor_stores (n : Nat) (s : State) : Stores s (requireCoprocessor n s) := by
  have hgate (c : Bool) : Stores s (if c then .ok s else undefined s) := by
    cases c
    · exact .undefined s
    · exact Quiet.refl s
  unfold requireCoprocessor
  dsimp only
  split
  · exact hgate _
  · split
    · exact hgate _
    · split
      · exact Quiet.of_inert (.drawWord s)
      · exact (Keeps.undefined _).after (.of_inert (.drawWord s))

theorem externalOnly_ends (cpNum : BitVec 4) (s : State) (accepted : State → Result State) (h : ∀ t, Ends t (accepted t)) :
    Ends s (externalOnly cpNum s accepted) := by
  unfold externalOnly
  split
  · refine (requireCoprocessor_stores ..).stores fun t => ?_
    have hdraw : Quiet t (drawBit t).2 := .of_inert (.drawBit t)
    change Ends t (if (drawBit t).1 then accepted (drawBit t).2 else undefined (drawBit t).2)
    split
    · exact ((h _).after hdraw).imp fun _ hu => hu.after_quiet hdraw
    · exact (Keeps.undefined _).after hdraw
  · exact .undefined s

theorem conditional_ends {s : State} {body : Result State} (c : Cond) (b : Bool) (h : Ends s body) : Ends s (conditional c b s body) := by
  unfold conditional
  split
  · exact h
  · exact Done.of_inert (.skip ..)

theorem Quiet.based {s t : State} (h : Quiet s t) (rn : Reg) (wb : Option Word) : Quiet s (writeBase t rn wb) :=
  h.trans (.of_inert (.writeBase ..))

theorem Quiet.wrote {s t : State} (h : Quiet s t) (rd : Reg) (v : Word) : Quiet s (t.setReg rd v) := h.trans (.of_inert (.setReg ..))

theorem drawItems_inert (n : Nat) (s : State) : Inert s (drawItems n s).2 := by
  induction n generalizing s with
  | zero => exact .refl s
  | succ n ih => exact (Inert.drawWord s).trans (ih _)

theorem externalOperation_ends (cpNum : BitVec 4) (s : State) : Ends s (externalOperation cpNum s) :=
  externalOnly_ends _ s _ fun t => Done.advance (.refl t)

theorem externalWrite_ends (rd : Reg) (cpNum : BitVec 4) (s : State) : Ends s (externalWrite rd cpNum s) :=
  externalOnly_ends _ s _ fun t => (Keeps.noPc ..).bind fun _ _ => Done.advance (.refl t)

theorem externalRead_ends (rd : Reg) (cpNum : BitVec 4) (s : State) : Ends s (externalRead rd cpNum s) :=
  externalOnly_ends _ s _ fun t => Done.evolved (mrcResult_evolves (.of_inert (.drawWord t)) rd _)

theorem externalWritePair_ends (rn rd : Reg) (cpNum : BitVec 4) (s : State) : Ends s (externalWritePair rn rd cpNum s) :=
  externalOnly_ends _ s _ fun t => (Keeps.noPc ..).bind fun _ _ => Done.advance (.refl t)

theorem externalReadPair_ends (rn rd : Reg) (cpNum : BitVec 4) (s : State) : Ends s (externalReadPair rn rd cpNum s) :=
  externalOnly_ends _ s _ fun t => (Keeps.noPc ..).bind fun _ _ => (Keeps.refuseIf ..).bind fun _ _ =>
    Done.advance (((Quiet.of_inert ((Inert.drawWord t).trans (.drawWord _))).wrote rd _).wrote rn _)

theorem externalLoad_ends (p u w : Bool) (rn : Reg) (cpNum : BitVec 4) (off8 : BitVec 8) (s : State) :
    Ends s (externalLoad p u w rn cpNum off8 s) := by
  refine externalOnly_ends _ s _ fun t => (Keeps.refuseIf ..).bind fun _ _ => ?_
  have hdraw : Quiet t (drawLength t).2 := .of_inert (.drawWord t)
  exact (Keeps.reads_after hdraw (loadWords_reads ..)).bind fun ⟨_, v⟩ hv => Done.advance (Quiet.based hv rn _)

theorem externalStore_ends (p u w : Bool) (rn : Reg) (cpNum : BitVec 4) (off8 : BitVec 8) (s : State) :
    Ends s (externalStore p u w rn cpNum off8 s) := by
  refine externalOnly_ends _ s _ fun t => (Keeps.refuseIf ..).bind fun _ _ => ?_
  have hdraw : Quiet t (drawItems (drawLength t).1 (drawLength t).2).2 := .of_inert ((Inert.drawWord t).trans (drawItems_inert ..))
  exact (Keeps.stores_after hdraw (storeWords_stores ..)).bind fun v hv => Done.advance (hv.based rn _)

theorem moveFromCoprocessor_ends (opc1 : BitVec 3) (crn : BitVec 4) (rd : Reg) (cpNum : BitVec 4) (opc2 : BitVec 3) (crm : BitVec 4)
    (s : State) : Ends s (moveFromCoprocessor opc1 crn rd cpNum opc2 crm s) := by
  unfold moveFromCoprocessor
  split
  · exact (readCp15_reads ..).bind fun ⟨v, t⟩ ht => Done.evolved (mrcResult_evolves ht rd v)
  · exact (mrc14_keeps ..).bind fun t ht => Done.evolved ht
  · exact .undefined s
  · exact externalRead_ends ..

theorem moveToCoprocessor_ends (opc1 : BitVec 3) (crn : BitVec 4) (rd : Reg) (cpNum : BitVec 4) (opc2 : BitVec 3) (crm : BitVec 4)
    (s : State) : Ends s (moveToCoprocessor opc1 crn rd cpNum opc2 crm s) := by
  unfold moveToCoprocessor
  split
  · exact (withSources_stores _ (writeCp15_stores ..)).bind fun t ht => Done.advance ht
  · exact (mcr14_stores ..).bind fun t ht => Done.advance ht
  · exact .undefined s
  · exact externalWrite_ends ..

theorem movePairToCoprocessor_ends (rn rd : Reg) (cpNum opc crm : BitVec 4) (s : State) :
    Ends s (movePairToCoprocessor rn rd cpNum opc crm s) := by
  unfold movePairToCoprocessor
  split
  · exact (withSources_stores _ (rangeCp15_stores ..)).bind fun t ht => Done.advance ht
  · exact .undefined s
  · exact .undefined s
  · exact externalWritePair_ends ..

theorem loadCoprocessor_ends (p u nBit w : Bool) (rn : Reg) (crd cpNum : BitVec 4) (off8 : BitVec 8) (s : State) :
    Ends s (loadCoprocessor p u nBit w rn crd cpNum off8 s) := by
  unfold loadCoprocessor
  split
  · refine (requireCp14_checks ..).bind fun _ _ => (Keeps.refuseIf ..).bind fun _ _ => ?_
    exact (loadWords_reads ..).bind fun ⟨_, t⟩ ht => Done.advance (Quiet.based (Quiet.trans ht (writeWdtr_quiet ..)) rn _)
  · exact externalLoad_ends ..

theorem storeCoprocessor_ends (p u nBit w : Bool) (rn : Reg) (crd cpNum : BitVec 4) (off8 : BitVec 8) (s : State) :
    Ends s (storeCoprocessor p u nBit w rn crd cpNum off8 s) := by
  unfold storeCoprocessor
  split
  · refine (requireCp14_checks ..).bind fun _ _ => (Keeps.refuseIf ..).bind fun _ _ => ?_
    exact (storeWords_stores ..).bind fun t ht => Done.advance ((ht.trans (readRdtr_quiet t)).based rn _)
  · exact externalStore_ends ..

theorem secondForm_ends {s : State} {body : Result State} (cpNum : BitVec 4) (h : Ends s body) : Ends s (secondForm cpNum s body) := by
  unfold secondForm
  split
  · exact .undefined s
  · exact h

/-! ### The VFP11 -/

theorem setSr_inert (s : State) (r : Nat) (v : Word) : Inert s (s.setSr r v) := ⟨rfl, rfl, rfl, rfl, rfl⟩

theorem setFp_inert (s : State) (f : Format) (r : Nat) (v : DWord) : Inert s (s.setFp f r v) := by
  unfold State.setFp
  split
  · exact (setSr_inert ..).trans (setSr_inert ..)
  · exact setSr_inert ..

theorem orFpscr_inert (s : State) (flags : Word) : Inert s (s.orFpscr flags) := ⟨rfl, rfl, rfl, rfl, rfl⟩

theorem enterExceptional_inert (s : State) (flag word : Word) (n : Nat) : Inert s (enterExceptional s flag word n) := ⟨rfl, rfl, rfl, rfl, rfl⟩

theorem writeFpFlags_inert (s : State) (v : DWord) : Inert s (writeFpFlags s v) := ⟨rfl, rfl, rfl, rfl, rfl⟩

theorem vfpInstruction_ends (cond : Cond) (n : Nat) (s : State) (body : State → Result State) (h : ∀ t, Ends t (body t)) :
    Ends s (vfpInstruction cond n s body) := by
  have hgate : Stores s (requireVfp n s) := by
    refine (requireCoprocessor_stores n s).bind fun t ht => ?_
    split
    · exact ht
    · exact (Keeps.undefined t).after ht
  exact conditional_ends _ _ (hgate.stores h)

theorem preciseInexact_ends {s : State} {body : Result State} (h : Ends s body) : Ends s (preciseInexact s body) := by
  unfold preciseInexact
  split
  · refine (Keeps.undefined _).after (.of_inert ⟨?_, ?_, ?_, ?_, ?_⟩) <;> rfl
  · exact h

theorem iterate_inert (f : Format) (op : FpOp) (word : Nat → Nat → Nat → Word) (l : List (Nat × Nat × Nat)) (s : State) :
    Inert s (iterate f op word l s) := by
  induction l generalizing s with
  | nil => exact .refl s
  | cons x l ih =>
    obtain ⟨d, n, m⟩ := x
    unfold iterate
    split
    · exact ((setFp_inert ..).trans (orFpscr_inert ..)).trans (ih _)
    · exact enterExceptional_inert ..

theorem iterations_checks (f : Format) (fpscr : Word) (hasFn : Bool) (fd fn fm : Nat) (s : State) :
    Checks s (iterations f fpscr hasFn fd fn fm) := by
  unfold iterations
  dsimp only
  repeat' split
  all_goals trivial

theorem vfpThree_ends (cond : Cond) (f : Format) (base : Word) (op : FpOp) (fd fn fm : Nat) (s : State) :
    Ends s (vfpThree cond f base op fd fn fm s) :=
  vfpInstruction_ends _ _ s _ fun t => preciseInexact_ends ((iterations_checks ..).bind fun _ _ => Done.advance (.of_inert (iterate_inert ..)))

theorem vfpTwo_ends (cond : Cond) (f : Format) (base : Word) (op : Word → DWord → FpOut) (fd fm : Nat) (s : State) :
    Ends s (vfpTwo cond f base op fd fm s) :=
  vfpInstruction_ends _ _ s _ fun t => preciseInexact_ends ((iterations_checks ..).bind fun _ _ => Done.advance (.of_inert (iterate_inert ..)))

theorem vfpScalar_ends (cond : Cond) (n : Nat) (word : Word) (op : State → Word → FpOut) (write : State → DWord → State) (s : State)
    (hwrite : ∀ t v, Inert t (write t v)) : Ends s (vfpScalar cond n word op write s) := by
  refine vfpInstruction_ends _ _ s _ fun t => preciseInexact_ends ?_
  split
  · exact Done.advance (.of_inert ((hwrite ..).trans (orFpscr_inert ..)))
  · exact Done.advance (.of_inert (enterExceptional_inert ..))

theorem vfpCompare_ends (cond : Cond) (f : Format) (base : Word) (every : Bool) (fd fm : Nat) (s : State) :
    Ends s (vfpCompare cond f base every fd fm s) := vfpScalar_ends _ _ _ _ _ s writeFpFlags_inert

theorem vfpCompareZero_ends (cond : Cond) (f : Format) (base : Word) (every : Bool) (fd : Nat) (s : State) :
    Ends s (vfpCompareZero cond f base every fd s) := vfpScalar_ends _ _ _ _ _ s writeFpFlags_inert

theorem vfpConvert_ends (cond : Cond) (p g f : Format) (base : Word) (op : Word → DWord → FpOut) (fd fm : Nat) (s : State) :
    Ends s (vfpConvert cond p g f base op fd fm s) := vfpScalar_ends _ _ _ _ _ s fun _ _ => setFp_inert ..

theorem setDoubles_inert (big : Bool) (regs : List Nat) (ws : List Word) (s : State) : Inert s (s.setDoubles big regs ws) := by
  fun_induction State.setDoubles s big regs ws with
  | case1 s r rs a b ws t ih => exact ((setSr_inert ..).trans (setSr_inert ..)).trans ih
  | case2 => exact .refl _

theorem setSingles_inert (regs : List Nat) (ws : List Word) (s : State) : Inert s (s.setSingles regs ws) := by
  fun_induction State.setSingles s regs ws with
  | case1 s r rs w ws ih => exact (setSr_inert ..).trans ih
  | case2 => exact .refl _

theorem fillVfp_inert (f : Format) (regs : List Nat) (ws : List Word) (s : State) : Inert s (s.fillVfp f regs ws) := by
  unfold State.fillVfp
  split
  · exact setDoubles_inert ..
  · exact setSingles_inert ..

theorem vfpLoad_ends (f : Format) (regs : List Nat) (address : Word) (rn : Reg) (wb : Option Word) (s : State) :
    Ends s (vfpLoad f regs address rn wb s) :=
  (loadWords_reads ..).bind fun ⟨_, t⟩ ht => Done.advance (Quiet.based (Quiet.trans ht (.of_inert (fillVfp_inert ..))) rn wb)

theorem vfpStore_ends (f : Format) (regs : List Nat) (address : Word) (rn : Reg) (wb : Option Word) (s : State) :
    Ends s (vfpStore f regs address rn wb s) :=
  (storeWords_stores ..).bind fun t ht => Done.advance (ht.based rn wb)

theorem vfpLoadOne_ends (cond : Cond) (f : Format) (u : Bool) (rn : Reg) (fd : Nat) (off8 : BitVec 8) (s : State) :
    Ends s (vfpLoadOne cond f u rn fd off8 s) := vfpInstruction_ends _ _ s _ fun _ => vfpLoad_ends ..

theorem vfpStoreOne_ends (cond : Cond) (f : Format) (u : Bool) (rn : Reg) (fd : Nat) (off8 : BitVec 8) (s : State) :
    Ends s (vfpStoreOne cond f u rn fd off8 s) := vfpInstruction_ends _ _ s _ fun _ => vfpStore_ends ..

theorem vfpList_checks (f : Format) (fd : Nat) (off8 : BitVec 8) (s : State) : Checks s (vfpList f fd off8) :=
  (Keeps.refuseIf ..).bind fun _ _ => trivial

theorem vfpLoadMany_ends (cond : Cond) (f : Format) (up w : Bool) (rn : Reg) (fd : Nat) (off8 : BitVec 8) (s : State) :
    Ends s (vfpLoadMany cond f up w rn fd off8 s) :=
  vfpInstruction_ends _ _ s _ fun t => (Keeps.refuseIf ..).bind fun _ _ => (vfpList_checks f fd off8 t).bind fun _ _ => vfpLoad_ends ..

theorem vfpStoreMany_ends (cond : Cond) (f : Format) (up w : Bool) (rn : Reg) (fd : Nat) (off8 : BitVec 8) (s : State) :
    Ends s (vfpStoreMany cond f up w rn fd off8 s) :=
  vfpInstruction_ends _ _ s _ fun t => (Keeps.refuseIf ..).bind fun _ _ => (vfpList_checks f fd off8 t).bind fun _ _ => vfpStore_ends ..

theorem selectVfpReg_reads (reg : BitVec 4) (s : State) : Reads s (selectVfpReg reg s) := by
  refine (requireCoprocessor_stores 10 s).bind fun t ht => ?_
  split
  · exact (Keeps.undefined t).after ht
  · split
    · exact ht
    · exact (Keeps.undefined t).after ht

theorem readVfpReg_inert (r : VfpReg) (s : State) : Inert s (readVfpReg r s).2 := by
  cases r
  case fpinst2 =>
    unfold readVfpReg
    dsimp only
    split
    · exact .refl s
    · exact .drawWord s
  all_goals exact .refl s

theorem writeVfpReg_inert (r : VfpReg) (v : Word) (s : State) : Inert s (writeVfpReg r v s) := by
  cases r <;> exact ⟨rfl, rfl, rfl, rfl, rfl⟩

end Sys2Proof.Machine

end

section
/-! What every instruction keeps. -/

namespace Sys2Proof.Machine

open Sys2Proof

/-! ### Status writes -/

/-- A mask has none of these bits. -/
def Without (k m : Word) : Prop := m &&& k = 0#32

namespace Without

variable {k m m' : Word}

theorem bit (h : Without k m) {i : Nat} (hk : k.getLsbD i = true) : m.getLsbD i = false := by
  simpa only [BitVec.getLsbD_and, hk, Bool.and_true, BitVec.getLsbD_zero] using congrArg (BitVec.getLsbD · i) h

theorem or (h : Without k m) (h' : Without k m') : Without k (m ||| m') := by
  refine BitVec.eq_of_getLsbD_eq fun i _ => ?_
  cases hk : k.getLsbD i
  · simp [hk]
  · simp [h.bit hk, h'.bit hk]

theorem and (h : Without k m) (x : Word) : Without k (m &&& x) := by
  rw [Without, BitVec.and_assoc, BitVec.and_comm x, ← BitVec.and_assoc, h, BitVec.zero_and]

theorem ite (c : Prop) [Decidable c] (h : c → Without k m) (h' : Without k m') : Without k (if c then m else m') := by
  split
  next hc => exact h hc
  next => exact h'

/-- A mask that is there under a condition. -/
theorem guarded (c : Prop) [Decidable c] (h : Without k m) : Without k (if c then m else 0#32) := ite c (fun _ => h) BitVec.zero_and

end Without

/-- The reserved bits of a PSR. -/
def reservedBits : Word := ~~~psrMask

/-- The bits of the mode. -/
def modeBits : Word := 0x1F#32

theorem cpsrWritable_without {k : Word} (s : State) (value : Word) (bytes : BitVec 4) (isReturn : Bool)
    (h : Without k 0xF8000000#32 ∧ Without k 0x000F0000#32 ∧ Without k 0x00000200#32 ∧ Without k 0x01000000#32 ∧ Without k 0x00000020#32)
    (hp : s.privileged = true → Without k 0x00000100#32 ∧ Without k 0x000000DF#32) :
    Without k (cpsrWritable s value bytes isReturn) := by
  obtain ⟨hflags, hge, hendian, hjazelle, hthumb⟩ := h
  unfold cpsrWritable
  have huser := ((Without.guarded (bit bytes 3) hflags).or (.guarded (bit bytes 2) hge)).or (.guarded (bit bytes 1) hendian)
  have hmode := Without.ite s.privileged
    (fun h => (huser.or (.guarded (bit bytes 1) (hp h).1)).or (.guarded (bit bytes 0) (hp h).2)) huser
  have hreturn := Without.ite isReturn (fun _ => (hmode.or (.guarded (bit bytes 3) hjazelle)).or (.guarded (bit bytes 0) hthumb)) hmode
  have hworld := Without.ite s.nsState
    (fun _ => (Without.ite (bit s.cp15.scr 5) (fun _ => hreturn) (hreturn.and (~~~0x100#32))).and
      (if bit s.cp15.scr 4 then 0xFFFFFFFF#32 else ~~~0x40#32)) hreturn
  exact Without.ite _ (fun _ => hworld.and _) hworld

theorem cpsrWritable_reserved (s : State) (value : Word) (bytes : BitVec 4) (isReturn : Bool) :
    Without reservedBits (cpsrWritable s value bytes isReturn) :=
  cpsrWritable_without s value bytes isReturn ⟨rfl, rfl, rfl, rfl, rfl⟩ fun _ => ⟨rfl, rfl⟩

theorem cpsrWritable_mode {s : State} (h : s.mode = modeUsr) (value : Word) (bytes : BitVec 4) (isReturn : Bool) :
    Without modeBits (cpsrWritable s value bytes isReturn) := by
  refine cpsrWritable_without s value bytes isReturn ⟨rfl, rfl, rfl, rfl, rfl⟩ fun hp => ?_
  rw [State.privileged, h] at hp
  exact Bool.noConfusion hp

theorem Without.clean {m w : Word} (h : Without reservedBits m) (v : Word) (hw : cleanPsr w) : cleanPsr (mergeBits w v m) := by
  rw [cleanPsr_iff] at hw ⊢
  intro i hi hr
  have hreserved : reservedBits.getLsbD i = true := by rw [reservedBits, BitVec.getLsbD_not, hr, decide_eq_true hi]; rfl
  rw [getLsbD_mergeBits_of_not w v hi (h.bit hreserved), hw i hi hr]

theorem Without.sameMode {m : Word} (h : Without modeBits m) (w v : Word) : bits (mergeBits w v m) 0 5 = bits w 0 5 := by
  have hmode : ∀ i < 5, modeBits.getLsbD i = true := by decide
  refine BitVec.eq_of_getLsbD_eq fun i hi => ?_
  simp only [bits, BitVec.getLsbD_extractLsb', Nat.zero_add, hi, decide_true, Bool.true_and]
  exact getLsbD_mergeBits_of_not w v (by omega) (h.bit (hmode i hi))

namespace Evolves

variable {s t : State}

/-- Nothing of the status changes. -/
theorem unchanged (hcpsr : t.cpsr = s.cpsr) (hspsrs : t.spsrs = s.spsrs) (hmemory : s.memoryWf = true → t.memoryWf = true)
    (hsettings : s.nsState = true → worldSettings t.cp15 = worldSettings s.cp15) : Evolves s t := by
  have hmode : t.mode = s.mode := congrArg (bits · 0 5) hcpsr
  refine ⟨hmemory, fun ⟨hvalid, hclean, hsaved⟩ => ⟨hmode ▸ hvalid, hcpsr ▸ hclean, fun i => ?_⟩, fun hu _ => hmode.trans hu, hsettings⟩
  rw [hspsrs]
  exact hsaved i

/-- The CPSR is written. -/
theorem setCpsr (s : State) {w : Word} (hvalid : validMode (bits w 0 5) = true) (hclean : cleanPsr s.cpsr → cleanPsr w)
    (huser : s.mode = modeUsr → s.halted = false → bits w 0 5 = modeUsr) : Evolves s { s with cpsr := w } :=
  ⟨id, fun ⟨_, hcpsr, hspsrs⟩ => ⟨hvalid, hclean hcpsr, hspsrs⟩, huser, fun _ => rfl⟩

theorem setSpsrIn (s : State) (mode : BitVec 5) (v : Word) : Evolves s (s.setSpsrIn mode v) := by
  unfold State.setSpsrIn
  split
  case h_2 => exact .of_inert (.refl s)
  case h_1 k _ =>
    refine ⟨id, fun ⟨hmode, hcpsr, hspsrs⟩ => ⟨hmode, hcpsr, fun i => ?_⟩, fun hu _ => hu, fun _ => rfl⟩
    change cleanPsr (s.spsrs.set k (v &&& psrMask))[i]
    by_cases hik : k = i
    · subst hik
      rw [Fin.getElem_fin, Vector.getElem_set_self]
      exact cleanPsr_and_mask v
    · rw [Fin.getElem_fin, Vector.getElem_set_ne _ _ (fun h => hik (Fin.ext h))]
      exact hspsrs i

theorem setThumb (s : State) (b : Bool) : Evolves s (s.setThumb b) :=
  .flags (.refl s) ((FlagsOnly.refl _).setBit 5 b (by decide))

end Evolves

/-- The end of an instruction after an access. -/
theorem Keeps.ends_after {s t : State} {r : Result State} (h : Quiet s t) (hr : Ends t r) : Ends s r :=
  (hr.after h).imp fun _ hu => hu.after_quiet h

theorem cpsrWriteByInstr_evolves (s : State) (value : Word) (bytes : BitVec 4) (isReturn : Bool) :
    Keeps s (Evolves s) (cpsrWriteByInstr s value bytes isReturn) := by
  unfold cpsrWriteByInstr
  dsimp only
  split
  case isFalse => trivial
  case isTrue hvalid =>
    have h : Evolves s { s with cpsr := mergeBits s.cpsr value (cpsrWritable s value bytes isReturn) } :=
      .setCpsr s hvalid ((cpsrWritable_reserved ..).clean value) fun hu _ => ((cpsrWritable_mode hu ..).sameMode ..).trans hu
    rw [keeps_ok]
    split
    · exact h
    · exact h.then_inert (.keepOldFetch ..)

theorem exceptionReturn_ends (s : State) (saved target : Word) : Ends s (exceptionReturn s saved target) :=
  (cpsrWriteByInstr_evolves ..).bind fun t ht => .inl ((ht.then_inert (.syncFetch t)).then_inert (.branchAfterReturn ..))

theorem spsr_checks (s : State) : Checks s s.spsr := by
  unfold State.spsr
  split <;> trivial

theorem debugCpsrWrite_ends {s : State} (h : s.halted = true) (value : Word) (bytes : BitVec 4) : Ends s (debugCpsrWrite s value bytes) := by
  unfold debugCpsrWrite
  have hflags : Without reservedBits 0xF9000000#32 := rfl
  have hge : Without reservedBits 0x000F0000#32 := rfl
  have hendian : Without reservedBits 0x00000200#32 := rfl
  have hthumb : Without reservedBits 0x00000020#32 := rfl
  have hmask : Without reservedBits 0x00000100#32 := rfl
  have hcontrol : Without reservedBits 0x000000DF#32 := rfl
  have huser := (((Without.guarded (bit bytes 3) hflags).or (.guarded (bit bytes 2) hge)).or (.guarded (bit bytes 1) hendian)).or
    (.guarded (bit bytes 0) hthumb)
  have hmode := Without.ite (s.privileged || s.nsState || s.pins.spiden)
    (fun _ => (huser.or (.guarded (bit bytes 1) hmask)).or (.guarded (bit bytes 0) hcontrol)) huser
  have hworld := Without.ite s.nsState
    (fun _ => (Without.ite (bit s.cp15.scr 5) (fun _ => hmode) (hmode.and (~~~0x100#32))).and
      (if bit s.cp15.scr 4 then 0xFFFFFFFF#32 else ~~~0x40#32)) hmode
  extract_lets wide m1 m2 m3 cpsr s'
  split
  · trivial
  next hvalid =>
    change Done s (if _ then _ else _)
    split
    · refine .inl (Evolves.then_inert (.setCpsr s (w := cpsr) (by simpa using hvalid) (hworld.clean value) fun _ hr => ?_)
        ⟨rfl, rfl, rfl, rfl, rfl⟩)
      exact absurd (h.symm.trans hr) (by decide)
    · exact .of_inert (.refl s)

theorem afterMsr_inert (s : State) : Inert s s.afterMsr := by
  unfold State.afterMsr
  split
  · exact ⟨rfl, rfl, rfl, rfl, rfl⟩
  · exact .advance s

theorem writeStatus_ends (rBit : Bool) (fieldMask : BitVec 4) (operand : Word) (s : State) :
    Ends s (writeStatus rBit fieldMask operand s) := by
  unfold writeStatus
  split
  · exact (spsr_checks s).bind fun saved _ => .inl ((Evolves.setSpsrIn ..).then_inert (afterMsr_inert _))
  · split
    next h => exact debugCpsrWrite_ends h ..
    next => exact (cpsrWriteByInstr_evolves ..).bind fun t ht => Done.evolved ht

theorem changeProcessorState_ends (value : Word) (s : State) : Ends s (changeProcessorState value s) := by
  unfold changeProcessorState
  split
  · exact (cpsrWriteByInstr_evolves ..).bind fun t ht => Done.evolved ht
  · exact Done.advance (.refl s)

/-! ### Data processing -/

theorem setNZ_flags (w result : Word) : FlagsOnly w (setNZ w result) :=
  ((FlagsOnly.refl w).setBit 31 _ (by decide)).setBit 30 _ (by decide)

theorem logical_flags (result : Word) (c : Bool) (w : Word) : FlagsOnly w (logical result c w).2 :=
  (setNZ_flags w result).setBit 29 c (by decide)

theorem arithmetic_flags (x : Sum) (w : Word) : FlagsOnly w (arithmetic x w).2 :=
  ((((FlagsOnly.refl w).setBit 31 _ (by decide)).setBit 30 _ (by decide)).setBit 29 _ (by decide)).setBit 28 _ (by decide)

theorem setQ_flags (w : Word) (sat : Bool) : FlagsOnly w (setQ w sat) := by
  unfold setQ
  split
  · exact (FlagsOnly.refl w).setBit 27 true (by decide)
  · exact .refl w

theorem setGE_flags (w : Word) (ge : BitVec 4) : FlagsOnly w (setGE w ge) := by
  intro i hi hk
  rw [setGE, getLsbD_setBits w 16 ge (by decide) hi, if_neg]
  revert i
  decide

/-- An operation that sets flags alone. -/
def SetsFlags (op : Word → Bool → Word → AluOut) : Prop := ∀ b c w, FlagsOnly w (op b c w).2

/-- A register and flags are written. -/
theorem Done.flagged {s t : State} (h : Quiet s t) {w : Word} (hw : FlagsOnly s.cpsr w) : Done s { t with cpsr := w }.advance :=
  Done.evolved (.flags h hw)

theorem writeResult_ends (sBit : Bool) (rd : Reg) {out : AluOut} {s : State} (h : FlagsOnly s.cpsr out.2) :
    Ends s (writeResult sBit rd out s) := by
  unfold writeResult
  split
  · split
    · exact (spsr_checks s).bind fun saved _ => exceptionReturn_ends ..
    · exact Done.of_inert (.writePc ..)
  · cases sBit
    · exact Done.advance (.of_inert (.setReg ..))
    · exact Done.flagged (.of_inert (.setReg ..)) h

theorem dataProc_ends (cond : Cond) (sBit : Bool) (rd : Reg) (operand : State → Word × Bool) {op : Word → Bool → Word → AluOut}
    (h : SetsFlags op) (s : State) : Ends s (dataProc cond sBit rd operand op s) :=
  conditional_ends _ _ (writeResult_ends sBit rd (h _ _ _))

theorem dataProcShift_ends (cond : Cond) (sBit : Bool) (used : List Reg) (rd : Reg) (operand : State → Word × Bool)
    {op : Word → Bool → Word → AluOut} (h : SetsFlags op) (s : State) : Ends s (dataProcShift cond sBit used rd operand op s) :=
  conditional_ends _ _ ((Keeps.noPc ..).bind fun _ _ => writeResult_ends sBit rd (h _ _ _))

theorem compare_ends (cond : Cond) (operand : State → Word × Bool) {op : Word → Bool → Word → AluOut} (h : SetsFlags op) (s : State) :
    Ends s (compare cond operand op s) := conditional_ends _ _ (Done.flagged (.refl s) (h _ _ _))

theorem compareShift_ends (cond : Cond) (used : List Reg) (operand : State → Word × Bool) {op : Word → Bool → Word → AluOut}
    (h : SetsFlags op) (s : State) : Ends s (compareShift cond used operand op s) :=
  conditional_ends _ _ ((Keeps.noPc ..).bind fun _ _ => Done.flagged (.refl s) (h _ _ _))

/-! ### Multiplies and media instructions -/

/-- A check of the registers, then an end. -/
theorem noPc_ends {s : State} (l : List Reg) {f : Unit → Result State} (h : Ends s (f ())) : Ends s (noPc l >>= f) :=
  (Keeps.noPc ..).bind fun _ _ => h

theorem refuseIf_ends {s : State} (c : Bool) (r : Refusal) {f : Unit → Result State} (h : Ends s (f ())) : Ends s (refuseIf c r >>= f) :=
  (Keeps.refuseIf ..).bind fun _ _ => h

theorem writeReg_ends (cond : Cond) (used : List Reg) (rd : Reg) (v : State → Word) (s : State) : Ends s (writeReg cond used rd v s) :=
  conditional_ends _ _ (noPc_ends _ (Done.advance (.of_inert (.setReg ..))))

theorem writeRegQ_ends (cond : Cond) (used : List Reg) (rd : Reg) (v : State → Int × Bool) (s : State) :
    Ends s (writeRegQ cond used rd v s) :=
  conditional_ends _ _ (noPc_ends _ (Done.flagged (.of_inert (.setReg ..)) (setQ_flags _ _)))

theorem multiply_ends (cond : Cond) (sBit : Bool) (used : List Reg) (rd : Reg) (v : State → Word) (s : State) :
    Ends s (multiply cond sBit used rd v s) := by
  refine conditional_ends _ _ (noPc_ends _ ?_)
  cases sBit
  · exact Done.advance (.of_inert (.setReg ..))
  · exact Done.flagged (.of_inert (.setReg ..)) (setNZ_flags _ _)

theorem multiplyLong_ends (cond : Cond) (sBit : Bool) (rdHi rdLo rs rm : Reg) (v : State → Int) (s : State) :
    Ends s (multiplyLong cond sBit rdHi rdLo rs rm v s) := by
  refine conditional_ends _ _ (noPc_ends _ (refuseIf_ends _ _ ?_))
  have hregs : Quiet s ((s.setReg rdHi _).setReg rdLo _) := .of_inert ((Inert.setReg s rdHi ((BitVec.ofInt 64 (v s)).extractLsb' 32 32)).trans
    (.setReg _ rdLo ((BitVec.ofInt 64 (v s)).extractLsb' 0 32)))
  cases sBit
  · exact Done.advance hregs
  · exact Done.flagged hregs (((FlagsOnly.refl _).setBit 31 _ (by decide)).setBit 30 _ (by decide))

/-! ### Branches -/

theorem bxWritePc_ends (s : State) (target : Word) : Ends s (bxWritePc s target) := by
  unfold bxWritePc
  split
  · trivial
  · exact .inl ((Evolves.setThumb ..).then_inert (.branch ..))

theorem loadToPc_ends (s : State) (data : Word) : Ends s (loadToPc s data) := by
  unfold loadToPc
  split
  · exact Done.of_inert (.writePc ..)
  · split
    · trivial
    · exact .inl ((Evolves.setThumb ..).then_inert (.branch ..))

theorem enterDebugState_evolves (moe : BitVec 4) (s : State) : Evolves s (enterDebugState moe s) := .unchanged rfl rfl id fun _ => rfl

theorem setMoe_quiet (s : State) (moe : BitVec 4) : Quiet s (s.setMoe moe) := by
  refine .of_dbg s ?_
  rw [bit, getLsbD_setBits _ _ _ (by decide) (by decide), if_neg (by decide)]
  rfl

theorem instructionDebugEvent_done {moe : BitVec 4} {s t : State} (h : instructionDebugEvent moe s = some t) : Done s t := by
  unfold instructionDebugEvent at h
  split at h
  · rw [← Option.some.inj h]
    exact .inl (enterDebugState_evolves ..)
  · rw [← Option.some.inj h]
    exact Done.after_quiet (setMoe_quiet ..) (takeDebugPrefetchAbort_done _)
  · exact absurd h (by simp)

theorem breakpoint_done (s : State) : Done s (breakpoint s) := by
  unfold breakpoint
  split
  · exact .of_inert (.refl s)
  · cases h : instructionDebugEvent 0b0011#4 s with
    | none => exact takeDebugPrefetchAbort_done s
    | some t => exact instructionDebugEvent_done h

theorem supervisorCall_done (s : State) : Done s (supervisorCall s) := Done.exception (.refl s) _ _ _ (by decide)

theorem monitorCall_ends (s : State) :
    Ends s (if s.privileged || s.halted then .ok (takeException .smc false s.nextPc s) else undefined s) := by
  split
  next h =>
    refine .inr ⟨s, .smc, false, s.nextPc, .refl s, rfl, .inr ?_⟩
    rcases Bool.or_eq_true_iff.mp h with h | h
    · exact .inl (by simpa [State.privileged] using h)
    · exact .inr h
  next => exact .undefined s

end Sys2Proof.Machine

end

section
/-! What loads, stores and the rest of the instructions keep, and the two claims about every instruction. -/

namespace Sys2Proof.Machine

open Sys2Proof

/-! ### Loads and stores -/

/-- A read that can be part of an instruction. -/
def ReadsAt (read : Word → State → Result (Word × State)) : Prop := ∀ a s, Reads s (read a s)

/-- A write that can be part of an instruction. -/
def StoresAt (write : Word → Word → State → Result State) : Prop := ∀ a v s, Stores s (write a v s)

/-- A check that can be part of an instruction in any state. -/
def ChecksAlways (check : Result Unit) : Prop := ∀ s, Checks s check

theorem readByte_reads (user : Bool) : ReadsAt (readByte user) := fun _ _ => memRead_reads ..

theorem readHalf_reads : ReadsAt readHalf := fun _ _ => memRead_reads ..

theorem readSignedByte_reads : ReadsAt readSignedByte := fun _ _ => (memRead_reads ..).bind fun _ hx => hx

theorem readSignedHalf_reads : ReadsAt readSignedHalf := fun _ _ => (memRead_reads ..).bind fun _ hx => hx

theorem readWord_reads (user : Bool) : ReadsAt (loadWord user false) := fun _ _ => loadWord_reads ..

theorem writeWord_stores (user : Bool) : StoresAt (writeWord user) := fun _ _ _ => memWrite_stores ..

theorem writeByte_stores (user : Bool) : StoresAt (writeByte user) := fun _ _ _ => memWrite_stores ..

theorem writeHalf_stores : StoresAt writeHalf := fun _ _ _ => memWrite_stores ..

namespace ChecksAlways

theorem passes : ChecksAlways (.ok ()) := fun _ => trivial

theorem refuseIf (c : Bool) (r : Refusal) : ChecksAlways (refuseIf c r) := fun _ => Keeps.refuseIf ..

theorem followedBy {a b : Result Unit} (ha : ChecksAlways a) (hb : ChecksAlways b) : ChecksAlways (a >>= fun _ => b) :=
  fun s => (ha s).bind fun _ _ => hb s

theorem noPc (l : List Reg) : ChecksAlways (noPc l) := fun _ => Keeps.noPc ..

theorem checkOffset (p w : Bool) (rn rm : Reg) : ChecksAlways (checkOffset p w rn rm) := (noPc _).followedBy (refuseIf _ _)

theorem checkMode3 (p w : Bool) : ChecksAlways (checkMode3 p w) := refuseIf _ _

end ChecksAlways

theorem endLoad_done {s t : State} (h : Quiet s t) (rn rd : Reg) (wb : Option Word) (v : Word) : Ends s (endLoad t rn rd wb v) :=
  Done.advance ((h.based rn wb).wrote rd v)

theorem loadReg_ends (cond : Cond) (p u w : Bool) (rn rd : Reg) (offset : Word) {check : Result Unit} (hcheck : ChecksAlways check)
    {read : Word → State → Result (Word × State)} (hread : ReadsAt read) (s : State) :
    Ends s (loadReg cond p u w rn rd offset check read s) :=
  conditional_ends _ _ (noPc_ends _ (refuseIf_ends _ _ ((hcheck s).bind fun _ _ => (hread _ s).bind fun _ hx => endLoad_done hx ..)))

theorem loadPcFrom_ends (rn : Reg) (wb : Option Word) (address : Word) (s : State) : Ends s (loadPcFrom rn wb address s) := by
  unfold loadPcFrom
  split
  · split
    · exact alignmentFault_keeps ..
    · trivial
  · exact (loadWord_reads ..).bind fun ⟨v, t⟩ ht => Keeps.ends_after (Quiet.based ht rn wb) (loadToPc_ends ..)

theorem loadRegOrPc_ends (cond : Cond) (p u w : Bool) (rn rd : Reg) (offset : Word) {check : Result Unit} (hcheck : ChecksAlways check)
    (s : State) : Ends s (loadRegOrPc cond p u w rn rd offset check s) := by
  refine conditional_ends _ _ (refuseIf_ends _ _ ((hcheck s).bind fun _ _ => ?_))
  dsimp only
  split
  · exact loadPcFrom_ends ..
  · exact (loadWord_reads ..).bind fun _ hx => endLoad_done hx ..

theorem storeReg_ends (cond : Cond) (p u w : Bool) (rn rd : Reg) (offset : Word) {check : Result Unit} (hcheck : ChecksAlways check)
    {write : Word → Word → State → Result State} (hwrite : StoresAt write) (s : State) :
    Ends s (storeReg cond p u w rn rd offset check write s) :=
  conditional_ends _ _ (refuseIf_ends _ _ ((hcheck s).bind fun _ _ => (hwrite _ _ s).bind fun _ ht => Done.advance (ht.based rn _)))

theorem checkPair_checks (r : Reg) (s : State) : Checks s (checkPair r s) := by
  unfold checkPair
  split
  · exact .undefined s
  · exact Keeps.refuseIf ..

theorem loadPair_ends (cond : Cond) (p u w : Bool) (rn rd : Reg) (offset : Word) {check : Result Unit} (hcheck : ChecksAlways check)
    (s : State) : Ends s (loadPair cond p u w rn rd offset check s) := by
  refine conditional_ends _ _ ((checkPair_checks rd s).bind fun _ _ => refuseIf_ends _ _ (refuseIf_ends _ _ ((hcheck s).bind fun _ _ => ?_)))
  exact (loadWords_reads ..).bind fun ⟨_, _⟩ ht => Done.advance ((Quiet.based ht rn _).trans (.of_inert (.setRegsIn ..)))

theorem storePair_ends (cond : Cond) (p u w : Bool) (rn rd : Reg) (offset : Word) {check : Result Unit} (hcheck : ChecksAlways check)
    (s : State) : Ends s (storePair cond p u w rn rd offset check s) := by
  refine conditional_ends _ _ ((checkPair_checks rd s).bind fun _ _ => refuseIf_ends _ _ (refuseIf_ends _ _ ((hcheck s).bind fun _ _ => ?_)))
  exact (storeWords_stores ..).bind fun _ ht => Done.advance (ht.based rn _)

/-- A preload after its translation. -/
theorem preloadLine_quiet (va : Word) (s : State) : Quiet s (preloadLine va s) := by
  have h := dataTranslate_reads (plainAccess s) false va s
  unfold preloadLine
  split
  · exact .refl s
  · dsimp only
    revert h
    cases dataTranslate (plainAccess s) false va s with
    | error e => exact fun _ => .refl s
    | ok r =>
      obtain ⟨t, u⟩ := r
      intro h
      have hu : Quiet s u := h
      dsimp only
      split
      · exact hu
      · have hdraw : Quiet u (drawBit u).2 := .of_inert (.drawBit u)
        split
        · exact ((hu.trans hdraw).trans (.of_inert (.drainTo ..))).trans (fillLine_quiet ..)
        · exact hu.trans hdraw

theorem preload_ends (u : Bool) (rn : Reg) (offset : Word) (s : State) : Ends s (preload u rn offset s) :=
  Done.advance (preloadLine_quiet ..)

theorem swapWord_reads (address v : Word) (s : State) : Reads s (swapWord address v s) :=
  (readAs_reads ..).bind fun ⟨_, _⟩ ht => (Keeps.stores_after ht (writeAs_stores ..)).bind fun _ hu => hu

theorem swapByte_reads (address v : Word) (s : State) : Reads s (swapByte address v s) :=
  (readAs_reads ..).bind fun ⟨_, _⟩ ht => (Keeps.stores_after ht (writeAs_stores ..)).bind fun _ hu => hu

theorem swap_ends (cond : Cond) (rn rd rm : Reg) {op : Word → Word → State → Result (Word × State)} (hop : ∀ a v s, Reads s (op a v s))
    (s : State) : Ends s (swap cond rn rd rm op s) :=
  conditional_ends _ _ (noPc_ends _ (refuseIf_ends _ _ ((hop ..).bind fun ⟨_, _⟩ ht => Done.advance (Quiet.wrote ht rd _))))

theorem loadExclusiveReg_ends (cond : Cond) (size : Nat) (rn rd : Reg) (s : State) : Ends s (loadExclusiveReg cond size rn rd s) := by
  refine conditional_ends _ _ (noPc_ends _ ((loadExclusive_reads ..).bind fun ⟨words, t⟩ ht => ?_))
  cases words
  · exact Done.advance ht
  · exact Done.advance (Quiet.wrote ht rd _)

theorem storeExclusiveReg_ends (cond : Cond) (size : Nat) (rn rd rm : Reg) (s : State) :
    Ends s (storeExclusiveReg cond size rn rd rm s) :=
  conditional_ends _ _ (noPc_ends _ (refuseIf_ends _ _ ((storeExclusive_reads ..).bind fun ⟨_, _⟩ ht => Done.advance (Quiet.wrote ht rd _))))

theorem loadExclusivePair_ends (s : State) (rn rd : Reg) : Ends s (do
    let (words, t) ← loadExclusive 8 (s.reg rn) s
    match words with
    | some (v1, v2) => pure ((t.setReg rd v1).setReg (pairReg rd) v2).advance
    | none => pure t.advance) := by
  refine (loadExclusive_reads ..).bind fun ⟨words, t⟩ ht => ?_
  cases words
  · exact Done.advance ht
  · exact Done.advance ((Quiet.wrote ht rd _).wrote (pairReg rd) _)

/-! ### Blocks -/

theorem loadBlock_reads (p u precise : Bool) (base : Word) (list : List Reg) (s : State) : Reads s (loadBlock p u precise base list s) :=
  (loadWords_reads ..).bind fun ⟨_, _⟩ ht => ht

theorem checkBlock_checks (rn : Reg) (list : List Reg) (s : State) : Checks s (checkBlock rn list) :=
  (Keeps.refuseIf ..).bind fun _ _ => Keeps.noPc ..

theorem checkBlock_ends {s : State} (rn : Reg) (list : List Reg) {f : Unit → Result State} (h : Ends s (f ())) :
    Ends s (checkBlock rn list >>= f) := (checkBlock_checks rn list s).bind fun _ _ => h

/-- The registers of a block are written, the base first. -/
theorem Quiet.filled {s t : State} (h : Quiet s t) (rn : Reg) (wb : Option Word) (mode : BitVec 5) (l : List (Reg × Word)) :
    Quiet s ((writeBase t rn wb).setRegsIn mode l) := (h.based rn wb).trans (.of_inert (.setRegsIn ..))

/-- The end of a load that may have loaded R15. -/
theorem pcOrAdvance_ends {s t : State} (h : Quiet s t) (b : Bool) (v : Word) : Ends s (if b then loadToPc t v else pure t.advance) := by
  cases b
  · exact Done.advance h
  · exact Keeps.ends_after h (loadToPc_ends ..)

/-! ### Instructions that are written out -/

/-- An instruction whose next state, if any, is the end of an instruction. -/
def EndsIn (s : State) : Outcome → Prop
  | .next t => Done s t
  | _ => True

theorem EndsIn.of_ends {s : State} {r : Result State} (h : Ends s r) : EndsIn s (finish r) := by
  rcases r with (e | _ | _) | a
  · exact h
  · trivial
  · trivial
  · exact h

section

variable (cond : Cond) (p u w : Bool) (rn rd rm : Reg) (s : State)

theorem execLdm1_done (regs : BitVec 16) : EndsIn s (execLdm1 cond p u w rn regs s) :=
  .of_ends (conditional_ends _ _ (checkBlock_ends _ _ (refuseIf_ends _ _
    ((loadBlock_reads ..).bind fun ⟨_, _⟩ ht => pcOrAdvance_ends (Quiet.filled ht ..) ..))))

theorem execLdm2_done (regs : BitVec 15) : EndsIn s (execLdm2 cond p u rn regs s) :=
  .of_ends (conditional_ends _ _ (checkBlock_ends _ _ (refuseIf_ends _ _
    ((loadBlock_reads ..).bind fun ⟨_, _⟩ ht => Done.advance (Quiet.trans ht (.of_inert (.setRegsIn ..)))))))

theorem execLdm3_done (regs : BitVec 15) : EndsIn s (execLdm3 cond p u w rn regs s) :=
  .of_ends (conditional_ends _ _ (checkBlock_ends _ _ (refuseIf_ends _ _ ((spsr_checks s).bind fun _ _ =>
    (loadBlock_reads ..).bind fun ⟨_, _⟩ ht => Keeps.ends_after (Quiet.filled ht ..) (exceptionReturn_ends ..)))))

theorem execStm1_done (regs : BitVec 16) : EndsIn s (execStm1 cond p u w rn regs s) :=
  .of_ends (conditional_ends _ _ (checkBlock_ends _ _ (refuseIf_ends _ _
    ((storeWords_stores ..).bind fun _ ht => Done.advance (ht.based rn _)))))

theorem execStm2_done (regs : BitVec 16) : EndsIn s (execStm2 cond p u rn regs s) :=
  .of_ends (conditional_ends _ _ (checkBlock_ends _ _ (refuseIf_ends _ _ ((storeWords_stores ..).bind fun _ ht => Done.advance ht))))

theorem execRfe_done : EndsIn s (execRfe p u w rn s) :=
  .of_ends (noPc_ends _ ((spsr_checks s).bind fun _ _ => (loadWords_reads ..).bind fun ⟨_, _⟩ ht =>
    Keeps.ends_after (Quiet.based ht rn _) (exceptionReturn_ends ..)))

theorem execSrs_done (mode : BitVec 5) : EndsIn s (execSrs p u w mode s) := by
  refine .of_ends ?_
  split
  · exact .undefined s
  · refine refuseIf_ends _ _ ((spsr_checks s).bind fun _ _ => (storeWords_stores ..).bind fun t ht => ?_)
    cases w
    · exact Done.advance ht
    · exact Done.advance (ht.trans (.of_inert (.setRegIn ..)))

theorem execLdrexd_done : EndsIn s (execLdrexd cond rn rd s) :=
  .of_ends (conditional_ends _ _ (noPc_ends _ (refuseIf_ends _ _ (loadExclusivePair_ends ..))))

theorem execStrexd_done : EndsIn s (execStrexd cond rn rd rm s) :=
  .of_ends (conditional_ends _ _ (noPc_ends _ (refuseIf_ends _ _
    ((storeExclusive_reads ..).bind fun ⟨_, _⟩ ht => Done.advance (Quiet.wrote ht rd _)))))

theorem parallel_ends (k : Par) (op : Word → Word → Word × BitVec 4) : Ends s (parallel cond k rn rd rm op s) := by
  refine conditional_ends _ _ (noPc_ends _ ?_)
  change Done s (State.advance (if k.writesGE then _ else _))
  split
  · exact Done.flagged (.of_inert (.setReg ..)) (setGE_flags _ _)
  · exact Done.advance (.of_inert (.setReg ..))

theorem execClz_done : EndsIn s (execClz cond rd rm s) :=
  .of_ends (conditional_ends _ _ (noPc_ends _ (Done.advance (.of_inert (.setReg ..)))))

theorem execMrs_done (rBit : Bool) : EndsIn s (execMrs cond rBit rd s) := by
  refine .of_ends (conditional_ends _ _ (noPc_ends _ ?_))
  cases rBit
  · exact Done.advance (.of_inert (.setReg ..))
  · exact (spsr_checks s).bind fun v _ => Done.advance (.of_inert (.setReg s rd v))

theorem execMsrImm_done (rBit : Bool) (fieldMask rot : BitVec 4) (imm8 : BitVec 8) :
    EndsIn s (execMsrImm cond rBit fieldMask rot imm8 s) := by
  unfold execMsrImm
  split
  · exact Done.advance (.refl s)
  · exact .of_ends (conditional_ends _ _ (writeStatus_ends ..))

theorem execCps_done (imod : BitVec 2) (mmod aBit iBit fBit : Bool) (mode : BitVec 5) :
    EndsIn s (execCps imod mmod aBit iBit fBit mode s) :=
  .of_ends (refuseIf_ends _ _ (refuseIf_ends _ _ (changeProcessorState_ends ..)))

theorem setEndian_done (b : Bool) : Done s { s with cpsr := setBit s.cpsr 9 b }.advance :=
  Done.flagged (.refl s) ((FlagsOnly.refl _).setBit 9 b (by decide))

/-- A register is written, and a branch taken. -/
theorem branchAndLink_done (v target : Word) : Done s ((s.setReg rd v).branch target) :=
  .of_inert ((Inert.setReg ..).trans (.branch ..))

theorem branchAndExchange_done (v target : Word) (b : Bool) : Done s (((s.setReg rd v).setThumb b).branch target) :=
  .inl ((Evolves.after_quiet (.of_inert (.setReg s rd v)) (.setThumb _ b)).then_inert (.branch ..))

theorem linkAndExchange_ends (v target : Word) : Ends s (bxWritePc (s.setReg rd v) target) :=
  Keeps.ends_after (.of_inert (.setReg ..)) (bxWritePc_ends ..)

theorem execFmxr_done (reg : BitVec 4) : EndsIn s (execFmxr cond reg rd s) :=
  .of_ends (conditional_ends _ _ ((selectVfpReg_reads ..).bind fun ⟨_, _⟩ ht =>
    noPc_ends _ (Done.advance (Quiet.trans ht (.of_inert (writeVfpReg_inert ..))))))

theorem execFmrx_done (reg : BitVec 4) : EndsIn s (execFmrx cond reg rd s) :=
  .of_ends (conditional_ends _ _ ((selectVfpReg_reads ..).bind fun ⟨_, _⟩ ht =>
    noPc_ends _ (Done.advance (Quiet.trans ht (.of_inert ((readVfpReg_inert ..).trans (.setReg ..)))))))

theorem execFmstat_done : EndsIn s (execFmstat cond s) :=
  .of_ends (conditional_ends _ _ ((selectVfpReg_reads ..).bind fun ⟨r, t⟩ ht =>
    Done.evolved (setFlagsFrom_evolves (Quiet.trans ht (.of_inert (readVfpReg_inert r t))) _)))

/-! ### VFP register transfers -/

theorem toSingle_ends (n r : Nat) (f : State → Word) :
    Ends s (vfpInstruction cond n s fun t => noPc [rd] >>= fun _ => pure (t.setSr r (f t)).advance) :=
  vfpInstruction_ends _ _ s _ fun _ => noPc_ends _ (Done.advance (.of_inert (setSr_inert ..)))

theorem fromSingle_ends (n : Nat) (f : State → Word) :
    Ends s (vfpInstruction cond n s fun t => noPc [rd] >>= fun _ => pure (t.setReg rd (f t)).advance) :=
  vfpInstruction_ends _ _ s _ fun _ => noPc_ends _ (Done.advance (.of_inert (.setReg ..)))

theorem execFmdrr_done (dm : BitVec 4) : EndsIn s (execFmdrr cond rn rd dm s) :=
  .of_ends (vfpInstruction_ends _ _ s _ fun _ => noPc_ends _ (Done.advance (.of_inert ((setSr_inert ..).trans (setSr_inert ..)))))

theorem execFmrrd_done (dm : BitVec 4) : EndsIn s (execFmrrd cond rn rd dm s) :=
  .of_ends (vfpInstruction_ends _ _ s _ fun _ => noPc_ends _ (refuseIf_ends _ _ (Done.advance (.of_inert ((Inert.setReg ..).trans (.setReg ..))))))

theorem execFmsrr_done (mBit : Bool) (sm : BitVec 4) : EndsIn s (execFmsrr cond rn rd mBit sm s) :=
  .of_ends (vfpInstruction_ends _ _ s _ fun _ => noPc_ends _ (refuseIf_ends _ _ (Done.advance (.of_inert ((setSr_inert ..).trans (setSr_inert ..))))))

theorem execFmrrs_done (mBit : Bool) (sm : BitVec 4) : EndsIn s (execFmrrs cond rn rd mBit sm s) :=
  .of_ends (vfpInstruction_ends _ _ s _ fun _ => noPc_ends _ (refuseIf_ends _ _ (refuseIf_ends _ _
    (Done.advance (.of_inert ((Inert.setReg ..).trans (.setReg ..)))))))

end

/-! ### Thumb -/

section

variable (s : State)

theorem thumbAlu_done (rd : LowReg) {out : AluOut} (h : FlagsOnly s.cpsr out.2) : Done s (thumbAlu rd out s) :=
  Done.flagged (.of_inert (.setReg ..)) h

theorem thumbFlags_done {out : AluOut} (h : FlagsOnly s.cpsr out.2) : Done s (thumbFlags out s) := Done.flagged (.refl s) h

theorem thumbWrite_done (rd : Reg) (v : Word) : Done s (thumbWrite rd v s) := by
  unfold thumbWrite
  split
  · exact .of_inert (.branch ..)
  · exact Done.advance (.of_inert (.setReg ..))

theorem thumbLogical_done {op : Word → Word → Bool → Word → AluOut} (h : ∀ a b c w, FlagsOnly w (op a b c w).2) (rd rm : LowReg) :
    Done s (thumbLogical op rd rm s) := thumbAlu_done s rd (h _ _ _ _)

theorem thumbShift_done (rd : LowReg) (out : Word × Bool) : Done s (thumbShift rd out s) := thumbAlu_done s rd (logical_flags _ _ _)

theorem thumbLoad_ends (rd : LowReg) {read : Word → State → Result (Word × State)} (h : ReadsAt read) (address : Word) :
    Ends s (thumbLoad rd read address s) := (h address s).bind fun _ hx => Done.advance (Quiet.wrote hx _ _)

theorem thumbStore_ends (rd : LowReg) {write : Word → Word → State → Result State} (h : StoresAt write) (address : Word) :
    Ends s (thumbStore rd write address s) := (h _ _ s).bind fun _ ht => Done.advance ht

theorem execTCmpHigh_done (h1 h2 : Bool) (rm rn : LowReg) : EndsIn s (execTCmpHigh h1 h2 rm rn s) :=
  .of_ends (refuseIf_ends _ _ (thumbFlags_done s (arithmetic_flags _ _)))

theorem execTBlSuffix_done (off11 : BitVec 11) : EndsIn s (execTBlSuffix off11 s) :=
  .of_ends (refuseIf_ends _ _ (branchAndLink_done ..))

theorem execTPush_done (rBit : Bool) (regs : BitVec 8) : EndsIn s (execTPush rBit regs s) :=
  .of_ends (refuseIf_ends _ _ ((storeWords_stores ..).bind fun _ ht => Done.advance (ht.wrote _ _)))

theorem execTPop_done (rBit : Bool) (regs : BitVec 8) : EndsIn s (execTPop rBit regs s) :=
  .of_ends (refuseIf_ends _ _ ((loadBlock_reads ..).bind fun ⟨_, _⟩ ht =>
    pcOrAdvance_ends ((Quiet.wrote ht _ _).trans (.of_inert (.setRegsIn ..))) ..))

theorem execTStmia_done (rn : LowReg) (regs : BitVec 8) : EndsIn s (execTStmia rn regs s) :=
  .of_ends (refuseIf_ends _ _ (refuseIf_ends _ _ ((storeWords_stores ..).bind fun _ ht => Done.advance (ht.wrote _ _))))

theorem execTLdmia_done (rn : LowReg) (regs : BitVec 8) : EndsIn s (execTLdmia rn regs s) :=
  .of_ends (refuseIf_ends _ _ ((loadBlock_reads ..).bind fun ⟨_, _⟩ ht =>
    Done.advance ((Quiet.wrote ht _ _).trans (.of_inert (.setRegsIn ..)))))

end

end Sys2Proof.Machine

end

section
/-! No instruction leaves User mode but by an exception, and none of the Non-secure world writes the Secure settings. -/

namespace Sys2Proof.Machine

open Sys2Proof

/-- Every instruction that ends keeps what it should, or has taken an exception. -/
theorem exec_endsIn (i : Instr) (s : State) : EndsIn s (exec i s) := by
  cases i
  case pldImm => exact .of_ends (preload_ends ..)
  case pldReg => exact .of_ends (noPc_ends _ (preload_ends ..))
  case rfe => exact execRfe_done ..
  case srs => exact execSrs_done ..
  case clrex => exact Done.advance ⟨rfl, rfl, rfl, id, fun _ => rfl⟩
  case cps => exact execCps_done ..
  case setend | tSetend => exact setEndian_done ..
  case blx1 | tBlxSuffix => exact branchAndExchange_done ..
  case cdp2 => exact .of_ends (externalOperation_ends ..)
  case mcr2 => exact .of_ends (secondForm_ends _ (moveToCoprocessor_ends ..))
  case mrc2 => exact .of_ends (secondForm_ends _ (moveFromCoprocessor_ends ..))
  case mcrr2 => exact .of_ends (externalWritePair_ends ..)
  case mrrc2 => exact .of_ends (externalReadPair_ends ..)
  case undefCop2 | undefUncond | tUndef | tUndefBlx => exact .of_ends (.undefined s)
  case ldc2 => exact .of_ends (loadCoprocessor_ends ..)
  case stc2 => exact .of_ends (storeCoprocessor_ends ..)
  case andImm | andReg | eorImm | eorReg | orrImm | orrReg | bicImm | bicReg | cpy | movImm | movReg | mvnImm | mvnReg =>
    exact .of_ends (dataProc_ends _ _ _ _ (fun _ _ _ => logical_flags _ _ _) s)
  case andRegShift | eorRegShift | orrRegShift | bicRegShift | movRegShift | mvnRegShift =>
    exact .of_ends (dataProcShift_ends _ _ _ _ _ (fun _ _ _ => logical_flags _ _ _) s)
  case subImm | subReg | rsbImm | rsbReg | addImm | addReg | adcImm | adcReg | sbcImm | sbcReg | rscImm | rscReg =>
    exact .of_ends (dataProc_ends _ _ _ _ (fun _ _ _ => arithmetic_flags _ _) s)
  case subRegShift | rsbRegShift | addRegShift | adcRegShift | sbcRegShift | rscRegShift =>
    exact .of_ends (dataProcShift_ends _ _ _ _ _ (fun _ _ _ => arithmetic_flags _ _) s)
  case tstImm | tstReg | teqImm | teqReg => exact .of_ends (compare_ends _ _ (fun _ _ _ => logical_flags _ _ _) s)
  case tstRegShift | teqRegShift => exact .of_ends (compareShift_ends _ _ _ (fun _ _ _ => logical_flags _ _ _) s)
  case cmpImm | cmpReg | cmnImm | cmnReg => exact .of_ends (compare_ends _ _ (fun _ _ _ => arithmetic_flags _ _) s)
  case cmpRegShift | cmnRegShift => exact .of_ends (compareShift_ends _ _ _ (fun _ _ _ => arithmetic_flags _ _) s)
  case clz => exact execClz_done ..
  case mul | mla => exact .of_ends (multiply_ends ..)
  case umaal | umull | umlal | smull | smlal | smlalXY | smlald | smlaldx | smlsld | smlsldx => exact .of_ends (multiplyLong_ends ..)
  case qadd | qsub | qdadd | qdsub | smlaXY | smlaWY | smuad | smuadx | smlad | smladx | smlsd | smlsdx | ssat | usat | ssat16 | usat16
      =>
    exact .of_ends (writeRegQ_ends ..)
  case smulWY | smulXY | usad8 | usada8 | sxtb16 | sxtab16 | sxtb | sxtab | sxth | sxtah | uxtb16 | uxtab16 | uxtb | uxtab | uxth |
      uxtah | smusd | smusdx | smmul | smmulr | smmla | smmlar | smmls | smmlsr | sel | pkhbt | pkhtb | rev | rev16 | revsh =>
    exact .of_ends (writeReg_ends ..)
  case sadd16 | qadd16 | shadd16 | uadd16 | uqadd16 | uhadd16 | saddsubx | qaddsubx | shaddsubx | uaddsubx | uqaddsubx | uhaddsubx |
      ssubaddx | qsubaddx | shsubaddx | usubaddx | uqsubaddx | uhsubaddx | ssub16 | qsub16 | shsub16 | usub16 | uqsub16 | uhsub16 |
      sadd8 | qadd8 | shadd8 | uadd8 | uqadd8 | uhadd8 | ssub8 | qsub8 | shsub8 | usub8 | uqsub8 | uhsub8 =>
    exact .of_ends (parallel_ends ..)
  case ldrtImm => exact .of_ends (loadReg_ends _ _ _ _ _ _ _ .passes (readWord_reads _) s)
  case ldrtReg => exact .of_ends (loadReg_ends _ _ _ _ _ _ _ (.checkOffset _ _ _ _) (readWord_reads _) s)
  case ldrbtImm | ldrbImm => exact .of_ends (loadReg_ends _ _ _ _ _ _ _ .passes (readByte_reads _) s)
  case ldrbtReg | ldrbReg => exact .of_ends (loadReg_ends _ _ _ _ _ _ _ (.checkOffset _ _ _ _) (readByte_reads _) s)
  case strtImm | strImm => exact .of_ends (storeReg_ends _ _ _ _ _ _ _ .passes (writeWord_stores _) s)
  case strtReg | strReg => exact .of_ends (storeReg_ends _ _ _ _ _ _ _ (.checkOffset _ _ _ _) (writeWord_stores _) s)
  case strbtImm | strbImm => exact .of_ends (storeReg_ends _ _ _ _ _ _ _ (.followedBy (.noPc _) .passes) (writeByte_stores _) s)
  case strbtReg | strbReg =>
    exact .of_ends (storeReg_ends _ _ _ _ _ _ _ (.followedBy (.noPc _) (.checkOffset _ _ _ _)) (writeByte_stores _) s)
  case ldrImm => exact .of_ends (loadRegOrPc_ends _ _ _ _ _ _ _ .passes s)
  case ldrReg => exact .of_ends (loadRegOrPc_ends _ _ _ _ _ _ _ (.checkOffset _ _ _ _) s)
  case strhImm => exact .of_ends (storeReg_ends _ _ _ _ _ _ _ (.followedBy (.noPc _) (.checkMode3 _ _)) writeHalf_stores s)
  case strhReg =>
    exact .of_ends (storeReg_ends _ _ _ _ _ _ _ (.followedBy (.noPc _) (.followedBy (.checkMode3 _ _) (.checkOffset _ _ _ _))) writeHalf_stores s)
  case ldrdImm => exact .of_ends (loadPair_ends _ _ _ _ _ _ _ .passes s)
  case ldrdReg => exact .of_ends (loadPair_ends _ _ _ _ _ _ _ (.followedBy (.checkOffset _ _ _ _) (.refuseIf _ _)) s)
  case strdImm => exact .of_ends (storePair_ends _ _ _ _ _ _ _ .passes s)
  case strdReg => exact .of_ends (storePair_ends _ _ _ _ _ _ _ (.checkOffset _ _ _ _) s)
  case ldrhImm => exact .of_ends (loadReg_ends _ _ _ _ _ _ _ (.checkMode3 _ _) readHalf_reads s)
  case ldrhReg => exact .of_ends (loadReg_ends _ _ _ _ _ _ _ (.followedBy (.checkMode3 _ _) (.checkOffset _ _ _ _)) readHalf_reads s)
  case ldrsbImm => exact .of_ends (loadReg_ends _ _ _ _ _ _ _ (.checkMode3 _ _) readSignedByte_reads s)
  case ldrsbReg => exact .of_ends (loadReg_ends _ _ _ _ _ _ _ (.followedBy (.checkMode3 _ _) (.checkOffset _ _ _ _)) readSignedByte_reads s)
  case ldrshImm => exact .of_ends (loadReg_ends _ _ _ _ _ _ _ (.checkMode3 _ _) readSignedHalf_reads s)
  case ldrshReg => exact .of_ends (loadReg_ends _ _ _ _ _ _ _ (.followedBy (.checkMode3 _ _) (.checkOffset _ _ _ _)) readSignedHalf_reads s)
  case ldm1 => exact execLdm1_done ..
  case ldm2 => exact execLdm2_done ..
  case ldm3 => exact execLdm3_done ..
  case stm1 => exact execStm1_done ..
  case stm2 => exact execStm2_done ..
  case swp => exact .of_ends (swap_ends _ _ _ _ swapWord_reads s)
  case swpb => exact .of_ends (swap_ends _ _ _ _ swapByte_reads s)
  case strex | strexb | strexh => exact .of_ends (storeExclusiveReg_ends ..)
  case ldrex | ldrexb | ldrexh => exact .of_ends (loadExclusiveReg_ends ..)
  case strexd => exact execStrexd_done ..
  case ldrexd => exact execLdrexd_done ..
  case mrs => exact execMrs_done ..
  case msrReg => exact .of_ends (conditional_ends _ _ (noPc_ends _ (writeStatus_ends ..)))
  case nop => exact Done.advance (.refl s)
  case msrImm => exact execMsrImm_done ..
  case b | tBCond => exact .of_ends (conditional_ends _ _ (Done.of_inert (.branch ..)))
  case bl => exact .of_ends (conditional_ends _ _ (branchAndLink_done ..))
  case bx | bxj => exact .of_ends (conditional_ends _ _ (bxWritePc_ends ..))
  case blx2 => exact .of_ends (conditional_ends _ _ (noPc_ends _ (linkAndExchange_ends ..)))
  case bkpt | tBkpt => exact breakpoint_done s
  case smc => exact .of_ends (conditional_ends _ _ (monitorCall_ends s))
  case svc => exact .of_ends (conditional_ends _ _ (supervisorCall_done s))
  case undefArch | undefCop => exact .of_ends (conditional_ends _ _ (.undefined s))
  case fmacs | fmacd | fnmacs | fnmacd | fmscs | fmscd | fnmscs | fnmscd | fmuls | fmuld | fnmuls | fnmuld | fadds | faddd | fsubs |
      fsubd | fdivs | fdivd =>
    exact .of_ends (vfpThree_ends ..)
  case fcpys | fcpyd | fabss | fabsd | fnegs | fnegd | fsqrts | fsqrtd => exact .of_ends (vfpTwo_ends ..)
  case fcmps | fcmpd | fcmpes | fcmped => exact .of_ends (vfpCompare_ends ..)
  case fcmpzs | fcmpzd | fcmpezs | fcmpezd => exact .of_ends (vfpCompareZero_ends ..)
  case fcvtds | fcvtsd | fuitos | fuitod | fsitos | fsitod | ftouis | ftouid | ftouizs | ftouizd | ftosis | ftosid | ftosizs | ftosizd
      =>
    exact .of_ends (vfpConvert_ends ..)
  case flds | fldd => exact .of_ends (vfpLoadOne_ends ..)
  case fsts | fstd => exact .of_ends (vfpStoreOne_ends ..)
  case fldmsIa | fldmdxIa | fldmsIaW | fldmdxIaW | fldmsDbW | fldmdxDbW => exact .of_ends (vfpLoadMany_ends ..)
  case fstmsIa | fstmdxIa | fstmsIaW | fstmdxIaW | fstmsDbW | fstmdxDbW => exact .of_ends (vfpStoreMany_ends ..)
  case fmsr | fmdlr | fmdhr => exact .of_ends (toSingle_ends ..)
  case fmrs | fmrdl | fmrdh => exact .of_ends (fromSingle_ends ..)
  case fmxr => exact execFmxr_done ..
  case fmstat => exact execFmstat_done ..
  case fmrx => exact execFmrx_done ..
  case fmdrr => exact execFmdrr_done ..
  case fmrrd => exact execFmrrd_done ..
  case fmsrr => exact execFmsrr_done ..
  case fmrrs => exact execFmrrs_done ..
  case cdp => exact .of_ends (conditional_ends _ _ (externalOperation_ends ..))
  case mcr => exact .of_ends (conditional_ends _ _ (moveToCoprocessor_ends ..))
  case mrc => exact .of_ends (conditional_ends _ _ (moveFromCoprocessor_ends ..))
  case mcrr => exact .of_ends (conditional_ends _ _ (movePairToCoprocessor_ends ..))
  case mrrc => exact .of_ends (conditional_ends _ _ (externalReadPair_ends ..))
  case ldc => exact .of_ends (conditional_ends _ _ (loadCoprocessor_ends ..))
  case stc => exact .of_ends (conditional_ends _ _ (storeCoprocessor_ends ..))
  case tLslImm | tLsrImm | tAsrImm | tLslReg | tLsrReg | tAsrReg | tRorReg => exact thumbShift_done ..
  case tAddReg3 | tSubReg3 | tMovLow | tAddImm3 | tSubImm3 | tAddImm8 | tSubImm8 | tAdcReg | tSbcReg | tNegReg =>
    exact thumbAlu_done s _ (arithmetic_flags _ _)
  case tMovImm8 | tMvnReg => exact thumbAlu_done s _ (logical_flags _ _ _)
  case tCmpImm8 | tCmpReg | tCmnReg => exact thumbFlags_done s (arithmetic_flags _ _)
  case tAndReg | tEorReg | tOrrReg | tBicReg => exact thumbLogical_done s (fun _ _ _ _ => logical_flags _ _ _) _ _
  case tTstReg => exact thumbFlags_done s (logical_flags _ _ _)
  case tMulReg => exact thumbAlu_done s _ (setNZ_flags _ _)
  case tAddHigh | tMovHigh | tAddPc | tAddSpImm | tAddToSp | tSubFromSp | tSxth | tSxtb | tUxth | tUxtb | tRev | tRev16 | tRevsh =>
    exact thumbWrite_done ..
  case tCmpHigh => exact execTCmpHigh_done ..
  case tBx => exact .of_ends (bxWritePc_ends ..)
  case tBlx2 => exact .of_ends (noPc_ends _ (linkAndExchange_ends ..))
  case tLdrPc | tLdrReg | tLdrImm | tLdrSp => exact .of_ends (thumbLoad_ends s _ (readWord_reads _) _)
  case tStrReg | tStrImm | tStrSp => exact .of_ends (thumbStore_ends s _ (writeWord_stores _) _)
  case tStrhReg | tStrhImm => exact .of_ends (thumbStore_ends s _ writeHalf_stores _)
  case tStrbReg | tStrbImm => exact .of_ends (thumbStore_ends s _ (writeByte_stores _) _)
  case tLdrsbReg => exact .of_ends (thumbLoad_ends s _ readSignedByte_reads _)
  case tLdrhReg | tLdrhImm => exact .of_ends (thumbLoad_ends s _ readHalf_reads _)
  case tLdrbReg | tLdrbImm => exact .of_ends (thumbLoad_ends s _ (readByte_reads _) _)
  case tLdrshReg => exact .of_ends (thumbLoad_ends s _ readSignedHalf_reads _)
  case tPush => exact execTPush_done ..
  case tCps => exact .of_ends (refuseIf_ends _ _ (changeProcessorState_ends ..))
  case tPop => exact execTPop_done ..
  case tStmia => exact execTStmia_done ..
  case tLdmia => exact execTLdmia_done ..
  case tSvc => exact supervisorCall_done s
  case tB => exact Done.of_inert (.branch ..)
  case tBlPrefix => exact Done.advance (.of_inert (.setReg ..))
  case tBlSuffix => exact execTBlSuffix_done ..

theorem exec_done {i : Instr} {s t : State} (h : exec i s = .next t) : Done s t := by
  have hends := exec_endsIn i s
  rw [h] at hends
  exact hends

/-! ### The worlds -/

/-- Outside Secure Monitor mode taking an exception leaves CP15. -/
theorem takeException_settings {s : State} (h : s.nsState = true) (k : Exc) (ext : Bool) (ret : Word) :
    (takeException k ext ret s).cp15 = s.cp15 := by
  have hmode : s.mode ≠ modeMon := by
    intro hmon
    rw [State.nsState, Cp15.nonSecureIn, hmon, Bool.and_eq_true] at h
    exact absurd h.2 (by decide)
  unfold takeException
  split
  · cases k <;> rfl
  · change (State.setSpsrIn _ _ _).cp15 = s.cp15
    unfold State.setSpsrIn
    split <;> rfl

theorem Entered.settings {s t : State} (h : Entered s t) (hs : s.nsState = true) : worldSettings t.cp15 = worldSettings s.cp15 := by
  obtain ⟨u, k, ext, ret, hu, rfl, -⟩ := h
  rw [takeException_settings (hu.nsState hs), hu.settings hs]

theorem Done.settings {s t : State} (h : Done s t) (hs : s.nsState = true) : worldSettings t.cp15 = worldSettings s.cp15 :=
  h.elim (fun h => h.settings hs) fun h => h.settings hs

end Sys2Proof.Machine

open Sys2Proof Sys2Proof.Machine

/-- Settles O12: the end of every instruction, case by case, keeps User mode or is the entry of an exception. -/
theorem userModeIsLeftByExceptionsOnly : Obligations.UserModeIsLeftByExceptionsOnly := by
  unfold Obligations.UserModeIsLeftByExceptionsOnly
  intro i s t hmode hrun h
  rcases exec_done h with h | ⟨u, k, ext, ret, hu, ht, hk⟩
  · exact .inl (h.user hmode hrun)
  · rcases hk with hk | hk | hk
    · exact .inr ⟨k, ext, ret, u, hk, hu.cpsr, ht⟩
    · exact absurd hmode hk
    · exact absurd (hrun.symm.trans hk) (by decide)

/-- Settles O13: the end of every instruction of the Non-secure world keeps the settings. -/
theorem nonSecureWorldKeepsSecureSettings : Obligations.NonSecureWorldKeepsSecureSettings := by
  unfold Obligations.NonSecureWorldKeepsSecureSettings
  intro i s t hs h
  have hkept := (exec_done h).settings hs
  simpa only [worldSettings, List.cons.injEq, and_true] using hkept

end

section
/-! What the core, the fetch, the DMA and the counters keep of the forms of the memories and the status. -/

namespace Sys2Proof.Machine

open Sys2Proof

/-! ### What a step keeps -/

/-- The forms of the memories and of the status are kept. -/
structure Sound (s t : State) : Prop where
  memory : s.memoryWf = true → t.memoryWf = true
  status : StatusForm s → StatusForm t

namespace Sound

variable {s t u : State}

theorem refl (s : State) : Sound s s := ⟨id, id⟩

theorem trans (h : Sound s t) (h' : Sound t u) : Sound s u := ⟨h'.memory ∘ h.memory, h'.status ∘ h.status⟩

theorem of_evolves (h : Evolves s t) : Sound s t := ⟨h.memory, h.status⟩

theorem of_quiet (h : Quiet s t) : Sound s t := of_evolves (.of_quiet h)

theorem of_inert (h : Inert s t) : Sound s t := of_quiet (.of_inert h)

/-- Neither the status nor a memory changes. -/
theorem same (hcpsr : t.cpsr = s.cpsr) (hspsrs : t.spsrs = s.spsrs) (hmemory : t.memoryWf = s.memoryWf) : Sound s t := by
  refine ⟨fun h => hmemory.trans h, fun ⟨hmode, hclean, hsaved⟩ => ?_⟩
  have hmode' : t.mode = s.mode := congrArg (bits · 0 5) hcpsr
  refine ⟨hmode' ▸ hmode, hcpsr ▸ hclean, fun i => ?_⟩
  rw [hspsrs]
  exact hsaved i

/-- The CPSR is written. -/
theorem setCpsr (s : State) {w : Word} (hvalid : validMode (bits w 0 5) = true) (hclean : cleanPsr s.cpsr → cleanPsr w) :
    Sound s { s with cpsr := w } := ⟨id, fun ⟨_, hcpsr, hspsrs⟩ => ⟨hvalid, hclean hcpsr, hspsrs⟩⟩

end Sound

/-! ### Taking an exception -/

/-- The mode of the entry, whatever the handler. -/
theorem entryMode_valid (k : Exc) (toMonitor : Bool) : validMode (if toMonitor then modeMon else k.mode) = true := by
  cases toMonitor <;> cases k <;> decide

theorem FlagsOnly.ite {w v v' : Word} (c : Prop) [Decidable c] (h : FlagsOnly w v) (h' : FlagsOnly w v') :
    FlagsOnly w (if c then v else v') := by split <;> assumption

theorem entryCpsr_flags (s : State) (k : Exc) (toMonitor ns : Bool) :
    FlagsOnly (setBits s.cpsr 0 (if toMonitor then modeMon else k.mode)) (entryCpsr s k toMonitor ns) := by
  unfold entryCpsr
  have hstate := (((FlagsOnly.refl (setBits s.cpsr 0 (if toMonitor then modeMon else k.mode))).setBit 5 false (by decide)).setBit 24 false
    (by decide)).setBit 7 true (by decide)
  have hfiq := FlagsOnly.ite (toMonitor || (k = .fiq && (!ns || bit s.cp15.scr 4))) (hstate.setBit 6 true (by decide)) hstate
  exact (FlagsOnly.ite (toMonitor || (k.masksAborts && (!ns || bit s.cp15.scr 5))) (hfiq.setBit 8 true (by decide)) hfiq).setBit 9 _
    (by decide)

theorem cleanPsr_setMode {w : Word} (h : cleanPsr w) (mode : BitVec 5) : cleanPsr (setBits w 0 mode) := by
  have hlow : ∀ i < 5, psrMask.getLsbD i = true := by decide
  rw [cleanPsr_iff] at h ⊢
  intro i hi hm
  have hmode : ¬(0 ≤ i ∧ i < 0 + 5) := fun hlt => by rw [hlow i (by omega)] at hm; exact Bool.noConfusion hm
  rw [getLsbD_setBits _ _ _ (by decide) hi, if_neg hmode, h i hi hm]

theorem Sound.enter (s : State) (k : Exc) (toMonitor ns vectored : Bool) (ret target : Word) :
    let mode := if toMonitor then modeMon else k.mode
    Sound s (traceException k <| State.syncFetch { (s.setRegIn mode 14#4 ret).setSpsrIn mode s.cpsr with
      cpsr := entryCpsr s k toMonitor ns, pc := target, irqack := vectored }) := by
  intro mode
  have hflags := entryCpsr_flags s k toMonitor ns
  have hvalid : validMode (bits (entryCpsr s k toMonitor ns) 0 5) = true := by
    rw [hflags.mode, bits, mode_setBits]
    exact entryMode_valid ..
  have hsaved : Sound s ((s.setRegIn mode 14#4 ret).setSpsrIn mode s.cpsr) :=
    (Sound.of_inert (.setRegIn ..)).trans (.of_evolves (.setSpsrIn ..))
  have hcpsr : ((s.setRegIn mode 14#4 ret).setSpsrIn mode s.cpsr).cpsr = s.cpsr := by
    unfold State.setSpsrIn
    split <;> rfl
  refine hsaved.trans (Sound.trans (.setCpsr _ hvalid fun hclean => ?_) (.same rfl rfl rfl))
  exact hflags.clean (cleanPsr_setMode (hcpsr ▸ hclean) _)

theorem takeException_sound (k : Exc) (ext : Bool) (ret : Word) (s : State) : Sound s (takeException k ext ret s) := by
  unfold takeException
  split
  · cases k <;> exact .same rfl rfl rfl
  · split
    · exact Sound.trans (t := { s with cp15 := { s.cp15 with scr := setBit s.cp15.scr 0 false } }) (.same rfl rfl rfl) (.enter ..)
    · exact .enter ..

theorem Sound.of_done {s t : State} (h : Done s t) : Sound s t := by
  rcases h with h | ⟨u, k, ext, ret, hu, rfl, -⟩
  · exact .of_evolves h
  · exact (Sound.of_quiet hu).trans (takeException_sound ..)

/-! ### Results of parts of a step -/

/-- What a result leaves keeps the forms, an exception that has been taken too. -/
def Follows (s : State) : Result State → Prop
  | .ok t => Sound s t
  | .error (.taken t) => Sound s t
  | _ => True

namespace Follows

variable {s t : State}

theorem of_ends {r : Result State} (h : Ends s r) : Follows s r := by
  rcases r with (e | _ | _) | a
  · exact .of_done h
  · trivial
  · trivial
  · exact .of_done h

theorem of_stores {r : Result State} (h : Stores s r) : Follows s r := of_ends (h.imp fun _ ht => .of_quiet ht)

theorem after {r : Result State} (h : Sound s t) (hr : Follows t r) : Follows s r := by
  rcases r with (e | _ | _) | a
  · exact h.trans hr
  · trivial
  · trivial
  · exact h.trans hr

/-- Going on after a value. -/
theorem bind {α : Type} {p : α → Prop} {r : Result α} {f : α → Result State} (h : Keeps s p r) (hf : ∀ a, p a → Follows s (f a)) :
    Follows s (r >>= f) := by
  rcases r with (e | _ | _) | a
  · exact Sound.of_done h
  · trivial
  · trivial
  · exact hf a h

/-- Going on after a part of the step. -/
theorem next {r : Result State} {f : State → Result State} (h : Follows s r) (hf : ∀ t, Follows t (f t)) : Follows s (r >>= f) := by
  rcases r with (e | _ | _) | a
  · exact h
  · trivial
  · trivial
  · exact (hf a).after h

theorem conclude {r : Result State} (h : Follows s r) : Follows s (conclude r) := by
  rcases r with (e | _ | _) | a
  · exact h
  · trivial
  · trivial
  · exact h

end Follows

theorem executeDecoded_follows (d : Decoded) (s : State) : Follows s (executeDecoded d s) := by
  cases d with
  | instr i =>
    have h := exec_endsIn i s
    change Follows s (ofOutcome (exec i s))
    revert h
    cases exec i s with
    | next t => exact Sound.of_done
    | fault _ => exact fun _ => trivial
    | refused _ => exact fun _ => trivial
  | unpredictable m => trivial
  | undefined cond => exact .conclude (.of_ends (conditional_ends _ _ (.undefined s)))
  | tooFewBytes => exact .conclude (.of_ends (.undefined s))

/-! ### Between instructions -/

theorem watchpointEvent_sound (h : WatchHit) (s : State) : Sound s (watchpointEvent h s) := by
  have habort (u : State) (c : AbortCause) : Sound u (
      let (status, v) := dataFaultStatus u c h.write
      let v := { v with cp15 := v.cp15.setBank h.nonSecure { v.cp15.bank h.nonSecure with dfsr := status, far := h.mva } }
      takeException .dataAbort false (v.pc + 8#32) v) := by
    have hstatus := Sound.of_inert (.dataFaultStatus u c h.write)
    generalize dataFaultStatus u c h.write = d at hstatus ⊢
    obtain ⟨status, v⟩ := d
    refine Sound.trans hstatus (Sound.trans (t := { v with cp15 := _ }) ?_ (takeException_sound ..))
    exact .same rfl rfl rfl
  unfold watchpointEvent
  extract_lets _ u
  have hu : Sound s u := .same rfl rfl rfl
  split
  · exact hu.trans (.of_evolves (enterDebugState_evolves ..))
  · exact hu.trans (Sound.trans (.of_quiet (setMoe_quiet u _)) (habort _ _))
  · exact hu

theorem afterInstruction_sound (s : State) : Sound s (afterInstruction s) := by
  unfold afterInstruction
  split
  · split
    · exact .refl s
    · exact watchpointEvent_sound ..
  · exact .refl s

theorem traceWord_sound (before : State) (w : Word) (s : State) : Sound s (traceWord before w s) := .same rfl rfl rfl

theorem executeFetched_follows (bytes : List Byte) (s : State) : Follows s (executeFetched bytes s) := by
  have hcommit : Sound s s.committing := .same rfl rfl rfl
  refine Follows.next ((executeDecoded_follows _ _).after hcommit) fun t => ?_
  exact (traceWord_sound ..).trans (afterInstruction_sound _)

theorem deliverSome_quiet (l : List InflightAbort) (s : State) : Quiet s (deliverSome l s) := by
  induction l generalizing s with
  | nil => exact .refl s
  | cons a rest ih =>
    have hdraw : Quiet s (drawBit s).2 := .of_inert (.drawBit s)
    refine Quiet.trans ?_ (ih _)
    change Quiet s (if _ then _ else _)
    split
    · exact hdraw.trans (deliverAbort_quiet ..)
    · exact hdraw.trans (.of_inert ⟨rfl, rfl, rfl, rfl, rfl⟩)

theorem deliverAborts_quiet (s : State) : Quiet s (deliverAborts s) :=
  Quiet.trans (t := { s with inflight := [] }) (.of_inert ⟨rfl, rfl, rfl, rfl, rfl⟩) (deliverSome_quiet ..)

theorem takeImpreciseAbort_done (p : PendingAbort) (s : State) : Done s (takeImpreciseAbort p s) := by
  refine Done.exception ?_ _ _ _ (by decide)
  refine Quiet.trans (t := { s with pendingAbort := none, trace := { s.trace with imprecise := true } }) ⟨rfl, rfl, rfl, id, fun _ => rfl⟩ ?_
  exact Quiet.faults ..

/-! ### The fetch -/

theorem chooseByte_inert (now : Byte) (l : List Byte) (s : State) : Inert s (chooseByte now l s).2 := by
  induction l generalizing s with
  | nil => exact .refl s
  | cons b rest ih =>
    unfold chooseByte
    split
    · exact ih s
    · change Inert s (Prod.snd (if _ then _ else _))
      split
      · exact .drawBit s
      · exact (Inert.drawBit s).trans (ih _)

theorem observeBytes_inert (p : Place) (l : List (Nat × Byte)) (s : State) : Inert s (observeBytes p l s).2 := by
  induction l generalizing s with
  | nil => exact .refl s
  | cons x rest ih => exact (chooseByte_inert ..).trans (ih _)

theorem prefetchLine_quiet (c : Cp15) (r : Request) (be32 : Bool) (va : Word) (s : State) : Quiet s (prefetchLine c r be32 va s) := by
  have hdraw : Quiet s (drawBit s).2 := .of_inert (.drawBit s)
  unfold prefetchLine
  change Quiet s (if (drawBit s).1 then _ else (drawBit s).2)
  split
  · extract_lets r'
    split
    · exact hdraw
    next t u heq =>
      have h : XlateTo (Walked r'.side (drawBit s).2) (.ok (t, u)) := by
        rw [← heq]
        exact Walked.translate c false r' (drawBit s).2
      have hu : Quiet s u := hdraw.trans (.of_walked h)
      split
      · exact hu.trans (fillInstruction_quiet ..)
      · exact hu
  · exact hdraw

theorem prefetchAhead_quiet (c : Cp15) (r : Request) (be32 : Bool) (s : State) : Quiet s (prefetchAhead c r be32 s) :=
  (prefetchLine_quiet ..).trans (prefetchLine_quiet ..)

theorem fetchAt_reads (c : Cp15) (r : Request) (t : Translation) (s : State) : Reads s (fetchAt c r t s) := by
  have hseen {u : State} (h : Quiet s u) (l : List (Nat × Byte)) : Quiet s (observeBytes t.place l u).2 :=
    h.trans (.of_inert (observeBytes_inert ..))
  have hfill (b : Bool) (be32 : Bool) : Quiet s (if b then
      prefetchAhead c r be32 (fillInstruction (fetchShape r t) t be32 s.fetchAddress s) else s) := by
    split
    · exact (fillInstruction_quiet ..).trans (prefetchAhead_quiet ..)
    · exact .refl s
  unfold fetchAt
  extract_lets be32 va addresses seen fills shape rs now s' rs'
  split
  · split
    · exact hseen (prefetchAhead_quiet ..) _
    · split
      · trivial
      · split
        · exact hfill ..
        · exact hseen (hfill ..) _
  · split
    · exact Quiet.refl s
    · exact hseen (.refl s) _

theorem fetchWith_reads (c : Cp15) (mode : BitVec 5) (record : Bool) (s : State) : Reads s (fetchWith c mode record s) := by
  have h := Walked.translate c record (fetchRequest c mode s) s
  unfold fetchWith
  dsimp only
  revert h
  cases translate c record (fetchRequest c mode s) s with
  | error stop =>
    cases stop with
    | refuse r => exact fun _ => trivial
    | abort cause u => exact fun h => Done.after_quiet (.of_walked h) (takePrefetchAbort_done ..)
  | ok x =>
    obtain ⟨t, u⟩ := x
    intro h
    refine Keeps.reads_after (.of_walked h) ((Keeps.refuseIf ..).bind fun _ _ => (fetchAt_reads ..).bind fun ⟨o, v⟩ hv => ?_)
    cases o with
    | ok bytes => exact hv
    | error e => exact Done.after_quiet (Quiet.trans hv (.of_inert (.errorBit e v))) (takePrefetchAbort_done ..)

theorem fetch_reads (s : State) : Reads s (fetch s) := by
  unfold fetch
  dsimp only
  split
  · exact fetchWith_reads ..
  · split
    · exact fetchWith_reads ..
    · exact Keeps.reads_after (.of_inert (.drawWord s)) (fetchWith_reads ..)

theorem fetchDebugEvent_keeps (s : State) (mva : Word) (size : Nat) :
    Keeps s (fun o => ∀ t, o = some t → Done s t) (fetchDebugEvent s mva size) := by
  unfold fetchDebugEvent
  have hnone : ∀ t, none = some t → Done s t := fun _ h => absurd h (by simp)
  split
  · exact hnone
  · split
    · trivial
    · split
      · exact fun _ h => instructionDebugEvent_done h
      · split
        · exact fun _ h => instructionDebugEvent_done h
        · exact hnone

theorem runInstruction_follows (s : State) : Follows s (runInstruction s) := by
  refine Follows.bind (fetch_reads s) fun ⟨bytes, u⟩ hu => Follows.after (.of_quiet hu) ?_
  refine Follows.bind (fetchDebugEvent_keeps u _ _) fun o ho => ?_
  cases o with
  | some t => exact Sound.of_done (ho t rfl)
  | none =>
    dsimp only
    split
    · split
      · exact executeFetched_follows ..
      · exact Sound.of_done (takeImpreciseAbort_done ..)
    · exact executeFetched_follows ..

/-! ### The core -/

theorem haltRequest_sound (moe : BitVec 4) (s : State) : Sound s (haltRequest moe s) := by
  unfold haltRequest
  split
  · exact .of_evolves (enterDebugState_evolves ..)
  · exact .refl s

theorem coreGoesOn_follows (s : State) : Follows s (coreGoesOn s) := by
  unfold coreGoesOn
  split
  · exact haltRequest_sound ..
  · split
    · exact takeException_sound ..
    · exact runInstruction_follows s

theorem sampleVector_sound (s : State) : Sound s (sampleVector s) := by
  unfold sampleVector
  split
  · exact .same rfl rfl rfl
  · exact .refl s

theorem coreRuns_follows (s : State) : Follows s (coreRuns s) := by
  unfold coreRuns
  split
  · exact sampleVector_sound s
  · split
    · trivial
    · split
      · exact watchpointEvent_sound ..
      · exact coreGoesOn_follows s

theorem leaveDebugState_sound (s : State) : Sound s (leaveDebugState s) := by
  have htarget : Sound s (if s.dbg.pcKnown = .written then (s.pc, s) else drawWord s).2 := by
    split
    · exact .refl s
    · exact .of_inert (.drawWord s)
  unfold leaveDebugState
  generalize (if s.dbg.pcKnown = .written then (s.pc, s) else drawWord s) = x at htarget ⊢
  obtain ⟨target, u⟩ := x
  exact htarget.trans (.same rfl rfl rfl)

theorem coreHalted_sound (s : State) : Sound s (coreHalted s) := by
  unfold coreHalted
  split
  · exact .refl s
  · have hdraw : Sound s (drawBit s).2 := .of_inert (.drawBit s)
    change Sound s (if _ then _ else _)
    split
    · exact hdraw.trans (leaveDebugState_sound _)
    · exact hdraw

theorem coreActs_follows (s : State) : Follows s (coreActs s) := by
  unfold coreActs
  split
  · exact coreHalted_sound s
  · split
    · split
      · exact Follows.after (t := { s with standby := false }) (.same rfl rfl rfl) (coreRuns_follows _)
      · exact Sound.refl s
    · exact coreRuns_follows s

theorem coreStep_follows (s : State) : Follows s (coreStep s) := by
  unfold coreStep
  split
  · trivial
  · refine Follows.next (((coreActs_follows _).after (.of_quiet (deliverAborts_quiet s))).conclude) fun t => ?_
    change Sound t (if _ then _ else _)
    split
    · exact .refl t
    · exact .same rfl rfl rfl

end Sys2Proof.Machine

end

section
/-! What the DMA, the counters and the DBGTAP keep. -/

namespace Sys2Proof.Machine

open Sys2Proof

/-! ### The DMA -/

theorem drainSome_quiet (s : State) : Quiet s (drainSome s) := .of_walked (Walked.drainSome .dma s)

theorem dmaWriteByte_quiet (p : Place) (s : State) (x : Nat × Byte) : Quiet s (dmaWriteByte p s x) := by
  unfold dmaWriteByte
  split
  · exact .of_inert ⟨rfl, rfl, rfl, rfl, rfl⟩
  · exact Quiet.setBytesAt s p [x]

theorem dmaWriteBytes_quiet (p : Place) (l : List (Nat × Byte)) (s : State) : Quiet s (l.foldl (dmaWriteByte p) s) := by
  induction l generalizing s with
  | nil => exact .refl s
  | cons x l ih => exact (dmaWriteByte_quiet ..).trans (ih _)

theorem dmaWrite_quiet (s : State) (p : Place) (l : List (Nat × Byte)) : Quiet s (dmaWrite s p l) := by
  unfold dmaWrite
  refine Quiet.trans ?_ (dmaWriteBytes_quiet ..)
  split
  · exact drainSome_quiet s
  · exact .refl s

theorem dmaTranslate_quiet (s : State) (c : DmaChannel) (va : Word) (write : Bool) : XlateTo (Quiet s) (dmaTranslate s c va write) := by
  have hgo (m : Cp15) (u : State) (hu : Quiet s u) (r : Request) : XlateTo (Quiet s) (
      match translate m (m == u.cp15) r u with
      | .ok (t, v) => if conflictingAttrs m t then .error (.refuse .attributesConflict) else .ok (t, v)
      | .error e => .error e) := by
    have h := Walked.translate m (m == u.cp15) r u
    revert h
    cases translate m (m == u.cp15) r u with
    | error stop =>
      cases stop
      · exact fun h => hu.trans (.of_walked h)
      · exact fun _ => trivial
    | ok x =>
      intro h
      dsimp only
      split
      · trivial
      · exact hu.trans (.of_walked h)
  unfold dmaTranslate
  cases s.oldMap
  · exact hgo _ _ (.refl s) _
  · exact hgo _ _ (.of_inert (.drawWord s)) _

theorem dmaFail_quiet (s : State) (n : Fin 2) (status : Word) (internalAt externalAt : Option Word) (external : Bool) :
    Quiet s (dmaFail s n status internalAt externalAt external) := setDma_quiet ..

theorem dmaComplete_quiet (s : State) (n : Fin 2) : Quiet s (dmaComplete s n) := (setDma_quiet ..).trans (dmaPromote_quiet ..)

theorem dmaRead_quiet (s : State) (n : Fin 2) (bytes : List Byte) : Quiet s (dmaRead s n bytes) := setDma_quiet ..

theorem dmaStore_quiet (s : State) (n : Fin 2) (p : Place) (addresses : List Nat) : Quiet s (dmaStore s n p addresses) :=
  (dmaWrite_quiet ..).trans (setDma_quiet ..)

theorem dmaGroup_quiet (s : State) (n : Fin 2) : Quiet s (dmaGroup s n) := by
  unfold dmaGroup
  dsimp only
  split
  · exact .refl s
  · exact (Quiet.of_inert (.drawWord s)).trans (setDma_quiet ..)

theorem dmaInternal_stores (s : State) (n : Fin 2) : Stores s (dmaInternal s n) := by
  unfold dmaInternal
  dsimp only
  have h := dmaTranslate_quiet s s.cp15.dma[n] (s.cp15.dma[n].curInt + BitVec.ofNat 32 (s.cp15.dma[n].size * s.cp15.dma[n].ahead))
    s.cp15.dma[n].writing
  revert h
  generalize dmaTranslate s s.cp15.dma[n] _ _ = r
  intro h
  rcases r with (⟨c, u⟩ | x) | ⟨t, u⟩
  · exact Quiet.trans h (dmaFail_quiet ..)
  · trivial
  · dsimp only
    split
    · exact Quiet.trans h (dmaFail_quiet ..)
    · split
      · trivial
      · change Quiet s (if _ then _ else _)
        split
        · exact Quiet.trans h (dmaStore_quiet ..)
        · exact Quiet.trans h (dmaRead_quiet ..)

theorem dmaExternal_stores (s : State) (n : Fin 2) : Stores s (dmaExternal s n) := by
  unfold dmaExternal
  dsimp only
  have h := dmaTranslate_quiet s s.cp15.dma[n] (s.cp15.dma[n].curExt + s.cp15.dma[n].stride * BitVec.ofNat 32 s.cp15.dma[n].ahead)
    s.cp15.dma[n].writing
  revert h
  generalize dmaTranslate s s.cp15.dma[n] _ _ = r
  intro h
  rcases r with (⟨c, u⟩ | x) | ⟨t, u⟩
  · exact Quiet.trans h (dmaFail_quiet ..)
  · trivial
  · have hu : Quiet s u := h
    dsimp only
    split
    · exact hu.trans (dmaFail_quiet ..)
    · split
      · exact (hu.trans (.of_inert (.errorBit _ u))).trans (dmaFail_quiet ..)
      · split
        · exact hu.trans (dmaStore_quiet ..)
        · exact (hu.trans (.of_walked (Walked.readLevelTwo .dma u t.place _))).trans (dmaRead_quiet ..)

theorem dmaAccess_stores (s : State) (n : Fin 2) : Stores s (dmaAccess s n) := by
  unfold dmaAccess
  dsimp only
  split
  · exact Keeps.stores_after (dmaGroup_quiet s n) (dmaExternal_stores ..)
  · exact Keeps.stores_after (dmaGroup_quiet s n) (dmaInternal_stores ..)

theorem dmaEnd_stores (s : State) (n : Fin 2) : Stores s (dmaEnd s n) := by
  unfold dmaEnd
  dsimp only
  have h := dmaTranslate_quiet s s.cp15.dma[n] s.cp15.dma[n].intEnd (!bit s.cp15.dma[n].control 30)
  revert h
  generalize dmaTranslate s s.cp15.dma[n] _ _ = r
  intro h
  rcases r with (⟨c, u⟩ | x) | ⟨t, u⟩
  · exact Quiet.trans h (dmaFail_quiet ..)
  · trivial
  · change Quiet s (if _ then _ else _)
    split
    · exact Quiet.trans h (dmaComplete_quiet ..)
    · exact Quiet.trans h (dmaFail_quiet ..)

theorem dmaRun_stores (s : State) (n : Fin 2) : Stores s (dmaRun s n) := by
  unfold dmaRun
  dsimp only
  split
  · exact dmaComplete_quiet ..
  · split
    · exact dmaEnd_stores ..
    · exact dmaAccess_stores ..

theorem dmaMoves_stores (n : Nat) (s : State) : Stores s (dmaMoves n s) := by
  induction n generalizing s with
  | zero => exact Quiet.refl s
  | succ n ih =>
    unfold dmaMoves
    split
    · exact (dmaRun_stores s 0).bind fun t ht => Keeps.stores_after ht (ih t)
    · split
      · exact (dmaRun_stores s 1).bind fun t ht => Keeps.stores_after ht (ih t)
      · exact Quiet.refl s

theorem dmaStep_stores (s : State) : Stores s (dmaStep s) := by
  unfold dmaStep
  split
  · exact Keeps.stores_after (.of_inert (.drawWord s)) (dmaMoves_stores ..)
  · exact Quiet.refl s

/-! ### The counters -/

theorem mayStop_quiet (i : Nat) (s : State) : Quiet s (mayStop i s) := by
  unfold mayStop
  split
  · exact ⟨rfl, rfl, rfl, id, fun _ => rfl⟩
  · exact .refl s

theorem countOne_quiet (i flagBit enableBit : Nat) (value : Word) (s : State) : Quiet s (countOne i flagBit enableBit value s).2 := by
  have hdraw : Quiet s (drawBit (drawWord s).2).2 := .of_inert ((Inert.drawWord s).trans (.drawBit _))
  have hwraps (c : Bool) (u : State) (hu : Quiet s u) : Quiet s (if c then mayStop i (counterWraps i flagBit enableBit u) else u) := by
    split
    · refine (hu.trans (t := u) (u := counterWraps i flagBit enableBit u) ⟨rfl, rfl, rfl, id, fun _ => rfl⟩).trans (mayStop_quiet ..)
    · exact hu
  unfold countOne
  split
  · exact hwraps _ _ hdraw
  · exact .refl s

theorem countStep_quiet (s : State) : Quiet s (countStep s) := by
  unfold countStep
  dsimp -zeta only
  extract_lets _ s1 _ s2 _ s3 _ s4
  have h1 : Quiet s s1 := (countOne_quiet 0 10 6 s.cp15.ccnt s).trans (.of_cp15 _ fun _ => rfl)
  have h2 : Quiet s s2 := (h1.trans (countOne_quiet 1 8 4 s1.cp15.pmn0 s1)).trans (.of_cp15 _ fun _ => rfl)
  have h3 : Quiet s s3 := (h2.trans (countOne_quiet 2 9 5 s2.cp15.pmn1 s2)).trans (.of_cp15 _ fun _ => rfl)
  have h4 : Quiet s s4 := h3.trans ⟨rfl, rfl, rfl, id, fun _ => rfl⟩
  split
  · split
    · refine h4.trans (Quiet.trans ?_ (mayStop_quiet ..))
      exact .of_cp15 s4 fun _ => rfl
    · exact h4
  · exact h3

theorem background_follows (s : State) : Follows s (background s) :=
  .of_stores ((dmaStep_stores s).bind fun t ht => Quiet.trans ht (countStep_quiet t))

end Sys2Proof.Machine

end

section
/-! What the DBGTAP and a reset keep, and the two forms that every step keeps. -/

namespace Sys2Proof.Machine

open Sys2Proof

/-! ### The DBGTAP -/

/-- Going on after a part of the step, with what was before it in hand. -/
theorem Follows.nextWith {s : State} {r : Result State} {f : State → Result State} (h : Follows s r)
    (hf : ∀ t, Sound s t → Follows s (f t)) : Follows s (r >>= f) := by
  rcases r with (e | _ | _) | a
  · exact h
  · trivial
  · trivial
  · exact hf a h

theorem executeItr_follows (s : State) : Follows s (executeItr s) := by
  unfold executeItr
  extract_lets before d
  have hbefore : Sound s before := .same rfl rfl rfl
  have htraced : Sound s (before.withTraced none) := .same rfl rfl rfl
  refine Follows.nextWith ((executeDecoded_follows d _).after htraced) fun t ht => ?_
  split
  · trivial
  · split
    · exact hbefore
    · exact ht.trans (Sound.trans (traceWord_sound before s.dbg.itr t) (.same rfl rfl rfl))

theorem samplePc_sound (s : State) : Sound s (samplePc s).2 := by
  unfold samplePc
  split
  · exact .refl s
  · split
    · exact .of_inert (.drawWord s)
    · exact .refl s

theorem serveScan_sound (q : ScanRequest) (s : State) : Sound s (serveScan q s) := by
  unfold serveScan
  split
  · exact .refl s
  · exact .refl s
  · split
    · exact .refl s
    · exact (samplePc_sound s).trans (.same rfl rfl rfl)
  · split
    · exact .of_quiet (writeDebugReg_quiet ..)
    · exact (Sound.of_quiet (readDebugReg_quiet _ s)).trans (.same rfl rfl rfl)

theorem captureChain_follows (n : Nat) (extest : Bool) (s : State) : Follows s (captureChain n extest s) := by
  unfold captureChain
  split
  case h_7 => trivial
  all_goals exact Sound.same rfl rfl rfl

theorem captureDr_follows (s : State) : Follows s (captureDr s) := by
  unfold captureDr
  dsimp only
  split
  · exact Sound.same rfl rfl rfl
  · exact Sound.same rfl rfl rfl
  · exact Sound.same rfl rfl rfl
  · exact captureChain_follows ..

theorem Sound.ite {s t u : State} (c : Prop) [Decidable c] (h : Sound s t) (h' : Sound s u) : Sound s (if c then t else u) := by
  split <;> assumption

theorem updateChain_follows (n : Nat) (extest : Bool) (s : State) : Follows s (updateChain n extest s) := by
  unfold updateChain
  split
  · exact Sound.ite _ (.same rfl rfl rfl) (.refl s)
  · exact Sound.ite _ (.same rfl rfl rfl) (.refl s)
  · exact Sound.ite _ (.same rfl rfl rfl) (.refl s)
  · dsimp only
    split
    · exact Sound.refl s
    · split
      · trivial
      · exact Sound.refl s
      · exact Sound.same rfl rfl rfl
  · exact Sound.refl s

theorem updateDr_follows (s : State) : Follows s (updateDr s) := by
  unfold updateDr
  dsimp only
  split
  · exact Sound.refl s
  · exact Sound.refl s
  · exact Sound.same rfl rfl rfl
  · exact updateChain_follows ..

theorem enterIdle_follows (s : State) : Follows s (enterIdle s) := by
  have hissue : Follows s (if mayIssue s then issueItr s else .ok s) := by
    split
    · exact (executeItr_follows s).next fun t => Sound.same rfl rfl rfl
    · exact Sound.refl s
  unfold enterIdle
  split
  · exact Sound.same rfl rfl rfl
  · exact Sound.ite _ (.same rfl rfl rfl) (.refl s)
  · exact hissue
  · exact hissue
  · exact hissue
  · exact Sound.refl s
  · exact Sound.refl s
  · exact Sound.refl s

theorem setTap_sound (s : State) (t : Tap) : Sound s (s.setTap t) := .same rfl rfl rfl

theorem tapAction_follows (tdi : Bool) (s : State) : Follows s (tapAction tdi s) := by
  unfold tapAction
  dsimp only
  split
  case h_1 | h_3 | h_5 | h_6 | h_7 => exact setTap_sound ..
  case h_2 => exact captureDr_follows s
  case h_4 => exact updateDr_follows s
  all_goals exact Sound.refl s

theorem tapClock_follows (tms tdi : Bool) (s : State) : Follows s (tapClock tms tdi s) := by
  unfold tapClock
  refine (tapAction_follows tdi s).next fun t => ?_
  extract_lets after _ u
  have hu : Sound t u := setTap_sound ..
  split
  · exact (enterIdle_follows u).after hu
  · exact hu

theorem tapInput_follows (i : TapInput) (s : State) : Follows s (tapInput i s) := by
  cases i with
  | idle => exact Sound.refl s
  | clock tms tdi => exact tapClock_follows ..
  | reset => exact setTap_sound ..

theorem tapProgress_sound (s : State) : Sound s (tapProgress s) := by
  have hserved (q : ScanRequest) : Sound s (
      if (drawBit s).1 then serveScan q ((drawBit s).2.setTap { (drawBit s).2.dbg.tap with pending := none }) else (drawBit s).2) :=
    Sound.ite _ ((Sound.of_inert (.drawBit s)).trans ((setTap_sound ..).trans (serveScan_sound ..))) (.of_inert (.drawBit s))
  have hcompleted (u : State) : Sound u (
      if u.dbg.instCompl then u
      else
        let (done, v) := drawBit u
        { v with dbg := { v.dbg with instCompl := done } }) := Sound.ite _ (.refl u) (.same rfl rfl rfl)
  unfold tapProgress
  refine Sound.trans ?_ (hcompleted _)
  split
  · exact .refl s
  · exact hserved _

theorem tapStep_follows (s : State) : Follows s (tapStep s) := by
  have hprogress := tapProgress_sound s
  unfold tapStep
  generalize tapProgress s = u at hprogress ⊢
  dsimp only
  split
  · exact hprogress
  · refine Follows.after ?_ (tapInput_follows _ _)
    exact hprogress.trans (.same rfl rfl rfl)

/-! ### A reset -/

theorem drawWords_inert (n : Nat) (s : State) : Inert s (drawWords n s).2 := by
  rw [drawWords_snd]
  exact ⟨rfl, rfl, rfl, rfl, rfl⟩

theorem setCells_sound (s : State) (p : Place) (a : Nat) (v : Byte) : Sound s (s.setCells p (writeCell (s.cells p) a v)) := by
  refine ⟨fun h => State.memoryWf_setCells h p (Memory.wf_writeCell ((State.memoryWf_iff s).mp h p) a v), fun h => ?_⟩
  cases p <;> exact h

theorem Sound.foldl {α : Type} {f : State → α → State} (hf : ∀ s x, Sound s (f s x)) (l : List α) (s : State) : Sound s (l.foldl f s) := by
  induction l generalizing s with
  | nil => exact .refl s
  | cons x l ih => exact (hf s x).trans (ih _)

theorem loseBuffered_sound (s : State) : Sound s (loseBuffered s) :=
  (Sound.foldl (f := fun (s : State) (w : BufferedWrite) =>
    w.bytes.foldl (fun s x => s.setCells w.place (writeCell (s.cells w.place) x.1 x.2)) s)
    (fun s w => Sound.foldl (fun s _ => setCells_sound s w.place _ _) w.bytes s) s.writeBuffer.reverse s).trans (.same rfl rfl rfl)

theorem drawLines_inert (l : List (Nat × Nat)) (s : State) : Inert s (drawLines l s).2 := by
  induction l generalizing s with
  | nil => exact .refl s
  | cons x rest ih =>
    have hwords : Inert s (drawWord (drawWord (drawBit s).2).2).2 := ((Inert.drawBit s).trans (.drawWord _)).trans (.drawWord _)
    have hline : Inert s (drawLine x.1 x.2 (drawBit s).2).2 := hwords.trans (drawWords_inert 8 (drawWord (drawWord (drawBit s).2).2).2)
    exact hline.trans (ih _)

theorem drawCaches_sound (s : State) : Sound s (drawCaches s) := by
  have hdata := drawLines_inert (cacheSlots s .data) s
  unfold drawCaches
  generalize drawLines (cacheSlots s .data) s = x at hdata ⊢
  obtain ⟨d, t⟩ := x
  have hinstruction := Inert.trans hdata (drawLines_inert (cacheSlots t .instruction) t)
  dsimp only
  generalize drawLines (cacheSlots t .instruction) t = y at hinstruction ⊢
  exact (Sound.of_inert hinstruction).trans (.same rfl rfl rfl)

theorem resetRams_sound (s : State) : Sound s (resetRams s) := by
  unfold resetRams
  split
  · exact .refl s
  · have htcms : Sound s (drawTcms s) := ⟨State.memoryWf_drawTcms, id⟩
    exact htcms.trans (drawCaches_sound _)

theorem resetCpsr_form (bigEnd uBit : Bool) : validMode (bits (resetCpsr bigEnd uBit) 0 5) = true ∧ cleanPsr (resetCpsr bigEnd uBit) := by
  unfold cleanPsr
  revert bigEnd uBit
  decide

theorem cleanPsr_masked (n : Nat) (ws : List Word) (i : Fin n) : cleanPsr (vectorOf n (ws.map (· &&& psrMask)))[i] := by
  rw [vectorOf, Fin.getElem_fin, Vector.getElem_ofFn, List.getD_eq_getElem?_getD, List.getElem?_map]
  cases ws[i.val]?
  · exact BitVec.zero_and
  · exact cleanPsr_and_mask _

theorem resetCore_sound (s : State) : Sound s (resetCore s) := by
  obtain ⟨flags, hframe⟩ := resetCore_frame s
  have hspsrs : ∀ i : Fin 6, cleanPsr (resetCore s).spsrs[i] := fun i => cleanPsr_masked 6 _ i
  obtain ⟨hmode, hclean⟩ := resetCpsr_form s.pins.bigendinit s.pins.ubitinit
  have hreserved : Without reservedBits 0xF80F0000#32 := rfl
  have hmodeBits : Without modeBits 0xF80F0000#32 := rfl
  generalize resetCore s = t at hframe hspsrs ⊢
  refine ⟨fun h => ?_, fun _ => ⟨?_, ?_, hspsrs⟩⟩
  · rw [hframe]
    exact h
  · rw [State.mode, hframe]
    change validMode (bits (mergeBits _ _ _) 0 5) = true
    rw [hmodeBits.sameMode]
    exact hmode
  · rw [hframe]
    exact hreserved.clean flags hclean

theorem resetCp15_sound (s : State) : Sound s (resetCp15 s) := by
  obtain ⟨_, _, _, _, hframe⟩ := resetCp15_frame s
  rw [hframe]
  exact .same rfl rfl rfl

theorem resetDebug_sound (s : State) : Sound s (resetDebug s) := (Sound.of_inert (drawWords_inert 19 s)).trans (.same rfl rfl rfl)

theorem applyReset_sound (s : State) : Sound s (applyReset s) := by
  have hlost : Sound s (abandonAll (loseBuffered (drainSome s))) :=
    ((Sound.of_quiet (drainSome_quiet s)).trans (loseBuffered_sound _)).trans (.same rfl rfl rfl)
  have hreset := hlost.trans ((resetRams_sound _).trans ((resetCore_sound _).trans (resetCp15_sound _)))
  unfold applyReset
  exact Sound.ite _ (hreset.trans (.same rfl rfl rfl)) (hreset.trans (resetDebug_sound _))

/-! ### The step -/

theorem vfpPin_sound (s : State) : Sound s (vfpPin s) := by
  rw [vfpPin_frame]
  exact .same rfl rfl rfl

theorem machineStep_follows (s : State) : Follows s (machineStep s) := by
  unfold machineStep
  split
  · split
    · have hbegun : Sound s s.begun := .same rfl rfl rfl
      exact Follows.next ((tapStep_follows _).after (hbegun.trans (vfpPin_sound _))) fun t => (coreStep_follows t).next background_follows
    · trivial
  · exact (vfpPin_sound s).trans (applyReset_sound _)

theorem step_sound {s t : State} (h : step s = .next t) : Sound s t := by
  have hfollows := machineStep_follows s
  unfold step at h
  revert h hfollows
  rcases machineStep s with (u | _ | _) | u
  · exact fun h hu => Host.Outcome.next.inj h ▸ hu
  · exact fun h => absurd h (by simp [finish])
  · exact fun h => absurd h (by simp [finish])
  · exact fun h hu => Host.Outcome.next.inj h ▸ hu

end Sys2Proof.Machine

open Sys2Proof Sys2Proof.Machine

/-- Settles O9: every part of a step keeps the canonical form. -/
theorem stepKeepsMemoryForm : Obligations.StepKeepsMemoryForm := by
  unfold Obligations.StepKeepsMemoryForm
  exact fun s t hs h => (step_sound h).memory hs

/-- Settles O10: every part of a step keeps the mode one of the eight and the reserved bits at 0. -/
theorem stepKeepsStatusForm : Obligations.StepKeepsStatusForm := by
  unfold Obligations.StepKeepsStatusForm
  exact fun s t hs h => (step_sound h).status hs

end
